-- ==== Sys2Proof/Word.lean ====
section
/-!
DEFINITION. The words of the part: 32-bit registers and signal values (R40, R72), bytes of memory, and the
40-bit internal addresses, which are kept as plain numbers.
-/
namespace Sys2Proof

/-- A register or a signal value: 32 bits (R40, R72). -/
abbrev Word := BitVec 32

/-- A byte of memory. -/
abbrev Byte := BitVec 8

/-- A 32-bit word from an integer, modulo 2^32. -/
abbrev wordOfInt (i : Int) : Word := BitVec.ofInt 32 i

/-- A 32-bit word from a number, modulo 2^32. -/
abbrev wordOfNat (n : Nat) : Word := BitVec.ofNat 32 n

end Sys2Proof
end

