-- ==== Sys2Proof/Syntax.lean ====
section
/-!
DEFINITION. The commands the part takes, one constructor for each row of the opcode table, with the operands of the
row. A command names the master that issues it; an event names what the outside world shows the part at that moment
(a measured value, a received frame, a lane's outcome).
-/
namespace Sys2Proof

/-- Who sends a command (R57): an application core in privileged or in user mode, Base camp, a Rope-team pair
(`false` A, `true` B), the PCIe endpoint, or ring-remote access; `bootApp` is Base camp applying an
application section, which it does as a privileged master (R487). -/
inductive Master where
  | core (n : Fin 24) (user : Bool)
  | baseCamp
  | bootApp
  | rope (b : Bool)
  | host
  | ring
  deriving DecidableEq, Repr

/-- A word written to a _CMD register but for its code (R60): the reserved bits [31:24] and ARG [23:8]. -/
structure CmdArg where
  rsv : BitVec 8
  arg : BitVec 16
  deriving DecidableEq, Repr

/-- The width of an access (R40); a 64-bit access of a core is two of 32 bits, the lower address first. -/
inductive Width where
  | byte
  | half
  | word
  deriving DecidableEq, Repr

/-- Where an access goes: an internal address (R15), which the host reaches through BAR0 and BAR4, or an offset in BAR2
(R504, R505). -/
inductive Place where
  | bus (a : BitVec 40)
  | bar2 (o : BitVec 16)
  deriving DecidableEq, Repr

/-- A frame on a CAN bus: identifier, IDE, RTR, FDF, BRS, ESI, DLC, the data with byte 0 lowest, and the time-base ns at its
SOF (R408, R409, R414). -/
structure CanRx where
  id : BitVec 29
  ide : Bool
  rtr : Bool
  fdf : Bool
  brs : Bool
  esi : Bool
  dlc : BitVec 4
  data : BitVec 512
  sof : BitVec 32
  deriving DecidableEq, Repr


/-- What Base camp finds at a cold start: XSPI_DEV as SFDP gives it, 0 for no device, and whether the device suspends a
program (bit 0) and an erase (bit 1) (R470); MEMC_DEV after training (R446); whether the Bivouac domain has lost its contents
(R538) and whether its crystal runs (R540); the SEAL_CFG balls (R306); the start-up tests that fail, by their place in R527
and the instance; and the ms that the start takes (R494). -/
structure ColdEnv where
  xdev : BitVec 32
  susp : BitVec 2
  dram : BitVec 32
  lost : Bool
  crystal : Bool
  strap : BitVec 4
  fails : List (Fin 10 × BitVec 24)
  ms : BitVec 16
  deriving DecidableEq, Repr

/-- The commands: one constructor per row of the table. -/
inductive Instr where
  /-- REGISTER_WRITE (R47): A write through the normal alias to a register that has no row of its own; a configuration write takes effect at once. -/
  | registerWrite (m : Master) (p : Place) (wd : Width) (w : BitVec 32)
  /-- SET_ALIAS_WRITE (R43): A write through the set alias ORs the written bits into the RW fields as one indivisible read-modify-write. -/
  | setAliasWrite (m : Master) (ofs : BitVec 22) (w : BitVec 32)
  /-- CLEAR_ALIAS_WRITE (R43): A write through the clear alias clears the written bits of the RW fields as one indivisible read-modify-write. -/
  | clearAliasWrite (m : Master) (ofs : BitVec 22) (w : BitVec 32)
  /-- TOGGLE_ALIAS_WRITE (R43): A write through the toggle alias XORs the written bits into the RW fields as one indivisible read-modify-write. -/
  | toggleAliasWrite (m : Master) (ofs : BitVec 22) (w : BitVec 32)
  /-- W1C_WRITE (R46): Writing 1 to a W1C bit clears it, unless an event sets it in the same block clock. -/
  | w1cWrite (m : Master) (ofs : BitVec 22) (w : BitVec 32)
  /-- LO_REGISTER_READ (R42): A read of a _LO register latches the matching high word for the reading port. -/
  | loRegisterRead (m : Master) (p : Place) (wd : Width)
  /-- RESULT_REGISTER_READ (R69): A read of a result register returns its value and SEQ and clears FRESH for all masters. -/
  | resultRegisterRead (m : Master) (ofs : BitVec 22)
  /-- CLEAR_STATS (R64): CLEAR_STATS of a block zeroes its counters and completes at acceptance, even beside a command in progress. -/
  | clearStats (m : Master) (blk : BitVec 6) (a : CmdArg)
  /-- PARITY_SCAN (R54): The background scan checks the parity of every configuration register of every block once each 1 ms. -/
  | parityScan (a : BitVec 22) (flip : BitVec 32)
  /-- CONFIG_RELOAD (R56): The active Rope-team pair rewrites every configuration register of the block from the image shadow within 100 µs. -/
  | configReload (blk : BitVec 6)
  /-- CLOCK_MONITOR_FAILURE (R13): An island clock stops or strays over 10 %; CLK_ISL_FAIL is set, the island's channels are fenced and the island reaction of R524 follows. -/
  | clockMonitorFailure (n : Fin 14)
  /-- SYS_APPLY_CORE_EN (R37): APPLY_CORE_EN begins moving SYS_CORE_EN into effect one core at a time. -/
  | sysApplyCoreEn (m : Master) (a : CmdArg)
  /-- SYS_CLEAR_COUNTERS (R34): CLEAR_COUNTERS clears the SYS counters. -/
  | sysClearCounters (m : Master) (a : CmdArg)
  /-- SYS_ABORT (R68): ABORT stops APPLY_CORE_EN, leaving cores changed so far in their new state. -/
  | sysAbort (m : Master) (a : CmdArg)
  /-- CLK_APPLY_POOL_SEL (R39): APPLY_POOL_SEL withholds dispatch and waits for running work items before switching the I3 clock. -/
  | clkApplyPoolSel (m : Master) (a : CmdArg)
  /-- POOL_CLOCK_SWITCH (R39): With no core executing, the I3 clock switches to the new frequency and dispatch resumes. -/
  | poolClockSwitch
  /-- CLK_ABORT (R39): ABORT during SWITCHING restores dispatch at the previous frequency unless the clock has already switched. -/
  | clkAbort (m : Master) (a : CmdArg)
  /-- FC_START (R89): At t0 each node applies latched outputs, samples its sensing, ages signals, marks slow-cycle boundaries and runs current tick A. -/
  | fcStart (ain sdm : List Int)
  /-- CURRENT_TICK_B (R86): At t0 + 15.625 µs the second current tick runs local current loops, sigma-delta captures and tick-rate publications. -/
  | currentTickB (ain sdm : List Int)
  /-- APPLY_LATCH (R88): At t0 − T_SETUP each consumer latches the value it will apply at the next t0. -/
  | applyLatch (tickB : Bool)
  /-- ROUTE_UPDATE (R83): A producer publishes a value, and the route engine converts it and delivers it to every consumer within 150 ns. -/
  | routeUpdate (ep : BitVec 16) (x : BitVec 32) (satd valid parityOk : Bool)
  /-- SIG_ENTRY_READ (R95): SIG_ENT_IDX with OP 1 reads a route-table entry into SIG_ENT_D0–D3. -/
  | sigEntryRead (m : Master) (id : BitVec 13)
  /-- SIG_ENTRY_WRITE (R80): SIG_ENT_IDX with OP 2 writes D0–D3 to an entry in one I4 clock, restarting the signal where EN, PROD or ENC change. -/
  | sigEntryWrite (m : Master) (id : BitVec 13)
  /-- SIG_LOAD (R96): LOAD starts copying SIG_LOAD_CNT packed entries from shared SRAM into the route table. -/
  | sigLoad (m : Master) (a : CmdArg)
  /-- SIG_LOAD_DONE (R96): The last entry is written, or an SRAM error stops the load with LOADERR, and SIG returns to IDLE. -/
  | sigLoadDone (err : Option (BitVec 13))
  /-- SIG_SWAP (R96): SWAP freezes the staged entries until the swap instant. -/
  | sigSwap (m : Master) (a : CmdArg)
  /-- SIG_ABORT (R68): ABORT stops a bulk load or cancels a pending swap. -/
  | sigAbort (m : Master) (a : CmdArg)
  /-- SIG_PEEK (R95): A write to SIG_PEEK_ID captures a signal's value, status and age for the writing port. -/
  | sigPeek (m : Master) (id : BitVec 13)
  /-- SIG_WR_VAL_WRITE (R84): A write to SIG_WR_VAL publishes a value on the signal at rank 6 or 7, forces it, or is ignored. -/
  | sigWrValWrite (m : Master) (x : BitVec 32)
  /-- CYC_START (R92): START enters MASTER or ACQUIRE according to rank and backbone service. -/
  | cycStart (m : Master) (a : CmdArg)
  /-- CYC_SWAP (R94): SWAP stages CYC_SETUP_S for the swap instant. -/
  | cycSwap (m : Master) (a : CmdArg)
  /-- CYC_ABORT (R68): ABORT cancels a pending cycle reconfiguration. -/
  | cycAbort (m : Master) (a : CmdArg)
  /-- CAIRN_MISSING (R92): An expected cairn frame fails to arrive within its window; LOCKED enters HOLDOVER. -/
  | cairnMissing
  /-- HOLDOVER_LOST (R92): 64 FC pass in HOLDOVER without a cairn frame; CYC_EVT.LOST is set and the fault event raised. -/
  | holdoverLost
  /-- CE_START (R139): START runs programs from the next t0 in RUN, DEGRADED or SINGLE per CE_LANES. -/
  | ceStart (m : Master) (a : CmdArg)
  /-- CE_STOP (R139): STOP lets the present FC's runs complete and starts no run after the next t0. -/
  | ceStop (m : Master) (a : CmdArg)
  /-- CE_VALIDATE (R140): VALIDATE begins checking the shadow directory and its lists. -/
  | ceValidate (m : Master) (a : CmdArg)
  /-- CE_VALIDATE_DONE (R140): VALIDATE completes and writes CE_VAL with OK or the first failing slot and reason. -/
  | ceValidateDone
  /-- CE_SWAP (R141): SWAP, accepted only with CE_VAL.OK, exchanges the directories at the swap instant. -/
  | ceSwap (m : Master) (a : CmdArg)
  /-- CE_ABORT (R141): ABORT cancels a pending SWAP or a running VALIDATE. -/
  | ceAbort (m : Master) (a : CmdArg)
  /-- CE_LOCAL_MEMORY_WRITE (R113): A write to CE local memory takes effect at the next read, or is ignored with DIRW for the active directory, status or table pool. -/
  | ceLocalMemoryWrite (m : Master) (ofs : BitVec 18) (w : BitVec 32)
  /-- CE_FC_RUN (R129): A program's FC list runs on an executing lane no earlier than t0 + PS, publishing and committing at its end. -/
  | ceFcRun (slot : BitVec 7) (u : List (BitVec 20 × BitVec 32))
  /-- CE_TICK_RUN (R129): A program's tick list runs after each current tick plus PT and publishes its tick-list ports. -/
  | ceTickRun (slot : BitVec 7) (tickB : Bool) (u : List (BitVec 20 × BitVec 32))
  /-- RUN_DEADLINE_MISS (R132): A run not complete by t0 + PD or its tick deadline is abandoned, publishing nothing and counting a miss. -/
  | runDeadlineMiss (slot : BitVec 7) (kind : Fin 3)
  /-- CHECK_RUN (R100): The checker repeats a run from its snapshot and compares every output, state word, EV and STATUS bit. -/
  | checkRun (u : List (BitVec 20 × BitVec 32))
  /-- VOTE_RUN (R102): After a mismatch the run is repeated on the other executing lane and the vote charges a lane or restores state. -/
  | voteRun (u : List (BitVec 20 × BitVec 32))
  /-- RESIDUE_ERROR (R521): A mod-3 residue mismatch abandons the lane's run or check and charges the lane. -/
  | residueError (lane : Fin 3)
  /-- LANE_RETIREMENT (R104): A lane whose bucket overflowed is retired at its next stage boundary and CE_STATE degrades. -/
  | laneRetirement (lane : Fin 3)
  /-- CTAB_COPY (R128): COPY starts reading a table's entries into the staging buffer. -/
  | ctabCopy (m : Master) (a : CmdArg)
  /-- CTAB_COPY_COMPLETE (R128): The last entry arrives and the buffer is committed to the pool between two stage runs. -/
  | ctabCopyComplete
  /-- CTAB_COPY_ERROR (R144): A source read error stops the copy, sets COPYERR and discards the staging buffer. -/
  | ctabCopyError
  /-- CTAB_ABORT (R144): ABORT discards the staging buffer and the table keeps its contents. -/
  | ctabAbort (m : Master) (a : CmdArg)
  /-- PROFILE_ADVANCE (R145): Each generator reads its inputs and advances its traverse, stops and limit guard once per FC, publishing by t0 + 1.20 µs. -/
  | profileAdvance
  /-- TRAVERSE_REFILL (R154): A traverse moves from the backing hardware queue into the on-chip queue when there is room. -/
  | traverseRefill (g : BitVec 7)
  /-- HOFS_WRITE (R149): A write to PROF_Gg_HOFS shifts the generator's user-coordinate state at the next t0 without a step in POS. -/
  | hofsWrite (m : Master) (g : BitVec 7) (x : BitVec 32)
  /-- CAM_DATA_ACCESS (R177): An access to PROF_CAM_DATA reads or writes the cam entry and increments the address. -/
  | camDataAccess (m : Master) (x : Option (BitVec 32))
  /-- PROF_ENABLE (R175): ENABLE takes p from FBPOS and enters HOLD or LIMIT. -/
  | profEnable (m : Master) (g : BitVec 7) (a : CmdArg)
  /-- PROF_DISABLE (R175): DISABLE enters DISABLED and discards a pending GO. -/
  | profDisable (m : Master) (g : BitVec 7) (a : CmdArg)
  /-- PROF_GO (R176): GO starts the port's immediate traverse at the next t0, as a retarget where moving. -/
  | profGo (m : Master) (g : BitVec 7) (a : CmdArg)
  /-- PROF_RUN_QUEUE (R176): RUN_QUEUE sets RUNQ and starts the queued traverses. -/
  | profRunQueue (m : Master) (g : BitVec 7) (a : CmdArg)
  /-- PROF_STOP (R170): STOP starts a controlled stop at the next t0. -/
  | profStop (m : Master) (g : BitVec 7) (a : CmdArg)
  /-- PROF_QSTOP (R171): QSTOP starts a quick stop at the next t0. -/
  | profQstop (m : Master) (g : BitVec 7) (a : CmdArg)
  /-- PROF_FLUSH (R176): FLUSH empties the on-chip and hardware queues. -/
  | profFlush (m : Master) (g : BitVec 7) (a : CmdArg)
  /-- PROF_LATCH_ARM (R173): LATCH_ARM arms the switch-edge latch. -/
  | profLatchArm (m : Master) (g : BitVec 7) (a : CmdArg)
  /-- PROF_GEN_ABORT (R176): A generator ABORT cancels a pending GO and quick-stops a moving axis. -/
  | profGenAbort (m : Master) (g : BitVec 7) (a : CmdArg)
  /-- PROF_STOP_ALL (R170): STOP_ALL starts a controlled stop of every generator in MOVE. -/
  | profStopAll (m : Master) (a : CmdArg)
  /-- PROF_ABORT (R68): Block ABORT quick-stops every generator with a traverse in progress. -/
  | profAbort (m : Master) (a : CmdArg)
  /-- AXC_ENABLE (R190): ENABLE raises AXn_EN and enters PRECHG with the low sides on. -/
  | axcEnable (m : Master) (n : BitVec 4) (a : CmdArg)
  /-- AXC_DISABLE (R190): DISABLE drives all gates and AXn_EN low within 2 µs and enters OFF. -/
  | axcDisable (m : Master) (n : BitVec 4) (a : CmdArg)
  /-- AXC_RESET (R193): RESET returns a FAULT channel to OFF. -/
  | axcReset (m : Master) (n : BitVec 4) (a : CmdArg)
  /-- AXC_CHANNEL_ABORT (R190): A channel ABORT drives gates low and enters OFF. -/
  | axcChannelAbort (m : Master) (n : BitVec 4) (a : CmdArg)
  /-- AXC_SWAP (R217): SWAP stages channel CFG, PER and DT, restarting carriers at the swap instant. -/
  | axcSwap (m : Master) (k : BitVec 2) (a : CmdArg)
  /-- AXC_ABORT (R68): Block ABORT removes gate enables of the four channels. -/
  | axcAbort (m : Master) (k : BitVec 2) (a : CmdArg)
  /-- PRECHG_ELAPSED (R193): The precharge time ends and the channel enters RUN, switching from the next valley. -/
  | prechgElapsed (n : BitVec 4)
  /-- DUTY_LOAD (R189): At a carrier turning point the channel loads the latched duty, replacing invalid inputs with 0.5. -/
  | dutyLoad (n : BitVec 4) (reachA reachB : Option (BitVec 12))
  /-- AXIS_TRIP (R191): A DESAT fault input or EN readback mismatch trips the channel to FAULT with gates low. -/
  | axisTrip (n : BitVec 4) (desat enrb : Bool)
  /-- ENC_CONFIG (R205): CONFIG takes a port's pending words into effect at the next t0 at least 2 µs later. -/
  | encConfig (m : Master) (a : CmdArg)
  /-- ENC_SSI_READ (R205): SSI_READ starts one frame on a non-cyclic SSI port within 1 µs. -/
  | encSsiRead (m : Master) (a : CmdArg)
  /-- ENC_ABORT (R68): ABORT cancels a pending port reconfiguration or SSI read. -/
  | encAbort (m : Master) (a : CmdArg)
  /-- SSI_FRAME_COMPLETE (R201): An SSI frame ends; it is decoded, checked and published at t_pub or rejected. -/
  | ssiFrameComplete (p : BitVec 4) (data : BitVec 32) (idleLow par : Bool)
  /-- ENCODER_COUNT_EDGE (R198): An accepted A/B or step edge changes the count, or a simultaneous A and B change sets QERR. -/
  | encoderCountEdge (p : BitVec 4) (a b : Bool)
  /-- INDEX_LATCH (R199): A rising Z edge latches the count into IDX and updates IDXINFO. -/
  | indexLatch (p : BitVec 4)
  /-- STEP_RESHAPE (R216): RESHAPE reads 256 microstep entries into a staging buffer. -/
  | stepReshape (m : Master) (a : CmdArg)
  /-- STEP_RESHAPE_COMPLETE (R216): The staged table is committed between turning points, or discarded on BADTBL or COPYERR. -/
  | stepReshapeComplete (err : Bool)
  /-- STEP_ABORT (R68): ABORT stops a table reshape and the table keeps its contents. -/
  | stepAbort (m : Master) (a : CmdArg)
  /-- LOAD_ANGLE_ESTIMATE (R213): Once per electrical period the regulator estimates the load angle, adapts ISET and KV, and may flag STALL. -/
  | loadAngleEstimate (n : BitVec 4) (angV angI : BitVec 16) (amp : BitVec 13)
  /-- STEP_MODE_SWITCH (R210): In AUTO the regulator changes between quiet and strong mode at a full-step boundary. -/
  | stepModeSwitch (n : BitVec 4) (mean : BitVec 16)
  /-- STANDSTILL_TIMEOUT (R215): After TSTBY FC without microstep change ISET drops to IHOLD × ISCALE. -/
  | standstillTimeout (n : BitVec 4)
  /-- STEP_DIR_INPUT_STEP (R209): An input step moves the interpolator target by M and sets its rate. -/
  | stepDirInputStep (p : BitVec 4) (up : Bool)
  /-- ILK_EVALUATION (R249): ILK reads signals and evaluates rules 0–1023 in order, activating and releasing rules and setting their actions. -/
  | ilkEvaluation
  /-- ILK_SWAP (R253): SWAP freezes the shadow bank until the swap instant. -/
  | ilkSwap (m : Master) (a : CmdArg)
  /-- ILK_COPY_ACTIVE (R252): COPY_ACTIVE starts copying the active bank into the shadow bank. -/
  | ilkCopyActive (m : Master) (a : CmdArg)
  /-- ILK_COPY_COMPLETE (R253): The bank copy ends after 16 µs and ILK returns to IDLE. -/
  | ilkCopyComplete
  /-- ILK_ACK (R249): ACK releases a latched rule whose condition is false. -/
  | ilkAck (m : Master) (a : CmdArg)
  /-- ILK_ABORT (R253): ABORT cancels a pending swap or stops a copy. -/
  | ilkAbort (m : Master) (a : CmdArg)
  /-- ILK_RULE_READ_SHADOW (R252): ILK_RULE_IDX OP 1 reads a shadow descriptor into D0–D15. -/
  | ilkRuleReadShadow (m : Master) (r : BitVec 10)
  /-- ILK_RULE_WRITE_SHADOW (R252): ILK_RULE_IDX OP 2 writes D0–D15 into the shadow bank. -/
  | ilkRuleWriteShadow (m : Master) (r : BitVec 10)
  /-- ILK_RULE_READ_ACTIVE (R252): ILK_RULE_IDX OP 3 reads an active descriptor. -/
  | ilkRuleReadActive (m : Master) (r : BitVec 10)
  /-- SEQ_EVALUATION (R235): SEQ decides each channel in order of abort, pause, end and DUR checks and computes its action values. -/
  | seqEvaluation
  /-- STEP_FETCH_COMPLETE (R236): A step record or START header fetch completes and is checked, or fails into abort. -/
  | stepFetchComplete (c : BitVec 4) (err : Bool)
  /-- SEQ_START (R242): START fetches the header, ABORT_STEP and FIRST records and enters STARTING. -/
  | seqStart (m : Master) (c : BitVec 4) (a : CmdArg)
  /-- SEQ_PAUSE (R241): PAUSE sets the HOST pause cause. -/
  | seqPause (m : Master) (c : BitVec 4) (a : CmdArg)
  /-- SEQ_RESUME (R241): RESUME clears the HOST cause and any ILK cause held for it. -/
  | seqResume (m : Master) (c : BitVec 4) (a : CmdArg)
  /-- SEQ_RELEASE (R237): RELEASE loads a step index into the channel's release latch. -/
  | seqRelease (m : Master) (c : BitVec 4) (a : CmdArg)
  /-- SEQ_RESET (R242): RESET returns a DONE or ABORTED channel to IDLE, releasing its signals. -/
  | seqReset (m : Master) (c : BitVec 4) (a : CmdArg)
  /-- SEQ_CHANNEL_ABORT (R240): A channel ABORT sends the channel into ABORTING to ABORT_STEP at its next evaluation. -/
  | seqChannelAbort (m : Master) (c : BitVec 4) (a : CmdArg)
  /-- SEQ_ABORT (R68): Block ABORT sends every running or paused channel into abort. -/
  | seqAbort (m : Master) (a : CmdArg)
  /-- ADC_TRIGGER (R259): TRIGGER fires every enabled group named in ARG. -/
  | adcTrigger (m : Master) (a : CmdArg)
  /-- ADC_SWAP (R276): SWAP stages group configurations for the swap instant. -/
  | adcSwap (m : Master) (a : CmdArg)
  /-- ADC_ABORT (R276): ABORT cancels queued sequences and disarms time-base groups. -/
  | adcAbort (m : Master) (a : CmdArg)
  /-- FC_PHASE_TRIGGER (R259): An FC-phase group fires at t0 + PHASE and requests conversions. -/
  | fcPhaseTrigger (phase : BitVec 15) (tickB : Bool)
  /-- ATRG_EDGE (R259): An accepted ATRG pin edge fires its groups. -/
  | atrgEdge (pin : BitVec 3) (rising : Bool)
  /-- TIME_BASE_TRIGGER (R260): The time base reaches an armed group's TBTIME and the group fires. -/
  | timeBaseTrigger (g : BitVec 4)
  /-- TBTIME_WRITE (R260): A write to ADC_Gg_TBTIME arms the group, firing at once and setting LATE if the target has passed. -/
  | tbtimeWrite (m : Master) (g : BitVec 4) (x : BitVec 32)
  /-- CONVERSION_COMPLETE (R258): A conversion ends, its result is written and published, and window comparators judge it. -/
  | conversionComplete (conv : Fin 34) (uv : BitVec 24)
  /-- REFERENCE_CHECK (R264): An idle converter converts its references once per 1 ms and charges its bucket on error. -/
  | referenceCheck (conv : Fin 34) (zero ref : BitVec 16)
  /-- CONVERTER_UNCHECKED (R264): A converter that found no idle 200 ns for 10 ms sets its unchecked bit. -/
  | converterUnchecked (conv : Fin 34)
  /-- SDM_SWAP (R281): SWAP stages sigma-delta clock and channel settings, rejected where T_OC would exceed 1 µs. -/
  | sdmSwap (m : Master) (a : CmdArg)
  /-- SDM_ABORT (R68): ABORT cancels a pending filter reconfiguration. -/
  | sdmAbort (m : Master) (a : CmdArg)
  /-- STUCK_STREAM (R272): A stream holding one level for 64 clocks is stuck and stops publishing. -/
  | stuckStream (n : Fin 48)
  /-- SDM_OVERCURRENT (R273): The fast-path sum reaches OCLIM, tripping the axis channel and counting the detection. -/
  | sdmOvercurrent (n : Fin 48) (sum : BitVec 8)
  /-- DAC_ABORT (R275): ABORT empties the IMMEDIATE queues and outputs hold their codes. -/
  | dacAbort (m : Master) (a : CmdArg)
  /-- DAC_IMMEDIATE_UPDATE (R275): In IMMEDIATE mode a queued value is applied to the output, at most one per 1 µs. -/
  | dacImmediateUpdate (c : BitVec 4)
  /-- FIO_ARM (R302): ARM moves named READY groups to ARMING, entering RUN at the next t0. -/
  | fioArm (m : Master) (a : CmdArg)
  /-- FIO_CLEAR_OUT (R302): CLEAR_OUT clears named overload latches at the next t0. -/
  | fioClearOut (m : Master) (a : CmdArg)
  /-- FIO_FLUSH_TSF (R302): FLUSH_TSF empties the timestamp FIFO. -/
  | fioFlushTsf (m : Master) (a : CmdArg)
  /-- FIO_ABORT (R302): ABORT cancels a pending ARM or CLEAR_OUT. -/
  | fioAbort (m : Master) (a : CmdArg)
  /-- COUPLER_FAULT (R285): A channel coupler heartbeat is absent for 2 µs; the input stops publishing or the output is driven off. -/
  | couplerFault (ch : BitVec 5)
  /-- SUPPLY_LOW (R286): A field supply falls below 19.2 V and LOW is set. -/
  | supplyLow (b : Bool) (mv : BitVec 16)
  /-- SUPPLY_DIP (R286): A field supply is below 16.0 V for less than 100 µs and the dip is counted. -/
  | supplyDip (b : Bool) (mv : BitVec 16)
  /-- SUPPLY_LOST (R287): A field supply stays below 16.0 V for 100 µs; the group enters DOWN and its outputs latch off. -/
  | supplyLost (b : Bool) (mv : BitVec 16)
  /-- SUPPLY_RECOVERED (R287): A field supply stays at or above 19.2 V for 10 ms and the group enters READY. -/
  | supplyRecovered (b : Bool) (mv : BitVec 16)
  /-- INPUT_FILTER_TICK (R290): An input filter tick moves the counter and may change the filtered state and push a timestamp. -/
  | inputFilterTick (n : BitVec 4)
  /-- TSF_READ (R293): A read of FIO_TSF_LO removes the oldest entry and latches its timestamp. -/
  | tsfRead (m : Master)
  /-- OUTPUT_OVERLOAD (R296): An output in current limit for 1 ms, or in thermal shutdown, is latched off. -/
  | outputOverload (n : BitVec 4)
  /-- READBACK_MISMATCH (R297): An output readback differs from its set state for over 100 µs and RBERR is set. -/
  | readbackMismatch (n : BitVec 4)
  /-- OPEN_LOAD (R297): An on output drawing under 5 mA for 10 ms sets OPEN. -/
  | openLoad (n : BitVec 4)
  /-- TEST_PULSE_CHECK (R298): 250 µs after a test pulse starts or ends the readback is checked and TPFAIL set on failure. -/
  | testPulseCheck (n : BitVec 4) (high : Bool)
  /-- TEST_PULSE_END (R298): A 300 µs off-test pulse on a safety output ends. -/
  | testPulseEnd (n : BitVec 4)
  /-- SAFETY_EVALUATION (R304): The safety logic evaluates every group, applies monitoring functions and sends its decision word to the Belay. -/
  | safetyEvaluation
  /-- BELAY_COMPARISON (R303): The Belay recomputes and compares the decision word and forwards gate-enable removals. -/
  | belayComparison (flip : BitVec 32)
  /-- STO_DEMAND (R308): STO_IN stays low longer than TF; the H path removes gate enables of STO-mode groups. -/
  | stoDemand (h l : Bool)
  /-- STO_DEMAND_END (R309): STO_IN high for 10 ms on both paths ends the demand. -/
  | stoDemandEnd
  /-- STOPATH_FAULT (R309): The H and L paths differ for TF + 100 µs and a STOPATH fault locks out all groups. -/
  | stopathFault (h : Bool)
  /-- SAFE_ENRB_FAULT (R316): AXn_EN reads high 2 µs after removal and an ENRB fault locks out all groups. -/
  | safeEnrbFault (n : BitVec 4)
  /-- SAFE_ACK_EDGE (R314): An accepted SAFE_ACK edge clears STARTACK and VIOL where permitted and completes a pending reset. -/
  | safeAckEdge
  /-- STRAP_SAMPLE (R307): The SEAL_CFG balls are sampled once per 1 ms and a change is a STRAP fault. -/
  | strapSample (v : BitVec 4)
  /-- SAFE_CRC_CHECK (R318): SAFE recomputes SAFE_CRC each 1 ms and a mismatch in RUN is a CRC fault. -/
  | safeCrcCheck
  /-- SAFE_CONFIRM_WRITE (R319): A write to SAFE_CONFIRM in CONFIG stores the value if it equals SAFE_CRC. -/
  | safeConfirmWrite (m : Master) (x : BitVec 32)
  /-- SAFE_SEL_SET_WRITE (R311): A write to SAFE_SEL_SET sets group selector bits. -/
  | safeSelSetWrite (m : Master) (x : BitVec 32)
  /-- SAFE_SEL_CLR_WRITE (R311): A secure write to SAFE_SEL_CLR clears group selector bits. -/
  | safeSelClrWrite (m : Master) (x : BitVec 32)
  /-- SAFE_RESET (R317): SAFE_RESET opens a reset of named groups in LOCKOUT, awaiting a SAFE_ACK edge. -/
  | safeReset (m : Master) (a : CmdArg)
  /-- SAFE_RESET_TIMEOUT (R317): No SAFE_ACK edge comes within 2 s; RESETTMO is set and the groups stay in LOCKOUT. -/
  | safeResetTimeout
  /-- SAFE_CONFIG (R319): CONFIG holds every group in STO for parameter changes. -/
  | safeConfig (m : Master) (a : CmdArg)
  /-- LEAVE_CONFIG (R319): LEAVE_CONFIG returns groups in STO with CRC and STRAP LIVE bits cleared where corrected. -/
  | leaveConfig (m : Master) (a : CmdArg)
  /-- SAFE_DEMAND (R309): DEMAND acts like an STO_IN demand on named groups until RELEASE. -/
  | safeDemand (m : Master) (a : CmdArg)
  /-- SAFE_RELEASE (R322): RELEASE ends software demands on named groups. -/
  | safeRelease (m : Master) (a : CmdArg)
  /-- SAFE_ABORT (R322): ABORT cancels a pending SAFE_RESET. -/
  | safeAbort (m : Master) (a : CmdArg)
  /-- OCU_START (R351): START enters STARTING and the ports send LINK blocks. -/
  | ocuStart (u : Bool) (m : Master) (a : CmdArg)
  /-- OCU_STOP (R351): STOP stops the ring at the next t0, or at the head sends STOPREQ in 8 cairn frames first. -/
  | ocuStop (u : Bool) (m : Master) (a : CmdArg)
  /-- OCU_LOAD_SCHED (R350): LOAD_SCHED swaps the staged schedule into effect, or rejects an invalid one. -/
  | ocuLoadSched (u : Bool) (m : Master) (a : CmdArg)
  /-- OCU_MB_SEND (R345): MB_SEND sends an MBOX frame from the transmit mailbox. -/
  | ocuMbSend (u : Bool) (m : Master) (a : CmdArg)
  /-- OCU_MB_RELEASE (R345): MB_RELEASE empties a full receive mailbox. -/
  | ocuMbRelease (u : Bool) (m : Master) (a : CmdArg)
  /-- OCU_BULK_SEND (R346): BULK_SEND starts a bulk transfer to a destination channel. -/
  | ocuBulkSend (u : Bool) (m : Master) (a : CmdArg)
  /-- OCU_ABORT (R352): ABORT ends a pending STOPREQ, mailbox wait or bulk transfer. -/
  | ocuAbort (u : Bool) (m : Master) (a : CmdArg)
  /-- LINK_BLOCK_RECEIVED (R327): A LINK block is received and checked, updating the peer status of the port. -/
  | linkBlockReceived (u p : Bool) (dt : BitVec 32) (b : BitVec 56)
  /-- BLOCK_LOCK_ACQUIRED (R325): A port gains block lock after 64 valid sync headers. -/
  | blockLockAcquired (u p : Bool)
  /-- BLOCK_LOCK_LOST (R325): A port loses block lock after 16 invalid sync headers within 64 blocks. -/
  | blockLockLost (u p : Bool)
  /-- LINK_BREAK (R369): A port declares a break and loops back from the next t0, charging its bucket. -/
  | linkBreak (u p : Bool) (dt : BitVec 32)
  /-- PORT_RESTORE (R373): A looped port with good link for RESTORE FC unloops at the next t0 where CYC_COUNT mod 256 = 0. -/
  | portRestore (u p : Bool)
  /-- CAIRN_FRAME_RECEIVED (R362): A cairn frame arrives; it is forwarded or stripped and may lock t0, steer the time base, and change ring state. -/
  | cairnFrameReceived (u p : Bool) (dt : BitVec 32) (f : List (BitVec 32))
  /-- HEAD_EMISSION_START (R365): A candidate silent for three FC plus its rank back-off emits its first cairn frame and becomes head. -/
  | headEmissionStart
  /-- TAKEOVER (R368): A backup in HOLDOVER without cairn frames for TM_RANK + 1 FC takes over as time master. -/
  | takeover
  /-- SLOT_FRAME_RECEIVED (R338): A static frame arrives; it is forwarded, stripped or re-inserted and, when newer, its valid words are published. -/
  | slotFrameReceived (u p : Bool) (dt : BitVec 32) (f : List (BitVec 32))
  /-- SLOT_FILL (R336): An owned position passes and the node sends its snapshot in both trains, or leaves it empty under the guard. -/
  | slotFill (u : Bool) (i : BitVec 6) (west prev : Bool) (late : BitVec 16) (collide : Bool)
  /-- SLOT_REINSERTION (R335): The head re-inserts a stripped static frame with REINS set in the first later train that fits. -/
  | slotReinsertion (u : Bool) (i : BitVec 6) (p : Bool)
  /-- DYN_FRAME_SEND (R339): At a mini-slot boundary the node sends a buffered, relayed or own dynamic frame. -/
  | dynFrameSend (u p : Bool) (m : BitVec 10) (prev arriving : Bool)
  /-- DELAY_REQ_SEND (R358): Each linked port sends one DELAY REQ per FC at the first mini-slot boundary. -/
  | delayReqSend (u p : Bool) (dt : BitVec 32) (arriving : Bool)
  /-- DELAY_REQ_RECEIVED (R358): A DELAY REQ is stripped and answered by an RSP out of the same port. -/
  | delayReqReceived (u p : Bool) (dt : BitVec 32) (f : List (BitVec 32)) (turn : BitVec 24) (arriving : Bool)
  /-- DELAY_RSP_RECEIVED (R359): A DELAY RSP gives a hop-delay value and the node updates h, d and topology. -/
  | delayRspReceived (u p : Bool) (dt : BitVec 32) (f : List (BitVec 32))
  /-- REMOTE_WINDOW_ACCESS (R342): An access to a remote chip window becomes an RRA_REQ to the node the remote chip table names. -/
  | remoteWindowAccess (m : Master) (chip : BitVec 6) (ofs : BitVec 24) (count : BitVec 4) (data : Option (List (BitVec 32)))
  /-- RRA_REQ (R343): The destination executes a received remote request as an external master and answers. -/
  | rraReq (u p : Bool) (dt : BitVec 32) (f : List (BitVec 32))
  /-- RRA_RSP (R342): A received response completes the outstanding remote access. -/
  | rraRsp (u p : Bool) (dt : BitVec 32) (f : List (BitVec 32))
  /-- RRA_TIMEOUT (R344): A request unanswered for TMO FC is resent, or after RETRY fails with an error response. -/
  | rraTimeout (u : Bool) (dst : BitVec 12) (seq : BitVec 8)
  /-- MBOX (R345): A received MBOX frame is stored in an empty mailbox and answered OK, FULL or NOBOX. -/
  | mbox (u p : Bool) (dt : BitVec 32) (f : List (BitVec 32))
  /-- MBOX_ACK (R345): A received MBOX_ACK writes the result to MBTX_STAT. -/
  | mboxAck (u p : Bool) (dt : BitVec 32) (f : List (BitVec 32))
  /-- MBOX_TIMEOUT (R345): No MBOX_ACK within TMO FC; MBTX_STAT takes TIMEOUT. -/
  | mboxTimeout (u : Bool)
  /-- BULK_DATA (R346): A received BULK_DATA frame is accepted and written if in order and fitting, with BULK_ACK where due. -/
  | bulkData (u p : Bool) (dt : BitVec 32) (f : List (BitVec 32))
  /-- BULK_ACK (R346): A received BULK_ACK advances the acknowledged offset or fails the transfer. -/
  | bulkAck (u p : Bool) (dt : BitVec 32) (f : List (BitVec 32))
  /-- BULK_TIMEOUT (R346): The acknowledged offset does not advance for TMO FC; the source resends or fails. -/
  | bulkTimeout (u : Bool)
  /-- TB_SET (R385): SET loads NS, FRAC and ERA in one tick. -/
  | tbSet (m : Master) (a : CmdArg)
  /-- TB_ADJ (R389): ADJ adds TB_ADJ_VAL to the slewed correction, or refuses it beyond the jump limit. -/
  | tbAdj (m : Master) (a : CmdArg)
  /-- TB_SNAP_CAL (R388): SNAP_CAL arms a snapshot of time base and calendar. -/
  | tbSnapCal (m : Master) (a : CmdArg)
  /-- SNAP_CAPTURE (R388): At the next 32.768 kHz edge the time base and calendar are captured. -/
  | snapCapture
  /-- TB_ABORT (R389): ABORT sets the remaining correction to 0 and cancels a pending snapshot. -/
  | tbAbort (m : Master) (a : CmdArg)
  /-- TB_WRAP (R377): NS wraps modulo 2^32 and ERA increments. -/
  | tbWrap
  /-- SLEW_COMPLETE (R380): The remaining correction reaches 0 and TB_STATE returns to IDLE. -/
  | slewComplete
  /-- TB_TIME_READ (R387): A read of TB_TIME_LO latches ERA and FRAC for the reading port. -/
  | tbTimeRead (m : Master)
  /-- ETH_START (R401): START serves enabled queues and begins reception. -/
  | ethStart (k : Bool) (m : Master) (a : CmdArg)
  /-- ETH_STOP (R401): STOP waits for the frame on the wire to end, then enters STOPPED. -/
  | ethStop (k : Bool) (m : Master) (a : CmdArg)
  /-- ETH_MDIO (R401): MDIO starts the management frame in ETH_MDIO_CTL. -/
  | ethMdio (k : Bool) (m : Master) (a : CmdArg)
  /-- ETH_MDIO_DONE (R401): The MDIO frame ends and a read's result is written. -/
  | ethMdioDone (k : Bool) (data : BitVec 16)
  /-- ETH_ABORT (R401): ABORT clears transmit QEN at a frame boundary and flushes unstarted launch-time descriptors. -/
  | ethAbort (k : Bool) (m : Master) (a : CmdArg)
  /-- ETH_FRAME_TRANSMIT (R397): A queue head frame is selected, sent with timestamp or one-step correction, and its descriptor written back. -/
  | ethFrameTransmit (k : Bool) (jit : BitVec 9)
  /-- LAUNCH_TIME (R398): A launch-time head's TIME arrives and it is sent, sent late or discarded. -/
  | launchTime (k : Bool) (jit : BitVec 9)
  /-- ETH_FRAME_RECEIVE (R396): A received frame is timestamped, classified and delivered to a queue or dropped. -/
  | ethFrameReceive (k : Bool) (f : List (BitVec 8)) (jit : BitVec 9)
  /-- TXTAIL_WRITE (R394): A write to ETH_Qq_TXTAIL gives descriptors to the MAC and restarts a stopped queue. -/
  | txtailWrite (m : Master) (k : Bool) (q : BitVec 3) (x : BitVec 32)
  /-- RXTAIL_WRITE (R394): A write to ETH_Qq_RXTAIL gives receive descriptors to the MAC. -/
  | rxtailWrite (m : Master) (k : Bool) (q : BitVec 3) (x : BitVec 32)
  /-- CAN_START (R419): START reads the bit timing and enters INTEGRATING. -/
  | canStart (k : BitVec 2) (m : Master) (a : CmdArg)
  /-- CAN_STOP (R419): STOP enters STOPPED at the end of any frame on the bus. -/
  | canStop (k : BitVec 2) (m : Master) (a : CmdArg)
  /-- CAN_SLEEP (R417): SLEEP enters SLEEPING with the bus idle. -/
  | canSleep (k : BitVec 2) (m : Master) (a : CmdArg)
  /-- CAN_WAKE (R417): WAKE takes the controller from SLEEPING into INTEGRATING. -/
  | canWake (k : BitVec 2) (m : Master) (a : CmdArg)
  /-- CAN_RECOVER (R415): RECOVER starts bus-off recovery. -/
  | canRecover (k : BitVec 2) (m : Master) (a : CmdArg)
  /-- CAN_TXREQ (R410): TXREQ snapshots a transmit buffer and raises its request. -/
  | canTxreq (k : BitVec 2) (m : Master) (a : CmdArg)
  /-- CAN_TXCANCEL (R413): TXCANCEL withdraws a pending request, or waits for the frame on the bus to end. -/
  | canTxcancel (k : BitVec 2) (m : Master) (a : CmdArg)
  /-- CAN_ABORT (R420): ABORT withdraws every pending request and cancels a pending STOP or SLEEP. -/
  | canAbort (k : BitVec 2) (m : Master) (a : CmdArg)
  /-- PERIODIC_REQUEST (R411): At t0 + 1.00 µs of a matching FC a periodic buffer raises a request. -/
  | periodicRequest (k : BitVec 2) (b : BitVec 6)
  /-- CAN_FRAME_RECEIVED (R408): A valid frame is stored in the lowest matching buffer and its words published, or dropped. -/
  | canFrameReceived (k : BitVec 2) (f : CanRx)
  /-- CAN_FRAME_SENT (R412): A transmitted frame completes without error and SENT is set. -/
  | canFrameSent (k : BitVec 2) (sof : BitVec 32) (tdcv : BitVec 8)
  /-- ARBITRATION_LOST (R412): A frame loses arbitration and is retried, or withdrawn if ONESHOT. -/
  | arbitrationLost (k : BitVec 2)
  /-- CAN_BUS_ERROR (R415): A protocol error updates TEC or REC, may enter BUSOFF, and counts pattern events. -/
  | canBusError (k : BitVec 2) (kind : BitVec 3) (dphase patt exc : Bool)
  /-- BUS_INTEGRATION_COMPLETE (R419): 11 consecutive recessive bits take the controller into RUN. -/
  | busIntegrationComplete (k : BitVec 2)
  /-- BUSOFF_RECOVERY_COMPLETE (R415): 128 × 11 recessive bits end recovery with TEC and REC at 0. -/
  | busoffRecoveryComplete (k : BitVec 2)
  /-- WAKE_DETECTED (R417): A dominant level or matching frame wakes a sleeping controller. -/
  | wakeDetected (k : BitVec 2) (ns : BitVec 16) (f : Option CanRx)
  /-- QUE_ENQ_COMMIT (R428): A write to QUE_ENQ_COMMIT commits the staged descriptor to a queue, stalls or returns RETRY or DENIED. -/
  | queEnqCommit (m : Master) (x : BitVec 32)
  /-- COMMIT_STALL_TIMEOUT (R428): A local commit stalled for 100 µs completes with RETRY. -/
  | commitStallTimeout (port : BitVec 5)
  /-- HEAD_REFILL (R427): An item moves from a queue's body into its on-chip head when there is room. -/
  | headRefill (q : BitVec 7) (err : Bool)
  /-- DISPATCH_DECISION (R431): Each 8 ns scheduler cycle WSCH chooses an eligible item for a free core and dispatches it. -/
  | dispatchDecision
  /-- WSCH_DONE_WRITE (R431): A core writes WSCH_DONE and its outstanding item ends. -/
  | wschDoneWrite (m : Master)
  /-- WSCH_CANCEL_WRITE (R437): A write to WSCH_CANCEL removes a matching head item or reports TOO_LATE or NOT_FOUND. -/
  | wschCancelWrite (m : Master) (x : BitVec 32)
  /-- WSCH_APPLY_CFG (R440): APPLY_CFG copies WSCH_CFG_PEND into effect at the first free scheduler cycle. -/
  | wschApplyCfg (m : Master) (a : CmdArg)
  /-- WSCH_ABORT (R440): ABORT cancels a pending APPLY_CFG. -/
  | wschAbort (m : Master) (a : CmdArg)
  /-- CORE_RETIREMENT (R438): A retired core leaves the pool and its outstanding item is recorded as lost. -/
  | coreRetirement (n : Fin 24)
  /-- QUE_RESET (R441): RESET discards a queue's items and resets its pointers. -/
  | queReset (m : Master) (a : CmdArg)
  /-- QUE_RESIZE (R441): RESIZE marks a queue full until it drains. -/
  | queResize (m : Master) (a : CmdArg)
  /-- QUEUE_RESIZE_COMPLETE (R441): The queue is empty and takes its pending base and SIZE. -/
  | queueResizeComplete
  /-- QUE_ABORT (R441): ABORT cancels a pending RESET or RESIZE. -/
  | queAbort (m : Master) (a : CmdArg)
  /-- DRAM_READ (R448): A DRAM read checks ECC, correcting and writing back single-bit errors or reporting uncorrectable ones. -/
  | dramRead (m : Master) (a : BitVec 40) (r : Fin 3)
  /-- PATROL_SCRUB (R449): The patrol scrub reads words with idle bandwidth across each SCRUB_H period. -/
  | patrolScrub (a : BitVec 40) (r : Fin 3) (pos : BitVec 16)
  /-- MEMC_SCRUB_NOW (R449): SCRUB_NOW starts one additional full scrub pass. -/
  | memcScrubNow (m : Master) (a : CmdArg)
  /-- SCRUB_PASS_END (R449): The extra scrub pass ends and SCRUBDONE is set. -/
  | scrubPassEnd
  /-- MEMC_REMAP (R450): REMAP maps a named row to a spare row. -/
  | memcRemap (m : Master) (a : CmdArg)
  /-- ROW_REMAP_COMPLETE (R450): A row copy to its spare ends, the mapping is recorded and stalled accesses proceed. -/
  | rowRemapComplete
  /-- MEMC_ABORT (R453): ABORT stops a scrub pass or remap at a row boundary. -/
  | memcAbort (m : Master) (a : CmdArg)
  /-- SREC_START (R459): START takes the staged buffer into effect and opens block 0. -/
  | srecStart (m : Master) (a : CmdArg)
  /-- SREC_STOP (R465): STOP enters STOPPING until the present frame is written and the block closed. -/
  | srecStop (m : Master) (a : CmdArg)
  /-- SREC_ARM (R462): ARM puts the lowest FREE capture slot in ARMED. -/
  | srecArm (m : Master) (a : CmdArg)
  /-- SREC_TRIGGER (R462): TRIGGER makes the FC of acceptance the trigger FC of the armed slot. -/
  | srecTrigger (m : Master) (a : CmdArg)
  /-- SREC_RELEASE (R462): RELEASE returns a HELD slot to FREE and unlocks its blocks. -/
  | srecRelease (m : Master) (a : CmdArg)
  /-- SREC_ABORT (R465): ABORT returns an ARMED slot to FREE. -/
  | srecAbort (m : Master) (a : CmdArg)
  /-- SREC_FRAME_WRITE (R456): The recorder writes the frame of an FC, closing and opening blocks and locking capture blocks. -/
  | srecFrameWrite
  /-- SIGNAL_TRIGGER_EVALUATION (R462): At t0 + 4.90 µs the trigger compare is evaluated and may trigger the armed slot. -/
  | signalTriggerEvaluation
  /-- READOUT_GO (R464): Writing RD_CTL.GO starts copying recorder blocks to the destination. -/
  | readoutGo (m : Master) (kind : Bool)
  /-- READOUT_CANCEL (R464): Writing RD_CTL.CANCEL stops the readout at a block boundary. -/
  | readoutCancel (m : Master) (kind : Bool)
  /-- READOUT_COMPLETE (R464): The readout engine finishes or fails and sets RDDONE or RDERR. -/
  | readoutComplete (n : BitVec 19) (fail : Bool)
  /-- COLD_START (R468): PORST_N rises and Base camp starts islands, verifies and applies an image, and releases the cores. -/
  | coldStart (e : ColdEnv)
  /-- BROWN_OUT_RESET (R467): A rail below its reset threshold causes a cold start. -/
  | brownOutReset
  /-- SUPPLY_WARNING (R526): A rail beyond its warning threshold is shown in FLT_VMON with an INFO fault event. -/
  | supplyWarning (r : Fin 12) (beyond : Bool)
  /-- BOOT_WARM (R487): WARM starts a warm restart of the running image. -/
  | bootWarm (m : Master) (a : CmdArg)
  /-- BOOT_VERIFY (R490): VERIFY checks a candidate slot without applying it. -/
  | bootVerify (m : Master) (a : CmdArg)
  /-- VERIFY_DONE (R490): Verification ends and BOOT_VRES is written. -/
  | verifyDone (err : Bool)
  /-- BOOT_COMMIT (R491): COMMIT warm-restarts into a verified slot. -/
  | bootCommit (m : Master) (a : CmdArg)
  /-- BOOT_ATTEST (R493): ATTEST starts writing a signed attestation report. -/
  | bootAttest (m : Master) (a : CmdArg)
  /-- ATTEST_DONE (R493): The attestation report is written and ATTDONE set. -/
  | attestDone
  /-- BOOT_RETRY (R495): RETRY in RECOVERY resets islands and restarts slot selection. -/
  | bootRetry (m : Master) (a : CmdArg)
  /-- BOOT_ABORT (R495): ABORT ends a verification or attestation. -/
  | bootAbort (m : Master) (a : CmdArg)
  /-- WARM_RESTART_COMPLETE (R487): The APP sections are applied and the cores released, or the restart fails into fallback or APPFAIL. -/
  | warmRestartComplete (err : Bool) (ms : BitVec 16)
  /-- APP_WATCHDOG_EXPIRY (R489): PERIOD ms without a kick starts a warm restart with cause WDOG. -/
  | appWatchdogExpiry
  /-- WDOG_KICK (R489): A write to BOOT_WDOG_KICK restarts the watchdog period. -/
  | wdogKick (m : Master)
  /-- IDENTITY_KEY_READY (R492): The identity public key is computed and IDSTAT.VALID set. -/
  | identityKeyReady
  /-- KEY_PROG (R496): KEY_PROG programs a key hash slot in OTP. -/
  | keyProg (m : Master) (a : CmdArg)
  /-- KEY_REVOKE (R496): KEY_REVOKE revokes a key slot. -/
  | keyRevoke (m : Master) (a : CmdArg)
  /-- ROLLFWD (R496): ROLLFWD raises the anti-rollback counter. -/
  | rollfwd (m : Master) (a : CmdArg)
  /-- SVC_PROG (R496): SVC_PROG programs the service key hash. -/
  | svcProg (m : Master) (a : CmdArg)
  /-- OTP_PROG (R496): OTP_PROG ORs data into a USER OTP word. -/
  | otpProg (m : Master) (a : CmdArg)
  /-- DBG_LOCK (R496): DBG_LOCK raises the debug lock level. -/
  | dbgLock (m : Master) (a : CmdArg)
  /-- DBG_OPEN (R472): DBG_OPEN opens debug functions until the next cold start. -/
  | dbgOpen (m : Master) (a : CmdArg)
  /-- BOOT_SC_ABORT (R496): A secure-channel ABORT lets a word already begun complete. -/
  | bootScAbort (m : Master) (a : CmdArg)
  /-- OTP_PROGRAM_DONE (R496): An OTP programming command finishes and OTPDONE is set. -/
  | otpProgramDone
  /-- KEC_INIT (R498): INIT zeroes the Keccak state for SHAKE256 or SHA3-256. -/
  | kecInit (m : Master) (a : CmdArg)
  /-- KEC_ABSORB (R498): ABSORB starts reading KEC_LEN bytes into the sponge. -/
  | kecAbsorb (m : Master) (a : CmdArg)
  /-- KEC_ABSORB_DONE (R498): The last byte is absorbed, or a read error ends the absorb. -/
  | kecAbsorbDone (err : Bool)
  /-- KEC_FINAL (R498): FINAL pads and writes the output. -/
  | kecFinal (m : Master) (a : CmdArg)
  /-- KEC_ABORT (R498): ABORT zeroes the Keccak state. -/
  | kecAbort (m : Master) (a : CmdArg)
  /-- XSPI_READ (R500): READ copies flash to memory. -/
  | xspiRead (m : Master) (a : CmdArg)
  /-- XSPI_PROGRAM (R500): PROGRAM writes up to one flash page. -/
  | xspiProgram (m : Master) (a : CmdArg)
  /-- XSPI_ERASE4K (R500): ERASE4K erases a 4 KiB sector. -/
  | xspiErase4k (m : Master) (a : CmdArg)
  /-- XSPI_ERASE64K (R500): ERASE64K erases a 64 KiB block. -/
  | xspiErase64k (m : Master) (a : CmdArg)
  /-- XSPI_RESUME (R500): RESUME continues a suspended program or erase. -/
  | xspiResume (m : Master) (a : CmdArg)
  /-- XSPI_ABORT (R500): ABORT stops a read or suspends a program or erase. -/
  | xspiAbort (m : Master) (a : CmdArg)
  /-- XSPI_OPERATION_DONE (R500): A flash read, program or erase completes and XSPI returns to IDLE. -/
  | xspiOperationDone (err : Bool)
  /-- PCIE_PERST (R502): PCIE_PERST_N or Function Level Reset resets only the endpoint. -/
  | pciePerst
  /-- PCIE_LINK_UP (R514): Link training completes and LINKUP is set. -/
  | pcieLinkUp (speed : Fin 4) (width : Fin 3)
  /-- PCIE_LINK_DOWN (R514): The link goes down and LINKDN is set. -/
  | pcieLinkDown
  /-- PCIE_RETRAIN (R514): RETRAIN retrains the link at TGTSPD. -/
  | pcieRetrain (m : Master) (a : CmdArg)
  /-- PCIE_MB_RESET (R506): MB_RESET returns named mailboxes to IDLE. -/
  | pcieMbReset (m : Master) (a : CmdArg)
  /-- PCIE_ABORT (R514): ABORT cancels a pending RETRAIN or MB_RESET. -/
  | pcieAbort (m : Master) (a : CmdArg)
  /-- MB_DB_WRITE (R506): A doorbell write makes a mailbox BUSY and enqueues a work item, or sets OVR. -/
  | mbDbWrite (k : BitVec 3) (x : BitVec 32)
  /-- MB_ANSWER_WRITE (R506): A write to PCIE_MB_ANSWER makes a BUSY mailbox DONE and raises its vector. -/
  | mbAnswerWrite (m : Master) (x : BitVec 32)
  /-- QDB_COMMIT (R508): The write covering QDBn_D15 commits the staged descriptor to queue n as an external master. -/
  | qdbCommit (q : BitVec 7) (ws : List (BitVec 32))
  /-- MSIX_RAISE_WRITE (R509): A write to PCIE_MSIX_RAISE raises a firmware vector. -/
  | msixRaiseWrite (m : Master) (x : BitVec 32)
  /-- BAR4_READ_TIMEOUT (R511): A BAR4 read not completed after 50 ms is completed with missing words as zero. -/
  | bar4ReadTimeout
  /-- FLT_LOG_READ (R529): A read of FLT_LOG_D0 removes the oldest fault log entry and latches D1–D3. -/
  | fltLogRead (m : Master)
  /-- OPERATING_SECOND (R539): OPS increments once per second while the main domain is powered. -/
  | operatingSecond
  /-- ROPE_DIVERGENCE (R522): The active pair diverges, is halted, and the standby pair resumes from the checkpoint. -/
  | ropeDivergence (b : Bool)
  /-- STANDBY_PAIR_READY (R522): A reset pair passes its test, is loaded from the active pair and made standby. -/
  | standbyPairReady (fail : Bool)
  /-- AUTOCOLD_RESTART (R525): With AUTOCOLD set, 10 ms after safe hold the chip makes a cold start. -/
  | autocoldRestart
  /-- PERIODIC_SELF_TEST (R527): A periodic self-test runs on its resource and charges the bucket on failure. -/
  | periodicSelfTest (t : Fin 10) (inst : BitVec 6) (fail : Bool)
  /-- FLT_SELFTEST (R535): SELFTEST starts the test of a named resource. -/
  | fltSelftest (m : Master) (a : CmdArg)
  /-- SELFTEST_DONE (R535): A commanded or clearing test ends and its result is counted. -/
  | selftestDone (clr fail : Bool)
  /-- FLT_ABORT (R535): ABORT stops a self-test and returns the resource to service. -/
  | fltAbort (m : Master) (a : CmdArg)
  /-- CLEAR_RET (R519): CLEAR_RET tests a retired resource and clears its retirement if the test passes. -/
  | clearRet (m : Master) (a : CmdArg)
  /-- ISL_RESET (R536): ISL_RESET resets a failed island and reloads its blocks. -/
  | islReset (m : Master) (a : CmdArg)
  /-- ISL_RESET_DONE (R536): The island runs and its blocks are reloaded. -/
  | islResetDone
  /-- FLT_SC_ABORT (R536): A secure ABORT stops a test in progress and the retirement stands. -/
  | fltScAbort (m : Master) (a : CmdArg)
  /-- VBAT_MEASURE (R537): VBAT is measured every 10 s and VBATLOW set below 2.2 V. -/
  | vbatMeasure (mv : BitVec 16)
  /-- VBAT_SWITCHOVER (R537): The Bivouac domain switches between the main supply and VBAT without losing a count. -/
  | vbatSwitchover
  /-- BIV_SET (R544): SET stages a calendar load for the next 32.768 kHz edge. -/
  | bivSet (m : Master) (a : CmdArg)
  /-- CALENDAR_LOAD (R544): At the edge the calendar is loaded and VALID, and an RTC-correlation record is requested. -/
  | calendarLoad
  /-- BIV_ABORT (R544): ABORT before the edge abandons the set. -/
  | bivAbort (m : Master) (a : CmdArg)
  /-- CALENDAR_READ (R543): A read of BIV_CAL_LO latches the calendar and view registers for the reading port. -/
  | calendarRead (m : Master) (frac : BitVec 15)
  /-- HUT_RESERVE (R552): RESERVE opens a firmware record reservation at NEXT. -/
  | hutReserve (m : Master) (a : CmdArg)
  /-- HUT_WR_DATA_WRITE (R552): A write to HUT_WR_DATA writes the next payload word of the open reservation. -/
  | hutWrDataWrite (m : Master) (x : BitVec 32)
  /-- HUT_COMMIT (R549): COMMIT writes the CRC word and commits the record. -/
  | hutCommit (m : Master) (a : CmdArg)
  /-- HUT_CANCEL (R552): CANCEL abandons the open reservation. -/
  | hutCancel (m : Master) (a : CmdArg)
  /-- HUT_ABORT (R558): ABORT abandons an open reservation. -/
  | hutAbort (m : Master) (a : CmdArg)
  /-- RESERVATION_TIMEOUT (R552): A reservation without COMMIT for 1 ms is abandoned. -/
  | reservationTimeout
  /-- BLOCK_RECORD_COMMIT (R551): A queued block record is reserved, written and committed to the hut book. -/
  | blockRecordCommit
  /-- HUT_CURSOR_WRITE (R553): A write to HUT_CURSOR checks the record there and fills HUT_CURINFO. -/
  | hutCursorWrite (m : Master) (x : BitVec 32)
  /-- HUT_NONCE (R554): NONCE writes a new clearing nonce. -/
  | hutNonce (m : Master) (a : CmdArg)
  /-- HUT_CLEAR (R555): CLEAR consumes the nonce and starts verifying the clearing authorisation. -/
  | hutClear (m : Master) (a : CmdArg)
  /-- HUT_CLEAR_VERIFY_DONE (R555): Verification ends with a CLEAR record and new header, or a CLRFAIL record. -/
  | hutClearVerifyDone
  /-- HUT_SC_ABORT (R558): A secure ABORT ends verification with the book unchanged. -/
  | hutScAbort (m : Master) (a : CmdArg)
  /-- CONVERTER_FREE (R261): 200 ns after its hold instant a SAR converter becomes free and starts the oldest queued request, taking a new hold instant. -/
  | converterFree (conv : Fin 34)
  /-- RAW_INPUT_EDGE (R292): A raw field-input edge, sampled every 20 ns, records its time-base ns as the input's latest rising or falling edge. -/
  | rawInputEdge (n : BitVec 4) (level : Bool)
  /-- COUPLER_HEARTBEAT_RETURN (R285): A faulted channel coupler's heartbeat returns, so the channel is back in service at the next t0. -/
  | couplerHeartbeatReturn (ch : BitVec 5)
  /-- SUPPLY_LOW_CLEAR (R286): A field supply rises to 19.6 V or above and its LOW condition clears. -/
  | supplyLowClear (b : Bool) (mv : BitVec 16)
  /-- STUCK_STREAM_RECOVERY (R271): A stuck sigma-delta stream changes level again, and the channel publishes again once 3D bits have been sampled. -/
  | stuckStreamRecovery (n : Fin 48)
  /-- CALENDAR_SECOND (R541): The calendar counts 32.768 kHz ticks, with the trim of R542, and increments SEC once per second, also on VBAT. -/
  | calendarSecond
  /-- PORST_N_ASSERTED (R467): PORST_N goes low and every island except I0 is held in reset with all outputs at their reset levels. -/
  | porstNAsserted
  /-- ETH_LINK_CHANGE (R402): The PHY's in-band link status or speed changes, updating ETH_STATE LINK and SPEED and setting ETH_EVT.LINK. -/
  | ethLinkChange (k link : Bool) (speed : BitVec 2)
  /-- MACHINE_CHECK (R517): An application core reports a machine check from a core array or a bus error, which charges the core's bucket and may retire it. -/
  | machineCheck (n : Fin 24)
  /-- SHARED_SRAM_READ (R517): An access to shared SRAM finds a corrected or uncorrectable ECC error, which charges the row's bucket and may map the row to a spare. -/
  | sharedSramRead (m : Master) (a : BitVec 23) (r : Fin 3)
  /-- DRAM_CHECK_BIT_INIT (R484): After release MEMC initialises the check bits of uninitialised DRAM lines with idle bandwidth and advances BOOT_DRAMINIT to DONE. -/
  | dramCheckBitInit (progress : BitVec 16) (done : Bool)
  /-- MR4_RATE_CHANGE (R446): An LPDDR5 device's MR4 temperature reading changes the refresh rate, updating MEMC_TEMP and setting MEMC_EVT.TEMP. -/
  | mr4RateChange (ch : Bool) (code : BitVec 3)
  /-- DYNAMIC_FRAME_RECEIVED (R341): A dynamic frame in transit arrives at a node and is forwarded, buffered or stripped, including the source's own returning unicast, which counts NODEST. -/
  | dynamicFrameReceived (u p : Bool) (dt : BitVec 32) (f : List (BitVec 32))
  /-- MSIX_UNMASK (R509): The host unmasks an MSI-X vector whose PBA bit is pending, and the endpoint sends the message once. -/
  | msixUnmask (v : BitVec 6)
  deriving DecidableEq, Repr

end Sys2Proof
end

