-- ==== Sys2Proof/Decode.lean ====
section
/-!
DEFINITION. The command a word spells by the bits of the opcode table. No row of spec/opcode_table.json gives bits
(98_reader.md), so no word spells a command.
-/
namespace Sys2Proof

/-- The command whose table bits are w: none, since no row of the table has bits. [DESIGN CHOICE: log 2] -/
def decodeTableWord (_nbits _w : Nat) : Option Instr := none

end Sys2Proof
end

