-- ==== Sys2Proof/Machine/RegTable.lean ====
section
/-!
DEFINITION. The registers of the part: their names and places (R20 and the register tables of the blocks), and for
each its access code, its writable, W1C and live reserved bits and its reset value. A register is named by
OFS = block index × 0x1_0000 + offset, its place above 0x00_4000_0000 (R15).
-/
namespace Sys2Proof.Machine

/-- Who may write a register: every master, privileged and secure masters, or secure masters alone (R57). -/
inductive Priv where
  | any
  | priv
  | secure
  deriving DecidableEq, Repr

/-- One register, or a regular group of them: the first offset in the block's window, an outer and an inner count with
their strides, the access suffix, the bits a write stores (RW), the bits a written 1 clears (W1C), the reserved bits of
RW access (R53), whether reads return zero (WO), the reset value of the first register and its increment from one
register of the group to the next. [DEDUCED: log 16] -/
structure RegDesc where
  first : Nat
  n1 : Nat
  s1 : Nat
  n2 : Nat
  s2 : Nat
  acc : Priv
  rw : Word
  w1c : Word
  live : Word
  wo : Bool
  reset : Word
  rstep : Word
  deriving DecidableEq, Repr

/-- Does the group hold the register at this offset? -/
def regCovers (d : RegDesc) (off : Nat) : Bool :=
  d.first ≤ off && ((off - d.first) / d.s1 < d.n1) && (((off - d.first) % d.s1) / d.s2 < d.n2)
    && (((off - d.first) % d.s1) % d.s2 == 0)

namespace Reg

-- SYS registers (R34)
abbrev SYS_CMD : Nat := 0x000000
abbrev SYS_CMDSTAT : Nat := 0x000004
abbrev SYS_STATE : Nat := 0x000008
abbrev SYS_ID : Nat := 0x000010
abbrev SYS_UID_LO : Nat := 0x000014
abbrev SYS_UID_HI : Nat := 0x000018
abbrev SYS_ROLE : Nat := 0x000020
abbrev SYS_CORE_EN : Nat := 0x000024
abbrev SYS_CORE_ACT : Nat := 0x000028
abbrev SYS_DECERR_CNT : Nat := 0x000030
abbrev SYS_DECERR_ADDR : Nat := 0x000034
-- CLK registers (R38)
abbrev CLK_CMD : Nat := 0x010000
abbrev CLK_CMDSTAT : Nat := 0x010004
abbrev CLK_STATE : Nat := 0x010008
abbrev CLK_POOL_SEL : Nat := 0x010010
abbrev CLK_ISL_RUN : Nat := 0x010014
abbrev CLK_ISL_FAIL : Nat := 0x010018
abbrev CLK_ISL_GATE : Nat := 0x01001C
abbrev CLK_MON (n : Nat) : Nat := 0x010040 + 0x4 * n
-- CYC registers (R94)
abbrev CYC_CMD : Nat := 0x090000
abbrev CYC_CMDSTAT : Nat := 0x090004
abbrev CYC_STATE : Nat := 0x090008
abbrev CYC_COUNT : Nat := 0x090010
abbrev CYC_T0_LAST : Nat := 0x090014
abbrev CYC_PHASE : Nat := 0x090018
abbrev CYC_SETUP_S : Nat := 0x090020
abbrev CYC_SETUP : Nat := 0x090024
abbrev CYC_EVT : Nat := 0x090028
abbrev CYC_HOLD_CNT : Nat := 0x09002C
abbrev CYC_SLOW_EVT_EN : Nat := 0x090030
-- SIG registers (R95)
abbrev SIG_CMD : Nat := 0x080000
abbrev SIG_CMDSTAT : Nat := 0x080004
abbrev SIG_STATE : Nat := 0x080008
abbrev SIG_ENT_D (n : Nat) : Nat := 0x080010 + 0x4 * n
abbrev SIG_ENT_IDX : Nat := 0x080020
abbrev SIG_LOAD_ADDR : Nat := 0x080030
abbrev SIG_LOAD_FIRST : Nat := 0x080034
abbrev SIG_LOAD_CNT : Nat := 0x080038
abbrev SIG_PEEK_ID : Nat := 0x080040
abbrev SIG_PEEK_VAL : Nat := 0x080044
abbrev SIG_PEEK_STAT : Nat := 0x080048
abbrev SIG_WR_ID : Nat := 0x080050
abbrev SIG_WR_VAL : Nat := 0x080054
abbrev SIG_SUB_ID : Nat := 0x080058
abbrev SIG_SUB_VAL : Nat := 0x08005C
abbrev SIG_EVT : Nat := 0x080060
abbrev SIG_STALE_CNT : Nat := 0x080064
abbrev SIG_STALE_ID : Nat := 0x080068
abbrev SIG_BADENT : Nat := 0x08006C
abbrev SIG_CONFL_ID : Nat := 0x080070
abbrev SIG_WR_IGN : Nat := 0x080074
abbrev SIG_OVL_CNT : Nat := 0x080078
abbrev SIG_STG_ID_S (n : Nat) : Nat := 0x081000 + 0x20 * n
abbrev SIG_STG_D_S (n w : Nat) : Nat := 0x081004 + 0x20 * n + 0x4 * w
-- CE registers (R138)
abbrev CE_CMD : Nat := 0x100000
abbrev CE_CMDSTAT : Nat := 0x100004
abbrev CE_STATE : Nat := 0x100008
abbrev CE_DIR_ACT : Nat := 0x100010
abbrev CE_LANES : Nat := 0x100014
abbrev CE_LOAD : Nat := 0x100018
abbrev CE_CHK_GRP : Nat := 0x10001C
abbrev CE_EVT : Nat := 0x100020
abbrev CE_EVT_EN : Nat := 0x100024
abbrev CE_VAL : Nat := 0x100028
abbrev CE_MISS_CNT : Nat := 0x10002C
abbrev CE_MISS_SLOT : Nat := 0x100030
abbrev CE_MM_CNT : Nat := 0x100034
abbrev CE_MM_SLOT : Nat := 0x100038
abbrev CE_CHK_SKIP : Nat := 0x10003C
abbrev CE_OVF_CNT : Nat := 0x100040
abbrev CE_SAT_LATCH (n : Nat) : Nat := 0x100050 + 0x4 * n
abbrev CE_MISS_MAP (n : Nat) : Nat := 0x100060 + 0x4 * n
-- CTAB registers (R142)
abbrev CTAB_CMD : Nat := 0x110000
abbrev CTAB_CMDSTAT : Nat := 0x110004
abbrev CTAB_STATE : Nat := 0x110008
abbrev CTAB_SRC_LO : Nat := 0x110010
abbrev CTAB_SRC_HI : Nat := 0x110014
abbrev CTAB_EVT : Nat := 0x110018
abbrev CTAB_CLAMP_TBL : Nat := 0x11001C
abbrev CTAB_TD_0 (n : Nat) : Nat := 0x110100 + 0x10 * n
abbrev CTAB_TD_1 (n : Nat) : Nat := 0x110104 + 0x10 * n
abbrev CTAB_TD_2 (n : Nat) : Nat := 0x110108 + 0x10 * n
abbrev CTAB_TD_3 (n : Nat) : Nat := 0x11010C + 0x10 * n
-- PROF registers (R177, R178)
abbrev PROF_CMD : Nat := 0x120000
abbrev PROF_CMDSTAT : Nat := 0x120004
abbrev PROF_STATE : Nat := 0x120008
abbrev PROF_EVT : Nat := 0x120010
abbrev PROF_EVT_EN : Nat := 0x120014
abbrev PROF_EVT_MAP (n : Nat) : Nat := 0x120020 + 0x4 * n
abbrev PROF_STARVE_CNT : Nat := 0x120030
abbrev PROF_LIM_CNT : Nat := 0x120034
abbrev PROF_BADTRAV_CNT : Nat := 0x120038
abbrev PROF_IMM_D (n : Nat) : Nat := 0x120100 + 0x4 * n
abbrev PROF_CAMD_0 (n : Nat) : Nat := 0x120200 + 0x8 * n
abbrev PROF_CAMD_1 (n : Nat) : Nat := 0x120204 + 0x8 * n
abbrev PROF_CAM_ADDR : Nat := 0x120280
abbrev PROF_CAM_DATA : Nat := 0x120284
abbrev PROF_G_CMD (n : Nat) : Nat := 0x120800 + 0x60 * n
abbrev PROF_G_CMDSTAT (n : Nat) : Nat := 0x120804 + 0x60 * n
abbrev PROF_G_STATE (n : Nat) : Nat := 0x120808 + 0x60 * n
abbrev PROF_G_FLAGS (n : Nat) : Nat := 0x12080C + 0x60 * n
abbrev PROF_G_POS_LO (n : Nat) : Nat := 0x120810 + 0x60 * n
abbrev PROF_G_POS_HI (n : Nat) : Nat := 0x120814 + 0x60 * n
abbrev PROF_G_VEL (n : Nat) : Nat := 0x120818 + 0x60 * n
abbrev PROF_G_ACC (n : Nat) : Nat := 0x12081C + 0x60 * n
abbrev PROF_G_CFG (n : Nat) : Nat := 0x120820 + 0x60 * n
abbrev PROF_G_VLIM_NEG (n : Nat) : Nat := 0x120824 + 0x60 * n
abbrev PROF_G_VLIM_POS (n : Nat) : Nat := 0x120828 + 0x60 * n
abbrev PROF_G_HOFS (n : Nat) : Nat := 0x12082C + 0x60 * n
abbrev PROF_G_CSA (n : Nat) : Nat := 0x120830 + 0x60 * n
abbrev PROF_G_CSJ (n : Nat) : Nat := 0x120834 + 0x60 * n
abbrev PROF_G_QA (n : Nat) : Nat := 0x120838 + 0x60 * n
abbrev PROF_G_QJ (n : Nat) : Nat := 0x12083C + 0x60 * n
abbrev PROF_G_LATCH_FB (n : Nat) : Nat := 0x120840 + 0x60 * n
abbrev PROF_G_LATCH_CMD (n : Nat) : Nat := 0x120844 + 0x60 * n
abbrev PROF_G_LATCH_INFO (n : Nat) : Nat := 0x120848 + 0x60 * n
abbrev PROF_G_TAG (n : Nat) : Nat := 0x12084C + 0x60 * n
abbrev PROF_G_RESID (n : Nat) : Nat := 0x120850 + 0x60 * n
-- AXC registers (R217, R218)
abbrev AXC_CMD (k : Nat) : Nat := 0x140000 + 0x10000 * k
abbrev AXC_CMDSTAT (k : Nat) : Nat := 0x140004 + 0x10000 * k
abbrev AXC_STATE (k : Nat) : Nat := 0x140008 + 0x10000 * k
abbrev AXC_EVT (k : Nat) : Nat := 0x140010 + 0x10000 * k
abbrev AXC_EVT_EN (k : Nat) : Nat := 0x140014 + 0x10000 * k
abbrev AXC_CH_CMD (k : Nat) (n : Nat) : Nat := 0x140100 + 0x10000 * k + 0x80 * n
abbrev AXC_CH_CMDSTAT (k : Nat) (n : Nat) : Nat := 0x140104 + 0x10000 * k + 0x80 * n
abbrev AXC_CH_STATE (k : Nat) (n : Nat) : Nat := 0x140108 + 0x10000 * k + 0x80 * n
abbrev AXC_CH_CAUSE (k : Nat) (n : Nat) : Nat := 0x14010C + 0x10000 * k + 0x80 * n
abbrev AXC_CH_CFG_S (k : Nat) (n : Nat) : Nat := 0x140110 + 0x10000 * k + 0x80 * n
abbrev AXC_CH_PER_S (k : Nat) (n : Nat) : Nat := 0x140114 + 0x10000 * k + 0x80 * n
abbrev AXC_CH_DT_S (k : Nat) (n : Nat) : Nat := 0x140118 + 0x10000 * k + 0x80 * n
abbrev AXC_CH_CFG (k : Nat) (n : Nat) : Nat := 0x140120 + 0x10000 * k + 0x80 * n
abbrev AXC_CH_PER (k : Nat) (n : Nat) : Nat := 0x140124 + 0x10000 * k + 0x80 * n
abbrev AXC_CH_DT (k : Nat) (n : Nat) : Nat := 0x140128 + 0x10000 * k + 0x80 * n
abbrev AXC_CH_DLIM (k : Nat) (n : Nat) : Nat := 0x14012C + 0x10000 * k + 0x80 * n
abbrev AXC_CH_FLT (k : Nat) (n : Nat) : Nat := 0x140130 + 0x10000 * k + 0x80 * n
abbrev AXC_CH_TRIP_CNT (k : Nat) (n : Nat) : Nat := 0x140134 + 0x10000 * k + 0x80 * n
abbrev AXC_CH_TRIP_TIME (k : Nat) (n : Nat) : Nat := 0x140138 + 0x10000 * k + 0x80 * n
abbrev AXC_CH_DUTY (k : Nat) (n w : Nat) : Nat := 0x140140 + 0x10000 * k + 0x80 * n + 0x4 * w
abbrev AXC_CH_BADIN_CNT (k : Nat) (n : Nat) : Nat := 0x140150 + 0x10000 * k + 0x80 * n
-- STEP registers (R221)
abbrev STEP_CMD : Nat := 0x180000
abbrev STEP_CMDSTAT : Nat := 0x180004
abbrev STEP_STATE : Nat := 0x180008
abbrev STEP_SRC_LO : Nat := 0x180010
abbrev STEP_SRC_HI : Nat := 0x180014
abbrev STEP_EVT : Nat := 0x180018
abbrev STEP_EVT_EN : Nat := 0x18001C
abbrev STEP_STALL_MAP : Nat := 0x180020
abbrev STEP_TBL_ADDR : Nat := 0x180030
abbrev STEP_TBL_DATA : Nat := 0x180034
abbrev STEP_CH_CFG (n : Nat) : Nat := 0x180100 + 0x40 * n
abbrev STEP_CH_CUR1 (n : Nat) : Nat := 0x180104 + 0x40 * n
abbrev STEP_CH_CUR2 (n : Nat) : Nat := 0x180108 + 0x40 * n
abbrev STEP_CH_VSW (n : Nat) : Nat := 0x18010C + 0x40 * n
abbrev STEP_CH_CHOP (n : Nat) : Nat := 0x180110 + 0x40 * n
abbrev STEP_CH_LOAD (n : Nat) : Nat := 0x180114 + 0x40 * n
abbrev STEP_CH_MOT (n : Nat) : Nat := 0x180118 + 0x40 * n
abbrev STEP_CH_STBY (n : Nat) : Nat := 0x18011C + 0x40 * n
abbrev STEP_CH_MSOFS (n : Nat) : Nat := 0x180120 + 0x40 * n
abbrev STEP_CH_KVINIT (n : Nat) : Nat := 0x180124 + 0x40 * n
abbrev STEP_CH_STAT (n : Nat) : Nat := 0x180128 + 0x40 * n
abbrev STEP_CH_KV (n : Nat) : Nat := 0x18012C + 0x40 * n
abbrev STEP_CH_LOADANG (n : Nat) : Nat := 0x180130 + 0x40 * n
abbrev STEP_CH_LOST_CNT (n : Nat) : Nat := 0x180134 + 0x40 * n
-- ENC registers (R223)
abbrev ENC_CMD : Nat := 0x190000
abbrev ENC_CMDSTAT : Nat := 0x190004
abbrev ENC_STATE : Nat := 0x190008
abbrev ENC_ERR_MAP : Nat := 0x190010
abbrev ENC_EVT_EN : Nat := 0x190014
abbrev ENC_P_PEND (n : Nat) : Nat := 0x190100 + 0x40 * n
abbrev ENC_P_PEND1 (n : Nat) : Nat := 0x190104 + 0x40 * n
abbrev ENC_P_MODE (n : Nat) : Nat := 0x190108 + 0x40 * n
abbrev ENC_P_MODE1 (n : Nat) : Nat := 0x19010C + 0x40 * n
abbrev ENC_P_CPR (n : Nat) : Nat := 0x190110 + 0x40 * n
abbrev ENC_P_EMUL (n : Nat) : Nat := 0x190114 + 0x40 * n
abbrev ENC_P_EOFS (n : Nat) : Nat := 0x190118 + 0x40 * n
abbrev ENC_P_JMP (n : Nat) : Nat := 0x19011C + 0x40 * n
abbrev ENC_P_POS (n : Nat) : Nat := 0x190120 + 0x40 * n
abbrev ENC_P_IDX (n : Nat) : Nat := 0x190124 + 0x40 * n
abbrev ENC_P_IDXINFO (n : Nat) : Nat := 0x190128 + 0x40 * n
abbrev ENC_P_RES (n : Nat) : Nat := 0x19012C + 0x40 * n
abbrev ENC_P_RESINFO (n : Nat) : Nat := 0x190130 + 0x40 * n
abbrev ENC_P_ERR (n : Nat) : Nat := 0x190134 + 0x40 * n
abbrev ENC_P_ERRCNT (n : Nat) : Nat := 0x190138 + 0x40 * n
abbrev ENC_P_AMPL (n : Nat) : Nat := 0x19013C + 0x40 * n
-- SEQ registers (R254, R255)
abbrev SEQ_CMD : Nat := 0x1C0000
abbrev SEQ_CMDSTAT : Nat := 0x1C0004
abbrev SEQ_STATE : Nat := 0x1C0008
abbrev SEQ_EVT : Nat := 0x1C0010
abbrev SEQ_EVT_EN : Nat := 0x1C0014
abbrev SEQ_EVT_MAP : Nat := 0x1C0018
abbrev SEQ_CONFL_CNT : Nat := 0x1C0020
abbrev SEQ_CONFL_SIG : Nat := 0x1C0024
abbrev SEQ_BADACT_CNT : Nat := 0x1C0028
abbrev SEQ_CH_CMD (n : Nat) : Nat := 0x1C0100 + 0x40 * n
abbrev SEQ_CH_CMDSTAT (n : Nat) : Nat := 0x1C0104 + 0x40 * n
abbrev SEQ_CH_STATE (n : Nat) : Nat := 0x1C0108 + 0x40 * n
abbrev SEQ_CH_BASE_LO (n : Nat) : Nat := 0x1C010C + 0x40 * n
abbrev SEQ_CH_BASE_HI (n : Nat) : Nat := 0x1C0110 + 0x40 * n
abbrev SEQ_CH_STEP (n : Nat) : Nat := 0x1C0114 + 0x40 * n
abbrev SEQ_CH_ELAPSED (n : Nat) : Nat := 0x1C0118 + 0x40 * n
abbrev SEQ_CH_LAST (n : Nat) : Nat := 0x1C011C + 0x40 * n
abbrev SEQ_CH_RELEASE (n : Nat) : Nat := 0x1C0120 + 0x40 * n
abbrev SEQ_CH_ERR (n : Nat) : Nat := 0x1C0124 + 0x40 * n
abbrev SEQ_CH_TRANS_CNT (n : Nat) : Nat := 0x1C0128 + 0x40 * n
abbrev SEQ_CH_ABTINFO (n : Nat) : Nat := 0x1C012C + 0x40 * n
abbrev SEQ_CH_ABTIGN (n : Nat) : Nat := 0x1C0130 + 0x40 * n
-- ILK registers (R256)
abbrev ILK_CMD : Nat := 0x1D0000
abbrev ILK_CMDSTAT : Nat := 0x1D0004
abbrev ILK_STATE : Nat := 0x1D0008
abbrev ILK_BANK_ACT : Nat := 0x1D0010
abbrev ILK_EVT : Nat := 0x1D0014
abbrev ILK_EVT_EN : Nat := 0x1D0018
abbrev ILK_RULE_IDX : Nat := 0x1D0020
abbrev ILK_RULE_D (n : Nat) : Nat := 0x1D0040 + 0x4 * n
abbrev ILK_EN (n : Nat) : Nat := 0x1D0100 + 0x4 * n
abbrev ILK_ACT (n : Nat) : Nat := 0x1D0180 + 0x4 * n
abbrev ILK_LATCH (n : Nat) : Nat := 0x1D0200 + 0x4 * n
abbrev ILK_TGRPW (g w : Nat) : Nat := 0x1D0300 + 0x10 * g + 0x4 * w
abbrev ILK_CONFL_CNT : Nat := 0x1D0400
abbrev ILK_CONFL_SIG : Nat := 0x1D0404
abbrev ILK_ACT_CNT : Nat := 0x1D0408
abbrev ILK_LAST_RULE : Nat := 0x1D040C
abbrev ILK_HUT_DROP : Nat := 0x1D0410
abbrev ILK_BADRULE_CNT : Nat := 0x1D0414
-- ADC registers (R276, R277, R279, R280)
abbrev ADC_CMD : Nat := 0x200000
abbrev ADC_CMDSTAT : Nat := 0x200004
abbrev ADC_STATE : Nat := 0x200008
abbrev ADC_EVT : Nat := 0x200010
abbrev ADC_EVT_EN : Nat := 0x200014
abbrev ADC_PIN_CFG : Nat := 0x200018
abbrev ADC_RET_LO : Nat := 0x200020
abbrev ADC_RET_HI : Nat := 0x200024
abbrev ADC_UNCHK : Nat := 0x200028
abbrev ADC_SPARE : Nat := 0x20002C
abbrev ADC_URGDROP_CNT : Nat := 0x200030
abbrev ADC_QOVF_CNT : Nat := 0x200034
abbrev ADC_LATE_CNT : Nat := 0x200038
abbrev ADC_CALERR_CNT : Nat := 0x20003C
abbrev ADC_WIN_MAP0 : Nat := 0x200040
abbrev ADC_WIN_MAP1 : Nat := 0x200044
abbrev ADC_G_CFG_S (n : Nat) : Nat := 0x200100 + 0x40 * n
abbrev ADC_G_MASK_S (n : Nat) : Nat := 0x200104 + 0x40 * n
abbrev ADC_G_PHASE_S (n : Nat) : Nat := 0x200108 + 0x40 * n
abbrev ADC_G_PERIOD_S (n : Nat) : Nat := 0x20010C + 0x40 * n
abbrev ADC_G_CFG (n : Nat) : Nat := 0x200110 + 0x40 * n
abbrev ADC_G_MASK (n : Nat) : Nat := 0x200114 + 0x40 * n
abbrev ADC_G_PHASE (n : Nat) : Nat := 0x200118 + 0x40 * n
abbrev ADC_G_PERIOD (n : Nat) : Nat := 0x20011C + 0x40 * n
abbrev ADC_G_TBTIME (n : Nat) : Nat := 0x200120 + 0x40 * n
abbrev ADC_G_FIRE_CNT (n : Nat) : Nat := 0x200124 + 0x40 * n
abbrev ADC_IN_CFG (n : Nat) : Nat := 0x200600 + 0x10 * n
abbrev ADC_IN_RES (n : Nat) : Nat := 0x200604 + 0x10 * n
abbrev ADC_IN_TS (n : Nat) : Nat := 0x200608 + 0x10 * n
abbrev ADC_IN_CONV (n : Nat) : Nat := 0x20060C + 0x10 * n
abbrev ADC_WIN_CFG (n : Nat) : Nat := 0x200800 + 0x10 * n
abbrev ADC_WIN_LO (n : Nat) : Nat := 0x200804 + 0x10 * n
abbrev ADC_WIN_HI (n : Nat) : Nat := 0x200808 + 0x10 * n
abbrev ADC_WIN_STAT (n : Nat) : Nat := 0x20080C + 0x10 * n
-- SDM registers (R281)
abbrev SDM_CMD : Nat := 0x210000
abbrev SDM_CMDSTAT : Nat := 0x210004
abbrev SDM_STATE : Nat := 0x210008
abbrev SDM_EVT : Nat := 0x210010
abbrev SDM_EVT_EN : Nat := 0x210014
abbrev SDM_OC_MAP0 : Nat := 0x210018
abbrev SDM_OC_MAP1 : Nat := 0x21001C
abbrev SDM_STUCK_MAP0 : Nat := 0x210020
abbrev SDM_STUCK_MAP1 : Nat := 0x210024
abbrev SDM_CLK_S (n : Nat) : Nat := 0x210040 + 0x8 * n
abbrev SDM_CLK (n : Nat) : Nat := 0x210044 + 0x8 * n
abbrev SDM_CH_CFG_S (n : Nat) : Nat := 0x210400 + 0x20 * n
abbrev SDM_CH_CFG (n : Nat) : Nat := 0x210404 + 0x20 * n
abbrev SDM_CH_OCLIM (n : Nat) : Nat := 0x210408 + 0x20 * n
abbrev SDM_CH_GAIN (n : Nat) : Nat := 0x21040C + 0x20 * n
abbrev SDM_CH_OFS (n : Nat) : Nat := 0x210410 + 0x20 * n
abbrev SDM_CH_VAL (n : Nat) : Nat := 0x210414 + 0x20 * n
abbrev SDM_CH_OC_CNT (n : Nat) : Nat := 0x210418 + 0x20 * n
-- DAC registers (R283)
abbrev DAC_CMD : Nat := 0x220000
abbrev DAC_CMDSTAT : Nat := 0x220004
abbrev DAC_STATE : Nat := 0x220008
abbrev DAC_EVT : Nat := 0x220010
abbrev DAC_EVT_EN : Nat := 0x220014
abbrev DAC_CH_CFG (n : Nat) : Nat := 0x220100 + 0x20 * n
abbrev DAC_CH_GAIN (n : Nat) : Nat := 0x220104 + 0x20 * n
abbrev DAC_CH_OFS (n : Nat) : Nat := 0x220108 + 0x20 * n
abbrev DAC_CH_INIT (n : Nat) : Nat := 0x22010C + 0x20 * n
abbrev DAC_CH_CODE (n : Nat) : Nat := 0x220110 + 0x20 * n
abbrev DAC_CH_CLAMP_CNT (n : Nat) : Nat := 0x220114 + 0x20 * n
abbrev DAC_CH_BADIN_CNT (n : Nat) : Nat := 0x220118 + 0x20 * n
abbrev DAC_CH_QOVF_CNT (n : Nat) : Nat := 0x22011C + 0x20 * n
-- FIO registers (R299)
abbrev FIO_CMD : Nat := 0x240000
abbrev FIO_CMDSTAT : Nat := 0x240004
abbrev FIO_STATE : Nat := 0x240008
abbrev FIO_EVT : Nat := 0x240010
abbrev FIO_EVT_EN : Nat := 0x240014
abbrev FIO_SUP : Nat := 0x240018
abbrev FIO_SUP_STAT : Nat := 0x24001C
abbrev FIO_DIP_CNT : Nat := 0x240020
abbrev FIO_IN_RAW : Nat := 0x240024
abbrev FIO_IN_FILT : Nat := 0x240028
abbrev FIO_OUT_SET : Nat := 0x24002C
abbrev FIO_OUT_RB : Nat := 0x240030
abbrev FIO_OUT_LATCH : Nat := 0x240034
abbrev FIO_CPL_FAULT : Nat := 0x240038
abbrev FIO_TSF_LO : Nat := 0x240040
abbrev FIO_TSF_HI : Nat := 0x240044
abbrev FIO_TSF_LVL : Nat := 0x240048
abbrev FIO_TSF_LOST : Nat := 0x24004C
abbrev FIO_TSEN : Nat := 0x240050
abbrev FIO_OVL_CNT : Nat := 0x240054
abbrev FIO_RBERR_CNT : Nat := 0x240058
abbrev FIO_IN_CFG (n : Nat) : Nat := 0x240100 + 0x4 * n
abbrev FIO_OUT_CFG (n : Nat) : Nat := 0x240200 + 0x8 * n
abbrev FIO_OUT_STAT (n : Nat) : Nat := 0x240204 + 0x8 * n
-- SAFE registers (R321)
abbrev SAFE_CMD : Nat := 0x250000
abbrev SAFE_CMDSTAT : Nat := 0x250004
abbrev SAFE_STATE : Nat := 0x250008
abbrev SAFE_STRAP : Nat := 0x250010
abbrev SAFE_STRAP_DECL : Nat := 0x250014
abbrev SAFE_CRC : Nat := 0x250018
abbrev SAFE_CONFIRM : Nat := 0x25001C
abbrev SAFE_GSTATE : Nat := 0x250020
abbrev SAFE_EVT : Nat := 0x250024
abbrev SAFE_EVT_EN : Nat := 0x250028
abbrev SAFE_SEL : Nat := 0x25002C
abbrev SAFE_SEL_SET : Nat := 0x250030
abbrev SAFE_SEL_CLR : Nat := 0x250034
abbrev SAFE_STOIN : Nat := 0x250038
abbrev SAFE_SWDEM : Nat := 0x25003C
abbrev SAFE_G_CAUSE (n : Nat) : Nat := 0x250040 + 0x4 * n
abbrev SAFE_G_LIVE (n : Nat) : Nat := 0x250060 + 0x4 * n
abbrev SAFE_FAULT_CNT : Nat := 0x250080
abbrev SAFE_VIOL_CNT : Nat := 0x250084
abbrev SAFE_RESET_CNT : Nat := 0x250088
abbrev SAFE_RESETFAIL_CNT : Nat := 0x25008C
abbrev SAFE_ACK_IGN_CNT : Nat := 0x250090
abbrev SAFE_CH_SPEED (n : Nat) : Nat := 0x2500A0 + 0x4 * n
abbrev SAFE_G_CFG (n : Nat) : Nat := 0x250100 + 0x4 * n
abbrev SAFE_OUTGRP0 : Nat := 0x250120
abbrev SAFE_OUTGRP1 : Nat := 0x250124
abbrev SAFE_CH_W0 (n : Nat) : Nat := 0x250200 + 0x40 * n
abbrev SAFE_CH_W10 (n : Nat) : Nat := 0x250228 + 0x40 * n
abbrev SAFE_CH_W11 (n w : Nat) : Nat := 0x25022C + 0x40 * n + 0x4 * w
abbrev SAFE_CH_W (n w : Nat) : Nat := 0x250200 + 0x40 * n + 0x4 * w
-- OCU registers (R354, R375)
abbrev OCU_CMD (k : Nat) : Nat := 0x280000 + 0x10000 * k
abbrev OCU_CMDSTAT (k : Nat) : Nat := 0x280004 + 0x10000 * k
abbrev OCU_STATE (k : Nat) : Nat := 0x280008 + 0x10000 * k
abbrev OCU_EVT (k : Nat) : Nat := 0x280010 + 0x10000 * k
abbrev OCU_EVT_EN (k : Nat) : Nat := 0x280014 + 0x10000 * k
abbrev OCU_CAIRN_INFO (k : Nat) : Nat := 0x280020 + 0x10000 * k
abbrev OCU_OWNCONF_CNT (k : Nat) : Nat := 0x280024 + 0x10000 * k
abbrev OCU_MBDROP_CNT (k : Nat) : Nat := 0x280028 + 0x10000 * k
abbrev OCU_ORPHAN_CNT (k : Nat) : Nat := 0x280030 + 0x10000 * k
abbrev OCU_NODEST_CNT (k : Nat) : Nat := 0x280034 + 0x10000 * k
abbrev OCU_BRDROP_CNT (k : Nat) : Nat := 0x280038 + 0x10000 * k
abbrev OCU_DYNHELD_CNT (k : Nat) : Nat := 0x28003C + 0x10000 * k
abbrev OCU_P_CFG (k : Nat) (n : Nat) : Nat := 0x280040 + 0x10000 * k + 0x20 * n
abbrev OCU_P_STAT (k : Nat) (n : Nat) : Nat := 0x280044 + 0x10000 * k + 0x20 * n
abbrev OCU_P_CRC_CNT (k : Nat) (n : Nat) : Nat := 0x280048 + 0x10000 * k + 0x20 * n
abbrev OCU_P_STOMP_CNT (k : Nat) (n : Nat) : Nat := 0x28004C + 0x10000 * k + 0x20 * n
abbrev OCU_P_BLKERR_CNT (k : Nat) (n : Nat) : Nat := 0x280050 + 0x10000 * k + 0x20 * n
abbrev OCU_P_RXFRM_CNT (k : Nat) (n : Nat) : Nat := 0x280054 + 0x10000 * k + 0x20 * n
abbrev OCU_SCH_ID_S (k : Nat) : Nat := 0x280100 + 0x10000 * k
abbrev OCU_SCH_NODE_S (k : Nat) : Nat := 0x280104 + 0x10000 * k
abbrev OCU_SCH_TS_S (k : Nat) : Nat := 0x280108 + 0x10000 * k
abbrev OCU_SCH_LEN_S (k : Nat) : Nat := 0x28010C + 0x10000 * k
abbrev OCU_SCH_OWN_S (k : Nat) (n : Nat) : Nat := 0x280110 + 0x10000 * k + 0x4 * n
abbrev OCU_SCH_ID (k : Nat) : Nat := 0x280180 + 0x10000 * k
abbrev OCU_SCH_NODE (k : Nat) : Nat := 0x280184 + 0x10000 * k
abbrev OCU_SCH_TS (k : Nat) : Nat := 0x280188 + 0x10000 * k
abbrev OCU_SCH_LEN (k : Nat) : Nat := 0x28018C + 0x10000 * k
abbrev OCU_SCH_OWN (k : Nat) (n : Nat) : Nat := 0x280190 + 0x10000 * k + 0x4 * n
abbrev OCU_RRA_CFG (k : Nat) : Nat := 0x280200 + 0x10000 * k
abbrev OCU_RRA_REQ_CNT (k : Nat) : Nat := 0x280204 + 0x10000 * k
abbrev OCU_RRA_TMO_CNT (k : Nat) : Nat := 0x280208 + 0x10000 * k
abbrev OCU_RRA_ERR_CNT (k : Nat) : Nat := 0x28020C + 0x10000 * k
abbrev OCU_RRA_LASTERR (k : Nat) : Nat := 0x280210 + 0x10000 * k
abbrev OCU_RRA_SRV_CNT (k : Nat) : Nat := 0x280214 + 0x10000 * k
abbrev OCU_RRA_DUP_CNT (k : Nat) : Nat := 0x280218 + 0x10000 * k
abbrev OCU_MBTX_CTL (k : Nat) : Nat := 0x280300 + 0x10000 * k
abbrev OCU_MBTX_STAT (k : Nat) : Nat := 0x280304 + 0x10000 * k
abbrev OCU_MBRX_STAT (k : Nat) (n : Nat) : Nat := 0x280320 + 0x10000 * k + 0x4 * n
abbrev OCU_BTX_SRC_LO (k : Nat) : Nat := 0x280400 + 0x10000 * k
abbrev OCU_BTX_SRC_HI (k : Nat) : Nat := 0x280404 + 0x10000 * k
abbrev OCU_BTX_LEN (k : Nat) : Nat := 0x280408 + 0x10000 * k
abbrev OCU_BTX_DST (k : Nat) : Nat := 0x28040C + 0x10000 * k
abbrev OCU_BTX_STAT (k : Nat) : Nat := 0x280410 + 0x10000 * k
abbrev OCU_BTX_ACKED (k : Nat) : Nat := 0x280414 + 0x10000 * k
abbrev OCU_BRX_BASE_LO (k : Nat) (n : Nat) : Nat := 0x280440 + 0x10000 * k + 0x10 * n
abbrev OCU_BRX_BASE_HI (k : Nat) (n : Nat) : Nat := 0x280444 + 0x10000 * k + 0x10 * n
abbrev OCU_BRX_SIZE (k : Nat) (n : Nat) : Nat := 0x280448 + 0x10000 * k + 0x10 * n
abbrev OCU_BRX_EXP (k : Nat) (n : Nat) : Nat := 0x28044C + 0x10000 * k + 0x10 * n
abbrev OCUB_RCT (n : Nat) : Nat := 0x280600 + 0x4 * n
abbrev OCU_MBTX_DATA (k : Nat) (n : Nat) : Nat := 0x281000 + 0x10000 * k + 0x4 * n
abbrev OCU_MBRX_DATA (k : Nat) (n w : Nat) : Nat := 0x281200 + 0x10000 * k + 0x200 * n + 0x4 * w
abbrev OCU_TIM_CFG (k : Nat) : Nat := 0x280700 + 0x10000 * k
abbrev OCU_TIM_STAT (k : Nat) : Nat := 0x280704 + 0x10000 * k
abbrev OCU_D_E (k : Nat) : Nat := 0x280708 + 0x10000 * k
abbrev OCU_D_W (k : Nat) : Nat := 0x28070C + 0x10000 * k
abbrev OCU_DLOOP (k : Nat) : Nat := 0x280710 + 0x10000 * k
abbrev OCU_OFFSET (k : Nat) : Nat := 0x280714 + 0x10000 * k
abbrev OCU_HEAD (k : Nat) : Nat := 0x280718 + 0x10000 * k
abbrev OCU_RINGPOS (k : Nat) : Nat := 0x28071C + 0x10000 * k
abbrev OCU_WINERR_CNT (k : Nat) : Nat := 0x280720 + 0x10000 * k
abbrev OCU_GUARD_CNT (k : Nat) : Nat := 0x280724 + 0x10000 * k
abbrev OCU_GUARDCOL_CNT (k : Nat) : Nat := 0x280728 + 0x10000 * k
abbrev OCU_COLL_CNT (k : Nat) : Nat := 0x28072C + 0x10000 * k
abbrev OCU_JUMPREF_CNT (k : Nat) : Nat := 0x280730 + 0x10000 * k
abbrev OCU_TAKE_CNT (k : Nat) : Nat := 0x280734 + 0x10000 * k
abbrev OCU_P_HOP (k : Nat) (n : Nat) : Nat := 0x280740 + 0x10000 * k + 0x10 * n
abbrev OCU_P_ASYM (k : Nat) (n : Nat) : Nat := 0x280744 + 0x10000 * k + 0x10 * n
abbrev OCU_P_LOOP (k : Nat) (n : Nat) : Nat := 0x280748 + 0x10000 * k + 0x10 * n
abbrev OCU_P_LOOP_CNT (k : Nat) (n : Nat) : Nat := 0x28074C + 0x10000 * k + 0x10 * n
abbrev OCU_TOPO (k : Nat) (n : Nat) : Nat := 0x280780 + 0x10000 * k + 0x4 * n
-- TB registers (R390)
abbrev TB_CMD : Nat := 0x2C0000
abbrev TB_CMDSTAT : Nat := 0x2C0004
abbrev TB_STATE : Nat := 0x2C0008
abbrev TB_TIME_LO : Nat := 0x2C0010
abbrev TB_TIME_HI : Nat := 0x2C0014
abbrev TB_FRAC : Nat := 0x2C0018
abbrev TB_INC : Nat := 0x2C0020
abbrev TB_CFG : Nat := 0x2C0024
abbrev TB_SLEW : Nat := 0x2C0028
abbrev TB_JUMP_LIM : Nat := 0x2C002C
abbrev TB_REMAIN : Nat := 0x2C0030
abbrev TB_ADJ_VAL : Nat := 0x2C0034
abbrev TB_SET_NS : Nat := 0x2C0038
abbrev TB_SET_FRAC : Nat := 0x2C003C
abbrev TB_SET_ERA : Nat := 0x2C0040
abbrev TB_STAT : Nat := 0x2C0044
abbrev TB_EVT : Nat := 0x2C0048
abbrev TB_EVT_EN : Nat := 0x2C004C
abbrev TB_JUMPREF_CNT : Nat := 0x2C0050
abbrev TB_JUMP_LAST : Nat := 0x2C0054
abbrev TB_SNAP_NS : Nat := 0x2C0060
abbrev TB_SNAP_ERA : Nat := 0x2C0064
abbrev TB_SNAP_CALS_LO : Nat := 0x2C0068
abbrev TB_SNAP_CALS_HI : Nat := 0x2C006C
-- ETH registers (R402)
abbrev ETH_CMD (k : Nat) : Nat := 0x2D0000 + 0x10000 * k
abbrev ETH_CMDSTAT (k : Nat) : Nat := 0x2D0004 + 0x10000 * k
abbrev ETH_STATE (k : Nat) : Nat := 0x2D0008 + 0x10000 * k
abbrev ETH_CFG (k : Nat) : Nat := 0x2D0010 + 0x10000 * k
abbrev ETH_MAC_LO (k : Nat) : Nat := 0x2D0014 + 0x10000 * k
abbrev ETH_MAC_HI (k : Nat) : Nat := 0x2D0018 + 0x10000 * k
abbrev ETH_EVT (k : Nat) : Nat := 0x2D001C + 0x10000 * k
abbrev ETH_EVT_EN (k : Nat) : Nat := 0x2D0020 + 0x10000 * k
abbrev ETH_TXLAT (k : Nat) : Nat := 0x2D0024 + 0x10000 * k
abbrev ETH_RXLAT (k : Nat) : Nat := 0x2D0028 + 0x10000 * k
abbrev ETH_LT_TOL (k : Nat) : Nat := 0x2D002C + 0x10000 * k
abbrev ETH_MDIO_CTL (k : Nat) : Nat := 0x2D0030 + 0x10000 * k
abbrev ETH_MDIO_DATA (k : Nat) : Nat := 0x2D0034 + 0x10000 * k
abbrev ETH_TXFRM_CNT (k : Nat) : Nat := 0x2D0040 + 0x10000 * k
abbrev ETH_LATE_CNT (k : Nat) : Nat := 0x2D0044 + 0x10000 * k
abbrev ETH_RXFRM_CNT (k : Nat) : Nat := 0x2D0048 + 0x10000 * k
abbrev ETH_RXCRC_CNT (k : Nat) : Nat := 0x2D004C + 0x10000 * k
abbrev ETH_RXLEN_CNT (k : Nat) : Nat := 0x2D0050 + 0x10000 * k
abbrev ETH_RXNODESC_CNT (k : Nat) : Nat := 0x2D0054 + 0x10000 * k
abbrev ETH_RXWARM_CNT (k : Nat) : Nat := 0x2D0058 + 0x10000 * k
abbrev ETH_Q_TXBASE_LO (k : Nat) (n : Nat) : Nat := 0x2D0100 + 0x10000 * k + 0x40 * n
abbrev ETH_Q_TXBASE_HI (k : Nat) (n : Nat) : Nat := 0x2D0104 + 0x10000 * k + 0x40 * n
abbrev ETH_Q_TXCNT (k : Nat) (n : Nat) : Nat := 0x2D0108 + 0x10000 * k + 0x40 * n
abbrev ETH_Q_TXHEAD (k : Nat) (n : Nat) : Nat := 0x2D010C + 0x10000 * k + 0x40 * n
abbrev ETH_Q_TXTAIL (k : Nat) (n : Nat) : Nat := 0x2D0110 + 0x10000 * k + 0x40 * n
abbrev ETH_Q_TXCFG (k : Nat) (n : Nat) : Nat := 0x2D0114 + 0x10000 * k + 0x40 * n
abbrev ETH_Q_RXBASE_LO (k : Nat) (n : Nat) : Nat := 0x2D0120 + 0x10000 * k + 0x40 * n
abbrev ETH_Q_RXBASE_HI (k : Nat) (n : Nat) : Nat := 0x2D0124 + 0x10000 * k + 0x40 * n
abbrev ETH_Q_RXCNT (k : Nat) (n : Nat) : Nat := 0x2D0128 + 0x10000 * k + 0x40 * n
abbrev ETH_Q_RXHEAD (k : Nat) (n : Nat) : Nat := 0x2D012C + 0x10000 * k + 0x40 * n
abbrev ETH_Q_RXTAIL (k : Nat) (n : Nat) : Nat := 0x2D0130 + 0x10000 * k + 0x40 * n
abbrev ETH_Q_RXCFG (k : Nat) (n : Nat) : Nat := 0x2D0134 + 0x10000 * k + 0x40 * n
-- CAN registers (R421, R423)
abbrev CAN_CMD (k : Nat) : Nat := 0x300000 + 0x10000 * k
abbrev CAN_CMDSTAT (k : Nat) : Nat := 0x300004 + 0x10000 * k
abbrev CAN_STATE (k : Nat) : Nat := 0x300008 + 0x10000 * k
abbrev CAN_CFG (k : Nat) : Nat := 0x300010 + 0x10000 * k
abbrev CAN_NBT (k : Nat) : Nat := 0x300014 + 0x10000 * k
abbrev CAN_DBT (k : Nat) : Nat := 0x300018 + 0x10000 * k
abbrev CAN_TDC (k : Nat) : Nat := 0x30001C + 0x10000 * k
abbrev CAN_ERR (k : Nat) : Nat := 0x300020 + 0x10000 * k
abbrev CAN_EVT (k : Nat) : Nat := 0x300024 + 0x10000 * k
abbrev CAN_EVT_EN (k : Nat) : Nat := 0x300028 + 0x10000 * k
abbrev CAN_WAKE_ID (k : Nat) : Nat := 0x30002C + 0x10000 * k
abbrev CAN_WAKE_IDM (k : Nat) : Nat := 0x300030 + 0x10000 * k
abbrev CAN_WAKE_D (k : Nat) (n : Nat) : Nat := 0x300034 + 0x10000 * k + 0x4 * n
abbrev CAN_WAKE_DM (k : Nat) (n : Nat) : Nat := 0x30003C + 0x10000 * k + 0x4 * n
abbrev CAN_TXOK_CNT (k : Nat) : Nat := 0x300050 + 0x10000 * k
abbrev CAN_RXOK_CNT (k : Nat) : Nat := 0x300054 + 0x10000 * k
abbrev CAN_RXLOST_CNT (k : Nat) : Nat := 0x300058 + 0x10000 * k
abbrev CAN_BUSOFF_CNT (k : Nat) : Nat := 0x30005C + 0x10000 * k
abbrev CAN_PEROVR_CNT (k : Nat) : Nat := 0x300060 + 0x10000 * k
abbrev CAN_DUPID_CNT (k : Nat) : Nat := 0x300064 + 0x10000 * k
abbrev CAN_WITHHELD_CNT (k : Nat) : Nat := 0x300068 + 0x10000 * k
abbrev CAN_RET (k : Nat) (n : Nat) : Nat := 0x300070 + 0x10000 * k + 0x4 * n
abbrev CAN_RXMAP (k : Nat) (n : Nat) : Nat := 0x300078 + 0x10000 * k + 0x4 * n
abbrev CAN_TXPEND (k : Nat) (n : Nat) : Nat := 0x300080 + 0x10000 * k + 0x4 * n
abbrev CAN_B_CFG (k : Nat) (n : Nat) : Nat := 0x301000 + 0x10000 * k + 0x60 * n
abbrev CAN_B_ID (k : Nat) (n : Nat) : Nat := 0x301004 + 0x10000 * k + 0x60 * n
abbrev CAN_B_MASK (k : Nat) (n : Nat) : Nat := 0x301008 + 0x10000 * k + 0x60 * n
abbrev CAN_B_FMT (k : Nat) (n : Nat) : Nat := 0x30100C + 0x10000 * k + 0x60 * n
abbrev CAN_B_STAT (k : Nat) (n : Nat) : Nat := 0x301010 + 0x10000 * k + 0x60 * n
abbrev CAN_B_RXID (k : Nat) (n : Nat) : Nat := 0x301014 + 0x10000 * k + 0x60 * n
abbrev CAN_B_TS (k : Nat) (n : Nat) : Nat := 0x301018 + 0x10000 * k + 0x60 * n
abbrev CAN_B_D (k : Nat) (n w : Nat) : Nat := 0x301020 + 0x10000 * k + 0x60 * n + 0x4 * w
-- WSCH registers (R442)
abbrev WSCH_CMD : Nat := 0x380000
abbrev WSCH_CMDSTAT : Nat := 0x380004
abbrev WSCH_STATE : Nat := 0x380008
abbrev WSCH_CFG_PEND : Nat := 0x380010
abbrev WSCH_CFG : Nat := 0x380014
abbrev WSCH_CONF : Nat := 0x380018
abbrev WSCH_EVT : Nat := 0x38001C
abbrev WSCH_EVT_EN : Nat := 0x380020
abbrev WSCH_CANCEL : Nat := 0x380024
abbrev WSCH_CANCEL_RES : Nat := 0x380028
abbrev WSCH_DISP_CNT : Nat := 0x38002C
abbrev WSCH_AFF_HIT_CNT : Nat := 0x380030
abbrev WSCH_AFF_AGED_CNT : Nat := 0x380034
abbrev WSCH_CANCEL_CNT : Nat := 0x380038
abbrev WSCH_TRDROP_CNT : Nat := 0x38003C
abbrev WSCH_LOST : Nat := 0x380040
abbrev WSCH_LOST_CNT : Nat := 0x380044
abbrev WSCH_DONE : Nat := 0x380048
abbrev WSCH_CORE_BUSY : Nat := 0x38004C
abbrev WSCH_DISP_D (n : Nat) : Nat := 0x380050 + 0x4 * n
abbrev WSCH_GRP_DEF (n : Nat) : Nat := 0x380100 + 0x4 * n
abbrev WSCH_AFF (n : Nat) : Nat := 0x380200 + 0x4 * n
-- QUE registers (R444)
abbrev QUE_CMD : Nat := 0x390000
abbrev QUE_CMDSTAT : Nat := 0x390004
abbrev QUE_STATE : Nat := 0x390008
abbrev QUE_EVT : Nat := 0x390010
abbrev QUE_EVT_EN : Nat := 0x390014
abbrev QUE_FULL_MAP (n : Nat) : Nat := 0x390020 + 0x4 * n
abbrev QUE_RETRY_CNT : Nat := 0x390030
abbrev QUE_STALL_CNT : Nat := 0x390034
abbrev QUE_MEMERR_CNT : Nat := 0x390038
abbrev QUE_ENQ_D (n : Nat) : Nat := 0x390040 + 0x4 * n
abbrev QUE_ENQ_COMMIT : Nat := 0x390080
abbrev QUE_ENQ_RES : Nat := 0x390084
abbrev QUE_EVQ (n : Nat) : Nat := 0x390100 + 0x4 * n
abbrev QUE_Q_CFG (n : Nat) : Nat := 0x391000 + 0x20 * n
abbrev QUE_Q_BASE_LO (n : Nat) : Nat := 0x391004 + 0x20 * n
abbrev QUE_Q_BASE_HI (n : Nat) : Nat := 0x391008 + 0x20 * n
abbrev QUE_Q_PEND_LO (n : Nat) : Nat := 0x39100C + 0x20 * n
abbrev QUE_Q_PEND_HI (n : Nat) : Nat := 0x391010 + 0x20 * n
abbrev QUE_Q_LVL (n : Nat) : Nat := 0x391014 + 0x20 * n
abbrev QUE_Q_ENQ_CNT (n : Nat) : Nat := 0x391018 + 0x20 * n
abbrev QUE_Q_DEQ_CNT (n : Nat) : Nat := 0x39101C + 0x20 * n
-- MEMC registers (R452)
abbrev MEMC_CMD : Nat := 0x3A0000
abbrev MEMC_CMDSTAT : Nat := 0x3A0004
abbrev MEMC_STATE : Nat := 0x3A0008
abbrev MEMC_DEV : Nat := 0x3A0010
abbrev MEMC_USABLE : Nat := 0x3A0014
abbrev MEMC_ARB : Nat := 0x3A0018
abbrev MEMC_OST : Nat := 0x3A001C
abbrev MEMC_EVT : Nat := 0x3A0020
abbrev MEMC_EVT_EN : Nat := 0x3A0024
abbrev MEMC_CE_CNT : Nat := 0x3A0028
abbrev MEMC_UE_CNT : Nat := 0x3A002C
abbrev MEMC_CE_ADDR_LO : Nat := 0x3A0030
abbrev MEMC_CE_ADDR_HI : Nat := 0x3A0034
abbrev MEMC_UE_ADDR_LO : Nat := 0x3A0038
abbrev MEMC_UE_ADDR_HI : Nat := 0x3A003C
abbrev MEMC_SCRUB_CFG : Nat := 0x3A0040
abbrev MEMC_SCRUB_POS : Nat := 0x3A0044
abbrev MEMC_REMAP_ROW : Nat := 0x3A0048
abbrev MEMC_REMAP_USED : Nat := 0x3A004C
abbrev MEMC_TEMP : Nat := 0x3A0050
-- SREC registers (R466)
abbrev SREC_CMD : Nat := 0x3B0000
abbrev SREC_CMDSTAT : Nat := 0x3B0004
abbrev SREC_STATE : Nat := 0x3B0008
abbrev SREC_CFG : Nat := 0x3B0010
abbrev SREC_BUF_BASE_LO_S : Nat := 0x3B0020
abbrev SREC_BUF_BASE_HI_S : Nat := 0x3B0024
abbrev SREC_BUF_NBLK_S : Nat := 0x3B0028
abbrev SREC_BUF_BASE_LO : Nat := 0x3B0030
abbrev SREC_BUF_BASE_HI : Nat := 0x3B0034
abbrev SREC_BUF_NBLK : Nat := 0x3B0038
abbrev SREC_WBLK : Nat := 0x3B0040
abbrev SREC_BSEQ_NEW : Nat := 0x3B0044
abbrev SREC_BSEQ_OLD : Nat := 0x3B0048
abbrev SREC_LOCK_CNT : Nat := 0x3B004C
abbrev SREC_EVT : Nat := 0x3B0050
abbrev SREC_EVT_EN : Nat := 0x3B0054
abbrev SREC_SAMPLE_CNT : Nat := 0x3B0058
abbrev SREC_DROP_CNT : Nat := 0x3B005C
abbrev SREC_BYTES_LO : Nat := 0x3B0060
abbrev SREC_BYTES_HI : Nat := 0x3B0064
abbrev SREC_FRAME_BYTES : Nat := 0x3B0068
abbrev SREC_TRIG_CFG : Nat := 0x3B0080
abbrev SREC_TRIG_VAL : Nat := 0x3B0084
abbrev SREC_TRIG_PRE : Nat := 0x3B0088
abbrev SREC_TRIG_POST : Nat := 0x3B008C
abbrev SREC_CAP_SPAN (n : Nat) : Nat := 0x3B0090 + 0x4 * n
abbrev SREC_CAP_STAT (n : Nat) : Nat := 0x3B00C0 + 0x10 * n
abbrev SREC_CAP_FIRST (n : Nat) : Nat := 0x3B00C4 + 0x10 * n
abbrev SREC_CAP_BSEQ0 (n : Nat) : Nat := 0x3B00C8 + 0x10 * n
abbrev SREC_CAP_BSEQ1 (n : Nat) : Nat := 0x3B00CC + 0x10 * n
abbrev SREC_RD_SRC : Nat := 0x3B0100
abbrev SREC_RD_NBLK : Nat := 0x3B0104
abbrev SREC_RD_DST_LO : Nat := 0x3B0108
abbrev SREC_RD_DST_HI : Nat := 0x3B010C
abbrev SREC_RD_CTL : Nat := 0x3B0110
abbrev SREC_RD_STAT : Nat := 0x3B0114
-- BOOT registers (R494)
abbrev BOOT_CMD : Nat := 0x020000
abbrev BOOT_CMDSTAT : Nat := 0x020004
abbrev BOOT_STATE : Nat := 0x020008
abbrev BOOT_RUN : Nat := 0x020010
abbrev BOOT_GEN : Nat := 0x020014
abbrev BOOT_SLOTA_RES : Nat := 0x020018
abbrev BOOT_SLOTB_RES : Nat := 0x02001C
abbrev BOOT_VRES : Nat := 0x020020
abbrev BOOT_WCAUSE : Nat := 0x020024
abbrev BOOT_TIME : Nat := 0x020028
abbrev BOOT_WDOG : Nat := 0x020030
abbrev BOOT_WDOG_KICK : Nat := 0x020034
abbrev BOOT_OTP_ADDR : Nat := 0x020040
abbrev BOOT_OTP_DATA : Nat := 0x020044
abbrev BOOT_ATT_LO : Nat := 0x020048
abbrev BOOT_ATT_HI : Nat := 0x02004C
abbrev BOOT_DRAMINIT : Nat := 0x020050
abbrev BOOT_IDSTAT : Nat := 0x020054
abbrev BOOT_NONCE (n : Nat) : Nat := 0x020060 + 0x4 * n
abbrev BOOT_IDPUB (n : Nat) : Nat := 0x020080 + 0x4 * n
abbrev BOOT_SC_CMD : Nat := 0x020100
abbrev BOOT_SC_CMDSTAT : Nat := 0x020104
abbrev BOOT_SC_STATE : Nat := 0x020108
abbrev BOOT_SC_DATA (n : Nat) : Nat := 0x020110 + 0x4 * n
abbrev BOOT_EVT : Nat := 0x020140
abbrev BOOT_EVT_EN : Nat := 0x020144
-- KEC registers (R497)
abbrev KEC_CMD : Nat := 0x030000
abbrev KEC_CMDSTAT : Nat := 0x030004
abbrev KEC_STATE : Nat := 0x030008
abbrev KEC_SRC_LO : Nat := 0x030010
abbrev KEC_SRC_HI : Nat := 0x030014
abbrev KEC_LEN : Nat := 0x030018
abbrev KEC_OUTLEN : Nat := 0x03001C
abbrev KEC_OUT (n : Nat) : Nat := 0x030040 + 0x4 * n
-- XSPI registers (R499)
abbrev XSPI_CMD : Nat := 0x3D0000
abbrev XSPI_CMDSTAT : Nat := 0x3D0004
abbrev XSPI_STATE : Nat := 0x3D0008
abbrev XSPI_FADDR : Nat := 0x3D0010
abbrev XSPI_MADDR_LO : Nat := 0x3D0014
abbrev XSPI_MADDR_HI : Nat := 0x3D0018
abbrev XSPI_LEN : Nat := 0x3D001C
abbrev XSPI_DEV : Nat := 0x3D0020
abbrev XSPI_EVT : Nat := 0x3D0024
abbrev XSPI_EVT_EN : Nat := 0x3D0028
abbrev XSPI_ERR_CNT : Nat := 0x3D002C
-- PCIE registers (R513)
abbrev PCIE_CMD : Nat := 0x3C0000
abbrev PCIE_CMDSTAT : Nat := 0x3C0004
abbrev PCIE_STATE : Nat := 0x3C0008
abbrev PCIE_LINK : Nat := 0x3C0010
abbrev PCIE_CFG : Nat := 0x3C0014
abbrev PCIE_ID : Nat := 0x3C0018
abbrev PCIE_SUBSYS : Nat := 0x3C001C
abbrev PCIE_EVT : Nat := 0x3C0020
abbrev PCIE_EVT_EN : Nat := 0x3C0024
abbrev PCIE_MB_BASE : Nat := 0x3C0028
abbrev PCIE_MB_QUE : Nat := 0x3C002C
abbrev PCIE_MB_ANSWER : Nat := 0x3C0030
abbrev PCIE_MB_PEND : Nat := 0x3C0034
abbrev PCIE_HEV_EN : Nat := 0x3C0040
abbrev PCIE_MSIX_RAISE : Nat := 0x3C0044
abbrev PCIE_RWERR_ADDR : Nat := 0x3C0048
abbrev PCIE_RWERR_CNT : Nat := 0x3C004C
abbrev PCIE_BEERR_CNT : Nat := 0x3C0050
abbrev PCIE_DBOVR_CNT : Nat := 0x3C0054
abbrev PCIE_AER_CNT : Nat := 0x3C0058
abbrev PCIE_RDLAT : Nat := 0x3C005C
abbrev PCIE_PERST_CNT : Nat := 0x3C0060
-- FLT registers (R534)
abbrev FLT_CMD : Nat := 0x040000
abbrev FLT_CMDSTAT : Nat := 0x040004
abbrev FLT_STATE : Nat := 0x040008
abbrev FLT_CFG : Nat := 0x040010
abbrev FLT_EVT : Nat := 0x040014
abbrev FLT_EVT_EN : Nat := 0x040018
abbrev FLT_SUMMARY : Nat := 0x04001C
abbrev FLT_LOG_D (n : Nat) : Nat := 0x040020 + 0x4 * n
abbrev FLT_LOG_LVL : Nat := 0x040030
abbrev FLT_LOG_LOST : Nat := 0x040034
abbrev FLT_FAULT_CNT : Nat := 0x040038
abbrev FLT_DENY_CNT : Nat := 0x04003C
abbrev FLT_DENY_LAST : Nat := 0x040040
abbrev FLT_ROPE : Nat := 0x040044
abbrev FLT_VMON : Nat := 0x040048
abbrev FLT_BLKRET (n : Nat) : Nat := 0x040050 + 0x4 * n
abbrev FLT_ST_CFG : Nat := 0x040058
abbrev FLT_ST_STAT : Nat := 0x04005C
abbrev FLT_RET_IDX : Nat := 0x040060
abbrev FLT_RET_ENT : Nat := 0x040064
abbrev FLT_BKT_SEL : Nat := 0x040068
abbrev FLT_BKT_LVL : Nat := 0x04006C
abbrev FLT_BKT_CFG (c : Nat) : Nat := 0x040100 + 4 * c
abbrev FLT_SC_CMD : Nat := 0x040200
abbrev FLT_SC_CMDSTAT : Nat := 0x040204
abbrev FLT_SC_STATE : Nat := 0x040208
-- BIV registers (R556)
abbrev BIV_CMD : Nat := 0x050000
abbrev BIV_CMDSTAT : Nat := 0x050004
abbrev BIV_STATE : Nat := 0x050008
abbrev BIV_CAL_LO : Nat := 0x050010
abbrev BIV_CAL_HI : Nat := 0x050014
abbrev BIV_VIEW_DATE : Nat := 0x050018
abbrev BIV_VIEW_TIME : Nat := 0x05001C
abbrev BIV_SET_LO : Nat := 0x050020
abbrev BIV_SET_HI : Nat := 0x050024
abbrev BIV_SET_DATE : Nat := 0x050028
abbrev BIV_SET_TIME : Nat := 0x05002C
abbrev BIV_TRIM : Nat := 0x050030
abbrev BIV_PCC : Nat := 0x050034
abbrev BIV_OPS : Nat := 0x050038
abbrev BIV_STAT : Nat := 0x05003C
abbrev BIV_VBAT : Nat := 0x050040
abbrev BIV_RSTCAUSE : Nat := 0x050044
abbrev BIV_FATAL : Nat := 0x050048
abbrev BIV_EVT : Nat := 0x05004C
abbrev BIV_EVT_EN : Nat := 0x050050
abbrev BIV_BKP (n : Nat) : Nat := 0x050080 + 0x4 * n
-- HUT registers (R557)
abbrev HUT_CMD : Nat := 0x060000
abbrev HUT_CMDSTAT : Nat := 0x060004
abbrev HUT_STATE : Nat := 0x060008
abbrev HUT_CFG : Nat := 0x060010
abbrev HUT_OLDEST : Nat := 0x060014
abbrev HUT_NEXT : Nat := 0x060018
abbrev HUT_FREE : Nat := 0x06001C
abbrev HUT_RECS : Nat := 0x060020
abbrev HUT_EVT : Nat := 0x060024
abbrev HUT_EVT_EN : Nat := 0x060028
abbrev HUT_DROP_CNT : Nat := 0x06002C
abbrev HUT_OVWR_CNT : Nat := 0x060030
abbrev HUT_ABANDON_CNT : Nat := 0x060034
abbrev HUT_CLEARS : Nat := 0x060038
abbrev HUT_WRITTEN : Nat := 0x06003C
abbrev HUT_WR_OFS : Nat := 0x060040
abbrev HUT_WR_DATA : Nat := 0x060044
abbrev HUT_WR_IDX : Nat := 0x060048
abbrev HUT_CURSOR : Nat := 0x060050
abbrev HUT_CURINFO : Nat := 0x060054
abbrev HUT_NONCE (n : Nat) : Nat := 0x060060 + 0x4 * n
abbrev HUT_AUTH_LO : Nat := 0x060080
abbrev HUT_AUTH_HI : Nat := 0x060084
abbrev HUT_CLRRES : Nat := 0x060088
abbrev HUT_WIN (n : Nat) : Nat := 0x060100 + 0x4 * n
abbrev HUT_SC_CMD : Nat := 0x060200
abbrev HUT_SC_CMDSTAT : Nat := 0x060204
abbrev HUT_SC_STATE : Nat := 0x060208

end Reg

/-- The SYS registers. -/
def regsSys : List RegDesc :=
  [ ⟨0x0, 1, 4, 1, 4, .priv, 0x0, 0x0, 0x0, true, 0x0, 0⟩  -- SYS_CMD
  , ⟨0x4, 1, 4, 1, 4, .any, 0x0, 0x0, 0x0, false, 0x0, 0⟩  -- SYS_CMDSTAT
  , ⟨0x8, 1, 4, 1, 4, .any, 0x0, 0x0, 0x0, false, 0x1, 0⟩  -- SYS_STATE
  , ⟨0x10, 1, 4, 1, 4, .any, 0x0, 0x0, 0x0, false, 0x271283D1, 0⟩  -- SYS_ID
  , ⟨0x14, 1, 4, 1, 4, .any, 0x0, 0x0, 0x0, false, 0x0, 0⟩  -- SYS_UID_LO
  , ⟨0x18, 1, 4, 1, 4, .any, 0x0, 0x0, 0x0, false, 0x0, 0⟩  -- SYS_UID_HI
  , ⟨0x20, 1, 4, 1, 4, .secure, 0x3F000707, 0x0, 0x0, false, 0x700, 0⟩  -- SYS_ROLE
  , ⟨0x24, 1, 4, 1, 4, .secure, 0xFFFFFF, 0x0, 0x0, false, 0xFFFFFF, 0⟩  -- SYS_CORE_EN
  , ⟨0x28, 1, 4, 1, 4, .any, 0x0, 0x0, 0x0, false, 0x0, 0⟩  -- SYS_CORE_ACT
  , ⟨0x30, 1, 4, 1, 4, .any, 0x0, 0x0, 0x0, false, 0x0, 0⟩  -- SYS_DECERR_CNT
  , ⟨0x34, 1, 4, 1, 4, .any, 0x0, 0x0, 0x0, false, 0x0, 0⟩  -- SYS_DECERR_ADDR
  ]

/-- The CLK registers. -/
def regsClk : List RegDesc :=
  [ ⟨0x0, 1, 4, 1, 4, .secure, 0x0, 0x0, 0x0, true, 0x0, 0⟩  -- CLK_CMD
  , ⟨0x4, 1, 4, 1, 4, .any, 0x0, 0x0, 0x0, false, 0x0, 0⟩  -- CLK_CMDSTAT
  , ⟨0x8, 1, 4, 1, 4, .any, 0x0, 0x0, 0x0, false, 0x1, 0⟩  -- CLK_STATE
  , ⟨0x10, 1, 4, 1, 4, .secure, 0x3, 0x0, 0x0, false, 0x2, 0⟩  -- CLK_POOL_SEL
  , ⟨0x14, 1, 4, 1, 4, .any, 0x0, 0x0, 0x0, false, 0x3, 0⟩  -- CLK_ISL_RUN
  , ⟨0x18, 1, 4, 1, 4, .any, 0x0, 0x3FFF, 0x0, false, 0x0, 0⟩  -- CLK_ISL_FAIL
  , ⟨0x1C, 1, 4, 1, 4, .any, 0x0, 0x0, 0x0, false, 0x0, 0⟩  -- CLK_ISL_GATE
  , ⟨0x40, 14, 4, 1, 4, .any, 0x0, 0x0, 0x0, false, 0x0, 0⟩  -- CLK_MON
  ]

/-- The CYC registers. -/
def regsCyc : List RegDesc :=
  [ ⟨0x0, 1, 4, 1, 4, .priv, 0x0, 0x0, 0x0, true, 0x0, 0⟩  -- CYC_CMD
  , ⟨0x4, 1, 4, 1, 4, .any, 0x0, 0x0, 0x0, false, 0x0, 0⟩  -- CYC_CMDSTAT
  , ⟨0x8, 1, 4, 1, 4, .any, 0x0, 0x0, 0x0, false, 0x0, 0⟩  -- CYC_STATE
  , ⟨0x10, 1, 4, 1, 4, .any, 0x0, 0x0, 0x0, false, 0x0, 0⟩  -- CYC_COUNT
  , ⟨0x14, 1, 4, 1, 4, .any, 0x0, 0x0, 0x0, false, 0x0, 0⟩  -- CYC_T0_LAST
  , ⟨0x18, 1, 4, 1, 4, .any, 0x0, 0x0, 0x0, false, 0x0, 0⟩  -- CYC_PHASE
  , ⟨0x20, 1, 4, 1, 4, .priv, 0x7FF, 0x0, 0x0, false, 0x1F4, 0⟩  -- CYC_SETUP_S
  , ⟨0x24, 1, 4, 1, 4, .any, 0x0, 0x0, 0x0, false, 0x1F4, 0⟩  -- CYC_SETUP
  , ⟨0x28, 1, 4, 1, 4, .any, 0x0, 0x7, 0x0, false, 0x0, 0⟩  -- CYC_EVT
  , ⟨0x2C, 1, 4, 1, 4, .any, 0x0, 0x0, 0x0, false, 0x0, 0⟩  -- CYC_HOLD_CNT
  , ⟨0x30, 1, 4, 1, 4, .priv, 0x7FE, 0x0, 0x0, false, 0x0, 0⟩  -- CYC_SLOW_EVT_EN
  ]

/-- The SIG registers. -/
def regsSig : List RegDesc :=
  [ ⟨0x0, 1, 4, 1, 4, .priv, 0x0, 0x0, 0x0, true, 0x0, 0⟩  -- SIG_CMD
  , ⟨0x4, 1, 4, 1, 4, .any, 0x0, 0x0, 0x0, false, 0x0, 0⟩  -- SIG_CMDSTAT
  , ⟨0x8, 1, 4, 1, 4, .any, 0x0, 0x0, 0x0, false, 0x1, 0⟩  -- SIG_STATE
  , ⟨0x10, 4, 4, 1, 4, .priv, 0xFFFFFFFF, 0x0, 0x0, false, 0x0, 0⟩  -- SIG_ENT_D
  , ⟨0x20, 1, 4, 1, 4, .priv, 0x1FFF, 0x0, 0x0, false, 0x0, 0⟩  -- SIG_ENT_IDX
  , ⟨0x30, 1, 4, 1, 4, .priv, 0x7FFFF0, 0x0, 0x0, false, 0x0, 0⟩  -- SIG_LOAD_ADDR
  , ⟨0x34, 1, 4, 1, 4, .priv, 0x1FFF, 0x0, 0x0, false, 0x0, 0⟩  -- SIG_LOAD_FIRST
  , ⟨0x38, 1, 4, 1, 4, .priv, 0x3FFF, 0x0, 0x0, false, 0x0, 0⟩  -- SIG_LOAD_CNT
  , ⟨0x40, 1, 4, 1, 4, .any, 0x1FFF, 0x0, 0x0, false, 0x0, 0⟩  -- SIG_PEEK_ID
  , ⟨0x44, 1, 4, 1, 4, .any, 0x0, 0x0, 0x0, false, 0x0, 0⟩  -- SIG_PEEK_VAL
  , ⟨0x48, 1, 4, 1, 4, .any, 0x0, 0x0, 0x0, false, 0x0, 0⟩  -- SIG_PEEK_STAT
  , ⟨0x50, 1, 4, 1, 4, .any, 0x1FFF, 0x0, 0x0, false, 0x0, 0⟩  -- SIG_WR_ID
  , ⟨0x54, 1, 4, 1, 4, .any, 0x0, 0x0, 0x0, true, 0x0, 0⟩  -- SIG_WR_VAL
  , ⟨0x58, 1, 4, 1, 4, .priv, 0x1FFF, 0x0, 0x0, false, 0x0, 0⟩  -- SIG_SUB_ID
  , ⟨0x5C, 1, 4, 1, 4, .priv, 0xFFFFFFFF, 0x0, 0x0, false, 0x0, 0⟩  -- SIG_SUB_VAL
  , ⟨0x60, 1, 4, 1, 4, .any, 0x0, 0x1F, 0x0, false, 0x0, 0⟩  -- SIG_EVT
  , ⟨0x64, 1, 4, 1, 4, .any, 0x0, 0x0, 0x0, false, 0x0, 0⟩  -- SIG_STALE_CNT
  , ⟨0x68, 1, 4, 1, 4, .any, 0x0, 0x0, 0x0, false, 0x0, 0⟩  -- SIG_STALE_ID
  , ⟨0x6C, 1, 4, 1, 4, .any, 0x0, 0x0, 0x0, false, 0x0, 0⟩  -- SIG_BADENT
  , ⟨0x70, 1, 4, 1, 4, .any, 0x0, 0x0, 0x0, false, 0x0, 0⟩  -- SIG_CONFL_ID
  , ⟨0x74, 1, 4, 1, 4, .any, 0x0, 0x0, 0x0, false, 0x0, 0⟩  -- SIG_WR_IGN
  , ⟨0x78, 1, 4, 1, 4, .any, 0x0, 0x0, 0x0, false, 0x0, 0⟩  -- SIG_OVL_CNT
  , ⟨0x1000, 64, 32, 1, 4, .priv, 0x9FFF, 0x0, 0x0, false, 0x0, 0⟩  -- SIG_STG_ID_S
  , ⟨0x1004, 64, 32, 4, 4, .priv, 0xFFFFFFFF, 0x0, 0x0, false, 0x0, 0⟩  -- SIG_STG_D_S
  ]

/-- The CE registers. -/
def regsCe : List RegDesc :=
  [ ⟨0x0, 1, 4, 1, 4, .priv, 0x0, 0x0, 0x0, true, 0x0, 0⟩  -- CE_CMD
  , ⟨0x4, 1, 4, 1, 4, .any, 0x0, 0x0, 0x0, false, 0x0, 0⟩  -- CE_CMDSTAT
  , ⟨0x8, 1, 4, 1, 4, .any, 0x0, 0x0, 0x0, false, 0x0, 0⟩  -- CE_STATE
  , ⟨0x10, 1, 4, 1, 4, .any, 0x0, 0x0, 0x0, false, 0x0, 0⟩  -- CE_DIR_ACT
  , ⟨0x14, 1, 4, 1, 4, .any, 0x0, 0x0, 0x0, false, 0x10, 0⟩  -- CE_LANES
  , ⟨0x18, 1, 4, 1, 4, .any, 0x0, 0x0, 0x0, false, 0x0, 0⟩  -- CE_LOAD
  , ⟨0x1C, 1, 4, 1, 4, .any, 0x0, 0x0, 0x0, false, 0x0, 0⟩  -- CE_CHK_GRP
  , ⟨0x20, 1, 4, 1, 4, .any, 0x0, 0x3FF, 0x0, false, 0x0, 0⟩  -- CE_EVT
  , ⟨0x24, 1, 4, 1, 4, .priv, 0x3FF, 0x0, 0x0, false, 0x0, 0⟩  -- CE_EVT_EN
  , ⟨0x28, 1, 4, 1, 4, .any, 0x0, 0x0, 0x0, false, 0x0, 0⟩  -- CE_VAL
  , ⟨0x2C, 1, 4, 1, 4, .any, 0x0, 0x0, 0x0, false, 0x0, 0⟩  -- CE_MISS_CNT
  , ⟨0x30, 1, 4, 1, 4, .any, 0x0, 0x0, 0x0, false, 0x0, 0⟩  -- CE_MISS_SLOT
  , ⟨0x34, 1, 4, 1, 4, .any, 0x0, 0x0, 0x0, false, 0x0, 0⟩  -- CE_MM_CNT
  , ⟨0x38, 1, 4, 1, 4, .any, 0x0, 0x0, 0x0, false, 0x0, 0⟩  -- CE_MM_SLOT
  , ⟨0x3C, 1, 4, 1, 4, .any, 0x0, 0x0, 0x0, false, 0x0, 0⟩  -- CE_CHK_SKIP
  , ⟨0x40, 1, 4, 1, 4, .any, 0x0, 0x0, 0x0, false, 0x0, 0⟩  -- CE_OVF_CNT
  , ⟨0x50, 4, 4, 1, 4, .any, 0x0, 0xFFFFFFFF, 0x0, false, 0x0, 0⟩  -- CE_SAT_LATCH
  , ⟨0x60, 4, 4, 1, 4, .any, 0x0, 0xFFFFFFFF, 0x0, false, 0x0, 0⟩  -- CE_MISS_MAP
  ]

/-- The CTAB registers. -/
def regsCtab : List RegDesc :=
  [ ⟨0x0, 1, 4, 1, 4, .priv, 0x0, 0x0, 0x0, true, 0x0, 0⟩  -- CTAB_CMD
  , ⟨0x4, 1, 4, 1, 4, .any, 0x0, 0x0, 0x0, false, 0x0, 0⟩  -- CTAB_CMDSTAT
  , ⟨0x8, 1, 4, 1, 4, .any, 0x0, 0x0, 0x0, false, 0x1, 0⟩  -- CTAB_STATE
  , ⟨0x10, 1, 4, 1, 4, .priv, 0xFFFFFFFC, 0x0, 0x0, false, 0x0, 0⟩  -- CTAB_SRC_LO
  , ⟨0x14, 1, 4, 1, 4, .priv, 0xFF, 0x0, 0x0, false, 0x0, 0⟩  -- CTAB_SRC_HI
  , ⟨0x18, 1, 4, 1, 4, .any, 0x0, 0x7, 0x0, false, 0x0, 0⟩  -- CTAB_EVT
  , ⟨0x1C, 1, 4, 1, 4, .any, 0x0, 0x0, 0x0, false, 0x0, 0⟩  -- CTAB_CLAMP_TBL
  , ⟨0x100, 64, 16, 1, 4, .priv, 0xC7FF1FFF, 0x0, 0x3800E000, false, 0x0, 0⟩  -- CTAB_TD_0
  , ⟨0x104, 64, 16, 1, 4, .priv, 0xFF00001F, 0x0, 0xFFFFE0, false, 0x0, 0⟩  -- CTAB_TD_1
  , ⟨0x108, 64, 16, 1, 4, .priv, 0xFFFFFFFF, 0x0, 0x0, false, 0x0, 0⟩  -- CTAB_TD_2
  , ⟨0x10C, 64, 16, 1, 4, .priv, 0x0, 0x0, 0xFFFFFFFF, false, 0x0, 0⟩  -- CTAB_TD_3
  ]

/-- The PROF registers, part 1. -/
def regsProfA : List RegDesc :=
  [ ⟨0x0, 1, 4, 1, 4, .priv, 0x0, 0x0, 0x0, true, 0x0, 0⟩  -- PROF_CMD
  , ⟨0x4, 1, 4, 1, 4, .any, 0x0, 0x0, 0x0, false, 0x0, 0⟩  -- PROF_CMDSTAT
  , ⟨0x8, 1, 4, 1, 4, .any, 0x0, 0x0, 0x0, false, 0x0, 0⟩  -- PROF_STATE
  , ⟨0x10, 1, 4, 1, 4, .any, 0x0, 0x7FF, 0x0, false, 0x0, 0⟩  -- PROF_EVT
  , ⟨0x14, 1, 4, 1, 4, .priv, 0x7FF, 0x0, 0x0, false, 0x0, 0⟩  -- PROF_EVT_EN
  , ⟨0x20, 4, 4, 1, 4, .any, 0x0, 0xFFFFFFFF, 0x0, false, 0x0, 0⟩  -- PROF_EVT_MAP
  , ⟨0x30, 1, 4, 1, 4, .any, 0x0, 0x0, 0x0, false, 0x0, 0⟩  -- PROF_STARVE_CNT
  , ⟨0x34, 1, 4, 1, 4, .any, 0x0, 0x0, 0x0, false, 0x0, 0⟩  -- PROF_LIM_CNT
  , ⟨0x38, 1, 4, 1, 4, .any, 0x0, 0x0, 0x0, false, 0x0, 0⟩  -- PROF_BADTRAV_CNT
  , ⟨0x100, 16, 4, 1, 4, .priv, 0xFFFFFFFF, 0x0, 0x0, false, 0x0, 0⟩  -- PROF_IMM_D
  , ⟨0x200, 16, 8, 1, 4, .priv, 0x7FFF3FFF, 0x0, 0x8000C000, false, 0x0, 0⟩  -- PROF_CAMD_0
  , ⟨0x204, 16, 8, 1, 4, .priv, 0x11F, 0x0, 0xFFFFFEE0, false, 0x0, 0⟩  -- PROF_CAMD_1
  , ⟨0x280, 1, 4, 1, 4, .priv, 0x3FFF, 0x0, 0x0, false, 0x0, 0⟩  -- PROF_CAM_ADDR
  , ⟨0x284, 1, 4, 1, 4, .priv, 0xFFFFFFFF, 0x0, 0x0, false, 0x0, 0⟩  -- PROF_CAM_DATA
  , ⟨0x800, 128, 96, 1, 4, .priv, 0x0, 0x0, 0x0, true, 0x0, 0⟩  -- PROF_G_CMD
  , ⟨0x804, 128, 96, 1, 4, .any, 0x0, 0x0, 0x0, false, 0x0, 0⟩  -- PROF_G_CMDSTAT
  , ⟨0x808, 128, 96, 1, 4, .any, 0x0, 0x0, 0x0, false, 0x0, 0⟩  -- PROF_G_STATE
  , ⟨0x80C, 128, 96, 1, 4, .any, 0x0, 0x7FF, 0x0, false, 0x0, 0⟩  -- PROF_G_FLAGS
  , ⟨0x810, 128, 96, 1, 4, .any, 0x0, 0x0, 0x0, false, 0x0, 0⟩  -- PROF_G_POS_LO
  , ⟨0x814, 128, 96, 1, 4, .any, 0x0, 0x0, 0x0, false, 0x0, 0⟩  -- PROF_G_POS_HI
  , ⟨0x818, 128, 96, 1, 4, .any, 0x0, 0x0, 0x0, false, 0x0, 0⟩  -- PROF_G_VEL
  , ⟨0x81C, 128, 96, 1, 4, .any, 0x0, 0x0, 0x0, false, 0x0, 0⟩  -- PROF_G_ACC
  , ⟨0x820, 128, 96, 1, 4, .priv, 0x80FF0100, 0x0, 0x7F00FEFF, false, 0x0, 0⟩  -- PROF_G_CFG
  , ⟨0x824, 128, 96, 1, 4, .priv, 0xFFFFFFFF, 0x0, 0x0, false, 0x80000000, 0⟩  -- PROF_G_VLIM_NEG
  , ⟨0x828, 128, 96, 1, 4, .priv, 0xFFFFFFFF, 0x0, 0x0, false, 0x7FFFFFFF, 0⟩  -- PROF_G_VLIM_POS
  , ⟨0x82C, 128, 96, 1, 4, .priv, 0xFFFFFFFF, 0x0, 0x0, false, 0x0, 0⟩  -- PROF_G_HOFS
  , ⟨0x830, 128, 96, 1, 4, .priv, 0xFFFFFFFF, 0x0, 0x0, false, 0x10000, 0⟩  -- PROF_G_CSA
  , ⟨0x834, 128, 96, 1, 4, .priv, 0xFFFFFFFF, 0x0, 0x0, false, 0x1000, 0⟩  -- PROF_G_CSJ
  , ⟨0x838, 128, 96, 1, 4, .priv, 0xFFFFFFFF, 0x0, 0x0, false, 0x100000, 0⟩  -- PROF_G_QA
  , ⟨0x83C, 128, 96, 1, 4, .priv, 0xFFFFFFFF, 0x0, 0x0, false, 0x10000, 0⟩  -- PROF_G_QJ
  ]

/-- The PROF registers, part 2. -/
def regsProfB : List RegDesc :=
  [ ⟨0x840, 128, 96, 1, 4, .any, 0x0, 0x0, 0x0, false, 0x0, 0⟩  -- PROF_G_LATCH_FB
  , ⟨0x844, 128, 96, 1, 4, .any, 0x0, 0x0, 0x0, false, 0x0, 0⟩  -- PROF_G_LATCH_CMD
  , ⟨0x848, 128, 96, 1, 4, .any, 0x0, 0x0, 0x0, false, 0x0, 0⟩  -- PROF_G_LATCH_INFO
  , ⟨0x84C, 128, 96, 1, 4, .any, 0x0, 0x0, 0x0, false, 0x0, 0⟩  -- PROF_G_TAG
  , ⟨0x850, 128, 96, 1, 4, .any, 0x0, 0x0, 0x0, false, 0x0, 0⟩  -- PROF_G_RESID
  ]

/-- The PROF registers. -/
def regsProf : List RegDesc := regsProfA ++ regsProfB

/-- The AXC registers. -/
def regsAxc : List RegDesc :=
  [ ⟨0x0, 1, 4, 1, 4, .priv, 0x0, 0x0, 0x0, true, 0x0, 0⟩  -- AXC_CMD
  , ⟨0x4, 1, 4, 1, 4, .any, 0x0, 0x0, 0x0, false, 0x0, 0⟩  -- AXC_CMDSTAT
  , ⟨0x8, 1, 4, 1, 4, .any, 0x0, 0x0, 0x0, false, 0x1, 0⟩  -- AXC_STATE
  , ⟨0x10, 1, 4, 1, 4, .any, 0x0, 0x1FF, 0x0, false, 0x0, 0⟩  -- AXC_EVT
  , ⟨0x14, 1, 4, 1, 4, .priv, 0x1FF, 0x0, 0x0, false, 0x0, 0⟩  -- AXC_EVT_EN
  , ⟨0x100, 4, 128, 1, 4, .priv, 0x0, 0x0, 0x0, true, 0x0, 0⟩  -- AXC_CH_CMD
  , ⟨0x104, 4, 128, 1, 4, .any, 0x0, 0x0, 0x0, false, 0x0, 0⟩  -- AXC_CH_CMDSTAT
  , ⟨0x108, 4, 128, 1, 4, .any, 0x0, 0x0, 0x0, false, 0x0, 0⟩  -- AXC_CH_STATE
  , ⟨0x10C, 4, 128, 1, 4, .any, 0x0, 0xF, 0x0, false, 0x0, 0⟩  -- AXC_CH_CAUSE
  , ⟨0x110, 4, 128, 1, 4, .priv, 0x73, 0x0, 0xFFFFFF8C, false, 0x20, 0⟩  -- AXC_CH_CFG_S
  , ⟨0x114, 4, 128, 1, 4, .priv, 0x3FFF, 0x0, 0x0, false, 0xC35, 0⟩  -- AXC_CH_PER_S
  , ⟨0x118, 4, 128, 1, 4, .priv, 0xFFFFFF, 0x0, 0xFF000000, false, 0x142828, 0⟩  -- AXC_CH_DT_S
  , ⟨0x120, 4, 128, 1, 4, .any, 0x0, 0x0, 0x0, false, 0x20, 0⟩  -- AXC_CH_CFG
  , ⟨0x124, 4, 128, 1, 4, .any, 0x0, 0x0, 0x0, false, 0xC35, 0⟩  -- AXC_CH_PER
  , ⟨0x128, 4, 128, 1, 4, .any, 0x0, 0x0, 0x0, false, 0x142828, 0⟩  -- AXC_CH_DT
  , ⟨0x12C, 4, 128, 1, 4, .priv, 0xFFFFFFFF, 0x0, 0x0, false, 0xFFFF0000, 0⟩  -- AXC_CH_DLIM
  , ⟨0x130, 4, 128, 1, 4, .priv, 0x3FF01FF, 0x0, 0x0, false, 0x132, 0⟩  -- AXC_CH_FLT
  , ⟨0x134, 4, 128, 1, 4, .any, 0x0, 0x0, 0x0, false, 0x0, 0⟩  -- AXC_CH_TRIP_CNT
  , ⟨0x138, 4, 128, 1, 4, .any, 0x0, 0x0, 0x0, false, 0x0, 0⟩  -- AXC_CH_TRIP_TIME
  , ⟨0x140, 4, 128, 4, 4, .any, 0x0, 0x0, 0x0, false, 0x0, 0⟩  -- AXC_CH_DUTY
  , ⟨0x150, 4, 128, 1, 4, .any, 0x0, 0x0, 0x0, false, 0x0, 0⟩  -- AXC_CH_BADIN_CNT
  ]

/-- The STEP registers. -/
def regsStep : List RegDesc :=
  [ ⟨0x0, 1, 4, 1, 4, .priv, 0x0, 0x0, 0x0, true, 0x0, 0⟩  -- STEP_CMD
  , ⟨0x4, 1, 4, 1, 4, .any, 0x0, 0x0, 0x0, false, 0x0, 0⟩  -- STEP_CMDSTAT
  , ⟨0x8, 1, 4, 1, 4, .any, 0x0, 0x0, 0x0, false, 0x1, 0⟩  -- STEP_STATE
  , ⟨0x10, 1, 4, 1, 4, .priv, 0xFFFFFFFE, 0x0, 0x0, false, 0x0, 0⟩  -- STEP_SRC_LO
  , ⟨0x14, 1, 4, 1, 4, .priv, 0xFF, 0x0, 0x0, false, 0x0, 0⟩  -- STEP_SRC_HI
  , ⟨0x18, 1, 4, 1, 4, .any, 0x0, 0x7, 0x0, false, 0x0, 0⟩  -- STEP_EVT
  , ⟨0x1C, 1, 4, 1, 4, .priv, 0x7, 0x0, 0x0, false, 0x0, 0⟩  -- STEP_EVT_EN
  , ⟨0x20, 1, 4, 1, 4, .any, 0x0, 0xFFFF, 0x0, false, 0x0, 0⟩  -- STEP_STALL_MAP
  , ⟨0x30, 1, 4, 1, 4, .priv, 0x3FF, 0x0, 0x0, false, 0x0, 0⟩  -- STEP_TBL_ADDR
  , ⟨0x34, 1, 4, 1, 4, .any, 0x0, 0x0, 0x0, false, 0x0, 0⟩  -- STEP_TBL_DATA
  , ⟨0x100, 16, 64, 1, 4, .priv, 0xFFFFF000, 0x0, 0xFFF, false, 0x0, 0⟩  -- STEP_CH_CFG
  , ⟨0x104, 16, 64, 1, 4, .priv, 0xFFF0FFF, 0x0, 0x0, false, 0x4000800, 0⟩  -- STEP_CH_CUR1
  , ⟨0x108, 16, 64, 1, 4, .priv, 0xFFF0FFF, 0x0, 0x0, false, 0xC000400, 0⟩  -- STEP_CH_CUR2
  , ⟨0x10C, 16, 64, 1, 4, .priv, 0xFFFFFFFF, 0x0, 0x0, false, 0x1000800, 0⟩  -- STEP_CH_VSW
  , ⟨0x110, 16, 64, 1, 4, .priv, 0xFFFFF, 0x0, 0x0, false, 0x41464, 0⟩  -- STEP_CH_CHOP
  , ⟨0x114, 16, 64, 1, 4, .priv, 0xFFFFFFFF, 0x0, 0x0, false, 0x1050E030, 0⟩  -- STEP_CH_LOAD
  , ⟨0x118, 16, 64, 1, 4, .priv, 0xFFFFFFFF, 0x0, 0x0, false, 0x400000, 0⟩  -- STEP_CH_MOT
  , ⟨0x11C, 16, 64, 1, 4, .priv, 0xFFFF, 0x0, 0x0, false, 0xC80, 0⟩  -- STEP_CH_STBY
  , ⟨0x120, 16, 64, 1, 4, .priv, 0xFFFFFFFF, 0x0, 0x0, false, 0x0, 0⟩  -- STEP_CH_MSOFS
  , ⟨0x124, 16, 64, 1, 4, .priv, 0xFFFF, 0x0, 0x0, false, 0x100, 0⟩  -- STEP_CH_KVINIT
  , ⟨0x128, 16, 64, 1, 4, .any, 0x0, 0x0, 0x0, false, 0x0, 0⟩  -- STEP_CH_STAT
  , ⟨0x12C, 16, 64, 1, 4, .any, 0x0, 0x0, 0x0, false, 0x0, 0⟩  -- STEP_CH_KV
  , ⟨0x130, 16, 64, 1, 4, .any, 0x0, 0x0, 0x0, false, 0x0, 0⟩  -- STEP_CH_LOADANG
  , ⟨0x134, 16, 64, 1, 4, .any, 0x0, 0x0, 0x0, false, 0x0, 0⟩  -- STEP_CH_LOST_CNT
  ]

/-- The ENC registers. -/
def regsEnc : List RegDesc :=
  [ ⟨0x0, 1, 4, 1, 4, .priv, 0x0, 0x0, 0x0, true, 0x0, 0⟩  -- ENC_CMD
  , ⟨0x4, 1, 4, 1, 4, .any, 0x0, 0x0, 0x0, false, 0x0, 0⟩  -- ENC_CMDSTAT
  , ⟨0x8, 1, 4, 1, 4, .any, 0x0, 0x0, 0x0, false, 0x1, 0⟩  -- ENC_STATE
  , ⟨0x10, 1, 4, 1, 4, .any, 0x0, 0xFFFF, 0x0, false, 0x0, 0⟩  -- ENC_ERR_MAP
  , ⟨0x14, 1, 4, 1, 4, .priv, 0xFFFF, 0x0, 0x0, false, 0x0, 0⟩  -- ENC_EVT_EN
  , ⟨0x100, 16, 64, 1, 4, .priv, 0x3FFF3FFF, 0x0, 0xC000C000, false, 0x0, 0⟩  -- ENC_P_PEND
  , ⟨0x104, 16, 64, 1, 4, .priv, 0x33F1F1F, 0x0, 0xFCC0E0E0, false, 0x0, 0⟩  -- ENC_P_PEND1
  , ⟨0x108, 16, 64, 1, 4, .any, 0x0, 0x0, 0x0, false, 0x0, 0⟩  -- ENC_P_MODE
  , ⟨0x10C, 16, 64, 1, 4, .any, 0x0, 0x0, 0x0, false, 0x0, 0⟩  -- ENC_P_MODE1
  , ⟨0x110, 16, 64, 1, 4, .priv, 0xFFFFFFFF, 0x0, 0x0, false, 0x0, 0⟩  -- ENC_P_CPR
  , ⟨0x114, 16, 64, 1, 4, .priv, 0xFFFFFFFF, 0x0, 0x0, false, 0x0, 0⟩  -- ENC_P_EMUL
  , ⟨0x118, 16, 64, 1, 4, .priv, 0xFFFFFFFF, 0x0, 0x0, false, 0x0, 0⟩  -- ENC_P_EOFS
  , ⟨0x11C, 16, 64, 1, 4, .priv, 0xFFFFFFFF, 0x0, 0x0, false, 0x0, 0⟩  -- ENC_P_JMP
  , ⟨0x120, 16, 64, 1, 4, .any, 0x0, 0x0, 0x0, false, 0x0, 0⟩  -- ENC_P_POS
  , ⟨0x124, 16, 64, 1, 4, .any, 0x0, 0x0, 0x0, false, 0x0, 0⟩  -- ENC_P_IDX
  , ⟨0x128, 16, 64, 1, 4, .any, 0x0, 0x0, 0x0, false, 0x0, 0⟩  -- ENC_P_IDXINFO
  , ⟨0x12C, 16, 64, 1, 4, .any, 0x0, 0x0, 0x0, false, 0x0, 0⟩  -- ENC_P_RES
  , ⟨0x130, 16, 64, 1, 4, .any, 0x0, 0x0, 0x0, false, 0x0, 0⟩  -- ENC_P_RESINFO
  , ⟨0x134, 16, 64, 1, 4, .any, 0x0, 0x3F, 0x0, false, 0x0, 0⟩  -- ENC_P_ERR
  , ⟨0x138, 16, 64, 1, 4, .any, 0x0, 0x0, 0x0, false, 0x0, 0⟩  -- ENC_P_ERRCNT
  , ⟨0x13C, 16, 64, 1, 4, .any, 0x0, 0x0, 0x0, false, 0x0, 0⟩  -- ENC_P_AMPL
  ]

/-- The SEQ registers. -/
def regsSeq : List RegDesc :=
  [ ⟨0x0, 1, 4, 1, 4, .priv, 0x0, 0x0, 0x0, true, 0x0, 0⟩  -- SEQ_CMD
  , ⟨0x4, 1, 4, 1, 4, .any, 0x0, 0x0, 0x0, false, 0x0, 0⟩  -- SEQ_CMDSTAT
  , ⟨0x8, 1, 4, 1, 4, .any, 0x0, 0x0, 0x0, false, 0x1, 0⟩  -- SEQ_STATE
  , ⟨0x10, 1, 4, 1, 4, .any, 0x0, 0x1FF, 0x0, false, 0x0, 0⟩  -- SEQ_EVT
  , ⟨0x14, 1, 4, 1, 4, .priv, 0x1FF, 0x0, 0x0, false, 0x0, 0⟩  -- SEQ_EVT_EN
  , ⟨0x18, 1, 4, 1, 4, .any, 0x0, 0xFFFF, 0x0, false, 0x0, 0⟩  -- SEQ_EVT_MAP
  , ⟨0x20, 1, 4, 1, 4, .any, 0x0, 0x0, 0x0, false, 0x0, 0⟩  -- SEQ_CONFL_CNT
  , ⟨0x24, 1, 4, 1, 4, .any, 0x0, 0x0, 0x0, false, 0x0, 0⟩  -- SEQ_CONFL_SIG
  , ⟨0x28, 1, 4, 1, 4, .any, 0x0, 0x0, 0x0, false, 0x0, 0⟩  -- SEQ_BADACT_CNT
  , ⟨0x100, 16, 64, 1, 4, .any, 0x0, 0x0, 0x0, true, 0x0, 0⟩  -- SEQ_CH_CMD
  , ⟨0x104, 16, 64, 1, 4, .any, 0x0, 0x0, 0x0, false, 0x0, 0⟩  -- SEQ_CH_CMDSTAT
  , ⟨0x108, 16, 64, 1, 4, .any, 0x0, 0x0, 0x0, false, 0x0, 0⟩  -- SEQ_CH_STATE
  , ⟨0x10C, 16, 64, 1, 4, .any, 0xFFFFFFC0, 0x0, 0x0, false, 0x0, 0⟩  -- SEQ_CH_BASE_LO
  , ⟨0x110, 16, 64, 1, 4, .any, 0xFF, 0x0, 0x0, false, 0x0, 0⟩  -- SEQ_CH_BASE_HI
  , ⟨0x114, 16, 64, 1, 4, .any, 0x0, 0x0, 0x0, false, 0x0, 0⟩  -- SEQ_CH_STEP
  , ⟨0x118, 16, 64, 1, 4, .any, 0x0, 0x0, 0x0, false, 0x0, 0⟩  -- SEQ_CH_ELAPSED
  , ⟨0x11C, 16, 64, 1, 4, .any, 0x0, 0x0, 0x0, false, 0x0, 0⟩  -- SEQ_CH_LAST
  , ⟨0x120, 16, 64, 1, 4, .any, 0x0, 0x0, 0x0, false, 0xFFFF, 0⟩  -- SEQ_CH_RELEASE
  , ⟨0x124, 16, 64, 1, 4, .any, 0x0, 0x1F, 0x0, false, 0x0, 0⟩  -- SEQ_CH_ERR
  , ⟨0x128, 16, 64, 1, 4, .any, 0x0, 0x0, 0x0, false, 0x0, 0⟩  -- SEQ_CH_TRANS_CNT
  , ⟨0x12C, 16, 64, 1, 4, .any, 0x0, 0x0, 0x0, false, 0x0, 0⟩  -- SEQ_CH_ABTINFO
  , ⟨0x130, 16, 64, 1, 4, .any, 0x0, 0x0, 0x0, false, 0x0, 0⟩  -- SEQ_CH_ABTIGN
  ]

/-- The ILK registers. -/
def regsIlk : List RegDesc :=
  [ ⟨0x0, 1, 4, 1, 4, .priv, 0x0, 0x0, 0x0, true, 0x0, 0⟩  -- ILK_CMD
  , ⟨0x4, 1, 4, 1, 4, .any, 0x0, 0x0, 0x0, false, 0x0, 0⟩  -- ILK_CMDSTAT
  , ⟨0x8, 1, 4, 1, 4, .any, 0x0, 0x0, 0x0, false, 0x1, 0⟩  -- ILK_STATE
  , ⟨0x10, 1, 4, 1, 4, .any, 0x0, 0x0, 0x0, false, 0x0, 0⟩  -- ILK_BANK_ACT
  , ⟨0x14, 1, 4, 1, 4, .any, 0x0, 0x1F, 0x0, false, 0x0, 0⟩  -- ILK_EVT
  , ⟨0x18, 1, 4, 1, 4, .priv, 0x1F, 0x0, 0x0, false, 0x0, 0⟩  -- ILK_EVT_EN
  , ⟨0x20, 1, 4, 1, 4, .priv, 0x3FF, 0x0, 0x0, false, 0x0, 0⟩  -- ILK_RULE_IDX
  , ⟨0x40, 16, 4, 1, 4, .priv, 0xFFFFFFFF, 0x0, 0x0, false, 0x0, 0⟩  -- ILK_RULE_D
  , ⟨0x100, 32, 4, 1, 4, .priv, 0xFFFFFFFF, 0x0, 0x0, false, 0x0, 0⟩  -- ILK_EN
  , ⟨0x180, 32, 4, 1, 4, .any, 0x0, 0x0, 0x0, false, 0x0, 0⟩  -- ILK_ACT
  , ⟨0x200, 32, 4, 1, 4, .any, 0x0, 0x0, 0x0, false, 0x0, 0⟩  -- ILK_LATCH
  , ⟨0x300, 16, 16, 4, 4, .priv, 0xFFFFFFFF, 0x0, 0x0, false, 0x0, 0⟩  -- ILK_TGRPW
  , ⟨0x400, 1, 4, 1, 4, .any, 0x0, 0x0, 0x0, false, 0x0, 0⟩  -- ILK_CONFL_CNT
  , ⟨0x404, 1, 4, 1, 4, .any, 0x0, 0x0, 0x0, false, 0x0, 0⟩  -- ILK_CONFL_SIG
  , ⟨0x408, 1, 4, 1, 4, .any, 0x0, 0x0, 0x0, false, 0x0, 0⟩  -- ILK_ACT_CNT
  , ⟨0x40C, 1, 4, 1, 4, .any, 0x0, 0x0, 0x0, false, 0x0, 0⟩  -- ILK_LAST_RULE
  , ⟨0x410, 1, 4, 1, 4, .any, 0x0, 0x0, 0x0, false, 0x0, 0⟩  -- ILK_HUT_DROP
  , ⟨0x414, 1, 4, 1, 4, .any, 0x0, 0x0, 0x0, false, 0x0, 0⟩  -- ILK_BADRULE_CNT
  ]

/-- The ADC registers, part 1. -/
def regsAdcA : List RegDesc :=
  [ ⟨0x0, 1, 4, 1, 4, .priv, 0x0, 0x0, 0x0, true, 0x0, 0⟩  -- ADC_CMD
  , ⟨0x4, 1, 4, 1, 4, .any, 0x0, 0x0, 0x0, false, 0x0, 0⟩  -- ADC_CMDSTAT
  , ⟨0x8, 1, 4, 1, 4, .any, 0x0, 0x0, 0x0, false, 0x1, 0⟩  -- ADC_STATE
  , ⟨0x10, 1, 4, 1, 4, .any, 0x0, 0xFF, 0x0, false, 0x0, 0⟩  -- ADC_EVT
  , ⟨0x14, 1, 4, 1, 4, .priv, 0xFF, 0x0, 0x0, false, 0x0, 0⟩  -- ADC_EVT_EN
  , ⟨0x18, 1, 4, 1, 4, .priv, 0xFFFFFFFF, 0x0, 0x0, false, 0x0, 0⟩  -- ADC_PIN_CFG
  , ⟨0x20, 1, 4, 1, 4, .any, 0x0, 0x0, 0x0, false, 0x0, 0⟩  -- ADC_RET_LO
  , ⟨0x24, 1, 4, 1, 4, .any, 0x0, 0x0, 0x0, false, 0x0, 0⟩  -- ADC_RET_HI
  , ⟨0x28, 1, 4, 1, 4, .any, 0x0, 0x0, 0x0, false, 0x0, 0⟩  -- ADC_UNCHK
  , ⟨0x2C, 1, 4, 1, 4, .any, 0x0, 0x0, 0x0, false, 0x0, 0⟩  -- ADC_SPARE
  , ⟨0x30, 1, 4, 1, 4, .any, 0x0, 0x0, 0x0, false, 0x0, 0⟩  -- ADC_URGDROP_CNT
  , ⟨0x34, 1, 4, 1, 4, .any, 0x0, 0x0, 0x0, false, 0x0, 0⟩  -- ADC_QOVF_CNT
  , ⟨0x38, 1, 4, 1, 4, .any, 0x0, 0x0, 0x0, false, 0x0, 0⟩  -- ADC_LATE_CNT
  , ⟨0x3C, 1, 4, 1, 4, .any, 0x0, 0x0, 0x0, false, 0x0, 0⟩  -- ADC_CALERR_CNT
  , ⟨0x40, 1, 4, 1, 4, .any, 0x0, 0xFFFFFFFF, 0x0, false, 0x0, 0⟩  -- ADC_WIN_MAP0
  , ⟨0x44, 1, 4, 1, 4, .any, 0x0, 0xFFFFFFFF, 0x0, false, 0x0, 0⟩  -- ADC_WIN_MAP1
  , ⟨0x100, 8, 64, 1, 4, .priv, 0xEF070730, 0x0, 0x10F8F8CF, false, 0x0, 0⟩  -- ADC_G_CFG_S
  , ⟨0x104, 8, 64, 1, 4, .priv, 0xFFFFFFFF, 0x0, 0x0, false, 0x0, 0⟩  -- ADC_G_MASK_S
  , ⟨0x108, 8, 64, 1, 4, .priv, 0x7FFF, 0x0, 0x0, false, 0x0, 0⟩  -- ADC_G_PHASE_S
  , ⟨0x10C, 8, 64, 1, 4, .priv, 0xFFFFFFFF, 0x0, 0x0, false, 0x0, 0⟩  -- ADC_G_PERIOD_S
  , ⟨0x110, 8, 64, 1, 4, .any, 0x0, 0x0, 0x0, false, 0x0, 0⟩  -- ADC_G_CFG
  , ⟨0x114, 8, 64, 1, 4, .any, 0x0, 0x0, 0x0, false, 0x0, 0⟩  -- ADC_G_MASK
  , ⟨0x118, 8, 64, 1, 4, .any, 0x0, 0x0, 0x0, false, 0x0, 0⟩  -- ADC_G_PHASE
  , ⟨0x11C, 8, 64, 1, 4, .any, 0x0, 0x0, 0x0, false, 0x0, 0⟩  -- ADC_G_PERIOD
  , ⟨0x120, 8, 64, 1, 4, .priv, 0xFFFFFFFF, 0x0, 0x0, false, 0x0, 0⟩  -- ADC_G_TBTIME
  , ⟨0x124, 8, 64, 1, 4, .any, 0x0, 0x0, 0x0, false, 0x0, 0⟩  -- ADC_G_FIRE_CNT
  , ⟨0x600, 32, 16, 1, 4, .priv, 0xE0000000, 0x0, 0x1FFFFFFF, false, 0x80000000, 0⟩  -- ADC_IN_CFG
  , ⟨0x604, 32, 16, 1, 4, .any, 0x0, 0x0, 0x0, false, 0x0, 0⟩  -- ADC_IN_RES
  , ⟨0x608, 32, 16, 1, 4, .any, 0x0, 0x0, 0x0, false, 0x0, 0⟩  -- ADC_IN_TS
  , ⟨0x60C, 32, 16, 1, 4, .any, 0x0, 0x0, 0x0, false, 0x3F00, 1⟩  -- ADC_IN_CONV
  ]

/-- The ADC registers, part 2. -/
def regsAdcB : List RegDesc :=
  [ ⟨0x800, 64, 16, 1, 4, .priv, 0x801FFFFF, 0x0, 0x0, false, 0x0, 0⟩  -- ADC_WIN_CFG
  , ⟨0x804, 64, 16, 1, 4, .priv, 0xFFFFFFFF, 0x0, 0x0, false, 0xFFFF8000, 0⟩  -- ADC_WIN_LO
  , ⟨0x808, 64, 16, 1, 4, .priv, 0xFFFFFFFF, 0x0, 0x0, false, 0x7FFF, 0⟩  -- ADC_WIN_HI
  , ⟨0x80C, 64, 16, 1, 4, .any, 0x0, 0x0, 0x0, false, 0x3, 0⟩  -- ADC_WIN_STAT
  ]

/-- The ADC registers. -/
def regsAdc : List RegDesc := regsAdcA ++ regsAdcB

/-- The SDM registers. -/
def regsSdm : List RegDesc :=
  [ ⟨0x0, 1, 4, 1, 4, .priv, 0x0, 0x0, 0x0, true, 0x0, 0⟩  -- SDM_CMD
  , ⟨0x4, 1, 4, 1, 4, .any, 0x0, 0x0, 0x0, false, 0x0, 0⟩  -- SDM_CMDSTAT
  , ⟨0x8, 1, 4, 1, 4, .any, 0x0, 0x0, 0x0, false, 0x1, 0⟩  -- SDM_STATE
  , ⟨0x10, 1, 4, 1, 4, .any, 0x0, 0x3, 0x0, false, 0x0, 0⟩  -- SDM_EVT
  , ⟨0x14, 1, 4, 1, 4, .priv, 0x3, 0x0, 0x0, false, 0x0, 0⟩  -- SDM_EVT_EN
  , ⟨0x18, 1, 4, 1, 4, .any, 0x0, 0xFFFFFFFF, 0x0, false, 0x0, 0⟩  -- SDM_OC_MAP0
  , ⟨0x1C, 1, 4, 1, 4, .any, 0x0, 0xFFFF, 0x0, false, 0x0, 0⟩  -- SDM_OC_MAP1
  , ⟨0x20, 1, 4, 1, 4, .any, 0x0, 0xFFFFFFFF, 0x0, false, 0x0, 0⟩  -- SDM_STUCK_MAP0
  , ⟨0x24, 1, 4, 1, 4, .any, 0x0, 0xFFFF, 0x0, false, 0x0, 0⟩  -- SDM_STUCK_MAP1
  , ⟨0x40, 8, 8, 1, 4, .priv, 0x103, 0x0, 0x0, false, 0x0, 0⟩  -- SDM_CLK_S
  , ⟨0x44, 8, 8, 1, 4, .any, 0x0, 0x0, 0x0, false, 0x0, 0⟩  -- SDM_CLK
  , ⟨0x400, 48, 32, 1, 4, .priv, 0x80007331, 0x0, 0x7FFF8CCE, false, 0x0, 0⟩  -- SDM_CH_CFG_S
  , ⟨0x404, 48, 32, 1, 4, .any, 0x0, 0x0, 0x0, false, 0x0, 0⟩  -- SDM_CH_CFG
  , ⟨0x408, 48, 32, 1, 4, .priv, 0xFFFF, 0x0, 0x0, false, 0xFFFF, 0⟩  -- SDM_CH_OCLIM
  , ⟨0x40C, 48, 32, 1, 4, .priv, 0xFFFFFFFF, 0x0, 0x0, false, 0x3F800000, 0⟩  -- SDM_CH_GAIN
  , ⟨0x410, 48, 32, 1, 4, .priv, 0xFFFFFFFF, 0x0, 0x0, false, 0x0, 0⟩  -- SDM_CH_OFS
  , ⟨0x414, 48, 32, 1, 4, .any, 0x0, 0x0, 0x0, false, 0x0, 0⟩  -- SDM_CH_VAL
  , ⟨0x418, 48, 32, 1, 4, .any, 0x0, 0x0, 0x0, false, 0x0, 0⟩  -- SDM_CH_OC_CNT
  ]

/-- The DAC registers. -/
def regsDac : List RegDesc :=
  [ ⟨0x0, 1, 4, 1, 4, .priv, 0x0, 0x0, 0x0, true, 0x0, 0⟩  -- DAC_CMD
  , ⟨0x4, 1, 4, 1, 4, .any, 0x0, 0x0, 0x0, false, 0x0, 0⟩  -- DAC_CMDSTAT
  , ⟨0x8, 1, 4, 1, 4, .any, 0x0, 0x0, 0x0, false, 0x1, 0⟩  -- DAC_STATE
  , ⟨0x10, 1, 4, 1, 4, .any, 0x0, 0x7, 0x0, false, 0x0, 0⟩  -- DAC_EVT
  , ⟨0x14, 1, 4, 1, 4, .priv, 0x7, 0x0, 0x0, false, 0x0, 0⟩  -- DAC_EVT_EN
  , ⟨0x100, 16, 32, 1, 4, .priv, 0x80000003, 0x0, 0x0, false, 0x0, 0⟩  -- DAC_CH_CFG
  , ⟨0x104, 16, 32, 1, 4, .priv, 0xFFFFFFFF, 0x0, 0x0, false, 0x46CCCCCD, 0⟩  -- DAC_CH_GAIN
  , ⟨0x108, 16, 32, 1, 4, .priv, 0xFFFFFFFF, 0x0, 0x0, false, 0x0, 0⟩  -- DAC_CH_OFS
  , ⟨0x10C, 16, 32, 1, 4, .priv, 0xFFFF, 0x0, 0x0, false, 0x0, 0⟩  -- DAC_CH_INIT
  , ⟨0x110, 16, 32, 1, 4, .any, 0x0, 0x0, 0x0, false, 0x0, 0⟩  -- DAC_CH_CODE
  , ⟨0x114, 16, 32, 1, 4, .any, 0x0, 0x0, 0x0, false, 0x0, 0⟩  -- DAC_CH_CLAMP_CNT
  , ⟨0x118, 16, 32, 1, 4, .any, 0x0, 0x0, 0x0, false, 0x0, 0⟩  -- DAC_CH_BADIN_CNT
  , ⟨0x11C, 16, 32, 1, 4, .any, 0x0, 0x0, 0x0, false, 0x0, 0⟩  -- DAC_CH_QOVF_CNT
  ]

/-- The FIO registers. -/
def regsFio : List RegDesc :=
  [ ⟨0x0, 1, 4, 1, 4, .priv, 0x0, 0x0, 0x0, true, 0x0, 0⟩  -- FIO_CMD
  , ⟨0x4, 1, 4, 1, 4, .any, 0x0, 0x0, 0x0, false, 0x0, 0⟩  -- FIO_CMDSTAT
  , ⟨0x8, 1, 4, 1, 4, .any, 0x0, 0x0, 0x0, false, 0x0, 0⟩  -- FIO_STATE
  , ⟨0x10, 1, 4, 1, 4, .any, 0x0, 0x7FF, 0x0, false, 0x0, 0⟩  -- FIO_EVT
  , ⟨0x14, 1, 4, 1, 4, .priv, 0x7FF, 0x0, 0x0, false, 0x0, 0⟩  -- FIO_EVT_EN
  , ⟨0x18, 1, 4, 1, 4, .any, 0x0, 0x0, 0x0, false, 0x0, 0⟩  -- FIO_SUP
  , ⟨0x1C, 1, 4, 1, 4, .any, 0x0, 0x0, 0x0, false, 0x0, 0⟩  -- FIO_SUP_STAT
  , ⟨0x20, 1, 4, 1, 4, .any, 0x0, 0x0, 0x0, false, 0x0, 0⟩  -- FIO_DIP_CNT
  , ⟨0x24, 1, 4, 1, 4, .any, 0x0, 0x0, 0x0, false, 0x0, 0⟩  -- FIO_IN_RAW
  , ⟨0x28, 1, 4, 1, 4, .any, 0x0, 0x0, 0x0, false, 0x0, 0⟩  -- FIO_IN_FILT
  , ⟨0x2C, 1, 4, 1, 4, .any, 0x0, 0x0, 0x0, false, 0x0, 0⟩  -- FIO_OUT_SET
  , ⟨0x30, 1, 4, 1, 4, .any, 0x0, 0x0, 0x0, false, 0x0, 0⟩  -- FIO_OUT_RB
  , ⟨0x34, 1, 4, 1, 4, .any, 0x0, 0x0, 0x0, false, 0x0, 0⟩  -- FIO_OUT_LATCH
  , ⟨0x38, 1, 4, 1, 4, .any, 0x0, 0x0, 0x0, false, 0x0, 0⟩  -- FIO_CPL_FAULT
  , ⟨0x40, 1, 4, 1, 4, .any, 0x0, 0x0, 0x0, false, 0x0, 0⟩  -- FIO_TSF_LO
  , ⟨0x44, 1, 4, 1, 4, .any, 0x0, 0x0, 0x0, false, 0x0, 0⟩  -- FIO_TSF_HI
  , ⟨0x48, 1, 4, 1, 4, .any, 0x0, 0x0, 0x0, false, 0x0, 0⟩  -- FIO_TSF_LVL
  , ⟨0x4C, 1, 4, 1, 4, .any, 0x0, 0x0, 0x0, false, 0x0, 0⟩  -- FIO_TSF_LOST
  , ⟨0x50, 1, 4, 1, 4, .priv, 0xFFFFFFFF, 0x0, 0x0, false, 0x0, 0⟩  -- FIO_TSEN
  , ⟨0x54, 1, 4, 1, 4, .any, 0x0, 0x0, 0x0, false, 0x0, 0⟩  -- FIO_OVL_CNT
  , ⟨0x58, 1, 4, 1, 4, .any, 0x0, 0x0, 0x0, false, 0x0, 0⟩  -- FIO_RBERR_CNT
  , ⟨0x100, 16, 4, 1, 4, .priv, 0x3FF00FF, 0x0, 0xFC00FF00, false, 0xA000A, 0⟩  -- FIO_IN_CFG
  , ⟨0x200, 16, 8, 1, 4, .priv, 0xF0000000, 0x0, 0xFFFFFFF, false, 0x40000000, 0⟩  -- FIO_OUT_CFG
  , ⟨0x204, 16, 8, 1, 4, .any, 0x0, 0x0, 0x0, false, 0x0, 0⟩  -- FIO_OUT_STAT
  ]

/-- The SAFE registers. -/
def regsSafe : List RegDesc :=
  [ ⟨0x0, 1, 4, 1, 4, .secure, 0x0, 0x0, 0x0, true, 0x0, 0⟩  -- SAFE_CMD
  , ⟨0x4, 1, 4, 1, 4, .any, 0x0, 0x0, 0x0, false, 0x0, 0⟩  -- SAFE_CMDSTAT
  , ⟨0x8, 1, 4, 1, 4, .any, 0x0, 0x0, 0x0, false, 0x1, 0⟩  -- SAFE_STATE
  , ⟨0x10, 1, 4, 1, 4, .any, 0x0, 0x0, 0x0, false, 0x0, 0⟩  -- SAFE_STRAP
  , ⟨0x14, 1, 4, 1, 4, .secure, 0xF, 0x0, 0x0, false, 0x0, 0⟩  -- SAFE_STRAP_DECL
  , ⟨0x18, 1, 4, 1, 4, .any, 0x0, 0x0, 0x0, false, 0x0, 0⟩  -- SAFE_CRC
  , ⟨0x1C, 1, 4, 1, 4, .secure, 0xFFFFFFFF, 0x0, 0x0, false, 0xFFFFFFFF, 0⟩  -- SAFE_CONFIRM
  , ⟨0x20, 1, 4, 1, 4, .any, 0x0, 0x0, 0x0, false, 0x0, 0⟩  -- SAFE_GSTATE
  , ⟨0x24, 1, 4, 1, 4, .any, 0x0, 0x7FF, 0x0, false, 0x0, 0⟩  -- SAFE_EVT
  , ⟨0x28, 1, 4, 1, 4, .priv, 0x7FF, 0x0, 0x0, false, 0x0, 0⟩  -- SAFE_EVT_EN
  , ⟨0x2C, 1, 4, 1, 4, .any, 0x0, 0x0, 0x0, false, 0x0, 0⟩  -- SAFE_SEL
  , ⟨0x30, 1, 4, 1, 4, .priv, 0x0, 0x0, 0x0, true, 0x0, 0⟩  -- SAFE_SEL_SET
  , ⟨0x34, 1, 4, 1, 4, .secure, 0x0, 0x0, 0x0, true, 0x0, 0⟩  -- SAFE_SEL_CLR
  , ⟨0x38, 1, 4, 1, 4, .any, 0x0, 0x0, 0x0, false, 0x0, 0⟩  -- SAFE_STOIN
  , ⟨0x3C, 1, 4, 1, 4, .any, 0x0, 0x0, 0x0, false, 0x0, 0⟩  -- SAFE_SWDEM
  , ⟨0x40, 8, 4, 1, 4, .any, 0x0, 0x0, 0x0, false, 0x0, 0⟩  -- SAFE_G_CAUSE
  , ⟨0x60, 8, 4, 1, 4, .any, 0x0, 0x0, 0x0, false, 0x0, 0⟩  -- SAFE_G_LIVE
  , ⟨0x80, 1, 4, 1, 4, .any, 0x0, 0x0, 0x0, false, 0x0, 0⟩  -- SAFE_FAULT_CNT
  , ⟨0x84, 1, 4, 1, 4, .any, 0x0, 0x0, 0x0, false, 0x0, 0⟩  -- SAFE_VIOL_CNT
  , ⟨0x88, 1, 4, 1, 4, .any, 0x0, 0x0, 0x0, false, 0x0, 0⟩  -- SAFE_RESET_CNT
  , ⟨0x8C, 1, 4, 1, 4, .any, 0x0, 0x0, 0x0, false, 0x0, 0⟩  -- SAFE_RESETFAIL_CNT
  , ⟨0x90, 1, 4, 1, 4, .any, 0x0, 0x0, 0x0, false, 0x0, 0⟩  -- SAFE_ACK_IGN_CNT
  , ⟨0xA0, 16, 4, 1, 4, .any, 0x0, 0x0, 0x0, false, 0x0, 0⟩  -- SAFE_CH_SPEED
  , ⟨0x100, 8, 4, 1, 4, .secure, 0xF000FFFF, 0x0, 0x0, false, 0x80000000, 0⟩  -- SAFE_G_CFG
  , ⟨0x120, 1, 4, 1, 4, .secure, 0xFFFFFFFF, 0x0, 0x0, false, 0x0, 0⟩  -- SAFE_OUTGRP0
  , ⟨0x124, 1, 4, 1, 4, .secure, 0xFFFFFFFF, 0x0, 0x0, false, 0x0, 0⟩  -- SAFE_OUTGRP1
  , ⟨0x200, 16, 64, 1, 4, .secure, 0xEFFCFFF3, 0x0, 0x1003000C, false, 0x0, 0⟩  -- SAFE_CH_W0
  , ⟨0x228, 16, 64, 1, 4, .secure, 0x7FFFFF, 0x0, 0x0, false, 0x0, 0⟩  -- SAFE_CH_W10
  , ⟨0x22C, 16, 64, 5, 4, .secure, 0x0, 0x0, 0xFFFFFFFF, false, 0x0, 0⟩  -- SAFE_CH_W11
  , ⟨0x200, 16, 64, 16, 4, .secure, 0xFFFFFFFF, 0x0, 0x0, false, 0x0, 0⟩  -- SAFE_CH_W
  ]

/-- The OCU registers, part 1. -/
def regsOcuA : List RegDesc :=
  [ ⟨0x0, 1, 4, 1, 4, .priv, 0x0, 0x0, 0x0, true, 0x0, 0⟩  -- OCU_CMD
  , ⟨0x4, 1, 4, 1, 4, .any, 0x0, 0x0, 0x0, false, 0x0, 0⟩  -- OCU_CMDSTAT
  , ⟨0x8, 1, 4, 1, 4, .any, 0x0, 0x0, 0x0, false, 0x0, 0⟩  -- OCU_STATE
  , ⟨0x10, 1, 4, 1, 4, .any, 0x0, 0x3FFF, 0x0, false, 0x0, 0⟩  -- OCU_EVT
  , ⟨0x14, 1, 4, 1, 4, .priv, 0x3FFF, 0x0, 0x0, false, 0x0, 0⟩  -- OCU_EVT_EN
  , ⟨0x20, 1, 4, 1, 4, .any, 0x0, 0x0, 0x0, false, 0x0, 0⟩  -- OCU_CAIRN_INFO
  , ⟨0x24, 1, 4, 1, 4, .any, 0x0, 0x0, 0x0, false, 0x0, 0⟩  -- OCU_OWNCONF_CNT
  , ⟨0x28, 1, 4, 1, 4, .any, 0x0, 0x0, 0x0, false, 0x0, 0⟩  -- OCU_MBDROP_CNT
  , ⟨0x30, 1, 4, 1, 4, .any, 0x0, 0x0, 0x0, false, 0x0, 0⟩  -- OCU_ORPHAN_CNT
  , ⟨0x34, 1, 4, 1, 4, .any, 0x0, 0x0, 0x0, false, 0x0, 0⟩  -- OCU_NODEST_CNT
  , ⟨0x38, 1, 4, 1, 4, .any, 0x0, 0x0, 0x0, false, 0x0, 0⟩  -- OCU_BRDROP_CNT
  , ⟨0x3C, 1, 4, 1, 4, .any, 0x0, 0x0, 0x0, false, 0x0, 0⟩  -- OCU_DYNHELD_CNT
  , ⟨0x40, 2, 32, 1, 4, .priv, 0x777, 0x0, 0xFFFFF888, false, 0x41, 0⟩  -- OCU_P_CFG
  , ⟨0x44, 2, 32, 1, 4, .any, 0x0, 0x0, 0x0, false, 0x0, 0⟩  -- OCU_P_STAT
  , ⟨0x48, 2, 32, 1, 4, .any, 0x0, 0x0, 0x0, false, 0x0, 0⟩  -- OCU_P_CRC_CNT
  , ⟨0x4C, 2, 32, 1, 4, .any, 0x0, 0x0, 0x0, false, 0x0, 0⟩  -- OCU_P_STOMP_CNT
  , ⟨0x50, 2, 32, 1, 4, .any, 0x0, 0x0, 0x0, false, 0x0, 0⟩  -- OCU_P_BLKERR_CNT
  , ⟨0x54, 2, 32, 1, 4, .any, 0x0, 0x0, 0x0, false, 0x0, 0⟩  -- OCU_P_RXFRM_CNT
  , ⟨0x100, 1, 4, 1, 4, .priv, 0x1FFFF, 0x0, 0xFFFE0000, false, 0x0, 0⟩  -- OCU_SCH_ID_S
  , ⟨0x104, 1, 4, 1, 4, .priv, 0xFFF, 0x0, 0x0, false, 0x0, 0⟩  -- OCU_SCH_NODE_S
  , ⟨0x108, 1, 4, 1, 4, .priv, 0xFFF, 0x0, 0x0, false, 0x0, 0⟩  -- OCU_SCH_TS_S
  , ⟨0x10C, 1, 4, 1, 4, .priv, 0xF3FF007F, 0x0, 0x0, false, 0x0, 0⟩  -- OCU_SCH_LEN_S
  , ⟨0x110, 16, 4, 1, 4, .priv, 0xBFBFBFBF, 0x0, 0x0, false, 0x0, 0⟩  -- OCU_SCH_OWN_S
  , ⟨0x180, 1, 4, 1, 4, .any, 0x0, 0x0, 0x0, false, 0x0, 0⟩  -- OCU_SCH_ID
  , ⟨0x184, 1, 4, 1, 4, .any, 0x0, 0x0, 0x0, false, 0x0, 0⟩  -- OCU_SCH_NODE
  , ⟨0x188, 1, 4, 1, 4, .any, 0x0, 0x0, 0x0, false, 0x0, 0⟩  -- OCU_SCH_TS
  , ⟨0x18C, 1, 4, 1, 4, .any, 0x0, 0x0, 0x0, false, 0x0, 0⟩  -- OCU_SCH_LEN
  , ⟨0x190, 16, 4, 1, 4, .any, 0x0, 0x0, 0x0, false, 0x0, 0⟩  -- OCU_SCH_OWN
  , ⟨0x200, 1, 4, 1, 4, .priv, 0x3FF, 0x0, 0x0, false, 0x208, 0⟩  -- OCU_RRA_CFG
  , ⟨0x204, 1, 4, 1, 4, .any, 0x0, 0x0, 0x0, false, 0x0, 0⟩  -- OCU_RRA_REQ_CNT
  ]

/-- The OCU registers, part 2. -/
def regsOcuB : List RegDesc :=
  [ ⟨0x208, 1, 4, 1, 4, .any, 0x0, 0x0, 0x0, false, 0x0, 0⟩  -- OCU_RRA_TMO_CNT
  , ⟨0x20C, 1, 4, 1, 4, .any, 0x0, 0x0, 0x0, false, 0x0, 0⟩  -- OCU_RRA_ERR_CNT
  , ⟨0x210, 1, 4, 1, 4, .any, 0x0, 0x0, 0x0, false, 0x0, 0⟩  -- OCU_RRA_LASTERR
  , ⟨0x214, 1, 4, 1, 4, .any, 0x0, 0x0, 0x0, false, 0x0, 0⟩  -- OCU_RRA_SRV_CNT
  , ⟨0x218, 1, 4, 1, 4, .any, 0x0, 0x0, 0x0, false, 0x0, 0⟩  -- OCU_RRA_DUP_CNT
  , ⟨0x300, 1, 4, 1, 4, .priv, 0x3FFFFFF, 0x0, 0x0, false, 0x0, 0⟩  -- OCU_MBTX_CTL
  , ⟨0x304, 1, 4, 1, 4, .any, 0x0, 0x0, 0x0, false, 0x0, 0⟩  -- OCU_MBTX_STAT
  , ⟨0x320, 8, 4, 1, 4, .any, 0x0, 0x0, 0x0, false, 0x0, 0⟩  -- OCU_MBRX_STAT
  , ⟨0x400, 1, 4, 1, 4, .priv, 0xFFFFFFF8, 0x0, 0x0, false, 0x0, 0⟩  -- OCU_BTX_SRC_LO
  , ⟨0x404, 1, 4, 1, 4, .priv, 0xFF, 0x0, 0x0, false, 0x0, 0⟩  -- OCU_BTX_SRC_HI
  , ⟨0x408, 1, 4, 1, 4, .priv, 0xFFFFFFFF, 0x0, 0x0, false, 0x0, 0⟩  -- OCU_BTX_LEN
  , ⟨0x40C, 1, 4, 1, 4, .priv, 0x70FFF, 0x0, 0x0, false, 0x0, 0⟩  -- OCU_BTX_DST
  , ⟨0x410, 1, 4, 1, 4, .any, 0x0, 0x0, 0x0, false, 0x0, 0⟩  -- OCU_BTX_STAT
  , ⟨0x414, 1, 4, 1, 4, .any, 0x0, 0x0, 0x0, false, 0x0, 0⟩  -- OCU_BTX_ACKED
  , ⟨0x440, 8, 16, 1, 4, .priv, 0xFFFFFFF8, 0x0, 0x0, false, 0x0, 0⟩  -- OCU_BRX_BASE_LO
  , ⟨0x444, 8, 16, 1, 4, .priv, 0xFF, 0x0, 0x0, false, 0x0, 0⟩  -- OCU_BRX_BASE_HI
  , ⟨0x448, 8, 16, 1, 4, .priv, 0xFFFFFFFF, 0x0, 0x0, false, 0x0, 0⟩  -- OCU_BRX_SIZE
  , ⟨0x44C, 8, 16, 1, 4, .any, 0x0, 0x0, 0x0, false, 0x0, 0⟩  -- OCU_BRX_EXP
  , ⟨0x600, 64, 4, 1, 4, .priv, 0x80000FFF, 0x0, 0x0, false, 0x0, 0⟩  -- OCUB_RCT
  , ⟨0x1000, 128, 4, 1, 4, .priv, 0xFFFFFFFF, 0x0, 0x0, false, 0x0, 0⟩  -- OCU_MBTX_DATA
  , ⟨0x1200, 8, 512, 128, 4, .any, 0x0, 0x0, 0x0, false, 0x0, 0⟩  -- OCU_MBRX_DATA
  , ⟨0x700, 1, 4, 1, 4, .priv, 0xFFFFFF, 0x0, 0xFF000000, false, 0x80400, 0⟩  -- OCU_TIM_CFG
  , ⟨0x704, 1, 4, 1, 4, .any, 0x0, 0x0, 0x0, false, 0x0, 0⟩  -- OCU_TIM_STAT
  , ⟨0x708, 1, 4, 1, 4, .any, 0x0, 0x0, 0x0, false, 0x0, 0⟩  -- OCU_D_E
  , ⟨0x70C, 1, 4, 1, 4, .any, 0x0, 0x0, 0x0, false, 0x0, 0⟩  -- OCU_D_W
  , ⟨0x710, 1, 4, 1, 4, .any, 0x0, 0x0, 0x0, false, 0x0, 0⟩  -- OCU_DLOOP
  , ⟨0x714, 1, 4, 1, 4, .any, 0x0, 0x0, 0x0, false, 0x0, 0⟩  -- OCU_OFFSET
  , ⟨0x718, 1, 4, 1, 4, .any, 0x0, 0x0, 0x0, false, 0x0, 0⟩  -- OCU_HEAD
  , ⟨0x71C, 1, 4, 1, 4, .any, 0x0, 0x0, 0x0, false, 0x0, 0⟩  -- OCU_RINGPOS
  , ⟨0x720, 1, 4, 1, 4, .any, 0x0, 0x0, 0x0, false, 0x0, 0⟩  -- OCU_WINERR_CNT
  ]

/-- The OCU registers, part 3. -/
def regsOcuC : List RegDesc :=
  [ ⟨0x724, 1, 4, 1, 4, .any, 0x0, 0x0, 0x0, false, 0x0, 0⟩  -- OCU_GUARD_CNT
  , ⟨0x728, 1, 4, 1, 4, .any, 0x0, 0x0, 0x0, false, 0x0, 0⟩  -- OCU_GUARDCOL_CNT
  , ⟨0x72C, 1, 4, 1, 4, .any, 0x0, 0x0, 0x0, false, 0x0, 0⟩  -- OCU_COLL_CNT
  , ⟨0x730, 1, 4, 1, 4, .any, 0x0, 0x0, 0x0, false, 0x0, 0⟩  -- OCU_JUMPREF_CNT
  , ⟨0x734, 1, 4, 1, 4, .any, 0x0, 0x0, 0x0, false, 0x0, 0⟩  -- OCU_TAKE_CNT
  , ⟨0x740, 2, 16, 1, 4, .any, 0x0, 0x0, 0x0, false, 0x0, 0⟩  -- OCU_P_HOP
  , ⟨0x744, 2, 16, 1, 4, .priv, 0xFFFFFFFF, 0x0, 0x0, false, 0x0, 0⟩  -- OCU_P_ASYM
  , ⟨0x748, 2, 16, 1, 4, .any, 0x0, 0x0, 0x0, false, 0x0, 0⟩  -- OCU_P_LOOP
  , ⟨0x74C, 2, 16, 1, 4, .any, 0x0, 0x0, 0x0, false, 0x0, 0⟩  -- OCU_P_LOOP_CNT
  , ⟨0x780, 64, 4, 1, 4, .any, 0x0, 0x0, 0x0, false, 0x0, 0⟩  -- OCU_TOPO
  ]

/-- The OCU registers. -/
def regsOcu : List RegDesc := regsOcuA ++ regsOcuB ++ regsOcuC

/-- The TB registers. -/
def regsTb : List RegDesc :=
  [ ⟨0x0, 1, 4, 1, 4, .priv, 0x0, 0x0, 0x0, true, 0x0, 0⟩  -- TB_CMD
  , ⟨0x4, 1, 4, 1, 4, .any, 0x0, 0x0, 0x0, false, 0x0, 0⟩  -- TB_CMDSTAT
  , ⟨0x8, 1, 4, 1, 4, .any, 0x0, 0x0, 0x0, false, 0x1, 0⟩  -- TB_STATE
  , ⟨0x10, 1, 4, 1, 4, .any, 0x0, 0x0, 0x0, false, 0x0, 0⟩  -- TB_TIME_LO
  , ⟨0x14, 1, 4, 1, 4, .any, 0x0, 0x0, 0x0, false, 0x0, 0⟩  -- TB_TIME_HI
  , ⟨0x18, 1, 4, 1, 4, .any, 0x0, 0x0, 0x0, false, 0x0, 0⟩  -- TB_FRAC
  , ⟨0x20, 1, 4, 1, 4, .priv, 0xFFFFFFFF, 0x0, 0x0, false, 0x2800000, 0⟩  -- TB_INC
  , ⟨0x24, 1, 4, 1, 4, .priv, 0xF03, 0x0, 0xFFFFF0FC, false, 0x400, 0⟩  -- TB_CFG
  , ⟨0x28, 1, 4, 1, 4, .priv, 0xFFFF, 0x0, 0x0, false, 0x4000, 0⟩  -- TB_SLEW
  , ⟨0x2C, 1, 4, 1, 4, .priv, 0xFFFFFFFF, 0x0, 0x0, false, 0x3E8, 0⟩  -- TB_JUMP_LIM
  , ⟨0x30, 1, 4, 1, 4, .any, 0x0, 0x0, 0x0, false, 0x0, 0⟩  -- TB_REMAIN
  , ⟨0x34, 1, 4, 1, 4, .priv, 0xFFFFFFFF, 0x0, 0x0, false, 0x0, 0⟩  -- TB_ADJ_VAL
  , ⟨0x38, 1, 4, 1, 4, .priv, 0xFFFFFFFF, 0x0, 0x0, false, 0x0, 0⟩  -- TB_SET_NS
  , ⟨0x3C, 1, 4, 1, 4, .priv, 0xFFFFFF00, 0x0, 0x0, false, 0x0, 0⟩  -- TB_SET_FRAC
  , ⟨0x40, 1, 4, 1, 4, .priv, 0xFFFFFFFF, 0x0, 0x0, false, 0x0, 0⟩  -- TB_SET_ERA
  , ⟨0x44, 1, 4, 1, 4, .any, 0x0, 0x0, 0x0, false, 0x0, 0⟩  -- TB_STAT
  , ⟨0x48, 1, 4, 1, 4, .any, 0x0, 0x3F, 0x0, false, 0x0, 0⟩  -- TB_EVT
  , ⟨0x4C, 1, 4, 1, 4, .priv, 0x3F, 0x0, 0x0, false, 0x0, 0⟩  -- TB_EVT_EN
  , ⟨0x50, 1, 4, 1, 4, .any, 0x0, 0x0, 0x0, false, 0x0, 0⟩  -- TB_JUMPREF_CNT
  , ⟨0x54, 1, 4, 1, 4, .any, 0x0, 0x0, 0x0, false, 0x0, 0⟩  -- TB_JUMP_LAST
  , ⟨0x60, 1, 4, 1, 4, .any, 0x0, 0x0, 0x0, false, 0x0, 0⟩  -- TB_SNAP_NS
  , ⟨0x64, 1, 4, 1, 4, .any, 0x0, 0x0, 0x0, false, 0x0, 0⟩  -- TB_SNAP_ERA
  , ⟨0x68, 1, 4, 1, 4, .any, 0x0, 0x0, 0x0, false, 0x0, 0⟩  -- TB_SNAP_CALS_LO
  , ⟨0x6C, 1, 4, 1, 4, .any, 0x0, 0x0, 0x0, false, 0x0, 0⟩  -- TB_SNAP_CALS_HI
  ]

/-- The ETH registers, part 1. -/
def regsEthA : List RegDesc :=
  [ ⟨0x0, 1, 4, 1, 4, .priv, 0x0, 0x0, 0x0, true, 0x0, 0⟩  -- ETH_CMD
  , ⟨0x4, 1, 4, 1, 4, .any, 0x0, 0x0, 0x0, false, 0x0, 0⟩  -- ETH_CMDSTAT
  , ⟨0x8, 1, 4, 1, 4, .any, 0x0, 0x0, 0x0, false, 0x0, 0⟩  -- ETH_STATE
  , ⟨0x10, 1, 4, 1, 4, .priv, 0x3F0F73, 0x0, 0xFFC0F08C, false, 0x420, 0⟩  -- ETH_CFG
  , ⟨0x14, 1, 4, 1, 4, .priv, 0xFFFFFFFF, 0x0, 0x0, false, 0x0, 0⟩  -- ETH_MAC_LO
  , ⟨0x18, 1, 4, 1, 4, .priv, 0xFFFF, 0x0, 0x0, false, 0x0, 0⟩  -- ETH_MAC_HI
  , ⟨0x1C, 1, 4, 1, 4, .any, 0x0, 0x7F, 0x0, false, 0x0, 0⟩  -- ETH_EVT
  , ⟨0x20, 1, 4, 1, 4, .priv, 0x7F, 0x0, 0x0, false, 0x0, 0⟩  -- ETH_EVT_EN
  , ⟨0x24, 1, 4, 1, 4, .priv, 0xFFFF, 0x0, 0x0, false, 0x0, 0⟩  -- ETH_TXLAT
  , ⟨0x28, 1, 4, 1, 4, .priv, 0xFFFF, 0x0, 0x0, false, 0x0, 0⟩  -- ETH_RXLAT
  , ⟨0x2C, 1, 4, 1, 4, .priv, 0xFFFFFFFF, 0x0, 0x0, false, 0x0, 0⟩  -- ETH_LT_TOL
  , ⟨0x30, 1, 4, 1, 4, .priv, 0xB01F1F00, 0x0, 0x0, false, 0x0, 0⟩  -- ETH_MDIO_CTL
  , ⟨0x34, 1, 4, 1, 4, .priv, 0xFFFF, 0x0, 0x0, false, 0x0, 0⟩  -- ETH_MDIO_DATA
  , ⟨0x40, 1, 4, 1, 4, .any, 0x0, 0x0, 0x0, false, 0x0, 0⟩  -- ETH_TXFRM_CNT
  , ⟨0x44, 1, 4, 1, 4, .any, 0x0, 0x0, 0x0, false, 0x0, 0⟩  -- ETH_LATE_CNT
  , ⟨0x48, 1, 4, 1, 4, .any, 0x0, 0x0, 0x0, false, 0x0, 0⟩  -- ETH_RXFRM_CNT
  , ⟨0x4C, 1, 4, 1, 4, .any, 0x0, 0x0, 0x0, false, 0x0, 0⟩  -- ETH_RXCRC_CNT
  , ⟨0x50, 1, 4, 1, 4, .any, 0x0, 0x0, 0x0, false, 0x0, 0⟩  -- ETH_RXLEN_CNT
  , ⟨0x54, 1, 4, 1, 4, .any, 0x0, 0x0, 0x0, false, 0x0, 0⟩  -- ETH_RXNODESC_CNT
  , ⟨0x58, 1, 4, 1, 4, .any, 0x0, 0x0, 0x0, false, 0x0, 0⟩  -- ETH_RXWARM_CNT
  , ⟨0x100, 8, 64, 1, 4, .priv, 0xFFFFFFE0, 0x0, 0x0, false, 0x0, 0⟩  -- ETH_Q_TXBASE_LO
  , ⟨0x104, 8, 64, 1, 4, .priv, 0xFF, 0x0, 0x0, false, 0x0, 0⟩  -- ETH_Q_TXBASE_HI
  , ⟨0x108, 8, 64, 1, 4, .priv, 0x1FFF, 0x0, 0x0, false, 0x8, 0⟩  -- ETH_Q_TXCNT
  , ⟨0x10C, 8, 64, 1, 4, .any, 0x0, 0x0, 0x0, false, 0x0, 0⟩  -- ETH_Q_TXHEAD
  , ⟨0x110, 8, 64, 1, 4, .any, 0xFFFFFFFF, 0x0, 0x0, false, 0x0, 0⟩  -- ETH_Q_TXTAIL
  , ⟨0x114, 8, 64, 1, 4, .priv, 0x3, 0x0, 0x0, false, 0x0, 0⟩  -- ETH_Q_TXCFG
  , ⟨0x120, 8, 64, 1, 4, .priv, 0xFFFFFFE0, 0x0, 0x0, false, 0x0, 0⟩  -- ETH_Q_RXBASE_LO
  , ⟨0x124, 8, 64, 1, 4, .priv, 0xFF, 0x0, 0x0, false, 0x0, 0⟩  -- ETH_Q_RXBASE_HI
  , ⟨0x128, 8, 64, 1, 4, .priv, 0x1FFF, 0x0, 0x0, false, 0x8, 0⟩  -- ETH_Q_RXCNT
  , ⟨0x12C, 8, 64, 1, 4, .any, 0x0, 0x0, 0x0, false, 0x0, 0⟩  -- ETH_Q_RXHEAD
  ]

/-- The ETH registers, part 2. -/
def regsEthB : List RegDesc :=
  [ ⟨0x130, 8, 64, 1, 4, .any, 0xFFFFFFFF, 0x0, 0x0, false, 0x0, 0⟩  -- ETH_Q_RXTAIL
  , ⟨0x134, 8, 64, 1, 4, .priv, 0x1, 0x0, 0x0, false, 0x0, 0⟩  -- ETH_Q_RXCFG
  ]

/-- The ETH registers. -/
def regsEth : List RegDesc := regsEthA ++ regsEthB

/-- The CAN registers, part 1. -/
def regsCanA : List RegDesc :=
  [ ⟨0x0, 1, 4, 1, 4, .priv, 0x0, 0x0, 0x0, true, 0x0, 0⟩  -- CAN_CMD
  , ⟨0x4, 1, 4, 1, 4, .any, 0x0, 0x0, 0x0, false, 0x0, 0⟩  -- CAN_CMDSTAT
  , ⟨0x8, 1, 4, 1, 4, .any, 0x0, 0x0, 0x0, false, 0x0, 0⟩  -- CAN_STATE
  , ⟨0x10, 1, 4, 1, 4, .priv, 0xFF33, 0x0, 0xFFFF00CC, false, 0x0, 0⟩  -- CAN_CFG
  , ⟨0x14, 1, 4, 1, 4, .priv, 0xFFFFFDFF, 0x0, 0x0, false, 0x0, 0⟩  -- CAN_NBT
  , ⟨0x18, 1, 4, 1, 4, .priv, 0xF0F1F1F, 0x0, 0x0, false, 0x0, 0⟩  -- CAN_DBT
  , ⟨0x1C, 1, 4, 1, 4, .priv, 0x8000007F, 0x0, 0x0, false, 0x0, 0⟩  -- CAN_TDC
  , ⟨0x20, 1, 4, 1, 4, .any, 0x0, 0x0, 0x0, false, 0x0, 0⟩  -- CAN_ERR
  , ⟨0x24, 1, 4, 1, 4, .any, 0x0, 0x3FF, 0x0, false, 0x0, 0⟩  -- CAN_EVT
  , ⟨0x28, 1, 4, 1, 4, .priv, 0x3FF, 0x0, 0x0, false, 0x0, 0⟩  -- CAN_EVT_EN
  , ⟨0x2C, 1, 4, 1, 4, .priv, 0x3FFFFFFF, 0x0, 0x0, false, 0x0, 0⟩  -- CAN_WAKE_ID
  , ⟨0x30, 1, 4, 1, 4, .priv, 0x1FFFFFFF, 0x0, 0x0, false, 0x0, 0⟩  -- CAN_WAKE_IDM
  , ⟨0x34, 2, 4, 1, 4, .priv, 0xFFFFFFFF, 0x0, 0x0, false, 0x0, 0⟩  -- CAN_WAKE_D
  , ⟨0x3C, 2, 4, 1, 4, .priv, 0xFFFFFFFF, 0x0, 0x0, false, 0x0, 0⟩  -- CAN_WAKE_DM
  , ⟨0x50, 1, 4, 1, 4, .any, 0x0, 0x0, 0x0, false, 0x0, 0⟩  -- CAN_TXOK_CNT
  , ⟨0x54, 1, 4, 1, 4, .any, 0x0, 0x0, 0x0, false, 0x0, 0⟩  -- CAN_RXOK_CNT
  , ⟨0x58, 1, 4, 1, 4, .any, 0x0, 0x0, 0x0, false, 0x0, 0⟩  -- CAN_RXLOST_CNT
  , ⟨0x5C, 1, 4, 1, 4, .any, 0x0, 0x0, 0x0, false, 0x0, 0⟩  -- CAN_BUSOFF_CNT
  , ⟨0x60, 1, 4, 1, 4, .any, 0x0, 0x0, 0x0, false, 0x0, 0⟩  -- CAN_PEROVR_CNT
  , ⟨0x64, 1, 4, 1, 4, .any, 0x0, 0x0, 0x0, false, 0x0, 0⟩  -- CAN_DUPID_CNT
  , ⟨0x68, 1, 4, 1, 4, .any, 0x0, 0x0, 0x0, false, 0x0, 0⟩  -- CAN_WITHHELD_CNT
  , ⟨0x70, 2, 4, 1, 4, .any, 0x0, 0x0, 0x0, false, 0x0, 0⟩  -- CAN_RET
  , ⟨0x78, 2, 4, 1, 4, .any, 0x0, 0xFFFFFFFF, 0x0, false, 0x0, 0⟩  -- CAN_RXMAP
  , ⟨0x80, 2, 4, 1, 4, .any, 0x0, 0x0, 0x0, false, 0x0, 0⟩  -- CAN_TXPEND
  , ⟨0x1000, 64, 96, 1, 4, .priv, 0xFFF0FFFF, 0x0, 0xF0000, false, 0x0, 0⟩  -- CAN_B_CFG
  , ⟨0x1004, 64, 96, 1, 4, .priv, 0x3FFFFFFF, 0x0, 0x0, false, 0x0, 0⟩  -- CAN_B_ID
  , ⟨0x1008, 64, 96, 1, 4, .priv, 0x3FFFFFFF, 0x0, 0x0, false, 0x0, 0⟩  -- CAN_B_MASK
  , ⟨0x100C, 64, 96, 1, 4, .priv, 0x70F, 0x0, 0x0, false, 0x0, 0⟩  -- CAN_B_FMT
  , ⟨0x1010, 64, 96, 1, 4, .any, 0x0, 0x0, 0x0, false, 0x0, 0⟩  -- CAN_B_STAT
  , ⟨0x1014, 64, 96, 1, 4, .any, 0x0, 0x0, 0x0, false, 0x0, 0⟩  -- CAN_B_RXID
  ]

/-- The CAN registers, part 2. -/
def regsCanB : List RegDesc :=
  [ ⟨0x1018, 64, 96, 1, 4, .any, 0x0, 0x0, 0x0, false, 0x0, 0⟩  -- CAN_B_TS
  , ⟨0x1020, 64, 96, 16, 4, .priv, 0xFFFFFFFF, 0x0, 0x0, false, 0x0, 0⟩  -- CAN_B_D
  ]

/-- The CAN registers. -/
def regsCan : List RegDesc := regsCanA ++ regsCanB

/-- The WSCH registers. -/
def regsWsch : List RegDesc :=
  [ ⟨0x0, 1, 4, 1, 4, .priv, 0x0, 0x0, 0x0, true, 0x0, 0⟩  -- WSCH_CMD
  , ⟨0x4, 1, 4, 1, 4, .any, 0x0, 0x0, 0x0, false, 0x0, 0⟩  -- WSCH_CMDSTAT
  , ⟨0x8, 1, 4, 1, 4, .any, 0x0, 0x0, 0x0, false, 0x1, 0⟩  -- WSCH_STATE
  , ⟨0x10, 1, 4, 1, 4, .priv, 0xC0000FFF, 0x0, 0x3FFFF000, false, 0x400000C8, 0⟩  -- WSCH_CFG_PEND
  , ⟨0x14, 1, 4, 1, 4, .any, 0x0, 0x0, 0x0, false, 0x400000C8, 0⟩  -- WSCH_CFG
  , ⟨0x18, 1, 4, 1, 4, .any, 0x0, 0x0, 0x0, false, 0x0, 0⟩  -- WSCH_CONF
  , ⟨0x1C, 1, 4, 1, 4, .any, 0x0, 0x3, 0x0, false, 0x0, 0⟩  -- WSCH_EVT
  , ⟨0x20, 1, 4, 1, 4, .priv, 0x3, 0x0, 0x0, false, 0x0, 0⟩  -- WSCH_EVT_EN
  , ⟨0x24, 1, 4, 1, 4, .any, 0x0, 0x0, 0x0, true, 0x0, 0⟩  -- WSCH_CANCEL
  , ⟨0x28, 1, 4, 1, 4, .any, 0x0, 0x0, 0x0, false, 0x0, 0⟩  -- WSCH_CANCEL_RES
  , ⟨0x2C, 1, 4, 1, 4, .any, 0x0, 0x0, 0x0, false, 0x0, 0⟩  -- WSCH_DISP_CNT
  , ⟨0x30, 1, 4, 1, 4, .any, 0x0, 0x0, 0x0, false, 0x0, 0⟩  -- WSCH_AFF_HIT_CNT
  , ⟨0x34, 1, 4, 1, 4, .any, 0x0, 0x0, 0x0, false, 0x0, 0⟩  -- WSCH_AFF_AGED_CNT
  , ⟨0x38, 1, 4, 1, 4, .any, 0x0, 0x0, 0x0, false, 0x0, 0⟩  -- WSCH_CANCEL_CNT
  , ⟨0x3C, 1, 4, 1, 4, .any, 0x0, 0x0, 0x0, false, 0x0, 0⟩  -- WSCH_TRDROP_CNT
  , ⟨0x40, 1, 4, 1, 4, .any, 0x0, 0x0, 0x0, false, 0x0, 0⟩  -- WSCH_LOST
  , ⟨0x44, 1, 4, 1, 4, .any, 0x0, 0x0, 0x0, false, 0x0, 0⟩  -- WSCH_LOST_CNT
  , ⟨0x48, 1, 4, 1, 4, .any, 0x0, 0x0, 0x0, true, 0x0, 0⟩  -- WSCH_DONE
  , ⟨0x4C, 1, 4, 1, 4, .any, 0x0, 0x0, 0x0, false, 0x0, 0⟩  -- WSCH_CORE_BUSY
  , ⟨0x50, 16, 4, 1, 4, .any, 0x0, 0x0, 0x0, false, 0x0, 0⟩  -- WSCH_DISP_D
  , ⟨0x100, 16, 4, 1, 4, .any, 0x0, 0x0, 0x0, false, 0x0, 0⟩  -- WSCH_GRP_DEF
  , ⟨0x200, 64, 4, 1, 4, .any, 0x0, 0x0, 0x0, false, 0x0, 0⟩  -- WSCH_AFF
  ]

/-- The QUE registers. -/
def regsQue : List RegDesc :=
  [ ⟨0x0, 1, 4, 1, 4, .priv, 0x0, 0x0, 0x0, true, 0x0, 0⟩  -- QUE_CMD
  , ⟨0x4, 1, 4, 1, 4, .any, 0x0, 0x0, 0x0, false, 0x0, 0⟩  -- QUE_CMDSTAT
  , ⟨0x8, 1, 4, 1, 4, .any, 0x0, 0x0, 0x0, false, 0x1, 0⟩  -- QUE_STATE
  , ⟨0x10, 1, 4, 1, 4, .any, 0x0, 0x7, 0x0, false, 0x0, 0⟩  -- QUE_EVT
  , ⟨0x14, 1, 4, 1, 4, .priv, 0x7, 0x0, 0x0, false, 0x0, 0⟩  -- QUE_EVT_EN
  , ⟨0x20, 4, 4, 1, 4, .any, 0x0, 0x0, 0x0, false, 0x0, 0⟩  -- QUE_FULL_MAP
  , ⟨0x30, 1, 4, 1, 4, .any, 0x0, 0x0, 0x0, false, 0x0, 0⟩  -- QUE_RETRY_CNT
  , ⟨0x34, 1, 4, 1, 4, .any, 0x0, 0x0, 0x0, false, 0x0, 0⟩  -- QUE_STALL_CNT
  , ⟨0x38, 1, 4, 1, 4, .any, 0x0, 0x0, 0x0, false, 0x0, 0⟩  -- QUE_MEMERR_CNT
  , ⟨0x40, 16, 4, 1, 4, .any, 0xFFFFFFFF, 0x0, 0x0, false, 0x0, 0⟩  -- QUE_ENQ_D
  , ⟨0x80, 1, 4, 1, 4, .any, 0x0, 0x0, 0x0, true, 0x0, 0⟩  -- QUE_ENQ_COMMIT
  , ⟨0x84, 1, 4, 1, 4, .any, 0x0, 0x0, 0x0, false, 0x0, 0⟩  -- QUE_ENQ_RES
  , ⟨0x100, 16, 4, 1, 4, .priv, 0x7F7F7F7F, 0x0, 0x80808080, false, 0x0, 0⟩  -- QUE_EVQ
  , ⟨0x1000, 128, 32, 1, 4, .priv, 0xFFFFC000, 0x0, 0x3FFF, false, 0xFC000, 0⟩  -- QUE_Q_CFG
  , ⟨0x1004, 128, 32, 1, 4, .any, 0x0, 0x0, 0x0, false, 0x0, 0⟩  -- QUE_Q_BASE_LO
  , ⟨0x1008, 128, 32, 1, 4, .any, 0x0, 0x0, 0x0, false, 0x0, 0⟩  -- QUE_Q_BASE_HI
  , ⟨0x100C, 128, 32, 1, 4, .priv, 0xFFFFFFC0, 0x0, 0x0, false, 0x0, 0⟩  -- QUE_Q_PEND_LO
  , ⟨0x1010, 128, 32, 1, 4, .priv, 0x1F00FF, 0x0, 0x0, false, 0x0, 0⟩  -- QUE_Q_PEND_HI
  , ⟨0x1014, 128, 32, 1, 4, .any, 0x0, 0x0, 0x0, false, 0x0, 0⟩  -- QUE_Q_LVL
  , ⟨0x1018, 128, 32, 1, 4, .any, 0x0, 0x0, 0x0, false, 0x0, 0⟩  -- QUE_Q_ENQ_CNT
  , ⟨0x101C, 128, 32, 1, 4, .any, 0x0, 0x0, 0x0, false, 0x0, 0⟩  -- QUE_Q_DEQ_CNT
  ]

/-- The MEMC registers. -/
def regsMemc : List RegDesc :=
  [ ⟨0x0, 1, 4, 1, 4, .priv, 0x0, 0x0, 0x0, true, 0x0, 0⟩  -- MEMC_CMD
  , ⟨0x4, 1, 4, 1, 4, .any, 0x0, 0x0, 0x0, false, 0x0, 0⟩  -- MEMC_CMDSTAT
  , ⟨0x8, 1, 4, 1, 4, .any, 0x0, 0x0, 0x0, false, 0x1, 0⟩  -- MEMC_STATE
  , ⟨0x10, 1, 4, 1, 4, .any, 0x0, 0x0, 0x0, false, 0x0, 0⟩  -- MEMC_DEV
  , ⟨0x14, 1, 4, 1, 4, .any, 0x0, 0x0, 0x0, false, 0x0, 0⟩  -- MEMC_USABLE
  , ⟨0x18, 1, 4, 1, 4, .priv, 0xFF, 0x0, 0x0, false, 0x84, 0⟩  -- MEMC_ARB
  , ⟨0x1C, 1, 4, 1, 4, .any, 0x0, 0x0, 0x0, false, 0x0, 0⟩  -- MEMC_OST
  , ⟨0x20, 1, 4, 1, 4, .any, 0x0, 0x3F, 0x0, false, 0x0, 0⟩  -- MEMC_EVT
  , ⟨0x24, 1, 4, 1, 4, .priv, 0x3F, 0x0, 0x0, false, 0x0, 0⟩  -- MEMC_EVT_EN
  , ⟨0x28, 1, 4, 1, 4, .any, 0x0, 0x0, 0x0, false, 0x0, 0⟩  -- MEMC_CE_CNT
  , ⟨0x2C, 1, 4, 1, 4, .any, 0x0, 0x0, 0x0, false, 0x0, 0⟩  -- MEMC_UE_CNT
  , ⟨0x30, 1, 4, 1, 4, .any, 0x0, 0x0, 0x0, false, 0x0, 0⟩  -- MEMC_CE_ADDR_LO
  , ⟨0x34, 1, 4, 1, 4, .any, 0x0, 0x0, 0x0, false, 0x0, 0⟩  -- MEMC_CE_ADDR_HI
  , ⟨0x38, 1, 4, 1, 4, .any, 0x0, 0x0, 0x0, false, 0x0, 0⟩  -- MEMC_UE_ADDR_LO
  , ⟨0x3C, 1, 4, 1, 4, .any, 0x0, 0x0, 0x0, false, 0x0, 0⟩  -- MEMC_UE_ADDR_HI
  , ⟨0x40, 1, 4, 1, 4, .priv, 0x800000FF, 0x0, 0x0, false, 0x80000018, 0⟩  -- MEMC_SCRUB_CFG
  , ⟨0x44, 1, 4, 1, 4, .any, 0x0, 0x0, 0x0, false, 0x0, 0⟩  -- MEMC_SCRUB_POS
  , ⟨0x48, 1, 4, 1, 4, .priv, 0xCF03FFFF, 0x0, 0x0, false, 0x0, 0⟩  -- MEMC_REMAP_ROW
  , ⟨0x4C, 1, 4, 1, 4, .any, 0x0, 0x0, 0x0, false, 0x0, 0⟩  -- MEMC_REMAP_USED
  , ⟨0x50, 1, 4, 1, 4, .any, 0x0, 0x0, 0x0, false, 0x0, 0⟩  -- MEMC_TEMP
  ]

/-- The SREC registers, part 1. -/
def regsSrecA : List RegDesc :=
  [ ⟨0x0, 1, 4, 1, 4, .any, 0x0, 0x0, 0x0, true, 0x0, 0⟩  -- SREC_CMD
  , ⟨0x4, 1, 4, 1, 4, .any, 0x0, 0x0, 0x0, false, 0x0, 0⟩  -- SREC_CMDSTAT
  , ⟨0x8, 1, 4, 1, 4, .any, 0x0, 0x0, 0x0, false, 0x0, 0⟩  -- SREC_STATE
  , ⟨0x10, 1, 4, 1, 4, .priv, 0x7F07F7, 0x0, 0x0, false, 0x85, 0⟩  -- SREC_CFG
  , ⟨0x20, 1, 4, 1, 4, .priv, 0xFFFF0000, 0x0, 0x0, false, 0x0, 0⟩  -- SREC_BUF_BASE_LO_S
  , ⟨0x24, 1, 4, 1, 4, .priv, 0xFF, 0x0, 0x0, false, 0x0, 0⟩  -- SREC_BUF_BASE_HI_S
  , ⟨0x28, 1, 4, 1, 4, .priv, 0x7FFFF, 0x0, 0x0, false, 0x10, 0⟩  -- SREC_BUF_NBLK_S
  , ⟨0x30, 1, 4, 1, 4, .any, 0x0, 0x0, 0x0, false, 0x0, 0⟩  -- SREC_BUF_BASE_LO
  , ⟨0x34, 1, 4, 1, 4, .any, 0x0, 0x0, 0x0, false, 0x0, 0⟩  -- SREC_BUF_BASE_HI
  , ⟨0x38, 1, 4, 1, 4, .any, 0x0, 0x0, 0x0, false, 0x0, 0⟩  -- SREC_BUF_NBLK
  , ⟨0x40, 1, 4, 1, 4, .any, 0x0, 0x0, 0x0, false, 0x0, 0⟩  -- SREC_WBLK
  , ⟨0x44, 1, 4, 1, 4, .any, 0x0, 0x0, 0x0, false, 0x0, 0⟩  -- SREC_BSEQ_NEW
  , ⟨0x48, 1, 4, 1, 4, .any, 0x0, 0x0, 0x0, false, 0x0, 0⟩  -- SREC_BSEQ_OLD
  , ⟨0x4C, 1, 4, 1, 4, .any, 0x0, 0x0, 0x0, false, 0x0, 0⟩  -- SREC_LOCK_CNT
  , ⟨0x50, 1, 4, 1, 4, .any, 0x0, 0x3F, 0x0, false, 0x0, 0⟩  -- SREC_EVT
  , ⟨0x54, 1, 4, 1, 4, .priv, 0x3F, 0x0, 0x0, false, 0x0, 0⟩  -- SREC_EVT_EN
  , ⟨0x58, 1, 4, 1, 4, .any, 0x0, 0x0, 0x0, false, 0x0, 0⟩  -- SREC_SAMPLE_CNT
  , ⟨0x5C, 1, 4, 1, 4, .any, 0x0, 0x0, 0x0, false, 0x0, 0⟩  -- SREC_DROP_CNT
  , ⟨0x60, 1, 4, 1, 4, .any, 0x0, 0x0, 0x0, false, 0x0, 0⟩  -- SREC_BYTES_LO
  , ⟨0x64, 1, 4, 1, 4, .any, 0x0, 0x0, 0x0, false, 0x0, 0⟩  -- SREC_BYTES_HI
  , ⟨0x68, 1, 4, 1, 4, .any, 0x0, 0x0, 0x0, false, 0x0, 0⟩  -- SREC_FRAME_BYTES
  , ⟨0x80, 1, 4, 1, 4, .priv, 0x8F001FFF, 0x0, 0x0, false, 0x0, 0⟩  -- SREC_TRIG_CFG
  , ⟨0x84, 1, 4, 1, 4, .priv, 0xFFFFFFFF, 0x0, 0x0, false, 0x0, 0⟩  -- SREC_TRIG_VAL
  , ⟨0x88, 1, 4, 1, 4, .priv, 0xFFFFFF, 0x0, 0x0, false, 0x0, 0⟩  -- SREC_TRIG_PRE
  , ⟨0x8C, 1, 4, 1, 4, .priv, 0xFFFFFF, 0x0, 0x0, false, 0x0, 0⟩  -- SREC_TRIG_POST
  , ⟨0x90, 4, 4, 1, 4, .any, 0x0, 0x0, 0x0, false, 0x0, 0⟩  -- SREC_CAP_SPAN
  , ⟨0xC0, 4, 16, 1, 4, .any, 0x0, 0x0, 0x0, false, 0x0, 0⟩  -- SREC_CAP_STAT
  , ⟨0xC4, 4, 16, 1, 4, .any, 0x0, 0x0, 0x0, false, 0x0, 0⟩  -- SREC_CAP_FIRST
  , ⟨0xC8, 4, 16, 1, 4, .any, 0x0, 0x0, 0x0, false, 0x0, 0⟩  -- SREC_CAP_BSEQ0
  , ⟨0xCC, 4, 16, 1, 4, .any, 0x0, 0x0, 0x0, false, 0x0, 0⟩  -- SREC_CAP_BSEQ1
  ]

/-- The SREC registers, part 2. -/
def regsSrecB : List RegDesc :=
  [ ⟨0x100, 1, 4, 1, 4, .any, 0x3FFFF, 0x0, 0x0, false, 0x0, 0⟩  -- SREC_RD_SRC
  , ⟨0x104, 1, 4, 1, 4, .any, 0x7FFFF, 0x0, 0x0, false, 0x1, 0⟩  -- SREC_RD_NBLK
  , ⟨0x108, 1, 4, 1, 4, .any, 0xFFFFFFC0, 0x0, 0x0, false, 0x0, 0⟩  -- SREC_RD_DST_LO
  , ⟨0x10C, 1, 4, 1, 4, .any, 0xFFFFFFFF, 0x0, 0x0, false, 0x0, 0⟩  -- SREC_RD_DST_HI
  , ⟨0x110, 1, 4, 1, 4, .any, 0x100, 0x0, 0x0, false, 0x0, 0⟩  -- SREC_RD_CTL
  , ⟨0x114, 1, 4, 1, 4, .any, 0x0, 0x0, 0x0, false, 0x0, 0⟩  -- SREC_RD_STAT
  ]

/-- The SREC registers. -/
def regsSrec : List RegDesc := regsSrecA ++ regsSrecB

/-- The BOOT registers. -/
def regsBoot : List RegDesc :=
  [ ⟨0x0, 1, 4, 1, 4, .priv, 0x0, 0x0, 0x0, true, 0x0, 0⟩  -- BOOT_CMD
  , ⟨0x4, 1, 4, 1, 4, .any, 0x0, 0x0, 0x0, false, 0x0, 0⟩  -- BOOT_CMDSTAT
  , ⟨0x8, 1, 4, 1, 4, .any, 0x0, 0x0, 0x0, false, 0x1, 0⟩  -- BOOT_STATE
  , ⟨0x10, 1, 4, 1, 4, .any, 0x0, 0x0, 0x0, false, 0x0, 0⟩  -- BOOT_RUN
  , ⟨0x14, 1, 4, 1, 4, .any, 0x0, 0x0, 0x0, false, 0x0, 0⟩  -- BOOT_GEN
  , ⟨0x18, 1, 4, 1, 4, .any, 0x0, 0x0, 0x0, false, 0x0, 0⟩  -- BOOT_SLOTA_RES
  , ⟨0x1C, 1, 4, 1, 4, .any, 0x0, 0x0, 0x0, false, 0x0, 0⟩  -- BOOT_SLOTB_RES
  , ⟨0x20, 1, 4, 1, 4, .any, 0x0, 0x0, 0x0, false, 0x0, 0⟩  -- BOOT_VRES
  , ⟨0x24, 1, 4, 1, 4, .any, 0x0, 0x0, 0x0, false, 0x0, 0⟩  -- BOOT_WCAUSE
  , ⟨0x28, 1, 4, 1, 4, .any, 0x0, 0x0, 0x0, false, 0x0, 0⟩  -- BOOT_TIME
  , ⟨0x30, 1, 4, 1, 4, .priv, 0x8000FFFF, 0x0, 0x0, false, 0x0, 0⟩  -- BOOT_WDOG
  , ⟨0x34, 1, 4, 1, 4, .priv, 0x0, 0x0, 0x0, true, 0x0, 0⟩  -- BOOT_WDOG_KICK
  , ⟨0x40, 1, 4, 1, 4, .any, 0x7FF, 0x0, 0x0, false, 0x0, 0⟩  -- BOOT_OTP_ADDR
  , ⟨0x44, 1, 4, 1, 4, .any, 0x0, 0x0, 0x0, false, 0x0, 0⟩  -- BOOT_OTP_DATA
  , ⟨0x48, 1, 4, 1, 4, .priv, 0xFFFFFFC0, 0x0, 0x0, false, 0x0, 0⟩  -- BOOT_ATT_LO
  , ⟨0x4C, 1, 4, 1, 4, .priv, 0xFF, 0x0, 0x0, false, 0x0, 0⟩  -- BOOT_ATT_HI
  , ⟨0x50, 1, 4, 1, 4, .any, 0x0, 0x0, 0x0, false, 0x0, 0⟩  -- BOOT_DRAMINIT
  , ⟨0x54, 1, 4, 1, 4, .any, 0x0, 0x0, 0x0, false, 0x0, 0⟩  -- BOOT_IDSTAT
  , ⟨0x60, 8, 4, 1, 4, .priv, 0xFFFFFFFF, 0x0, 0x0, false, 0x0, 0⟩  -- BOOT_NONCE
  , ⟨0x80, 16, 4, 1, 4, .any, 0x0, 0x0, 0x0, false, 0x0, 0⟩  -- BOOT_IDPUB
  , ⟨0x100, 1, 4, 1, 4, .secure, 0x0, 0x0, 0x0, true, 0x0, 0⟩  -- BOOT_SC_CMD
  , ⟨0x104, 1, 4, 1, 4, .any, 0x0, 0x0, 0x0, false, 0x0, 0⟩  -- BOOT_SC_CMDSTAT
  , ⟨0x108, 1, 4, 1, 4, .any, 0x0, 0x0, 0x0, false, 0x1, 0⟩  -- BOOT_SC_STATE
  , ⟨0x110, 8, 4, 1, 4, .secure, 0xFFFFFFFF, 0x0, 0x0, false, 0x0, 0⟩  -- BOOT_SC_DATA
  , ⟨0x140, 1, 4, 1, 4, .any, 0x0, 0x3F, 0x0, false, 0x0, 0⟩  -- BOOT_EVT
  , ⟨0x144, 1, 4, 1, 4, .priv, 0x3F, 0x0, 0x0, false, 0x0, 0⟩  -- BOOT_EVT_EN
  ]

/-- The KEC registers. -/
def regsKec : List RegDesc :=
  [ ⟨0x0, 1, 4, 1, 4, .priv, 0x0, 0x0, 0x0, true, 0x0, 0⟩  -- KEC_CMD
  , ⟨0x4, 1, 4, 1, 4, .any, 0x0, 0x0, 0x0, false, 0x0, 0⟩  -- KEC_CMDSTAT
  , ⟨0x8, 1, 4, 1, 4, .any, 0x0, 0x0, 0x0, false, 0x1, 0⟩  -- KEC_STATE
  , ⟨0x10, 1, 4, 1, 4, .priv, 0xFFFFFFFF, 0x0, 0x0, false, 0x0, 0⟩  -- KEC_SRC_LO
  , ⟨0x14, 1, 4, 1, 4, .priv, 0xFF, 0x0, 0x0, false, 0x0, 0⟩  -- KEC_SRC_HI
  , ⟨0x18, 1, 4, 1, 4, .priv, 0xFFFFFFFF, 0x0, 0x0, false, 0x0, 0⟩  -- KEC_LEN
  , ⟨0x1C, 1, 4, 1, 4, .priv, 0xFFFFFFFF, 0x0, 0x0, false, 0x40, 0⟩  -- KEC_OUTLEN
  , ⟨0x40, 16, 4, 1, 4, .any, 0x0, 0x0, 0x0, false, 0x0, 0⟩  -- KEC_OUT
  ]

/-- The XSPI registers. -/
def regsXspi : List RegDesc :=
  [ ⟨0x0, 1, 4, 1, 4, .priv, 0x0, 0x0, 0x0, true, 0x0, 0⟩  -- XSPI_CMD
  , ⟨0x4, 1, 4, 1, 4, .any, 0x0, 0x0, 0x0, false, 0x0, 0⟩  -- XSPI_CMDSTAT
  , ⟨0x8, 1, 4, 1, 4, .any, 0x0, 0x0, 0x0, false, 0x2, 0⟩  -- XSPI_STATE
  , ⟨0x10, 1, 4, 1, 4, .priv, 0xFFFFFFFF, 0x0, 0x0, false, 0x0, 0⟩  -- XSPI_FADDR
  , ⟨0x14, 1, 4, 1, 4, .priv, 0xFFFFFFFF, 0x0, 0x0, false, 0x0, 0⟩  -- XSPI_MADDR_LO
  , ⟨0x18, 1, 4, 1, 4, .priv, 0xFF, 0x0, 0x0, false, 0x0, 0⟩  -- XSPI_MADDR_HI
  , ⟨0x1C, 1, 4, 1, 4, .priv, 0xFFFFFFFF, 0x0, 0x0, false, 0x0, 0⟩  -- XSPI_LEN
  , ⟨0x20, 1, 4, 1, 4, .any, 0x0, 0x0, 0x0, false, 0x0, 0⟩  -- XSPI_DEV
  , ⟨0x24, 1, 4, 1, 4, .any, 0x0, 0x7, 0x0, false, 0x0, 0⟩  -- XSPI_EVT
  , ⟨0x28, 1, 4, 1, 4, .priv, 0x7, 0x0, 0x0, false, 0x0, 0⟩  -- XSPI_EVT_EN
  , ⟨0x2C, 1, 4, 1, 4, .any, 0x0, 0x0, 0x0, false, 0x0, 0⟩  -- XSPI_ERR_CNT
  ]

/-- The PCIE registers. -/
def regsPcie : List RegDesc :=
  [ ⟨0x0, 1, 4, 1, 4, .priv, 0x0, 0x0, 0x0, true, 0x0, 0⟩  -- PCIE_CMD
  , ⟨0x4, 1, 4, 1, 4, .any, 0x0, 0x0, 0x0, false, 0x0, 0⟩  -- PCIE_CMDSTAT
  , ⟨0x8, 1, 4, 1, 4, .any, 0x0, 0x0, 0x0, false, 0x0, 0⟩  -- PCIE_STATE
  , ⟨0x10, 1, 4, 1, 4, .any, 0x0, 0x0, 0x0, false, 0x0, 0⟩  -- PCIE_LINK
  , ⟨0x14, 1, 4, 1, 4, .priv, 0x103, 0x0, 0x0, false, 0x3, 0⟩  -- PCIE_CFG
  , ⟨0x18, 1, 4, 1, 4, .any, 0x0, 0x0, 0x0, false, 0x0, 0⟩  -- PCIE_ID
  , ⟨0x1C, 1, 4, 1, 4, .secure, 0xFFFFFFFF, 0x0, 0x0, false, 0x0, 0⟩  -- PCIE_SUBSYS
  , ⟨0x20, 1, 4, 1, 4, .any, 0x0, 0x1FF, 0x0, false, 0x0, 0⟩  -- PCIE_EVT
  , ⟨0x24, 1, 4, 1, 4, .priv, 0x1FF, 0x0, 0x0, false, 0x0, 0⟩  -- PCIE_EVT_EN
  , ⟨0x28, 1, 4, 1, 4, .priv, 0xFFFF8000, 0x0, 0x0, false, 0x0, 0⟩  -- PCIE_MB_BASE
  , ⟨0x2C, 1, 4, 1, 4, .priv, 0x7F, 0x0, 0x0, false, 0x0, 0⟩  -- PCIE_MB_QUE
  , ⟨0x30, 1, 4, 1, 4, .priv, 0x0, 0x0, 0x0, true, 0x0, 0⟩  -- PCIE_MB_ANSWER
  , ⟨0x34, 1, 4, 1, 4, .any, 0x0, 0x0, 0x0, false, 0x0, 0⟩  -- PCIE_MB_PEND
  , ⟨0x40, 1, 4, 1, 4, .priv, 0xFF00, 0x0, 0x0, false, 0x0, 0⟩  -- PCIE_HEV_EN
  , ⟨0x44, 1, 4, 1, 4, .priv, 0x0, 0x0, 0x0, true, 0x0, 0⟩  -- PCIE_MSIX_RAISE
  , ⟨0x48, 1, 4, 1, 4, .any, 0x0, 0x0, 0x0, false, 0x0, 0⟩  -- PCIE_RWERR_ADDR
  , ⟨0x4C, 1, 4, 1, 4, .any, 0x0, 0x0, 0x0, false, 0x0, 0⟩  -- PCIE_RWERR_CNT
  , ⟨0x50, 1, 4, 1, 4, .any, 0x0, 0x0, 0x0, false, 0x0, 0⟩  -- PCIE_BEERR_CNT
  , ⟨0x54, 1, 4, 1, 4, .any, 0x0, 0x0, 0x0, false, 0x0, 0⟩  -- PCIE_DBOVR_CNT
  , ⟨0x58, 1, 4, 1, 4, .any, 0x0, 0x0, 0x0, false, 0x0, 0⟩  -- PCIE_AER_CNT
  , ⟨0x5C, 1, 4, 1, 4, .any, 0x0, 0x0, 0x0, false, 0x0, 0⟩  -- PCIE_RDLAT
  , ⟨0x60, 1, 4, 1, 4, .any, 0x0, 0x0, 0x0, false, 0x0, 0⟩  -- PCIE_PERST_CNT
  ]

/-- The FLT registers, part 1. -/
def regsFltA : List RegDesc :=
  [ ⟨0x0, 1, 4, 1, 4, .priv, 0x0, 0x0, 0x0, true, 0x0, 0⟩  -- FLT_CMD
  , ⟨0x4, 1, 4, 1, 4, .any, 0x0, 0x0, 0x0, false, 0x0, 0⟩  -- FLT_CMDSTAT
  , ⟨0x8, 1, 4, 1, 4, .any, 0x0, 0x0, 0x0, false, 0x1, 0⟩  -- FLT_STATE
  , ⟨0x10, 1, 4, 1, 4, .secure, 0x3, 0x0, 0xFFFFFFFC, false, 0x1, 0⟩  -- FLT_CFG
  , ⟨0x14, 1, 4, 1, 4, .any, 0x0, 0xFF, 0x0, false, 0x0, 0⟩  -- FLT_EVT
  , ⟨0x18, 1, 4, 1, 4, .priv, 0xFF, 0x0, 0x0, false, 0x0, 0⟩  -- FLT_EVT_EN
  , ⟨0x1C, 1, 4, 1, 4, .any, 0x0, 0x0, 0x0, false, 0x0, 0⟩  -- FLT_SUMMARY
  , ⟨0x20, 4, 4, 1, 4, .any, 0x0, 0x0, 0x0, false, 0x0, 0⟩  -- FLT_LOG_D
  , ⟨0x30, 1, 4, 1, 4, .any, 0x0, 0x0, 0x0, false, 0x0, 0⟩  -- FLT_LOG_LVL
  , ⟨0x34, 1, 4, 1, 4, .any, 0x0, 0x0, 0x0, false, 0x0, 0⟩  -- FLT_LOG_LOST
  , ⟨0x38, 1, 4, 1, 4, .any, 0x0, 0x0, 0x0, false, 0x0, 0⟩  -- FLT_FAULT_CNT
  , ⟨0x3C, 1, 4, 1, 4, .any, 0x0, 0x0, 0x0, false, 0x0, 0⟩  -- FLT_DENY_CNT
  , ⟨0x40, 1, 4, 1, 4, .any, 0x0, 0x0, 0x0, false, 0x0, 0⟩  -- FLT_DENY_LAST
  , ⟨0x44, 1, 4, 1, 4, .any, 0x0, 0x0, 0x0, false, 0x0, 0⟩  -- FLT_ROPE
  , ⟨0x48, 1, 4, 1, 4, .any, 0x0, 0x0, 0x0, false, 0x0, 0⟩  -- FLT_VMON
  , ⟨0x50, 2, 4, 1, 4, .any, 0x0, 0x0, 0x0, false, 0x0, 0⟩  -- FLT_BLKRET
  , ⟨0x58, 1, 4, 1, 4, .secure, 0x7FF, 0x0, 0xFFFFF800, false, 0x3FF, 0⟩  -- FLT_ST_CFG
  , ⟨0x5C, 1, 4, 1, 4, .any, 0x0, 0x0, 0x0, false, 0x0, 0⟩  -- FLT_ST_STAT
  , ⟨0x60, 1, 4, 1, 4, .priv, 0xFF, 0x0, 0x0, false, 0x0, 0⟩  -- FLT_RET_IDX
  , ⟨0x64, 1, 4, 1, 4, .any, 0x0, 0x0, 0x0, false, 0x0, 0⟩  -- FLT_RET_ENT
  , ⟨0x68, 1, 4, 1, 4, .priv, 0xFFFF, 0x0, 0x0, false, 0x0, 0⟩  -- FLT_BKT_SEL
  , ⟨0x6C, 1, 4, 1, 4, .any, 0x0, 0x0, 0x0, false, 0x0, 0⟩  -- FLT_BKT_LVL
  , ⟨0x104, 1, 4, 1, 4, .secure, 0xFFFFFFFF, 0, 0, false, 0xE1003, 0⟩  -- FLT_BKT_CFG 1
  , ⟨0x108, 1, 4, 1, 4, .secure, 0xFFFFFFFF, 0, 0, false, 0x1518004, 0⟩  -- FLT_BKT_CFG 2
  , ⟨0x10C, 1, 4, 1, 4, .secure, 0xFFFFFFFF, 0, 0, false, 0x1518003, 0⟩  -- FLT_BKT_CFG 3
  , ⟨0x110, 1, 4, 1, 4, .secure, 0xFFFFFFFF, 0, 0, false, 0x1518002, 0⟩  -- FLT_BKT_CFG 4
  , ⟨0x114, 1, 4, 1, 4, .secure, 0xFFFFFFFF, 0, 0, false, 0xE1008, 0⟩  -- FLT_BKT_CFG 5
  , ⟨0x118, 1, 4, 1, 4, .secure, 0xFFFFFFFF, 0, 0, false, 0x1518004, 0⟩  -- FLT_BKT_CFG 6
  , ⟨0x11C, 1, 4, 1, 4, .secure, 0xFFFFFFFF, 0, 0, false, 0x1010, 0⟩  -- FLT_BKT_CFG 7
  , ⟨0x120, 1, 4, 1, 4, .secure, 0xFFFFFFFF, 0, 0, false, 0xE1003, 0⟩  -- FLT_BKT_CFG 8
  ]

/-- The FLT registers, part 2. -/
def regsFltB : List RegDesc :=
  [ ⟨0x124, 1, 4, 1, 4, .secure, 0xFFFFFFFF, 0, 0, false, 0xE1004, 0⟩  -- FLT_BKT_CFG 9
  , ⟨0x128, 1, 4, 1, 4, .secure, 0xFFFFFFFF, 0, 0, false, 0x1518004, 0⟩  -- FLT_BKT_CFG 10
  , ⟨0x200, 1, 4, 1, 4, .secure, 0x0, 0x0, 0x0, true, 0x0, 0⟩  -- FLT_SC_CMD
  , ⟨0x204, 1, 4, 1, 4, .any, 0x0, 0x0, 0x0, false, 0x0, 0⟩  -- FLT_SC_CMDSTAT
  , ⟨0x208, 1, 4, 1, 4, .any, 0x0, 0x0, 0x0, false, 0x1, 0⟩  -- FLT_SC_STATE
  ]

/-- The FLT registers. -/
def regsFlt : List RegDesc := regsFltA ++ regsFltB

/-- The BIV registers. -/
def regsBiv : List RegDesc :=
  [ ⟨0x0, 1, 4, 1, 4, .priv, 0x0, 0x0, 0x0, true, 0x0, 0⟩  -- BIV_CMD
  , ⟨0x4, 1, 4, 1, 4, .any, 0x0, 0x0, 0x0, false, 0x0, 0⟩  -- BIV_CMDSTAT
  , ⟨0x8, 1, 4, 1, 4, .any, 0x0, 0x0, 0x0, false, 0x1, 0⟩  -- BIV_STATE
  , ⟨0x10, 1, 4, 1, 4, .any, 0x0, 0x0, 0x0, false, 0x0, 0⟩  -- BIV_CAL_LO
  , ⟨0x14, 1, 4, 1, 4, .any, 0x0, 0x0, 0x0, false, 0x0, 0⟩  -- BIV_CAL_HI
  , ⟨0x18, 1, 4, 1, 4, .any, 0x0, 0x0, 0x0, false, 0x7D06101, 0⟩  -- BIV_VIEW_DATE
  , ⟨0x1C, 1, 4, 1, 4, .any, 0x0, 0x0, 0x0, false, 0x0, 0⟩  -- BIV_VIEW_TIME
  , ⟨0x20, 1, 4, 1, 4, .priv, 0xFFFFFFFF, 0x0, 0x0, false, 0x0, 0⟩  -- BIV_SET_LO
  , ⟨0x24, 1, 4, 1, 4, .priv, 0x7FFFFFFF, 0x0, 0x0, false, 0x0, 0⟩  -- BIV_SET_HI
  , ⟨0x28, 1, 4, 1, 4, .priv, 0xFFFF7F1F, 0x0, 0x0, false, 0x7D00101, 0⟩  -- BIV_SET_DATE
  , ⟨0x2C, 1, 4, 1, 4, .priv, 0x801F3F3F, 0x0, 0x0, false, 0x0, 0⟩  -- BIV_SET_TIME
  , ⟨0x30, 1, 4, 1, 4, .priv, 0x3FF, 0x0, 0x0, false, 0x0, 0⟩  -- BIV_TRIM
  , ⟨0x34, 1, 4, 1, 4, .any, 0x0, 0x0, 0x0, false, 0x0, 0⟩  -- BIV_PCC
  , ⟨0x38, 1, 4, 1, 4, .any, 0x0, 0x0, 0x0, false, 0x0, 0⟩  -- BIV_OPS
  , ⟨0x3C, 1, 4, 1, 4, .any, 0x0, 0x0, 0x0, false, 0x0, 0⟩  -- BIV_STAT
  , ⟨0x40, 1, 4, 1, 4, .any, 0x0, 0x0, 0x0, false, 0x0, 0⟩  -- BIV_VBAT
  , ⟨0x44, 1, 4, 1, 4, .any, 0x0, 0x0, 0x0, false, 0x0, 0⟩  -- BIV_RSTCAUSE
  , ⟨0x48, 1, 4, 1, 4, .secure, 0xB0FF0FFF, 0x0, 0x0, false, 0x0, 0⟩  -- BIV_FATAL
  , ⟨0x4C, 1, 4, 1, 4, .any, 0x0, 0xF, 0x0, false, 0x0, 0⟩  -- BIV_EVT
  , ⟨0x50, 1, 4, 1, 4, .priv, 0xF, 0x0, 0x0, false, 0x0, 0⟩  -- BIV_EVT_EN
  , ⟨0x80, 16, 4, 1, 4, .priv, 0xFFFFFFFF, 0x0, 0x0, false, 0x0, 0⟩  -- BIV_BKP
  ]

/-- The HUT registers. -/
def regsHut : List RegDesc :=
  [ ⟨0x0, 1, 4, 1, 4, .priv, 0x0, 0x0, 0x0, true, 0x0, 0⟩  -- HUT_CMD
  , ⟨0x4, 1, 4, 1, 4, .any, 0x0, 0x0, 0x0, false, 0x0, 0⟩  -- HUT_CMDSTAT
  , ⟨0x8, 1, 4, 1, 4, .any, 0x0, 0x0, 0x0, false, 0x1, 0⟩  -- HUT_STATE
  , ⟨0x10, 1, 4, 1, 4, .secure, 0x1, 0x0, 0x0, false, 0x0, 0⟩  -- HUT_CFG
  , ⟨0x14, 1, 4, 1, 4, .any, 0x0, 0x0, 0x0, false, 0x80, 0⟩  -- HUT_OLDEST
  , ⟨0x18, 1, 4, 1, 4, .any, 0x0, 0x0, 0x0, false, 0x80, 0⟩  -- HUT_NEXT
  , ⟨0x1C, 1, 4, 1, 4, .any, 0x0, 0x0, 0x0, false, 0x0, 0⟩  -- HUT_FREE
  , ⟨0x20, 1, 4, 1, 4, .any, 0x0, 0x0, 0x0, false, 0x0, 0⟩  -- HUT_RECS
  , ⟨0x24, 1, 4, 1, 4, .any, 0x0, 0x3F, 0x0, false, 0x0, 0⟩  -- HUT_EVT
  , ⟨0x28, 1, 4, 1, 4, .priv, 0x3F, 0x0, 0x0, false, 0x0, 0⟩  -- HUT_EVT_EN
  , ⟨0x2C, 1, 4, 1, 4, .any, 0x0, 0x0, 0x0, false, 0x0, 0⟩  -- HUT_DROP_CNT
  , ⟨0x30, 1, 4, 1, 4, .any, 0x0, 0x0, 0x0, false, 0x0, 0⟩  -- HUT_OVWR_CNT
  , ⟨0x34, 1, 4, 1, 4, .any, 0x0, 0x0, 0x0, false, 0x0, 0⟩  -- HUT_ABANDON_CNT
  , ⟨0x38, 1, 4, 1, 4, .any, 0x0, 0x0, 0x0, false, 0x0, 0⟩  -- HUT_CLEARS
  , ⟨0x3C, 1, 4, 1, 4, .any, 0x0, 0x0, 0x0, false, 0x0, 0⟩  -- HUT_WRITTEN
  , ⟨0x40, 1, 4, 1, 4, .any, 0x0, 0x0, 0x0, false, 0x0, 0⟩  -- HUT_WR_OFS
  , ⟨0x44, 1, 4, 1, 4, .priv, 0x0, 0x0, 0x0, true, 0x0, 0⟩  -- HUT_WR_DATA
  , ⟨0x48, 1, 4, 1, 4, .any, 0x0, 0x0, 0x0, false, 0x0, 0⟩  -- HUT_WR_IDX
  , ⟨0x50, 1, 4, 1, 4, .any, 0x7FFF0, 0x0, 0x0, false, 0x80, 0⟩  -- HUT_CURSOR
  , ⟨0x54, 1, 4, 1, 4, .any, 0x0, 0x0, 0x0, false, 0x0, 0⟩  -- HUT_CURINFO
  , ⟨0x60, 8, 4, 1, 4, .any, 0x0, 0x0, 0x0, false, 0x0, 0⟩  -- HUT_NONCE
  , ⟨0x80, 1, 4, 1, 4, .secure, 0xFFFFFFC0, 0x0, 0x0, false, 0x0, 0⟩  -- HUT_AUTH_LO
  , ⟨0x84, 1, 4, 1, 4, .secure, 0xFF, 0x0, 0x0, false, 0x0, 0⟩  -- HUT_AUTH_HI
  , ⟨0x88, 1, 4, 1, 4, .any, 0x0, 0x0, 0x0, false, 0x0, 0⟩  -- HUT_CLRRES
  , ⟨0x100, 64, 4, 1, 4, .any, 0x0, 0x0, 0x0, false, 0x0, 0⟩  -- HUT_WIN
  , ⟨0x200, 1, 4, 1, 4, .secure, 0x0, 0x0, 0x0, true, 0x0, 0⟩  -- HUT_SC_CMD
  , ⟨0x204, 1, 4, 1, 4, .any, 0x0, 0x0, 0x0, false, 0x0, 0⟩  -- HUT_SC_CMDSTAT
  , ⟨0x208, 1, 4, 1, 4, .any, 0x0, 0x0, 0x0, false, 0x1, 0⟩  -- HUT_SC_STATE
  ]

/-- The register table of a block index (R20); an unallocated index has none. -/
def blockRegs (b : Nat) : List RegDesc :=
  match b with
  | 0x00 => regsSys
  | 0x01 => regsClk
  | 0x09 => regsCyc
  | 0x08 => regsSig
  | 0x10 => regsCe
  | 0x11 => regsCtab
  | 0x12 => regsProf
  | 0x14 => regsAxc
  | 0x15 => regsAxc
  | 0x16 => regsAxc
  | 0x17 => regsAxc
  | 0x18 => regsStep
  | 0x19 => regsEnc
  | 0x1C => regsSeq
  | 0x1D => regsIlk
  | 0x20 => regsAdc
  | 0x21 => regsSdm
  | 0x22 => regsDac
  | 0x24 => regsFio
  | 0x25 => regsSafe
  | 0x28 => regsOcu
  | 0x29 => regsOcu
  | 0x2C => regsTb
  | 0x2D => regsEth
  | 0x2E => regsEth
  | 0x30 => regsCan
  | 0x31 => regsCan
  | 0x32 => regsCan
  | 0x33 => regsCan
  | 0x38 => regsWsch
  | 0x39 => regsQue
  | 0x3A => regsMemc
  | 0x3B => regsSrec
  | 0x02 => regsBoot
  | 0x03 => regsKec
  | 0x3D => regsXspi
  | 0x3C => regsPcie
  | 0x04 => regsFlt
  | 0x05 => regsBiv
  | 0x06 => regsHut
  | _ => []

/-- Is the block index allocated (R20)? -/
def blockAllocated (b : Nat) : Bool := !(blockRegs b).isEmpty

/-- The description of the register at OFS, if one stands there. [DEDUCED: log 16] -/
def regDesc (a : Nat) : Option RegDesc := (blockRegs (a / 0x10000)).find? (fun d => regCovers d (a % 0x10000))

end Sys2Proof.Machine
end

