-- ==== Sys2Proof/Machine/Operands.lean ====
section
/-!
DEFINITION. The forms operands take: bit fields of a word, signed readings, the class and the port of a master (R42,
R57), the word written to a _CMD register (R60), and where an address lies (R15, R18, R20, R43).
-/
namespace Sys2Proof.Machine

/-- The field [hi:lo] of a word. -/
def fld (w : Word) (hi lo : Nat) : Nat := (w.toNat / 2 ^ lo) % 2 ^ (hi - lo + 1)

/-- A word with its field [hi:lo] replaced. -/
def setFld (w : Word) (hi lo v : Nat) : Word :=
  wordOfNat (w.toNat - fld w hi lo * 2 ^ lo + (v % 2 ^ (hi - lo + 1)) * 2 ^ lo)

/-- Bit n of a word. -/
def bitOf (w : Word) (n : Nat) : Bool := w.getLsbD n

/-- The word with only bit n set. -/
def bitMask (n : Nat) : Word := wordOfNat (2 ^ n)

/-- A word with bit n set to b. -/
def setBit (w : Word) (n : Nat) (b : Bool) : Word := if b then w ||| bitMask n else w &&& ~~~(bitMask n)

/-- The field [hi:lo] read as a two's-complement number. -/
def sfld (w : Word) (hi lo : Nat) : Int :=
  let n := hi - lo + 1
  let v := fld w hi lo
  if v < 2 ^ (n - 1) then (v : Int) else (v : Int) - 2 ^ n

/-- A Bool as a bit. -/
def b2n (b : Bool) : Nat := if b then 1 else 0

/-- The classes of R57, coded as in SYS_DECERR_ADDR (R34). -/
inductive MClass where
  | secure
  | priv
  | user
  | external
  deriving DecidableEq, Repr

/-- The class of a master (R57, R58). -/
def mclass : Sys2Proof.Master → MClass
  | .baseCamp => .secure
  | .bootApp => .priv
  | .rope _ => .secure
  | .core _ u => if u then .user else .priv
  | .host => .external
  | .ring => .external

/-- The code of a class: 0 secure, 1 privileged, 2 user, 3 external (R34). -/
def mclassCode : MClass → Nat
  | .secure => 0
  | .priv => 1
  | .user => 2
  | .external => 3

/-- The port a master's accesses are made through (R42); Base camp has one too. -/
def mport : Sys2Proof.Master → Nat
  | .core n _ => n.val
  | .rope b => if b then 25 else 24
  | .host => 26
  | .ring => 27
  | .baseCamp => 28
  | .bootApp => 28

/-- May a class use a register of this access suffix (R57)? -/
def accGranted (c : MClass) : Priv → Bool
  | .any => true
  | .priv => c = .secure || c = .priv
  | .secure => c = .secure

/-- The key of a register held for a port. -/
def portKey (port a : Nat) : Nat := port * 0x400000 + a

/-- The alias a window address names (R43). -/
inductive Alias where
  | normal
  | set
  | clear
  | toggle
  deriving DecidableEq, Repr

/-- The four repetitions of a block's registers (R43). -/
def aliasOf (off : Nat) : Alias :=
  match off / 0x4000 % 4 with
  | 0 => .normal
  | 1 => .set
  | 2 => .clear
  | _ => .toggle

/-- What a write through an alias makes of the RW bits of a register (R43). -/
def aliasApply (al : Alias) (old w : Word) : Word :=
  match al with
  | .normal => w
  | .set => old ||| w
  | .clear => old &&& ~~~w
  | .toggle => old ^^^ w

/-- The regions of the internal address map (R15). -/
inductive Region where
  | sram            -- shared SRAM, general
  | sramSup         -- shared SRAM, supervisor
  | ceLocal         -- CE local memory
  | mramHut         -- MRAM, hut book
  | mramSup         -- MRAM, supervisor store
  | regs (ofs : Nat)              -- register space, with the offset above 0x00_4000_0000
  | dram
  | remote (chip ofs : Nat)       -- a remote chip's window
  | none            -- no region decodes it (R17)
  deriving DecidableEq, Repr

/-- The region an address lies in, with `usable` bytes of DRAM (R15, R16). -/
def regionOf (usable a : Nat) : Region :=
  if a < 0x780000 then .sram
  else if a < 0x800000 then .sramSup
  else if 0x10000000 ≤ a ∧ a < 0x10100000 then .ceLocal
  else if 0x20000000 ≤ a ∧ a < 0x20070000 then .mramHut
  else if 0x20070000 ≤ a ∧ a < 0x20080000 then .mramSup
  else if 0x40000000 ≤ a ∧ a < 0x40400000 then .regs (a - 0x40000000)
  else if 0x100000000 ≤ a ∧ a < 0x100000000 + usable then .dram
  else if 0xA00000000 ≤ a ∧ a < 0xA40000000 then .remote ((a - 0xA00000000) / 0x1000000) ((a - 0xA00000000) % 0x1000000)
  else .none

/-- May a class use a region, to read or to write (R15)? Register space and remote windows decide per register. -/
def regionGranted (c : MClass) (write : Bool) : Region → Bool
  | .sram => true
  | .sramSup => c = .secure
  | .ceLocal => c = .secure || c = .priv
  | .mramHut => c = .secure && !write
  | .mramSup => c = .secure
  | .dram => true
  | .regs _ => true
  | .remote _ _ => true
  | .none => true

/-- The island a register block lies in (R20). -/
def blockIsland (b : Nat) : Nat :=
  match b with
  | 0x00 | 0x01 | 0x02 | 0x03 | 0x04 => 1
  | 0x05 => 0
  | 0x06 | 0x08 | 0x38 | 0x39 | 0x3B => 4
  | 0x09 | 0x12 | 0x14 | 0x15 | 0x16 | 0x17 | 0x18 | 0x19 | 0x2C => 6
  | 0x10 | 0x11 | 0x1C | 0x1D => 5
  | 0x20 | 0x21 | 0x22 => 7
  | 0x24 => 13
  | 0x25 => 2
  | 0x28 => 8
  | 0x29 => 9
  | 0x2D | 0x2E | 0x30 | 0x31 | 0x32 | 0x33 => 10
  | 0x3A => 11
  | _ => 12

/-! ### Staged registers (R49) -/

/-- The active copy of a staged register, both by OFS. -/
def activeOf (a : Nat) : Option Nat :=
  let off := a % 0x10000
  match a / 0x10000 with
  | 0x09 => if off = 0x20 then some (a + 4) else none
  | 0x14 | 0x15 | 0x16 | 0x17 =>
    let r := (off - 0x100) % 0x80
    if 0x100 ≤ off ∧ off < 0x300 ∧ 0x10 ≤ r ∧ r < 0x1C then some (a + 0x10) else none
  | 0x20 => if 0x100 ≤ off ∧ off < 0x500 ∧ off % 0x40 < 0x10 then some (a + 0x10) else none
  | 0x21 =>
    if 0x40 ≤ off ∧ off < 0x80 ∧ off % 8 = 0 then some (a + 4)
    else if 0x400 ≤ off ∧ off < 0xA00 ∧ off % 0x20 = 0 then some (a + 4) else none
  | 0x28 | 0x29 => if 0x100 ≤ off ∧ off < 0x180 then some (a + 0x80) else none
  | 0x3B => if 0x20 ≤ off ∧ off < 0x2C then some (a + 0x10) else none
  | _ => none

/-- Is the register the active copy of a staged one? -/
def isActive (a : Nat) : Bool := [4, 0x10, 0x80].any (fun d => activeOf (a - d) == some a)

/-! ### CRC-8 (R327), CRC-32C (R318) and CRC-32 (IEEE 802.3) -/

/-- The frame check sequence of IEEE 802.3, of a list of bytes. -/
def crc32 (l : List Nat) : Nat :=
  l.foldl (fun c b => (List.range 8).foldl (fun c _ => if c % 2 = 1 then c / 2 ^^^ 0xEDB88320 else c / 2) (c ^^^ b)) 0xFFFFFFFF
    ^^^ 0xFFFFFFFF

/-- CRC-8 of a list of bytes: x^8 + x^2 + x + 1, initial value 0, most significant bit first. -/
def crc8 (l : List Nat) : Nat :=
  l.foldl (fun c b => (List.range 8).foldl (fun c _ => if c ≥ 128 then c * 2 % 256 ^^^ 7 else c * 2) (c ^^^ b)) 0

/-- One byte into a CRC-32C. -/
def crc32cByte (c b : Nat) : Nat :=
  (List.range 8).foldl (fun c _ => if c % 2 = 1 then c / 2 ^^^ 0x82F63B78 else c / 2) (c ^^^ b)

/-- The CRC-32C of a list of bytes. -/
def crc32c (l : List Nat) : Nat := l.foldl crc32cByte 0xFFFFFFFF ^^^ 0xFFFFFFFF

/-- The bytes of words, least significant first. -/
def wordBytes (l : List Word) : List Nat := l.flatMap (fun w => [fld w 7 0, fld w 15 8, fld w 23 16, fld w 31 24])

end Sys2Proof.Machine
end

