-- ==== Sys2Proof/Machine/Flags.lean ====
section
/-!
DEFINITION. The flags the part computes: the fields of _CMDSTAT (R61) and what each outcome of a command makes of them
(R62–R64), the signal status byte (R73), and FRESH and SEQ of a result register (R69).
-/
namespace Sys2Proof.Machine

/-- STATUS codes of _CMDSTAT (R61). -/
def stNone : Nat := 0
def stDone : Nat := 1
def stBusy : Nat := 2
def stRejCode : Nat := 3
def stRejState : Nat := 4
def stRejPriv : Nat := 5

/-- A _CMDSTAT word from its fields (R61). -/
def mkCmdstat (rejCnt code : Nat) (latew inprog : Bool) (status : Nat) : Word :=
  wordOfNat (rejCnt * 0x10000 + code * 0x100 + b2n latew * 0x20 + b2n inprog * 0x10 + status)

/-- _CMDSTAT after a rejection: STATUS, CODE and REJ_CNT change, INPROG and LATEW stay (R63). -/
def cmdstatReject (w : Word) (code status : Nat) : Word :=
  mkCmdstat (min (fld w 31 16 + 1) 0xFFFF) code (bitOf w 5) (bitOf w 4) status

/-- _CMDSTAT after the acceptance of a command that has a BUSY phase: BUSY, INPROG, LATEW cleared (R61, R62). -/
def cmdstatBusy (w : Word) (code : Nat) : Word := mkCmdstat (fld w 31 16) code false true stBusy

/-- _CMDSTAT after the acceptance of a command that completes at once: DONE beside whatever is in progress (R64). -/
def cmdstatAtOnce (w : Word) (code : Nat) : Word := mkCmdstat (fld w 31 16) code false (bitOf w 4) stDone

/-- _CMDSTAT at the completion of the command in progress: DONE with its code, INPROG 0 (R61). -/
def cmdstatDone (w : Word) (code : Nat) : Word := mkCmdstat (fld w 31 16) code (bitOf w 5) false stDone

/-- _CMDSTAT at the completion of the command in progress with REJ_CODE, where its chapter has it fail so (R498, R536). -/
def cmdstatFailed (w : Word) (code : Nat) : Word := mkCmdstat (fld w 31 16) code (bitOf w 5) false stRejCode

/-- _CMDSTAT after an accepted ABORT: DONE with code 0x0F, INPROG 0 (R67, R68). -/
def cmdstatAbort (w : Word) : Word := mkCmdstat (fld w 31 16) 0x0F false false stDone

/-- _CMDSTAT of a channel whose command a block-level ABORT ended: as after an ABORT, LATEW unchanged (R66). -/
def cmdstatAborted (w : Word) : Word := mkCmdstat (fld w 31 16) 0x0F (bitOf w 5) false stDone

/-- The bits of the signal status byte (R73). -/
def sVALID : BitVec 8 := 0x01
def sSTALE : BitVec 8 := 0x02
def sOVER : BitVec 8 := 0x04
def sSUBST : BitVec 8 := 0x08
def sFORCED : BitVec 8 := 0x10
def sILKHELD : BitVec 8 := 0x20

/-- Is a status bit set? -/
def stHas (st m : BitVec 8) : Bool := !(st &&& m == 0)

/-- A status byte of a plain update: VALID and OVER-RANGE as given. -/
def stUpdate (valid satd : Bool) : BitVec 8 := (if valid then sVALID else 0) ||| (if satd then sOVER else 0)

/-- A new result in a result register whose SEQ stands in [hi:lo] and whose FRESH is bit f (R69). -/
def resultNew (old new : Word) (hi lo f : Nat) : Word :=
  setBit (setFld new hi lo ((fld old hi lo + 1) % 256)) f true

/-- A read of a result register clears FRESH (R69). -/
def resultRead (w : Word) (f : Nat) : Word := setBit w f false

end Sys2Proof.Machine
end

