-- ==== Sys2Proof/Machine/Floats.lean ====
section
/-!
DEFINITION. Exact arithmetic and its rounding. Every value of the part is computed exactly, as a fraction with a power
of two, and narrowed once: to an integer or a fixed-point word (R79: nearest, ties to even, saturating), or to IEEE 754
binary32 (R72, BF32) and binary64.
-/
namespace Sys2Proof.Machine

/-- The number of significant bits of n. -/
def bitLen (n : Nat) : Nat := if n = 0 then 0 else Nat.log2 n + 1

/-- `n / d` rounded to nearest, ties to even (R79). -/
def rneDivNat (n d : Nat) : Nat :=
  let q := n / d
  let r := n % d
  if 2 * r < d then q else if d < 2 * r then q + 1 else if q % 2 = 0 then q else q + 1

/-- `n / d` rounded to nearest, ties to even, for a signed numerator. -/
def rneDiv (n : Int) (d : Nat) : Int :=
  if 0 ≤ n then (rneDivNat n.toNat d : Int) else -((rneDivNat (-n).toNat d : Nat) : Int)

/-- `n / d` rounded toward minus infinity. -/
def floorDiv (n : Int) (d : Nat) : Int := Int.fdiv n (d : Int)

/-- `n / d` rounded toward zero. -/
def truncDiv (n : Int) (d : Nat) : Int := Int.tdiv n (d : Int)

/-- `n / d` rounded to nearest, halves away from zero. -/
def rhaDiv (n : Int) (d : Nat) : Int :=
  if 0 ≤ n then ((2 * n.toNat + d) / (2 * d) : Nat) else -(((2 * (-n).toNat + d) / (2 * d) : Nat) : Int)

/-- Clamp to the range `lo` to `hi`. -/
def clampInt (lo hi x : Int) : Int := if x < lo then lo else if hi < x then hi else x

/-- Saturate at the range of a signed `w`-bit word, with the saturation reported. -/
def satInt (w : Nat) (x : Int) : Int × Bool :=
  let hi : Int := 2 ^ (w - 1) - 1
  let lo : Int := -(2 ^ (w - 1))
  if x < lo then (lo, true) else if hi < x then (hi, true) else (x, false)

/-- A dyadic number `m × 2^e`. -/
structure Dyadic where
  m : Int
  e : Int
  deriving DecidableEq, Repr

/-- Multiply by a power of two. -/
def Dyadic.scale (x : Dyadic) (s : Int) : Dyadic := ⟨x.m, x.e + s⟩

/-- The product. -/
def Dyadic.mul (x y : Dyadic) : Dyadic := ⟨x.m * y.m, x.e + y.e⟩

/-- The sum, aligned to the smaller exponent. -/
def Dyadic.add (x y : Dyadic) : Dyadic :=
  let e := min x.e y.e
  ⟨x.m * 2 ^ (x.e - e).toNat + y.m * 2 ^ (y.e - e).toNat, e⟩

/-- The negative. -/
def Dyadic.neg (x : Dyadic) : Dyadic := ⟨-x.m, x.e⟩

/-- Exact comparison: x < y. -/
def Dyadic.lt (x y : Dyadic) : Bool := decide ((x.add y.neg).m < 0)

/-- The nearest integer, ties to even. -/
def Dyadic.rne (x : Dyadic) : Int :=
  if 0 ≤ x.e then x.m * 2 ^ x.e.toNat else rneDiv x.m (2 ^ (-x.e).toNat)

/-- The integer below. -/
def Dyadic.floor (x : Dyadic) : Int :=
  if 0 ≤ x.e then x.m * 2 ^ x.e.toNat else floorDiv x.m (2 ^ (-x.e).toNat)

/-- The integer toward zero. -/
def Dyadic.trunc (x : Dyadic) : Int :=
  if 0 ≤ x.e then x.m * 2 ^ x.e.toNat else truncDiv x.m (2 ^ (-x.e).toNat)

/-- What a binary32 or binary64 datum stands for. -/
inductive FloatVal where
  | fin (x : Dyadic) (neg : Bool)   -- a finite number; neg is its sign bit, which a zero carries too
  | inf (neg : Bool)
  | nan
  deriving DecidableEq, Repr

/-- Read a binary floating-point datum of `eb` exponent bits and `mb` fraction bits (IEEE 754). -/
def floatDecode (eb mb : Nat) (w : Nat) : FloatVal :=
  let neg := (w / 2 ^ (eb + mb)) % 2 = 1
  let ex := (w / 2 ^ mb) % 2 ^ eb
  let fr := w % 2 ^ mb
  let bias : Int := 2 ^ (eb - 1) - 1
  let sg : Int := if neg then -1 else 1
  if ex = 2 ^ eb - 1 then if fr = 0 then .inf neg else .nan
  else if ex = 0 then .fin ⟨sg * fr, 1 - bias - mb⟩ neg
  else .fin ⟨sg * (2 ^ mb + fr : Nat), (ex : Int) - bias - mb⟩ neg

/-- Round a magnitude `a × 2^e` (a > 0) to `eb` exponent and `mb` fraction bits, nearest even; the Bool reports a
result beyond the finite range. The word returned has a clear sign bit. -/
def floatRoundMag (eb mb : Nat) (a : Nat) (e : Int) : Nat × Bool :=
  let bias : Int := 2 ^ (eb - 1) - 1
  let emin : Int := 1 - bias - mb
  let q0 : Int := e + bitLen a - 1 - mb
  let q := max q0 emin
  let m := if q ≤ e then a * 2 ^ (e - q).toNat else rneDivNat a (2 ^ (q - e).toNat)
  -- m < 2^(mb+1) + 1; the biased exponent of the quantum q is q - emin (+1 when normal)
  let w := if m < 2 ^ mb then m else (q - emin).toNat * 2 ^ mb + m
  if (2 ^ eb - 1) * 2 ^ mb ≤ w then ((2 ^ eb - 1) * 2 ^ mb, true) else (w, false)

/-- Round an exact number to binary floating point. Beyond the finite range the result is infinite, or the largest
finite datum of the sign where `sat` is set; the Bool reports it. -/
def floatEncode (eb mb : Nat) (sat : Bool) (x : Dyadic) (negZero : Bool) : Nat × Bool :=
  let sgn (n : Bool) : Nat := if n then 2 ^ (eb + mb) else 0
  if x.m = 0 then (sgn negZero, false)
  else
    let neg := decide (x.m < 0)
    let (w, o) := floatRoundMag eb mb x.m.natAbs x.e
    if o then (sgn neg + (if sat then (2 ^ eb - 1) * 2 ^ mb - 1 else (2 ^ eb - 1) * 2 ^ mb), true)
    else (sgn neg + w, false)

/-- The value of a BF32 word (R72). -/
def bf32Val (w : Word) : FloatVal := floatDecode 8 23 w.toNat

/-- Round to BF32; beyond the range the largest finite of the sign (R79). -/
def bf32Sat (x : Dyadic) : Word × Bool :=
  let (n, o) := floatEncode 8 23 true x false
  (wordOfNat n, o)

/-- Round to BF32 as IEEE 754 does, to infinity beyond the range. -/
def bf32Ieee (x : Dyadic) : Word := wordOfNat (floatEncode 8 23 false x false).1

/-- The canonical quiet NaN of binary32. -/
def bf32NaN : Word := 0x7FC00000#32

/-- The fraction num/den (den > 0) as a dyadic number with `k` fraction bits and a sticky last bit, which rounds to at
most `k - 2` bits as the fraction itself does. -/
def ratSticky (num : Int) (den : Nat) (k : Nat) : Dyadic :=
  let n := num.natAbs * 2 ^ k
  let q := n / den
  let q' := if n % den = 0 then 2 * q else 2 * q + 1
  ⟨if num < 0 then -(q' : Int) else q', -(k + 1 : Int)⟩

end Sys2Proof.Machine
end

