-- ==== Sys2Proof/Config.lean ====
section
/-!
DEFINITION. What the spec leaves to the individual die, the board or an implementation: free values. None has a body,
so a proof about one holds for every value of it. Each is named in the assumption log.
-/
namespace Sys2Proof.Config

/-- SYS_UID_LO and SYS_UID_HI: the unique die identifier (R34, "die-specific"). [DESIGN CHOICE: log 6] -/
opaque uidLo : BitVec 32
opaque uidHi : BitVec 32

/-- The PCIe vendor ID, programmed at final test (R501, R513). [DESIGN CHOICE: log 6] -/
opaque pcieVendor : BitVec 16

/-- CLK_MON_n: the frequency an island's monitor measures, in kHz, from the island and the elapsed ns (R38). [DESIGN CHOICE: log 12] -/
opaque clkMon : Nat → Nat → BitVec 32

/-- FRAC of the calendar as its prescaler stands, from the elapsed ns (R540, R543). [DESIGN CHOICE: log 12] -/
opaque calFrac : Nat → BitVec 15

/-- A byte of the supervisor regions (the store in MRAM, the image shadow in shared SRAM), whose layout the spec does not
state (R15, R55), from its address and the elapsed ns. [DESIGN CHOICE: log 11; DESIGN CHOICE: log 12] -/
opaque supByte : Nat → Nat → BitVec 8

/-- BAR4 read latency in µs, as PCIE_RDLAT shows it, of a read that is served without crossing the ring (R510 bounds it), from
the elapsed ns. [DESIGN CHOICE: log 12] -/
opaque localLatency : Nat → BitVec 16

/-- sin θ as the CE takes it from its internal table, θ an unsigned fraction of a period over 2^32 (R121: the table's
entries and the rounding of the interpolation are not stated): a number in units of 2^−23. [DESIGN CHOICE: log 42] -/
opaque ceSin : BitVec 32 → Int

/-- cos θ, likewise. [DESIGN CHOICE: log 42] -/
opaque ceCos : BitVec 32 → Int

/-- 1/√3 and √3/2 as the CE computes with them (R120 states no precision): numbers in units of 2^−46. [DESIGN CHOICE: log 42] -/
opaque ceInvSqrt3 : Int
opaque ceHalfSqrt3 : Int

/-- The weight of the positive half in a bidirectional table lookup whose VDB coefficient is negative, from the mantissas
and exponents of VDB and v (R127 states it for VDB ≥ 0 only): in units of 2^−23. [DESIGN CHOICE: log 42] -/
opaque ctabNegVdb : Int → Int → Int → Int → Int

/-- Where the spec states no rounding for a result: whether the number n / d of place `site` is rounded up. [DESIGN CHOICE: log 13] -/
opaque roundUp : (site : Nat) → (n : Int) → (d : Nat) → Bool

/-- The duty of a channel whose DLIM holds DMIN above DMAX (R187, R218), in units of 2^−16. [DESIGN CHOICE: log 56] -/
opaque axcEmptyRange : BitVec 32 → BitVec 16

/-- STEPPOS as a stepper channel uses it where the port holds no valid value (R208 is silent), from the position used
before and the word delivered; and ISCALE, likewise (R195 is silent), a BF32 word. [DESIGN CHOICE: log 60] -/
opaque stepBadPos : BitVec 32 → BitVec 32 → BitVec 32
opaque stepBadScale : BitVec 32 → BitVec 32

/-- φ0 = atan(2π f_e τ) of R213, an unsigned fraction of a period over 2^16, from |v| in 1/8 index steps per FC and TAU. [DESIGN CHOICE: log 60] -/
opaque stepPhi0 : Nat → Nat → Int

/-- KV where the amplitude that R210 or R211 divides by is 0, from the KV before. [DESIGN CHOICE: log 60] -/
opaque stepKvZero : BitVec 32 → BitVec 32

/-- atan2(sin, cos) as an unsigned 16-bit fraction of a period (R202 states no rounding), and the amplitude in mV that
AMPL shows; sine and cosine in µV. [DESIGN CHOICE: log 63] -/
opaque encAtan2 : Int → Int → BitVec 16
opaque encAmpl : Int → Int → BitVec 32

/-- Whether a rule has been copied when an ABORT ends COPY_ACTIVE (R253: "partly copied"), from the ns that the copy has
run and the rule. [DEDUCED: log 69] -/
opaque ilkCopied : Nat → Nat → Bool

/-- SAFE_CHn_SPEED where Δ/NV lies outside what signed Q16.16 can hold (R310 states no result), from Δ and NV. [DEDUCED: log 81] -/
opaque safeSpeed : Int → Nat → BitVec 32

/-- The sequence number of a dynamic frame other than a remote access (R329 states a series for those alone), from its
DTYPE and destination. [DEDUCED: log 95] -/
opaque dynSeq : Nat → Nat → BitVec 8

/-- REC after a good reception that found it above 127: ISO 11898-1 leaves a value from 119 to 127 open; above 119. [PRESUMED: log 102] -/
opaque canRecDrop : Nat → Fin 9

/-- Whether SREC's staging buffer takes one more sample when those it holds make so many bytes of raw values (R461 states its
size and what is lossless, not what a sample occupies). [DESIGN CHOICE: log 109] -/
opaque srecFits : Nat → Bool

/-- The DRAM row an address lies in, in the form of MEMC_REMAP_ROW, and whether a row lies outside the device that MEMC_DEV
describes (R452 and R453 state no geometry). [DESIGN CHOICE: log 106] -/
opaque dramRow : Nat → BitVec 32
opaque dramRowOutside : BitVec 32 → BitVec 32 → Bool

/-- The bytes a flash read has copied after so many ns, when an ABORT stops it (R500 states no rate). [DEDUCED: log 115] -/
opaque xspiRead : Nat → Nat

/-- The OTP words after the first that a command has programmed after so many ns, when an ABORT stops it (R496 bounds the
time of a word). [DEDUCED: log 117] -/
opaque otpWords : Nat → Nat

/-- Whether a signature verifies under FIPS 205 SLH-DSA: SHAKE-256s (else SHAKE-256f), public key, context, message,
signature (R475, R554). The spec names the standard and states none of it. [PRESUMED: log 112] -/
opaque slhVerify : (small : Bool) → (key ctx msg sig : List (BitVec 8)) → Bool

/-- The identity key of a device seed: word i of the public key; and byte i of the signature it gives a message under a
context (R492, R493). [PRESUMED: log 112] -/
opaque idKey : (seed : List (BitVec 8)) → (i : Nat) → BitVec 32
opaque idSign : (seed ctx msg : List (BitVec 8)) → (i : Nat) → BitVec 8

/-- Word i of the nonce for a device seed and a nonce counter (R554 states no derivation of the secret). [PRESUMED: log 112] -/
opaque hutNonce : (seed : List (BitVec 8)) → (ctr i : Nat) → BitVec 32

/-- HUT_CURINFO [18:16], which R557 gives both to TYPE and to NEXTOFS, from the two. [DESIGN CHOICE: log 138] -/
opaque hutCurinfo : (typ next : Nat) → BitVec 3

/-- The cause code that Base camp stores for a FATAL failure of an island (R545 gives the field and no codes). [DESIGN CHOICE: log 132] -/
opaque fatalCause : Nat → BitVec 8

/-- The row of shared SRAM that an address lies in (R517 states no geometry). [DESIGN CHOICE: log 106] -/
opaque sramRow : Nat → BitVec 23

end Sys2Proof.Config
end

