-- ==== Sys2Proof/Machine/CeMath.lean ====
section
/-!
DEFINITION. The arithmetic of the control engine: block-floating values and operands (R105–R107), the accumulator
(R108), normalisation (R109), differences of RAW operands (R111), output ports (R112), stage descriptors (R116, R117)
and what each stage type computes (R120–R127, R574). A stage reads and writes the words of its descriptor through a
reading of CE local memory.
-/
namespace Sys2Proof.Machine

/-- An exact result: n / d × 2^e, with d > 0. -/
structure Frac where
  n : Int
  d : Nat
  e : Int
  deriving DecidableEq, Repr

/-- An operand: mantissa m and exponent e, value m × 2^(e − 23) (R105); the integer of a RAW operand; and whether the
operand enters no term (R108). -/
structure CeOp where
  m : Int
  e : Int
  raw : Option Word := none
  skip : Bool := false
  deriving DecidableEq, Repr

/-! ### Exact fractions -/

/-- The number m × 2^e. -/
def fracOf (m e : Int) : Frac := ⟨m, 1, e⟩

/-- The sum. -/
def Frac.add (x y : Frac) : Frac :=
  let e := min x.e y.e
  ⟨x.n * 2 ^ (x.e - e).toNat * y.d + y.n * 2 ^ (y.e - e).toNat * x.d, x.d * y.d, e⟩

/-- The negative. -/
def Frac.neg (x : Frac) : Frac := ⟨-x.n, x.d, x.e⟩

/-- The product. -/
def Frac.mul (x y : Frac) : Frac := ⟨x.n * y.n, x.d * y.d, x.e + y.e⟩

/-- The quotient by a positive number. -/
def Frac.div (x y : Frac) : Frac := ⟨x.n * y.d, x.d * y.n.toNat, x.e - y.e⟩

/-- x < y. -/
def Frac.lt (x y : Frac) : Bool := decide ((x.add y.neg).n < 0)

/-- The larger, the first on a tie. -/
def Frac.max (x y : Frac) : Frac := if x.lt y then y else x

/-- The smaller, the first on a tie. -/
def Frac.min (x y : Frac) : Frac := if y.lt x then y else x

/-- x × 2^k rounded to nearest, ties to even. -/
def Frac.rneAt (x : Frac) (k : Int) : Int :=
  let s := x.e + k
  if 0 ≤ s then rneDiv (x.n * 2 ^ s.toNat) x.d else rneDiv x.n (x.d * 2 ^ (-s).toNat)

/-! ### Normalisation (R109) -/

/-- Does x fit a 24-bit mantissa at exponent e? -/
def Frac.fits (x : Frac) (e : Int) : Bool :=
  let m := x.rneAt (23 - e)
  decide (-8388608 ≤ m) && decide (m ≤ 8388607)

/-- The smallest exponent at which a non-zero x fits (R109). -/
def Frac.need (x : Frac) : Int :=
  let l : Int := (bitLen x.n.natAbs : Int) - 1 - bitLen x.d + x.e
  if x.fits l then l else if x.fits (l + 1) then l + 1 else if x.fits (l + 2) then l + 2 else l + 3

/-- The rule of R109: mantissas, the common exponent, and whether it saturated. -/
def ceNormalise (vs : List Frac) (efloor eceil : Int) : List Int × Int × Bool :=
  let need : Option Int := vs.foldl (fun (acc : Option Int) (v : Frac) =>
    if v.n = 0 then acc else some (match acc with
      | none => v.need
      | some e => max e v.need)) none
  let eneed := need.getD efloor
  let e := min (max eneed efloor) eceil
  (vs.map (fun v => clampInt (-8388608) 8388607 (v.rneAt (23 - e))), e, decide (e = eceil ∧ eneed > eceil))

/-! ### Operands (R107) -/

/-- The zero operand. -/
def ceZero : CeOp := ⟨0, -128, none, true⟩

/-- An integer as a CE value (R107, R111). -/
def ceOfInt (v : Int) : CeOp :=
  let (ms, e, _) := ceNormalise [fracOf v 0] (-128) 127
  ⟨ms.headD 0, e, some (wordOfInt v), false⟩

/-- A RAW input port (R107, R108). -/
def ceRawIn (w : Word) : CeOp := { ceOfInt w.toInt with skip := w == 0 }

/-- A BF input port (R107, R108): the operand, whether a NaN entered, and whether it sets OVF. -/
def ceBfIn (w : Word) : CeOp × Bool × Bool :=
  match bf32Val w with
  | .nan => (ceZero, true, false)
  | .inf neg => (⟨if neg then -8388608 else 8388607, 127, none, false⟩, false, true)
  | .fin x _ =>
    let (ms, e, o) := ceNormalise [fracOf x.m x.e] (-128) 127
    (⟨ms.headD 0, e, none, x.m == 0⟩, false, o)

/-- The value of an operand. -/
def CeOp.val (o : CeOp) : Frac := fracOf o.m (o.e - 23)

/-- The integer an operand is read as where it is taken RAW: exactly, or its value rounded, modulo 2^32 (R121, R124). -/
def CeOp.asRaw (o : CeOp) : Word := o.raw.getD (wordOfInt (o.val.rneAt 0))

/-! ### The accumulator (R108) -/

/-- A term: the number that enters, and its exponent; `none` is left out. -/
abbrev CeTerm := Option (Int × Int)

/-- A product term. -/
def ceMul (c o : CeOp) (s : Int) : CeTerm := if c.skip || o.skip then none else some (s * (c.m * o.m), c.e + o.e)

/-- A term added without a multiplication. -/
def ceAdd (o : CeOp) (s : Int) : CeTerm := if o.skip then none else some (s * (o.m * 2 ^ 23), o.e)

/-- The accumulator over the terms of a result: each shifted right to the largest exponent, bits shifted out
discarded. -/
def ceAcc (ts : List CeTerm) : Frac :=
  let l := ts.filterMap id
  match l with
  | [] => fracOf 0 0
  | t :: r =>
    let ea := r.foldl (fun e p => max e p.2) t.2
    fracOf (l.foldl (fun a p => a + floorDiv p.1 (2 ^ (ea - p.2).toNat)) 0) (ea - 46)

/-- The operands of a difference or an error, with their signs: two RAW operands are subtracted modulo 2^32 and
converted once (R111). -/
def ceErr (ops : List CeOp) : List (CeOp × Int) :=
  match ops with
  | [w, y] =>
    match w.raw, y.raw with
    | some a, some b => [(ceOfInt (a - b).toInt, 1)]
    | _, _ => [(w, 1), (y, -1)]
  | o :: _ => [(o, 1)]
  | [] => []

/-- The product terms of a coefficient with a difference. -/
def ceMulE (c : CeOp) (l : List (CeOp × Int)) : List CeTerm := l.map (fun p => ceMul c p.1 p.2)

/-- The terms of a difference itself. -/
def ceAddE (l : List (CeOp × Int)) : List CeTerm := l.map (fun p => ceAdd p.1 p.2)

/-! ### Output ports (R112) -/

/-- A value as an output port of native encoding INT32 (`int`) or BF32 publishes it. -/
def ceToPort (o : CeOp) (int : Bool) : Word :=
  match o.raw with
  | some r => if int then r else bf32Ieee ⟨r.toInt, 0⟩
  | none => if int then wordOfInt (satInt 32 (o.val.rneAt 0)).1 else bf32Ieee ⟨o.m, o.e - 23⟩

/-! ### Stage descriptors (R116, R117, R120) -/

/-- The fixed part of a descriptor, W0 and W1. -/
structure CeHead where
  typ : Nat
  nin : Nat
  nout : Nat
  eceil : Int
  efloor : Int
  ec : Int
  ev : Int
  param : Nat
  deriving DecidableEq, Repr

/-- Read it (R116). -/
def ceHead (w0 w1 : Word) : CeHead :=
  ⟨fld w0 31 27, fld w0 26 24 + 1, fld w0 23 21 + 1, sfld w0 15 8, sfld w0 7 0, sfld w1 31 24, sfld w1 23 16, fld w1 15 8⟩

/-- Is TYPE listed (R120)? -/
def CeHead.typeOk (h : CeHead) : Bool := 1 ≤ h.typ && h.typ ≤ 14

/-- Are the operand and output counts those of the TYPE (R120)? -/
def CeHead.countsOk (h : CeHead) : Bool :=
  match h.typ with
  | 0x01 => h.nout == 1
  | 0x02 | 0x03 | 0x08 | 0x09 => h.nin ≤ 2 && h.nout == 1
  | 0x04 | 0x05 | 0x06 | 0x0A => h.nin == 1 && h.nout == 1
  | 0x07 => h.nin ≤ 4 && h.nout ≤ 4
  | 0x0B => (h.nin == 3 || h.nin == 4) && h.nout == 2
  | 0x0C => h.nin == 3 && h.nout == 2
  | 0x0D => h.nin == 3 && h.nout == 3
  | 0x0E => true
  | _ => false

/-- Is PARAM in range for the TYPE (R574)? -/
def CeHead.paramOk (h : CeHead) : Bool :=
  match h.typ with
  | 0x01 => h.param % 2 == 0 || h.nin == 2
  | 0x08 => h.param % 8 != 0
  | _ => true

/-- Is the stage valid at run time (R122)? -/
def CeHead.ok (h : CeHead) : Bool := h.typeOk && h.countsOk && h.paramOk

/-- Number of coefficients (R120). -/
def CeHead.ncoef (h : CeHead) : Nat :=
  match h.typ with
  | 0x01 => h.nin
  | 0x02 => 4
  | 0x03 => 6
  | 0x04 => 3
  | 0x05 => 5
  | 0x06 => h.param % 32 + 1
  | 0x07 => h.nout * h.nout + h.nout * h.nin
  | 0x08 => 3 + h.param % 8
  | 0x09 => 2
  | 0x0A => 3
  | 0x0D => 1
  | 0x0E => h.nout * h.nin
  | _ => 0

/-- Number of state words (R120). -/
def CeHead.nstate (h : CeHead) : Nat :=
  match h.typ with
  | 0x02 => 1
  | 0x03 => 3
  | 0x04 => 1
  | 0x05 => 3
  | 0x06 => h.param % 32
  | 0x08 => 3 + h.param % 8
  | _ => 0

/-- Length in bytes: a multiple of 16; an invalid stage is 32 bytes long (R116). -/
def CeHead.size (h : CeHead) : Nat :=
  if h.ok then (24 + 4 * (h.ncoef + h.nout + h.nstate) + 15) / 16 * 16 else 32

/-- Cost in lane-ns (R120); an invalid stage computes nothing. -/
def CeHead.cost (h : CeHead) : Nat :=
  if !h.ok then 0 else
  match h.typ with
  | 0x01 | 0x04 | 0x0A => 4
  | 0x02 | 0x05 | 0x0B | 0x0C => 6
  | 0x03 | 0x08 | 0x0D => 8
  | 0x06 => 4 + (h.param % 32 + 8) / 8
  | 0x07 => 6 + (h.nout * (h.nout + h.nin) + 7) / 8
  | 0x09 => 10
  | _ => 4 + (h.nout * h.nin + 7) / 8

/-- A PRED stage with RAW = 1: its output and x1–x3 are 32-bit integers (R116, R124). -/
def CeHead.rawPred (h : CeHead) : Bool := h.typ == 8 && h.param / 8 % 2 == 1

/-- The head of the stage at a local offset. -/
def ceHeadAt (rd : Nat → Word) (a : Nat) : CeHead := ceHead (rd a) (rd (a + 4))

/-- The local offsets of the n stages of a list (R116). -/
def ceWalk (rd : Nat → Word) : Nat → Nat → List Nat
  | _, 0 => []
  | a, n + 1 => a :: ceWalk rd (a + (ceHeadAt rd a).size) n

/-- Coefficient i. -/
def ceCoef (rd : Nat → Word) (a : Nat) (h : CeHead) (i : Nat) : CeOp := ⟨sfld (rd (a + 24 + 4 * i)) 31 8, h.ec, none, false⟩

/-- The offset of value word i, outputs first. -/
def ceValAt (a : Nat) (h : CeHead) (i : Nat) : Nat := a + 24 + 4 * (h.ncoef + i)

/-- Value word i as an operand at the stage's EV. -/
def ceValOp (rd : Nat → Word) (a : Nat) (h : CeHead) (i : Nat) : CeOp := ⟨sfld (rd (ceValAt a h i)) 31 8, h.ev, none, false⟩

/-- Output k of a valid stage as its words hold it. -/
def ceOutOp (rd : Nat → Word) (a : Nat) (h : CeHead) (k : Nat) : CeOp :=
  if h.rawPred then ceOfInt (rd (ceValAt a h k)).toInt else ceValOp rd a h k

/-- Operand selector j (R116, R117). -/
def ceSel (rd : Nat → Word) (a j : Nat) : Nat := fld (rd (a + 8 + 4 * (j / 2))) (16 * (j % 2) + 15) (16 * (j % 2))

/-! ### The stages (R120–R127) -/

/-- What a stage's run gives: outputs and state words as exact results, whether a clamp acted, and what it found of its
compensation table: a clamped lookup, an invalid descriptor. -/
structure CeRes where
  outs : List Frac
  states : List Frac
  limit : Bool := false
  clamp : Bool := false
  badTd : Bool := false
  deriving DecidableEq, Repr

/-- The compensation table a CTAB stage reads: MODE, LEN, BASE, EXP, SHIFT and X0, validity (R143), and the pool. -/
structure CeTable where
  mode : Nat
  len : Nat
  base : Nat
  exp : Int
  shift : Nat
  x0 : Word
  ok : Bool
  deriving DecidableEq, Repr

/-- Entry i of the pool, a mantissa (R125). -/
def cePool (rd : Nat → Word) (i : Nat) : Int := sfld (rd (0xFA000 + 4 * i)) 31 8

/-- t = T[i] + f × (T[i + 1] − T[i]) × 2^−16 (R126). -/
def ceInterp (rd : Nat → Word) (t : CeTable) (b i j f : Nat) : Frac :=
  let x := cePool rd (t.base + b + i)
  let y := cePool rd (t.base + b + j)
  fracOf (x * 65536 + (f : Int) * (y - x)) (t.exp - 23 - 16)

/-- Index, next index, fraction and whether the lookup clamped (R126). -/
def ceIndex (t : CeTable) (x : CeOp) : Nat × Nat × Nat × Bool :=
  let w := x.asRaw
  if t.mode = 1 then
    let b := bitLen t.len - 1
    let i := w.toNat / 2 ^ (32 - b)
    (i, (i + 1) % t.len, w.toNat / 2 ^ (16 - b) % 65536, false)
  else
    let d := (w - t.x0).toInt
    let i := floorDiv d (2 ^ t.shift)
    if i < 0 then (0, 0, 0, true)
    else if i ≥ (t.len : Int) - 1 then (t.len - 1, t.len - 1, 0, true)
    else
      let r := (d - i * 2 ^ t.shift).toNat
      (i.toNat, i.toNat + 1, r * 65536 / 2 ^ t.shift, false)

/-- CTAB (R125–R127). -/
def ceCtab (rd : Nat → Word) (t : CeTable) (k vdb : CeOp) (ops : List CeOp) : CeRes :=
  if !t.ok || t.mode = 0 then { outs := [fracOf 0 0], states := [], badTd := true }
  else
    let x := ops.headD ceZero
    let (i, j, f, c) := ceIndex t x
    let tp := ceInterp rd t 0 i j f
    let y :=
      if t.mode = 3 then
        let tm := ceInterp rd t t.len i j f
        let vo := ops.getD 1 ceZero
        let v := vo.val
        let one := fracOf 1 0
        let w :=
          if vdb.m > 0 then (((vdb.val.add v).div (vdb.val.mul (fracOf 1 1))).max (fracOf 0 0)).min one
          else if vdb.m < 0 then fracOf (Sys2Proof.Config.ctabNegVdb vdb.m vdb.e vo.m vo.e) (-23)
          else if v.n > 0 then one else if v.n < 0 then fracOf 0 0 else fracOf 1 (-1)
        (w.mul tp).add ((one.add w.neg).mul tm)
      else tp
    { outs := [k.val.mul y], states := [], clamp := c }

/-- PI and PID (R120). [DEDUCED: log 147] -/
def cePid (c : Nat → CeOp) (x : Nat → CeOp) (pid dmeas : Bool) (ops : List CeOp) : CeRes :=
  let eo := ceErr ops
  let e := ceAcc (ceAddE eo)
  let umax := (if pid then c 4 else c 2).val
  let umin := (if pid then c 5 else c 3).val
  let ti := ceMulE (c 1) eo ++ [ceAdd (x 0) 1]
  let qo : List (CeOp × Int) := if dmeas && ops.length == 2 then [(ops.getD 1 ceZero, -1)] else eo
  let td : List CeTerm := if pid then [ceMul (c 2) (x 1) 1] ++ ceMulE (c 3) qo ++ [ceMul (c 3) (x 2) (-1)] else []
  let up := ceAcc (ceMulE (c 0) eo ++ ti ++ td)
  let u := (up.max umin).min umax
  let hold := (umax.lt up && decide (e.n > 0)) || (up.lt umin && decide (e.n < 0))
  let i := if hold then (x 0).val else ceAcc ti
  { outs := [u], states := i :: (if pid then [ceAcc td, ceAcc (ceAddE qo)] else []), limit := up.lt u || u.lt up }

/-- LIM (R123). [DEDUCED: log 147] -/
def ceLim (c : Nat → CeOp) (yp x : CeOp) : CeRes :=
  let y := (x.val.max (c 0).val).min (c 1).val
  let z :=
    if (c 2).m = 0 then y
    else (y.max (ceAcc [ceAdd yp 1, ceAdd (c 2) (-1)])).min (ceAcc [ceAdd yp 1, ceAdd (c 2) 1])
  { outs := [z], states := [], limit := y.lt x.val || x.val.lt y || z.lt y || y.lt z }

/-- A number in units of 2^−23, and one in units of 2^−46. -/
def ceTrig (n : Int) : Frac := fracOf n (-23)
def ceConst (n : Int) : Frac := fracOf n (-46)

/-- CPARK (R120, R121). -/
def ceCpark (ops : List CeOp) : CeRes :=
  let th := (ops.getLastD ceZero).asRaw
  let s := ceTrig (Sys2Proof.Config.ceSin th)
  let c := ceTrig (Sys2Proof.Config.ceCos th)
  let ia := (ops.getD 0 ceZero).val
  let ib := (ops.getD 1 ceZero).val
  let ic := (ops.getD 2 ceZero).val
  let k := ceConst Sys2Proof.Config.ceInvSqrt3
  let al := if ops.length = 4 then ((ia.mul (fracOf 2 0)).add (ib.add ic).neg).div (fracOf 3 0) else ia
  let be := if ops.length = 4 then (ib.add ic.neg).mul k else (ia.add (ib.mul (fracOf 2 0))).mul k
  { outs := [(al.mul c).add (be.mul s), (al.mul s).neg.add (be.mul c)], states := [] }

/-- IPARK (R120, R121). -/
def ceIpark (ops : List CeOp) : CeRes :=
  let th := (ops.getD 2 ceZero).asRaw
  let s := ceTrig (Sys2Proof.Config.ceSin th)
  let c := ceTrig (Sys2Proof.Config.ceCos th)
  let vd := (ops.getD 0 ceZero).val
  let vq := (ops.getD 1 ceZero).val
  { outs := [(vd.mul c).add (vq.mul s).neg, (vd.mul s).add (vq.mul c)], states := [] }

/-- SVM (R120). -/
def ceSvm (vmin : CeOp) (ops : List CeOp) : CeRes :=
  let va := (ops.getD 0 ceZero).val
  let vbt := ((ops.getD 1 ceZero).val).mul (ceConst Sys2Proof.Config.ceHalfSqrt3)
  let vdc := (ops.getD 2 ceZero).val
  let half := fracOf 1 (-1)
  if vdc.lt vmin.val || decide (vdc.n ≤ 0) then { outs := [half, half, half], states := [], limit := true }
  else
    let h := va.neg.mul half
    let vb := h.add vbt
    let vc := h.add vbt.neg
    let o := (((va.max vb).max vc).add ((va.min vb).min vc)).neg.mul half
    let ds := [va, vb, vc].map (fun v => half.add ((v.add o).div vdc))
    { outs := ds.map (fun d => (d.max (fracOf 0 0)).min (fracOf 1 0)), states := [],
      limit := ds.any (fun d => d.lt (fracOf 0 0) || (fracOf 1 0).lt d) }

/-- PRED without RAW (R124): y, then x1–x3 and the u history. -/
def cePred (c x : Nat → CeOp) (d : Nat) (ops : List CeOp) : CeRes :=
  let v := ops.headD ceZero
  let ut : List CeTerm := if ops.length = 2 then (List.range d).map (fun k => ceMul (c (3 + k)) (x (3 + k)) 1) else []
  let y := ceAcc ([ceAdd v 1, ceMul (c 0) v 1, ceMul (c 0) (x 0) (-1), ceMul (c 1) (x 0) 1, ceMul (c 1) (x 1) (-1),
    ceMul (c 2) (x 1) 1, ceMul (c 2) (x 2) (-1)] ++ ut)
  let u0 := if ops.length = 2 then (ops.getD 1 ceZero).val else fracOf 0 0
  { outs := [y], states := [v.val, (x 0).val, (x 1).val, u0] ++ (List.range (d - 1)).map (fun k => (x (3 + k)).val) }

/-- The result of a stage whose words are mantissas (R120). -/
def ceStage (rd : Nat → Word) (tbl : Nat → CeTable) (a : Nat) (h : CeHead) (ops : List CeOp) : CeRes :=
  let c (i : Nat) : CeOp := ceCoef rd a h i
  let x (i : Nat) : CeOp := ceValOp rd a h (h.nout + i)
  let yp := ceValOp rd a h 0
  let o (i : Nat) : CeOp := ops.getD i ceZero
  match h.typ with
  | 0x01 =>
    if h.param % 2 = 1 then { outs := [ceAcc (ceMulE (c 0) (ceErr ops))], states := [] }
    else { outs := [ceAcc ((List.range h.nin).map (fun j => ceMul (c j) (o j) 1))], states := [] }
  | 0x02 => cePid c x false false ops
  | 0x03 => cePid c x true (h.param % 2 == 1) ops
  | 0x04 => { outs := [ceAcc [ceMul (c 0) yp 1, ceMul (c 1) (o 0) 1, ceMul (c 2) (x 0) 1]], states := [(o 0).val] }
  | 0x05 =>
    { outs := [ceAcc [ceMul (c 0) (o 0) 1, ceMul (c 1) (x 0) 1, ceMul (c 2) (x 1) 1, ceMul (c 3) yp (-1),
        ceMul (c 4) (x 2) (-1)]],
      states := [(o 0).val, (x 0).val, yp.val] }
  | 0x06 =>
    let n := h.param % 32
    { outs := [ceAcc (ceMul (c 0) (o 0) 1 :: (List.range n).map (fun j => ceMul (c (j + 1)) (x j) 1))],
      states := if n = 0 then [] else (o 0).val :: (List.range (n - 1)).map (fun j => (x j).val) }
  | 0x07 =>
    let n := h.nout
    { outs := (List.range n).map (fun i =>
        ceAcc ((List.range n).map (fun j => ceMul (c (i * n + j)) (ceValOp rd a h j) 1)
          ++ (List.range h.nin).map (fun k => ceMul (c (n * n + i * h.nin + k)) (o k) 1))),
      states := [] }
  | 0x08 => cePred c x (h.param % 8) ops
  | 0x09 => ceCtab rd (tbl (h.param % 64)) (c 0) (c 1) ops
  | 0x0A => ceLim c yp (o 0)
  | 0x0B => ceCpark ops
  | 0x0C => ceIpark ops
  | 0x0D => ceSvm (c 0) ops
  | _ =>
    { outs := (List.range h.nout).map (fun i =>
        ceAcc ((List.range h.nin).map (fun j => ceMul (c (i * h.nin + j)) (o j) 1))),
      states := [] }

/-- A mantissa as a coefficient or value word (R116). -/
def ceWord (m : Int) : Word := wordOfInt (m * 256)

/-- The words a PRED stage with RAW = 1 writes: y, x1–x3, the u history, and EV with its saturation (R124). -/
def cePredRaw (rd : Nat → Word) (a : Nat) (h : CeHead) (ops : List CeOp) : List Word × Int × Bool :=
  let c (i : Nat) : CeOp := ceCoef rd a h i
  let d := h.param % 8
  let u (k : Nat) : CeOp := ceValOp rd a h (4 + k)
  let xr := (ops.headD ceZero).asRaw
  let xs (i : Nat) : Word := rd (ceValAt a h (1 + i))
  let df (p q : Word) : CeOp := ceOfInt (p - q).toInt
  let ut : List CeTerm := if ops.length = 2 then (List.range d).map (fun k => ceMul (c (3 + k)) (u k) 1) else []
  let corr := ceAcc ([ceMul (c 0) (df xr (xs 0)) 1, ceMul (c 1) (df (xs 0) (xs 1)) 1, ceMul (c 2) (df (xs 1) (xs 2)) 1]
    ++ ut)
  let y := xr + wordOfInt (clampInt (-2147483647) 2147483647 (corr.rneAt 0))
  let u0 := if ops.length = 2 then (ops.getD 1 ceZero).val else fracOf 0 0
  let (ms, ev, o) := ceNormalise (u0 :: (List.range (d - 1)).map (fun k => (u k).val)) h.efloor h.eceil
  ([y, xr, xs 0, xs 1] ++ ms.map ceWord, ev, o)

/-! ### Runs of a list (R118, R122, R131) -/

/-- What a run has given so far: the words written, by local offset, latest first; NaN, bad selector or stage, OVF; the
indices of the stages that saturated; the latest table that clamped; an invalid table descriptor met. -/
structure CeOut where
  ws : List (Nat × Word) := []
  nan : Bool := false
  bad : Bool := false
  ovf : Bool := false
  sat : List Nat := []
  clamp : Option Nat := none
  badTd : Bool := false
  deriving DecidableEq, Repr

/-- Local memory as the words written so far make it. -/
def CeOut.rd (o : CeOut) (rd : Nat → Word) (a : Nat) : Word :=
  match o.ws.find? (fun p => p.1 == a) with
  | some p => p.2
  | none => rd a

/-- The operand of output k of the stage at index `idx` of a list; an absent stage or output is a zero operand and bad
(R117); an invalid stage gives what it gave last (R122). -/
def ceStageOut (rd : Nat → Word) (kept : Nat → List CeOp) (addrs : List Nat) (idx k : Nat) : CeOp × Bool :=
  match addrs[idx]? with
  | none => (ceZero, true)
  | some a =>
    let h := ceHeadAt rd a
    if h.nout ≤ k then (ceZero, true)
    else if h.ok then (ceOutOp rd a h k, false)
    else ((kept a).getD k ceZero, false)

/-- The operand a selector names (R117, R118): the operand, NaN, OVF, bad. -/
def ceOperand (rd : Nat → Word) (kept : Nat → List CeOp) (ins : List Word) (inmode : Nat) (addrs other : List Nat)
    (sel : Nat) : CeOp × Bool × Bool × Bool :=
  match sel / 0x4000 with
  | 0 => (ceZero, false, false, false)
  | 1 =>
    let p := sel % 16
    let w := ins.getD p 0
    if inmode / 2 ^ p % 2 = 1 then (ceRawIn w, false, false, false)
    else
      let r := ceBfIn w
      (r.1, r.2.1, r.2.2, false)
  | 2 =>
    let r := ceStageOut rd kept (if sel / 128 % 2 = 1 then other else addrs) (sel / 256 % 64) (sel % 16)
    (r.1, false, false, r.2)
  | _ => (ceZero, false, false, true)

/-- One stage of a run (R109, R110, R122): its EV, LIMIT and OVF, outputs and state words are written. -/
def ceRunStage (rd0 : Nat → Word) (tbl : Nat → CeTable) (kept : Nat → List CeOp) (ins : List Word) (inmode : Nat)
    (addrs other : List Nat) (o : CeOut) (idx : Nat) : CeOut :=
  let rd := o.rd rd0
  let a := addrs.getD idx 0
  let h := ceHeadAt rd a
  if !h.ok then { o with bad := true }
  else
    let sels := (List.range h.nin).map (fun j => ceOperand rd kept ins inmode addrs other (ceSel rd a j))
    let ops := sels.map (fun p => p.1)
    let r := ceStage rd tbl a h ops
    let (ws, ev, ovf) :=
      if h.rawPred then cePredRaw rd a h ops
      else
        let n := ceNormalise (r.outs ++ r.states) h.efloor h.eceil
        (n.1.map ceWord, n.2.1, n.2.2)
    let ovf := ovf || sels.any (fun p => p.2.2.1)
    let w1 := rd (a + 4)
    let w1 := setBit (setBit (setFld w1 23 16 (ev % 256).toNat) 1 r.limit) 0 (bitOf w1 0 || ovf)
    { ws := (a + 4, w1) :: ((List.range ws.length).map (fun i => (ceValAt a h i, ws.getD i 0))) ++ o.ws
      nan := o.nan || sels.any (fun p => p.2.1)
      bad := o.bad || sels.any (fun p => p.2.2.2)
      ovf := o.ovf || ovf
      sat := if r.limit || ovf then o.sat ++ [idx] else o.sat
      clamp := if r.clamp then some (h.param % 64) else o.clamp
      badTd := o.badTd || r.badTd }

/-- One run of a list: every stage in index order. -/
def ceRunList (rd : Nat → Word) (tbl : Nat → CeTable) (kept : Nat → List CeOp) (ins : List Word) (inmode : Nat)
    (addrs other : List Nat) : CeOut :=
  (List.range addrs.length).foldl (ceRunStage rd tbl kept ins inmode addrs other) {}

end Sys2Proof.Machine
end

