-- ==== Sys2Proof/Machine/Exact.lean ====
section
/-!
DEFINITION. Exact fractions in lowest terms, and roots of them on a fine grid: the numbers in which profiles are
planned (R148, R157–R161).
-/
namespace Sys2Proof.Machine

/-- A fraction n / d in lowest terms, d > 0. -/
structure Q where
  n : Int
  d : Nat
  deriving DecidableEq, Repr

/-- n / d in lowest terms (d > 0). -/
def qq (n : Int) (d : Nat) : Q :=
  let g := Nat.gcd n.natAbs d
  ⟨n / (g : Int), d / g⟩

/-- An integer. -/
def qi (n : Int) : Q := ⟨n, 1⟩

/-- Arithmetic. -/
def Q.add (x y : Q) : Q := qq (x.n * y.d + y.n * x.d) (x.d * y.d)
def Q.neg (x : Q) : Q := ⟨-x.n, x.d⟩
def Q.sub (x y : Q) : Q := x.add y.neg
def Q.mul (x y : Q) : Q := qq (x.n * y.n) (x.d * y.d)

/-- The quotient; 0 where y is 0. -/
def Q.div (x y : Q) : Q :=
  if y.n = 0 then qi 0 else if 0 < y.n then qq (x.n * y.d) (x.d * y.n.toNat) else qq (-(x.n * y.d)) (x.d * (-y.n).toNat)

/-- Half, and the product with an integer. -/
def Q.half (x : Q) : Q := qq x.n (2 * x.d)
def Q.scale (x : Q) (k : Int) : Q := qq (x.n * k) x.d

/-- The square and the magnitude. -/
def Q.sq (x : Q) : Q := x.mul x
def Q.abs (x : Q) : Q := ⟨x.n.natAbs, x.d⟩

/-- Exact comparisons. -/
def Q.lt (x y : Q) : Bool := decide (x.n * y.d < y.n * x.d)
def Q.le (x y : Q) : Bool := decide (x.n * y.d ≤ y.n * x.d)
def Q.pos (x : Q) : Bool := decide (0 < x.n)
def Q.isNeg (x : Q) : Bool := decide (x.n < 0)
def Q.isZero (x : Q) : Bool := decide (x.n = 0)
def Q.max (x y : Q) : Q := if x.lt y then y else x
def Q.min (x y : Q) : Q := if y.lt x then y else x

/-- The sign: −1, 0 or 1. -/
def Q.sgn (x : Q) : Int := if x.n < 0 then -1 else if x.n = 0 then 0 else 1

/-- The integer below, and x × 2^k rounded to nearest, ties to even. -/
def Q.floor (x : Q) : Int := floorDiv x.n x.d
def Q.rneAt (x : Q) (k : Nat) : Int := rneDiv (x.n * 2 ^ k) x.d

/-- A number as an integer where the spec states no rounding: up or down is open. -/
def Q.free (site : Nat) (x : Q) : Int :=
  if x.d = 1 then x.n else x.floor + (if Config.roundUp site x.n x.d then 1 else 0)

/-- A dyadic number as a fraction. -/
def dyQ (x : Dyadic) : Q := if 0 ≤ x.e then qi (x.m * 2 ^ x.e.toNat) else qq x.m (2 ^ (-x.e).toNat)

/-- A BF32 word clamped to [0, 1]; a NaN has no value. -/
def bfUnit (w : Word) : Option Q :=
  match bf32Val w with
  | .fin x _ => some (((dyQ x).max (qi 0)).min (qi 1))
  | .inf neg => some (qi (if neg then 0 else 1))
  | .nan => none

/-- The largest r with r² ≤ n, bit by bit. -/
def isqrt (n : Nat) : Nat :=
  let b := bitLen n / 2 + 1
  (List.range b).foldl (fun r i => let t := r + 2 ^ (b - 1 - i); if t * t ≤ n then t else r) 0

/-- The largest r with r³ ≤ n, bit by bit. -/
def icbrt (n : Nat) : Nat :=
  let b := bitLen n / 3 + 1
  (List.range b).foldl (fun r i => let t := r + 2 ^ (b - 1 - i); if t * t * t ≤ n then t else r) 0

/-- The square root: exact for the square of a fraction, else the grid point of 2^−96 below it. -/
def Q.sqrt (x : Q) : Q :=
  if x.n ≤ 0 then qi 0
  else
    let a := isqrt x.n.toNat
    let b := isqrt x.d
    if a * a = x.n.toNat ∧ b * b = x.d then qq a b else qq (isqrt (x.n.toNat * 2 ^ 192 / x.d)) (2 ^ 96)

/-- The cube root: exact for the cube of a fraction, else the grid point of 2^−96 below it. -/
def Q.cbrt (x : Q) : Q :=
  if x.n ≤ 0 then qi 0
  else
    let a := icbrt x.n.toNat
    let b := icbrt x.d
    if a * a * a = x.n.toNat ∧ b * b * b = x.d then qq a b else qq (icbrt (x.n.toNat * 2 ^ 288 / x.d)) (2 ^ 96)

end Sys2Proof.Machine
end

