-- ==== Sys2Proof/Machine/ProfPlan.lean ====
section
/-!
DEFINITION. The planner of the profile generators in exact arithmetic: the closed form of a segment (R148), the
point-to-point profile (R157–R159), stopping distances (R160), approaches and stops from motion (R161, R162, R165,
R170, R171). Positions are held in units of 2^−32 counts, velocities of 2^−40, accelerations of 2^−48 and jerks of
2^−56 (R147); a plan is a list of segments of constant jerk.
-/
namespace Sys2Proof.Machine

/-- A state of motion in the formats of R147, the position unwrapped. -/
structure Kin where
  p : Int := 0
  v : Int := 0
  a : Int := 0
  deriving DecidableEq, Repr

/-- A plan: its start, its segments (FC, jerk), the points of rest it is set to at the end of FC k, the flags that fall
at k, the velocity held at its end, the residual of R159 and the FC at which its deceleration begins. -/
structure Plan where
  start : Kin
  segs : List (Nat × Int) := []
  snaps : List (Nat × Int) := []
  marks : List (Nat × Nat) := []
  vend : Option Int := none
  resid : Int := 0
  decel : Nat := 0
  deriving DecidableEq, Repr

/-! ### Segments (R147, R148, R575) -/

/-- The state k FC into a segment of jerk j: each result rounded once into its format, velocity and acceleration
saturating. -/
def Kin.after (s : Kin) (j : Int) (k : Nat) : Kin :=
  let K : Int := k
  let a := s.a * 256 + j * K                                         -- 2^−56
  let v := s.v * 2 ^ 17 + s.a * K * 2 ^ 9 + j * K * K                -- 2^−57
  let p := s.p * (6 * 2 ^ 24) + s.v * K * (6 * 2 ^ 16) + s.a * K * K * (3 * 2 ^ 8) + j * K * K * K   -- 2^−56 / 6
  { p := rneDiv p (6 * 2 ^ 24), v := (satInt 64 (rneDiv v (2 ^ 17))).1, a := (satInt 64 (rneDiv a 256)).1 }

/-- The point of rest that a plan is set to at the end of FC k, if it has one. -/
def Plan.snapAt (pl : Plan) (k : Nat) (s : Kin) : Kin :=
  match pl.snaps.find? (fun q => q.1 == k) with
  | some q => { p := q.2, v := 0, a := 0 }
  | none => s

/-- Walk the segments from a state at FC t to FC k. -/
def Plan.walk (pl : Plan) (k : Nat) : List (Nat × Int) → Nat → Kin → Kin × Int
  | [], t, s => (({ s with v := pl.vend.getD s.v, a := 0 } : Kin).after 0 (k - t), 0)
  | (n, j) :: r, t, s => if k < t + n then (s.after j (k - t), j) else pl.walk k r (t + n) (pl.snapAt (t + n) (s.after j n))

/-- The state k FC after the plan's start, and the jerk of the segment that runs from there. -/
def Plan.at (pl : Plan) (k : Nat) : Kin × Int := pl.walk k pl.segs 0 (pl.snapAt 0 pl.start)

/-- The length of a plan in FC. -/
def Plan.len (pl : Plan) : Nat := pl.segs.foldl (fun n g => n + g.1) 0

/-- The last point of rest of a plan. -/
def Plan.rest (pl : Plan) : Int := (pl.snaps.getLast?.map (fun q => q.2)).getD pl.start.p

/-! ### Numbers of the planner -/

/-- Whole FC for a duration: rounded up, a fraction below 2^−16 dropped (R158). -/
def ceilFc (t : Q) : Nat := ((t.sub (qq 1 65536)).floor + 1).toNat

/-- The quantities of R147 as fractions. -/
def qp (p : Int) : Q := qq p (2 ^ 32)
def qv (v : Int) : Q := qq v (2 ^ 40)
def qa (a : Int) : Q := qq a (2 ^ 48)
def qj (j : Int) : Q := qq j (2 ^ 56)

/-- A state in fractions. -/
structure KinQ where
  p : Q
  v : Q
  a : Q
  deriving DecidableEq, Repr

/-- The exact state after t FC of jerk j. -/
def KinQ.after (s : KinQ) (j t : Q) : KinQ :=
  let t2 := t.sq
  { p := ((s.p.add (s.v.mul t)).add ((s.a.mul t2).half)).add ((j.mul (t2.mul t)).mul (qq 1 6))
    v := (s.v.add (s.a.mul t)).add ((j.mul t2).half)
    a := s.a.add (j.mul t) }

/-- Build a plan from phases with exact jerks: jerks rounded to Q8.56 (R158), phases of no length dropped; a plan that
ends at rest at `target` is set to it there (R159), one without a target to where it ends. -/
def mkPlan (start : Kin) (ph : List (Nat × Q)) (target : Option Int) (rest : Bool) (decel : Nat) : Plan :=
  let segs := (ph.filter (fun g => g.1 != 0)).map (fun g => (g.1, g.2.rneAt 56))
  let e := segs.foldl (fun (s : Kin) g => s.after g.2 g.1) start
  let n := segs.foldl (fun n g => n + g.1) 0
  let stop := target.getD e.p
  { start := start, segs := segs, snaps := if rest then [(n, stop)] else [], resid := stop - e.p, decel := decel }

/-- One plan after another, which starts where the first rests. -/
def Plan.then (p1 p2 : Plan) : Plan :=
  let n := p1.len
  { p1 with segs := p1.segs ++ p2.segs, snaps := p1.snaps ++ p2.snaps.map (fun q => (q.1 + n, q.2)),
            marks := p1.marks ++ p2.marks.map (fun q => (q.1 + n, q.2)), vend := p2.vend, resid := p2.resid,
            decel := p2.decel + n }

/-! ### Rest to rest (R157–R159) -/

/-- Tj, Ta and Tv (R157). -/
def ptpTimes (D V A J : Q) : Q × Q × Q :=
  let aj := A.div J
  let va := V.div A
  if (A.sq.div J).le V && (V.mul (va.add aj)).le D then (aj, va.sub aj, (D.div V).sub (va.add aj))
  else if V.lt (A.sq.div J) && ((V.sq.mul V).scale 4).le (D.sq.mul J) then
    let r := (V.div J).sqrt
    (r, qi 0, (D.div V).sub (r.scale 2))
  else if (((A.sq.mul A).scale 2).div J.sq).le D then
    let vp := (A.half).mul (((aj.sq).add ((D.scale 4).div A)).sqrt.sub aj)
    (aj, (vp.div A).sub aj, qi 0)
  else ((D.div (J.scale 2)).cbrt, qi 0, qi 0)

/-- A move from rest to rest to `target` under the limits V, A and J (R157–R159). -/
def restToRest (start : Kin) (target : Int) (V A J : Q) : Plan :=
  let d := target - start.p
  if d = 0 then { start := start, snaps := [(0, target)] }
  else
    let D := (qp d).abs
    let t := ptpTimes D V A J
    let n1 := max (ceilFc t.1) 1
    let n2 := ceilFc t.2.1
    let n4 := ceilFc t.2.2
    let j := (D.div (qi ((n1 * (n1 + n2) * (2 * n1 + n2 + n4) : Nat) : Int))).scale (if d < 0 then -1 else 1)
    let z := qi 0
    mkPlan start [(n1, j), (n2, z), (n1, j.neg), (n4, z), (n1, j.neg), (n2, z), (n1, j)] (some target) true
      (2 * n1 + n2 + n4)

/-! ### Changes of velocity (R157, R160, R161) -/

/-- A change from (v, a) to (w, 0) under A and J in continuous time: its orientation, the peak |a|, and the times of its
first jerk, constant and last jerk phases. -/
def changeShape (v a w A J : Q) : Int × Q × Q × Q × Q :=
  let turn := v.add ((a.mul a.abs).div (J.scale 2))
  let sg : Int := if turn.le w then 1 else -1
  let v := v.scale sg
  let a := a.scale sg
  let w := w.scale sg
  let t2 := (((w.sub v).sub (((a.add A).mul (A.sub a).abs).div (J.scale 2))).sub (A.sq.div (J.scale 2))).div A
  if t2.isNeg then
    let q := (((w.sub v).mul J).add (a.sq.half)).sqrt
    (sg, q, (q.sub a).abs.div J, qi 0, q.div J)
  else (sg, A, (A.sub a).abs.div J, t2, A.div J)

/-- The distance of that change. -/
def changeDist (v a w A J : Q) : Q :=
  let sh := changeShape v a w A J
  let sg := sh.1
  let q := sh.2.1
  let e : KinQ := ⟨qi 0, v.scale sg, a.scale sg⟩
  let e := e.after (if (a.scale sg).le q then J else J.neg) sh.2.2.1
  let e := e.after (qi 0) sh.2.2.2.1
  (e.after J.neg sh.2.2.2.2).p.scale sg

/-- Whole-FC lengths of the three phases of a change: each rounded up as in R158; a jerk phase that has to change the
acceleration lasts at least 1 FC. -/
def changePhases (v a w A J : Q) : Nat × Nat × Nat :=
  let sh := changeShape v a w A J
  let m1 := ceilFc sh.2.2.1
  let m2 := ceilFc sh.2.2.2.1
  let m3 := ceilFc sh.2.2.2.2
  if m1 + m2 + m3 = 0 then if v = w && a.isZero then (0, 0, 0) else (1, 0, 1)
  else
    let m3 := max m3 1
    let den := qi ((m1 + 2 * m2 + m3 : Nat) : Int)
    let q := (((w.sub v).sub (a.scale m1).half).scale 2).div den
    (if m1 = 0 && !(q = a) then 1 else m1, m2, m3)

/-- The jerks that take (v, a) to (w, 0) in phases of these lengths. -/
def changeFit (v a w : Q) (m : Nat × Nat × Nat) : List (Nat × Q) :=
  let den := (qi ((m.1 + 2 * m.2.1 + m.2.2 : Nat) : Int)).half
  if den.isZero then []
  else
    let q := ((w.sub v).sub ((a.scale m.1).half)).div den
    [(m.1, (q.sub a).div (qi m.1)), (m.2.1, qi 0), (m.2.2, q.neg.div (qi m.2.2))]

/-- The distance of phases from (v, a). -/
def phaseDist (v a : Q) (ph : List (Nat × Q)) : Q :=
  (ph.foldl (fun (e : KinQ) g => e.after g.2 (qi g.1)) ⟨qi 0, v, a⟩).p

/-! ### Stopping (R160, R170, R171) -/

/-- The stopping distance from v ≥ 0 with a = 0 (R160). -/
def stopBase (v A J : Q) : Q :=
  if (A.sq.div J).le v then (v.mul ((v.div A).add (A.div J))).half else v.mul (v.div J).sqrt

/-- Does v reach 0 under jerk +J while a is still negative (R160)? -/
def stopsEarly (v a J : Q) : Bool := a.isNeg && v.le (a.sq.div (J.scale 2))

/-- The time that takes. -/
def earlyTime (v a J : Q) : Q := (a.neg.sub ((a.sq.sub ((J.mul v).scale 2)).sqrt)).div J

/-- The stopping distance for v ≥ 0 and |a| ≤ A (R160). -/
def stopFwd (v a A J : Q) : Q :=
  if stopsEarly v a J then
    let t := earlyTime v a J
    ((⟨qi 0, v, a⟩ : KinQ).after J t).p
  else
    let t := a.abs.div J
    let v0 := v.add ((a.sq).div (J.scale 2))
    if a.isNeg then (stopBase v0 A J).sub ((v0.mul t).sub ((J.mul (t.sq.mul t)).mul (qq 1 6)))
    else (((v.mul t).add ((a.mul t.sq).half)).sub ((J.mul (t.sq.mul t)).mul (qq 1 6))).add (stopBase v0 A J)

/-- The stopping distance for v ≥ 0: where |a| exceeds A, it is first reduced to A under jerk J (R160). -/
def stopFrom (v a A J : Q) : Q :=
  if stopsEarly v a J then stopFwd v a A J
  else if A.lt a.abs then
    let t := (a.abs.sub A).div J
    let e := (⟨qi 0, v, a⟩ : KinQ).after (if a.isNeg then J else J.neg) t
    e.p.add (stopFwd e.v e.a A J)
  else stopFwd v a A J

/-- The direction of motion: of v, else of a. -/
def Kin.dir (s : Kin) : Int := if s.v ≠ 0 then (qi s.v).sgn else (qi s.a).sgn

/-- The signed distance to rest (R160). -/
def stopDist (s : Kin) (A J : Q) : Q :=
  let g := s.dir
  if g = 0 then qi 0 else (stopFrom ((qv s.v).scale g) ((qa s.a).scale g) A J).scale g

/-- A stop under A and J from the present state (R170, R171); from a state in which v reaches 0 before a does, one
segment that ends there at rest (R160). -/
def stopPlan (s : Kin) (A J : Q) : Plan :=
  let g := s.dir
  if g = 0 then { start := s, snaps := [(0, s.p)] }
  else
    let v := (qv s.v).scale g
    let a := (qa s.a).scale g
    if v.pos && stopsEarly v a J then
      let n := max 1 (ceilFc (earlyTime v a J))
      let j := ((v.add (a.scale n)).scale (-2)).div (qi ((n * n : Nat) : Int))
      mkPlan s [(n, j.scale g)] none true 0
    else mkPlan s (changeFit (qv s.v) (qa s.a) (qi 0) (changePhases (qv s.v) (qa s.a) (qi 0) A J)) none true 0

/-! ### Approaches from motion (R161, R162) -/

/-- The largest velocity on the grid of Q24.40 at which an acceleration phase from (v, a) and a stop cover no more than
D, by bisection between lo and hi. -/
def peakSearch (v a D A J : Q) : Nat → Int → Int → Int
  | 0, lo, _ => lo
  | f + 1, lo, hi =>
    if hi - lo ≤ 1 then lo
    else
      let mid := (lo + hi) / 2
      if ((changeDist v a (qv mid) A J).add (stopBase (qv mid) A J)).le D then peakSearch v a D A J f mid hi
      else peakSearch v a D A J f lo mid

/-- A direct approach to a target ahead (R161). -/
def directPlan (s : Kin) (target : Int) (V A J : Q) : Plan :=
  let d := target - s.p
  let g : Int := if d < 0 then -1 else 1
  let v := (qv s.v).scale g
  let a := (qa s.a).scale g
  let D := (qp d).abs
  let vmax := V.rneAt 40
  let full := ((changeDist v a V A J).add (stopBase V A J)).le D
  let lo := (((v.add ((a.mul a.abs).div (J.scale 2))).max (qi 0)).rneAt 40)
  let vp := if full || vmax ≤ lo then V else qv (max 1 (peakSearch v a D A J 80 lo vmax))
  let m := changePhases v a vp A J
  let reach := (A.sq.div J).le vp
  let n1 := max 1 (ceilFc (if reach then A.div J else (vp.div J).sqrt))
  let n2 := if reach then ceilFc ((vp.div A).sub (A.div J)) else 0
  let tail := (qi ((2 * n1 + n2 : Nat) : Int)).half
  let acc := phaseDist v a (changeFit v a vp m)
  let n4 := ceilFc (((D.sub acc).sub (vp.mul tail)).div vp)
  -- for fixed durations the distance is affine in the peak velocity (R161)
  let m := if m.1 + m.2.1 + m.2.2 = 0 && !((vp.mul ((qi n4).add tail)) = D) then (1, 0, 1) else m
  let tot (x : Q) : Q := (phaseDist v a (changeFit v a x m)).add (x.mul ((qi n4).add tail))
  let f0 := tot (qi 0)
  let f1 := tot (qi 1)
  let vc := if f1 = f0 then vp else (D.sub f0).div (f1.sub f0)
  let j := vc.div (qi ((n1 * (n1 + n2) : Nat) : Int))
  let ph := changeFit v a vc m ++ [(n4, qi 0), (n1, j.neg), (n2, qi 0), (n1, j)]
  mkPlan s (ph.map (fun q => (q.1, q.2.scale g))) (some target) true (m.1 + m.2.1 + m.2.2 + n4)

/-- The marks of a limit stop (R162): flag LIMSTOP, and LIMOVR with it. -/
def markLimstop : Nat := 1
def markLimovr : Nat := 3

/-- A limit stop (R162): to rest exactly at the limit with the present speed as its speed limit; where that cannot be, a
stop at full value, with LIMOVR. -/
def limitStop (s : Kin) (limit : Int) (A J : Q) : Plan :=
  let d := qp (limit - s.p)
  let sd := stopDist s A J
  if s.v ≠ 0 ∧ 0 < d.sgn * sd.sgn ∧ sd.abs.le d.abs then
    let pl := directPlan s limit (qv s.v).abs A J
    { pl with marks := [(pl.len, markLimstop)] }
  else
    let pl := stopPlan s A J
    { pl with marks := [(pl.len, markLimovr)] }

/-- A point-to-point move to a target from any state (R157–R162). `lim` holds the virtual limits where they act; `la` and
`lj` are the limit stop's acceleration and jerk. -/
def movePlan (s : Kin) (target : Int) (V A J : Q) (lim : Option (Int × Int)) (la lj : Q) : Plan :=
  let g := s.dir
  if g = 0 then restToRest s target V A J
  else
    let d := qp (target - s.p)
    let sd := stopDist s A J
    if d.sgn = g ∧ sd.abs.lt d.abs then directPlan s target V A J
    else
      let first := stopPlan s A J
      let past (l : Int) : Bool := decide (0 < (first.rest - l) * g ∧ 0 ≤ (l - s.p) * g)
      let first := match lim with
        | some (lo, hi) => let l := if 0 < g then hi else lo
                           if past l then limitStop s l la lj else first
        | none => first
      if first.marks.any (fun q => q.2 == markLimovr) then first
      else first.then (restToRest { p := first.rest } target V A J)

/-- A change to velocity w, which is then held (R165). -/
def velPlan (s : Kin) (w : Int) (A J : Q) : Plan :=
  let m := changePhases (qv s.v) (qa s.a) (qv w) A J
  { mkPlan s (changeFit (qv s.v) (qa s.a) (qv w) m) none false 0 with vend := some w }

end Sys2Proof.Machine
end

