-- ==== Sys2Proof/Machine/SMap.lean ====
section
/-!
DEFINITION. Sparse tables: a list of (key, value) pairs with strictly rising keys, in which a key that is not listed
reads as a default. Registers, memory, route-table entries and per-channel state are kept this way, so that equal
tables are equal lists.
-/
namespace Sys2Proof.Machine

/-- A sparse table. -/
abbrev SMap (α : Type) := List (Nat × α)

variable {α : Type}

/-- The entry listed at a key. -/
def smFind : SMap α → Nat → Option α
  | [], _ => none
  | (k, v) :: m, i => if k = i then some v else smFind m i

/-- The table without the key. -/
def smDel (m : SMap α) (i : Nat) : SMap α := m.filter (fun p => !(p.1 == i))

/-- Insert an entry before the first greater key. -/
def smIns (i : Nat) (v : α) : SMap α → SMap α
  | [] => [(i, v)]
  | (k, w) :: m => if k < i then (k, w) :: smIns i v m else (i, v) :: (k, w) :: m

/-- The value at a key: the listed one, else the default. -/
def smGet (d : Nat → α) (m : SMap α) (i : Nat) : α := (smFind m i).getD (d i)

/-- List a value at a key, whatever the default. -/
def smPut (m : SMap α) (i : Nat) (v : α) : SMap α := smIns i v (smDel m i)

/-- Give a key a value; a value equal to the default is not listed. -/
def smSet [DecidableEq α] (d : Nat → α) (m : SMap α) (i : Nat) (v : α) : SMap α :=
  if v = d i then smDel m i else smPut m i v

/-- The keys are strictly rising. -/
def smSorted : SMap α → Bool
  | [] => true
  | (k, _) :: m => m.all (fun p => decide (k < p.1)) && smSorted m

/-- The canonical form: keys strictly rising, and no entry equal to the default. -/
def smCanon [DecidableEq α] (d : Nat → α) (m : SMap α) : Bool :=
  smSorted m && m.all (fun p => !decide (p.2 = d p.1))

end Sys2Proof.Machine
end

