-- ==== Sys2Proof/Machine/State.lean ====
section
/-!
DEFINITION. The state of the RG-7128 as plain data, the reasons a command can stop, and the state after reset.
Every register of the register tables stands in `regs` (its reset value where nothing is listed); what the blocks hold
beside their registers stands in one structure per block.
-/
namespace Sys2Proof.Machine

/-- The reasons the part stops. -/
inductive Fault where
  /-- Raised by every command but a cold start once a write has changed a live reserved bit: "the behaviour that
  follows is not specified" until the next cold start (R53). Safe: no claim is made of what follows. -/
  | reservedBitChanged
  deriving DecidableEq, Repr

/-- The reasons a command has no meaning here. -/
inductive Refusal where
  /-- Raised by a row of the table whose meaning is not written yet. Safe. -/
  | notModelled (mnemonic : String)
  deriving DecidableEq, Repr

/-- A command in progress on a command register (R60–R64): its code and ARG, the port and the class it came from, and
the time-base ns of its acceptance. -/
structure Busy where
  code : Nat
  arg : Nat
  port : Nat
  cls : Nat
  acc : Nat
  deriving DecidableEq, Repr

/-- What the latest read of a master port, or its latest access that failed, answered: the data, and whether it completed
with an error (R17, R40). -/
structure Answer where
  data : Word
  err : Bool
  deriving DecidableEq, Repr

/-! ### Signals (SIG) -/

/-- The dynamic part of one signal: the value producers or higher ranks gave it last, in the route's encoding, and the
status byte that goes with it (R73), the age in FC, whether an update fell in the present FC (R81), and the latest
value its producer published since the entry was written, with the status of that publication (R30); `fw` is set
once a write of rank 6 has acted in the present FC (R84). -/
structure SigRec where
  held : Word := 0
  st : BitVec 8 := 0
  age : Nat := 0
  upd : Bool := false
  fw : Bool := false
  last : Option (Word × BitVec 8) := none
  deriving DecidableEq, Repr

/-- What a consumer endpoint holds: the value last delivered to it, in its native encoding, with its status; `live` is
clear where nothing has been delivered since the consumer was enabled or its route was written (R88). -/
structure ConsRec where
  val : Word := 0
  st : BitVec 8 := 0
  live : Bool := false
  deriving DecidableEq, Repr

/-- A source of rank 2 to 4 acting on a signal from the next apply instant (R28, R228): the signal, the rank and the
number of the rule or channel that orders ties (R29), and the value in the route's encoding. -/
structure Override where
  id : Nat
  rank : Nat
  src : Nat
  val : Word
  deriving DecidableEq, Repr

/-- A publication: producer endpoint, encoding of the value (`none`: the route's own), the value, OVER-RANGE, VALID; a
firmware write names the one signal it updates (R84). -/
structure Pub where
  ep : Nat
  enc : Option Nat
  val : Word
  satd : Bool
  valid : Bool
  only : Option Nat := none
  deriving DecidableEq, Repr

/-- A bulk load in progress (R96): source address, first ID, number of entries, and entries written so far. -/
structure LoadJob where
  src : Nat
  first : Nat
  cnt : Nat
  fin : Nat
  deriving DecidableEq, Repr

/-- SIG beside its registers: the route table and the substitute table, the signals, the consumers and their apply
latches, the sources of ranks 2–4 and the signals they held at the latest apply instant, the endpoints an interlock
inhibits, and the updates of this FC with those still queued (R83). -/
structure SigState where
  routes : SMap (BitVec 128) := []
  subst : SMap Word := []
  recs : SMap SigRec := []
  cons : SMap ConsRec := []
  latched : SMap ConsRec := []
  ovr : List Override := []
  ovrOn : List Nat := []
  inhibit : List (Nat × Nat) := []
  count : Nat := 0
  queue : List Pub := []
  load : Option LoadJob := none
  deriving DecidableEq, Repr

/-! ### Work items and queues (QUE, WSCH) -/

/-- One queue: the on-chip head, oldest first, each item with the ns at which it became the queue's candidate, or entered
the head; the body pointers (slots read and written so far); and the TOKENs of the latest eight
items dispatched (R427, R437). -/
structure QueRec where
  head : List (List Word × Nat) := []
  rd : Nat := 0
  wr : Nat := 0
  recent : List Nat := []
  deriving DecidableEq, Repr

/-- A commit that waits for room (R428): the port, its class, the queue, the descriptor and the ns it began. -/
structure Stall where
  port : Nat
  cls : Nat
  queue : Nat
  item : List Word
  since : Nat
  deriving DecidableEq, Repr

/-- QUE beside its registers: the queues, the stalled commits, the blocks whose event item waits for room (a mailbox m of PCIE
as 0x100 + m, R507), and the
blocks whose events were held back while SYS_STATE was WARM (R32, R429). -/
structure QueState where
  queues : SMap QueRec := []
  stalls : List Stall := []
  evWait : List (Nat × Nat × List Word) := []
  resync : List Nat := []
  deriving DecidableEq, Repr

/-- An item a core runs: the queue and its descriptor (R431). -/
structure Running where
  queue : Nat
  item : List Word
  deriving DecidableEq, Repr

/-- WSCH beside its registers: the items outstanding, by core; the cores that leave the pool when their item ends
(R37); and the round-robin positions of the cluster, group and queue arbiters with the level last
served (R433); and the core mask an APPLY_CORE_EN moves toward (R37). -/
structure WschState where
  running : SMap Running := []
  rrCluster : Nat := 0
  rrGroup : Nat := 0
  rrQueue : SMap Nat := []
  level : Nat := 0
  stay : Bool := false
  target : Word := 0
  deriving DecidableEq, Repr

/-! ### Memory controller and signal recorder (MEMC, SREC) -/

/-- MEMC beside its registers: the 64-bit words left uncorrectable, by address / 8 (R448); the rows mapped to spares, in the
form of MEMC_REMAP_ROW; and the rows whose copy runs, with whether a REMAP asked for it (R450). -/
structure MemcState where
  ue : List Nat := []
  rows : List Word := []
  jobs : List (Word × Bool) := []
  deriving DecidableEq, Repr

/-- A sample: signal, value in the route's encoding, whether that is BF32, status (R454). -/
structure SrecSample where
  id : Nat
  x : Word
  bf : Bool
  st : BitVec 8
  deriving DecidableEq, Repr

/-- What SREC has of one FC: CYC_COUNT, NS and ERA of its t0; the samples in arrival order; the transitions into STALE; TRIG,
TRACE and ANNOT records in arrival order; and the samples dropped that this frame reports (R454–R456, R461). -/
structure SrecFrame where
  cyc : Word := 0
  ns : Word := 0
  era : Word := 0
  samples : List SrecSample := []
  stale : List (Nat × BitVec 8) := []
  extra : List (List Word) := []
  gap : Nat := 0
  deriving DecidableEq, Repr

/-- A signal in the open block: the status last recorded, its latest and second-latest samples, and k (R454, R458). -/
structure SrecHist where
  st : Option (BitVec 8) := none
  x1 : Option Word := none
  x2 : Option Word := none
  k : Option Nat := none
  deriving DecidableEq, Repr

/-- A capture slot beside its registers: its trigger frame, counted from START, PRE and POST, and its locked blocks with
their BSEQ, in the order locked (R462). -/
structure SrecSlot where
  frame : Nat := 0
  pre : Nat := 0
  post : Nat := 0
  locked : List (Nat × Nat) := []
  deriving DecidableEq, Repr

/-- A readout: KIND, first block, blocks, destination, and whether CANCEL has been written (R464). -/
structure SrecRead where
  kind : Bool
  src : Nat
  n : Nat
  dst : Nat
  cancel : Bool := false
  deriving DecidableEq, Repr

/-- A complete block in the buffer: BSEQ, first and last frame counted from START, and whether the first one began in the
block before (R457, R459). -/
structure SrecBlock where
  bseq : Nat := 0
  first : Nat := 0
  last : Nat := 0
  cont : Bool := false
  deriving DecidableEq, Repr

/-- SREC beside its registers: the FC in progress, the frames to be written, oldest first, the frame of the FC in progress
and the next to be written, counted from START; the open block: bytes used, CYC_COUNT, NS and ERA of its first frame, its
frames so far (BSEQ apart), whether it holds a GAP, the signals in it and CFG.KINIT when it was opened; the complete blocks by
index; the capture slots; the readout; and the samples dropped that no GAP record states yet. -/
structure SrecState where
  cur : Option SrecFrame := none
  frames : List SrecFrame := []
  ord : Nat := 0
  wOrd : Nat := 0
  used : Nat := 64
  head : Option (Word × Word × Word) := none
  fill : SrecBlock := {}
  gapf : Bool := false
  hist : SMap SrecHist := []
  kinit : Nat := 8
  blocks : SMap SrecBlock := []
  slots : SMap SrecSlot := []
  rd : Option SrecRead := none
  lost : Nat := 0
  deriving DecidableEq, Repr

/-! ### Faults and the hut book (FLT, HUT) -/

/-- FLT beside its registers: the fault log, oldest first, and whether the next entry follows lost ones; the bucket
levels by class × 2^24 + instance, and as the supervisor store holds them since each one's latest event (R516); the
retirement list of the supervisor store and the retirements it could not list; the
instances whose cleared retirement ends at the next t0 (R519), and the one that CLEAR_RET tests; the Rope-team pairs in
reset (R522); safe hold (R525); and the rows of shared SRAM that are mapped to spares (R518). -/
structure FltState where
  log : List (List Word) := []
  lostNext : Bool := false
  buckets : SMap Nat := []
  stored : SMap Nat := []
  retList : SMap Word := []
  retExtra : List Nat := []
  back : List Nat := []
  clear : Nat := 0
  pairReset : List Nat := []
  safeHold : Bool := false
  sramRows : List Nat := []
  deriving DecidableEq, Repr

/-- A record that waits in the hut book's queue (R551): type, payload from W3, and the block that sent it with the ns
at which it joined the queue. -/
structure HutReq where
  typ : Nat
  payload : List Word
  blk : Nat
  since : Nat
  deriving DecidableEq, Repr

/-- An open reservation (R552): port, class, offset, type and length, the stamp words and the ns it was made. -/
structure HutOpen where
  port : Nat
  cls : Nat
  ofs : Nat
  len : Nat
  since : Nat
  deriving DecidableEq, Repr

/-- HUT beside its registers: the queue of block records, the open reservation, whether a nonce stands and the nonce
counter (R554), whether one stood when the CLEAR in progress took it (R555), and the ports whose cursor stands on a record
that has been removed (R553). -/
structure HutState where
  queue : List HutReq := []
  opened : Option HutOpen := none
  nonceValid : Bool := false
  ctr : Nat := 0
  clr : Bool := false
  gone : List Nat := []
  deriving DecidableEq, Repr

/-! ### Time base (TB) -/

/-- TB beside its registers: what remains of the correction, in 2^−24 ns, signed (R380), the FC for which
TB_STAT.JREF still stands (R381), and by how many ns the part's elapsed time lies above the full time of the time base,
which a setting and a load of ERA shift (R362, R385, R386). -/
structure TbState where
  remain : Int := 0
  jrefFc : Nat := 0
  ofs : Int := 0
  deriving DecidableEq, Repr

/-! ### Host interface (PCIE) -/

/-- One mailbox as the host sees it (R505, R506): STATE, OVR, SEQ, RSPLEN. -/
structure Mailbox where
  st : Nat := 0
  ovr : Bool := false
  seq : Nat := 0
  rsplen : Nat := 0
  deriving DecidableEq, Repr

/-- PCIE beside its registers: the mailboxes, the queue-doorbell results and staged descriptors of BAR2, the MSI-X table
(word 4v + i of vector v) with its pending bits, and the messages sent so far by vector (R505–R509). -/
structure PcieState where
  mbox : SMap Mailbox := []
  qdbRes : SMap Word := []
  qdbStage : SMap Word := []
  msix : SMap Word := []
  pba : BitVec 64 := 0
  sent : SMap Nat := []
  deriving DecidableEq, Repr

/-! ### Fast cycle (CYC) -/

/-- CYC beside its registers: whether a t0 has fallen since START or LOCKED, the full time of the next t0, the cairn
frames taken in succession with consecutive counts in ACQUIRE and the count of the latest (R92), and the FC passed
without a cairn frame in HOLDOVER, with whether that has been reported. -/
structure CycState where
  begun : Bool := false
  next : Nat := 0
  seen : Nat := 0
  count : Word := 0
  missed : Nat := 0
  lost : Bool := false
  deriving DecidableEq, Repr

/-! ### Ring (OCUB 0, OCUS 1) -/

/-- A port of an Ocuant block beside its registers: when its latest LINK block came, the LINK blocks in succession with
RXOK = 0 and whether the latest had LOOPED (R369); the cause of a break it has declared, which loops it at the next t0;
since when its link has been good (R373); the DELAY REQs it has sent (number, t1 in 1/16 ns, ns), the number of the
next, whether one has left in this FC, the latest hop-delay values, and DUP, HEAD and LIST of the latest valid DELAY
frame with the ns it came (R358, R359); its insertion buffer, with the ns from which each frame may go, until when it
sends (ps), its own dynamic frames sent in this cycle, and whether a frame held over has been counted (R339). -/
structure OcuPort where
  link : Option Nat := none
  zero : Nat := 0
  peerLoop : Bool := false
  pend : Nat := 0
  good : Option Nat := none
  reqs : List (Nat × Nat × Nat) := []
  seq : Nat := 0
  asked : Bool := false
  hops : List Int := []
  up : Option (Nat × Nat × List Nat × Nat) := none
  ins : List (List Word × Nat) := []
  busyTill : Nat := 0
  sentOwn : Nat := 0
  heldOver : Bool := false
  deriving DecidableEq, Repr

/-- A remote access (R342): the master's port, the chip of its window, destination, SEQ, OP (1 a read, 2 a write), COUNT,
OFFSET and data; for a read of part of a word its bytes, 1 or 2; the port it leaves by; the ns it was made; since when its
present try has waited, and the times it has been sent again. -/
structure RraReq where
  port : Nat
  chip : Nat
  dst : Nat
  seq : Nat
  op : Nat
  count : Nat
  ofs : Nat
  data : List Word
  bytes : Nat := 4
  out : Nat
  born : Nat
  since : Nat
  tries : Nat := 0
  deriving DecidableEq, Repr

/-- A bulk transfer (R346): destination, channel, source address, bytes, the offset to be sent next and the acknowledged
one, timeouts in a row, and since when the acknowledged offset has stood. -/
structure Bulk where
  dst : Nat
  chan : Nat
  src : Nat
  len : Nat
  next : Nat
  acked : Nat
  tries : Nat
  since : Nat
  deriving DecidableEq, Repr

/-- An Ocuant block beside its registers: whether it has accepted a LOAD_SCHED since cold start (R93, R352); the ports; the
frames sent by the latest event of the ring, with their ports; whether a cairn frame was heard in this FC, the silent FC
in succession and when the third ended (R365); the count of the train whose SCHED_ID was judged last, with the trains in
succession with the active one and with another (R351); a stop at the next t0 and the cairn frames still to carry STOPREQ;
a collision to be acted on at the next t0, and whether it is won (R366); the count of the train taken last with ε, in
2^−24 ns, and what then remained of the correction (R362, R364), and in ACQUIRE the arrival of the first cairn frame in
2^−24 ns; the CC last taken by position; the snapshots by position, with their train (R336); the frames held for
re-insertion by position × 2 + port, with the ps from which they may go (R335); own dynamic frames by class of R340, and
frames relayed from the other ring (R348); remote accesses outstanding and stalled, the next SEQ by destination, and the
kept responses by source, most recent first (R342, R343); the message that awaits its answer: destination, broadcast, ns
(R345); the bulk transfer, and the frames accepted since the latest BULK_ACK by channel (R346). -/
structure OcuState where
  loaded : Bool := false
  ports : SMap OcuPort := []
  out : List (Nat × List Word) := []
  heard : Bool := false
  silent : Nat := 0
  silentAt : Nat := 0
  judged : Option Word := none
  same : Nat := 0
  diff : Nat := 0
  stopAt : Bool := false
  stopLeft : Nat := 0
  collide : Option Bool := none
  taken : Option Word := none
  eps : Int := 0
  rem0 : Int := 0
  acq : Nat := 0
  lastCc : SMap Nat := []
  snaps : SMap (Nat × List Word) := []
  hold : SMap (List Word × Nat) := []
  own : List (Nat × List Word) := []
  relay : List (List Word) := []
  rra : List RraReq := []
  stalled : List RraReq := []
  seqs : SMap Nat := []
  kept : List (Nat × List (Nat × List Word)) := []
  mb : Option (Nat × Bool × Nat) := none
  bulk : Option Bulk := none
  acc : SMap Nat := []
  deriving DecidableEq, Repr

/-! ### Control engine (CE, CTAB) -/

/-- One run of the present FC as it is dispatched (R129, R130): slot; kind 0 FC list, 1 and 2 tick list at current tick
A and B; lane, start, end and deadline in ns; busy lane-ns; whether it completes by its deadline; and how it stands:
0 to come, 1 done, 2 missed. -/
structure CeRun where
  slot : Nat
  kind : Nat
  lane : Nat
  start : Nat
  fin : Nat
  dl : Nat
  work : Nat
  fits : Bool
  st : Nat
  deriving DecidableEq, Repr

/-- A run to be checked (R100): slot, kind, the lane that ran it, the words of the slot's lists before it, the words on
its input ports, the words it wrote, and after a mismatch the checker's lane and words; a vote whose program has been
given another list is only counted (R103). -/
structure CeCheck where
  slot : Nat
  kind : Nat
  lane : Nat
  words : SMap Word
  ins : List Word
  dir : List Word
  res : List (Nat × Word)
  chk : Nat := 0
  chkRes : List (Nat × Word) := []
  dropped : Bool := false
  deriving DecidableEq, Repr

/-- CE beside its registers and its local memory: the runs of the present FC, the checks and votes that wait, the
stages that saturated (slot, list, index), the slots with a miss or a NaN in the present FC, the busy lane-ns, and the
outputs each stage gave last, by its local offset (R122). -/
structure CeState where
  plan : List CeRun := []
  checks : List CeCheck := []
  votes : List CeCheck := []
  sat : List (Nat × Nat × Nat) := []
  miss : List Nat := []
  nan : List Nat := []
  load : Nat := 0
  kept : SMap (List CeOp) := []
  deriving DecidableEq, Repr

/-- A table copy in progress (R128): table, source, entries and first entry. -/
structure CtabJob where
  tbl : Nat
  src : Nat
  n : Nat
  base : Nat
  deriving DecidableEq, Repr

/-! ### Profile generators (PROF) -/

/-- What a generator is doing: nothing, a traverse, one of the parts of a HOME, the stop before a traverse that starts
from rest (R166, R169), a stop, a limit stop that ends its traverse (R163), or waiting for a traverse of its hardware
queue (R154). -/
inductive ProfRun where
  | idle
  | ptp
  | vel
  | gear
  | cam
  | pvt
  | dwell
  | search
  | searchStop
  | homeBack
  | homeFail
  | pre
  | stop
  | limEnd
  | starve
  deriving DecidableEq, Repr

/-- A generator beside its registers: the state of motion for the coming t0 and its jerk (R145, R147); the home offset in
force and when HOFS was last written (R149); the plan and how far it has run; what runs, its descriptor and the FC it has
run; the on-chip queue with each traverse's arrival; the immediate traverse of a GO with its port; when RUNQ was set; the
switch as last taken (R173); whether the move began outside the limits (R164); the master as last taken, the sum of its
moves since engage and the remainder of the division (R166); the user position and table value at engage (R167); start
point, end point and velocities of a PVT segment (R168); the start of a HOME search. -/
structure ProfGen where
  k : Kin := {}
  j : Int := 0
  hofs : Int := 0
  hofsAt : Nat := 0
  plan : Option Plan := none
  pk : Nat := 0
  run : ProfRun := .idle
  trav : List Word := []
  age : Nat := 0
  queue : List (List Word × Nat) := []
  go : Option (List Word × Nat) := none
  runqAt : Nat := 0
  sw : Option Bool := none
  outside : Bool := false
  mast : Word := 0
  sumM : Nat := 0
  carry : Q := ⟨0, 1⟩
  ue : Int := 0
  te : Int := 0
  pvt : List Int := []
  home : Int := 0
  deriving DecidableEq, Repr

/-- PROF beside its registers: the generators, the cam memory (R167), and whether the generators have advanced in the
present FC (R145). -/
structure ProfState where
  gens : SMap ProfGen := []
  cam : SMap Word := []
  adv : Bool := true
  deriving DecidableEq, Repr

/-! ### Axis channels, steppers and encoder ports (AXC, STEP, ENC) -/

/-- An axis channel beside its registers: AXn_EN and when ENABLE raised it; whether an STO demand found it in FAULT
(R193); whether it switches; its next turning point, numbered from the latest valley at which its carrier was aligned,
and the length of the present half in ticks; for each half-bridge the changes of its command from the latest turning
point (tick and level) and, at that turning point, its level with the ticks since its last change (R187, R188); the duties
loaded last and the duty inputs latched for current tick B (R189). -/
structure AxcChan where
  en : Bool := false
  enAt : Nat := 0
  ret : Bool := false
  sw : Bool := false
  tp : Nat := 0
  half : Nat := 0
  wave : List (List (Nat × Bool)) := []
  before : List (Bool × Nat) := []
  duty : List Q := []
  tickB : List ConsRec := []
  deriving DecidableEq, Repr

/-- The step/dir interpolator of a stepper channel, in index steps (R209): target, output at the latest step with its
time, the rate as steps per ns, and the direction of the latest step. -/
structure StepInt where
  tgt : Int := 0
  out : Q := ⟨0, 1⟩
  since : Option Nat := none
  num : Nat := 0
  den : Nat := 1
  up : Bool := true
  deriving DecidableEq, Repr

/-- A stepper channel beside its registers: whether the regulator has run since enable; STEPPOS as applied at the
latest t0 and the one before (R208); the index as last read; index steps of the last 8 FC (R210); FC without a change of
the index, motion since enable or standstill, and standstill (R215); ISCALE as applied. -/
structure StepChan where
  on : Bool := false
  pos : Word := 0
  old : Word := 0
  index : Int := 0
  fcIndex : Int := 0
  moves : List Int := []
  still : Nat := 0
  moving : Bool := false
  standby : Bool := false
  scale : Word := 0x3F800000
  sd : StepInt := {}
  deriving DecidableEq, Repr

/-- STEP beside its registers: the channels, the microstep tables by table × 256 + entry, and the source of a RESHAPE in
progress. -/
structure StepState where
  chans : SMap StepChan := []
  tables : SMap Nat := []
  src : Nat := 0
  deriving DecidableEq, Repr

/-- An encoder port beside its registers: the levels of A and B as accepted and the count (R198); the last position
published, for the jump check (R203); the latest valid SSI value (R201) and whether a frame is on the wire; the time of
the last accepted count edge and the ns between the last two (R204); whether a sample has been accepted since the latest
safety evaluation (R316). -/
structure EncPort where
  a : Bool := false
  b : Bool := false
  count : Word := 0
  last : Option Word := none
  ssi : Option Nat := none
  frame : Bool := false
  edgeAt : Option Nat := none
  edge : Nat := 0x7FFFFFFF
  acc : Bool := false
  deriving DecidableEq, Repr

/-! ### Recipe engine and interlocks (SEQ, ILK) -/

/-- The recipe header (R229). -/
structure SeqHdr where
  base : Nat
  nstep : Nat
  abortStep : Nat
  first : Nat
  rid : Word
  len : Nat
  deriving DecidableEq, Repr

/-- A setpoint action (R231): RAMP, signal, TARGET and RT. -/
structure SeqAct where
  ramp : Nat
  id : Nat
  target : Word
  rt : Nat
  deriving DecidableEq, Repr

/-- A condition (R232): TYPE, MODE, hold count, NVF, NEXT, signal, A and B. -/
structure SeqCond where
  typ : Nat
  mode : Nat
  hold : Nat
  nvf : Bool
  next : Nat
  id : Nat
  a : Word
  b : Word
  deriving DecidableEq, Repr

/-- A step record (R230). -/
structure SeqRec where
  tag : Nat
  dur : Nat
  nextDef : Nat
  acts : List SeqAct
  ends : List SeqCond
  abts : List SeqCond
  deriving DecidableEq, Repr

/-- What a channel drives on one signal (R238, R239): the action, the value it started from, the encoding, and the k of
the value that applies next. -/
structure SeqDrive where
  act : SeqAct
  v0 : Word
  enc : Nat
  k : Nat
  deriving DecidableEq, Repr

/-- The memory of a condition: the previous value, where one has been taken (`none` inside: a value without an order),
and the BAND count (R232). -/
structure SeqMem where
  prev : Option (Option Int) := none
  band : Nat := 0
  deriving DecidableEq, Repr

/-- A record that is being fetched (R236): the step, whether START fetches it with the header, and whether an abort
condition enters it. -/
structure SeqFetch where
  start : Bool
  step : Nat
  abort : Bool
  deriving DecidableEq, Repr

/-- A sequencer channel beside its registers: header, held records and whether START has fetched them; the running record with the memories of its abort
and end conditions; what it drives, and whether at rank 3; an ABORT command and an interlock abort not yet decided; the
pausing rules with their ARES, whether one without ARES has paused since, and whether the ILK cause waits for RESUME
(R241); the acceptance of START; the fetch in progress; what begins at the next t0 (`none` inside: END); and whether E
advances there. -/
structure SeqChan where
  hdr : Option SeqHdr := none
  abrec : Option SeqRec := none
  first : Option SeqRec := none
  ready : Bool := false
  cur : Option SeqRec := none
  mems : List SeqMem := []
  drv : List SeqDrive := []
  rank3 : Bool := false
  cmdAbt : Bool := false
  ilkAbt : Option Nat := none
  rules : List (Nat × Bool) := []
  nonAres : Bool := false
  sticky : Bool := false
  startAt : Nat := 0
  fetch : Option SeqFetch := none
  next : Option (Option (Nat × SeqRec × List SeqMem)) := none
  inc : Bool := false
  deriving DecidableEq, Repr

/-- SEQ beside its registers: the channels, whether this FC's evaluation has taken place, and the present values read at
the latest evaluation (R232). -/
structure SeqState where
  chans : SMap SeqChan := []
  evald : Bool := false
  snap : SMap (Option Int) := []
  deriving DecidableEq, Repr

/-- One interlock rule beside its bits in ILK_ACT and ILK_LATCH (R249): true evaluations in succession, the condition at
the latest evaluation. -/
structure IlkRule where
  cnt : Nat := 0
  cond : Bool := false
  deriving DecidableEq, Repr

/-- ILK beside its registers: the banks by bank × 1,024 + rule, the rules, the signals held at different values, and
whether this FC's evaluation has taken place. -/
structure IlkState where
  banks : SMap (List Word) := []
  rules : SMap IlkRule := []
  confl : List Nat := []
  evald : Bool := false
  deriving DecidableEq, Repr

/-! ### Analog acquisition (ADC, SDM) -/

/-- A conversion: converter, input, hold instant, and whether the converter has become free since (R258). -/
structure AdcJob where
  conv : Nat
  input : Nat
  hold : Nat
  free : Bool := false
  deriving DecidableEq, Repr

/-- ADC beside its registers: the conversions whose results are outstanding, the requests queued by input (R261), the
instants of the present FC at which FC-phase groups have fired, the targets of the armed time-base groups in ns (R260),
and the converters whose retirement acts from the next t0 (R265). -/
structure AdcState where
  jobs : List AdcJob := []
  queue : SMap Nat := []
  fired : List Nat := []
  armed : SMap Nat := []
  retiring : List Nat := []
  deriving DecidableEq, Repr

/-- A sigma-delta channel beside its registers: a stuck stream, and when enough bits have been sampled to publish, in
units of 1/8 ns (R271, R272). -/
structure SdmChan where
  stuck : Bool := false
  ready : Nat := 0
  deriving DecidableEq, Repr

/-! ### Field I/O and safety functions (FIO, SAFE) -/

/-- A field input beside its registers: the filter counter, whether it has been loaded since group A left DOWN (R288), its
next tick (R290), and the latest raw edges in ns (R292). -/
structure FioIn where
  cnt : Nat := 0
  loaded : Bool := false
  next : Nat := 0
  rise : Nat := 0
  fall : Nat := 0
  deriving DecidableEq, Repr

/-- A test pulse of an output (R298): 0 off, 1 off and its low check made, 2 ended and its high check due; when it began;
and whether the output has been commanded or forced off since (R315). -/
structure FioPulse where
  stage : Nat
  start : Nat
  cancel : Bool := false
  deriving DecidableEq, Repr

/-- FIO beside its registers: the inputs, the timestamp FIFO, oldest first, with whether entries were lost since the
latest push (R293), the couplers whose heartbeat is absent and those whose has returned (R285), and the test pulses. -/
structure FioState where
  ins : SMap FioIn := []
  tsf : List (Word × Word) := []
  lostb : Bool := false
  absent : List Nat := []
  back : List Nat := []
  pulses : SMap FioPulse := []
  deriving DecidableEq, Repr

/-- A channel as the safety functions follow it: the positions of the latest evaluations, newest first; evaluations in
succession without an accepted sample and the port's mode at the latest (R310, R316); p_s of SOS and r of SDI (R311); FC
in succession outside PLWIN and the generator position of the FC before; |Δ|/NV at k = 0 of an SS1, in 1/8 counts (R312). -/
structure SafeChan where
  hist : List Word := []
  miss : Nat := 0
  mode : Option Nat := none
  sos : Option Word := none
  sdi : Option Word := none
  fol : Nat := 0
  gpos : Option Word := none
  v0 : Nat := 0
  deriving DecidableEq, Repr

/-- A safety group beside its bits in SAFE_GSTATE: k of its SS1 (R311), whether the quick stop of that SS1 still acts
(R312), the FC for which the Belay has seen it in SS1, and whether a violation condition holds at the latest
evaluation. -/
structure SafeGroup where
  k : Nat := 0
  quick : Bool := false
  belayK : Nat := 0
  vlive : Bool := false
  deriving DecidableEq, Repr

/-- SAFE beside its registers: channels and groups; the confirmed value of the supervisor store (R319); the demands of
the H and L paths (R308); whether this FC's evaluation has taken place, and its decision word: each group's state and the
speed and standstill comparisons (R303); the excuse for a missing word: 1 granted, 2 used in the FC before (R305); the
outputs SAFE commands on (R315); since when the resources of CLOCK and ROPE are back, where they have failed
(R317); and whether the Belay failed its test at cold start (R527). -/
structure SafeSt where
  chans : SMap SafeChan := []
  groups : SMap SafeGroup := []
  confirm : Option Word := none
  demH : Bool := false
  demL : Bool := false
  evald : Bool := false
  word : Option (Word × Nat) := none
  excuse : Nat := 0
  outs : BitVec 16 := 0
  clockBack : Option (Option Nat) := none
  ropeBack : Option (Option Nat) := none
  belayOut : Bool := false
  deriving DecidableEq, Repr

/-! ### Ethernet (ETH) -/

/-- An Ethernet MAC beside its registers: the transmit and receive queues stopped at a descriptor that is not the MAC's
(R394); the frame sent last, with its FCS, and the ns from which the wire is free for another; until when a received PAUSE
is in force (R392); and whether the queues have not been enabled since a warm restart (R400). -/
structure EthMac where
  txStop : List Nat := []
  rxStop : List Nat := []
  sent : List Byte := []
  wireTill : Nat := 0
  pauseTill : Nat := 0
  warm : Bool := false
  deriving DecidableEq, Repr

/-! ### CAN and DAC -/

/-- The snapshot a transmit request takes of its buffer (R410). -/
structure CanSnap where
  id : Word
  fmt : Word
  data : List Word
  deriving DecidableEq, Repr

/-- One CAN buffer beside its registers: the pending request, the consecutive pattern events (R416), whether a delivery
has raised a request in this FC (R411), and whether a TXCANCEL waits for the frame on the bus (R413). -/
structure CanBuf where
  req : Option CanSnap := none
  patt : Nat := 0
  fcReq : Bool := false
  cancel : Bool := false
  deriving DecidableEq, Repr

/-- CAN0–CAN3 beside their registers: the buffers, by controller × 64 + buffer; the buffer whose frame is on the bus, by
controller, and the controllers that wait for the end of another node's frame (R412); REC, which its field shows up to 127
(R415); and NBT, DBT and CFG as read at the latest entry to INTEGRATING (R406, R422). -/
structure CanState where
  bufs : SMap CanBuf := []
  onBus : SMap Nat := []
  wait : List Nat := []
  recv : SMap Nat := []
  timing : SMap (List Word) := []
  deriving DecidableEq, Repr

/-- DAC beside its registers: the values that wait in the IMMEDIATE queue of a channel, oldest first, and the ns of its
latest IMMEDIATE update (R275). -/
structure DacState where
  queue : SMap (List ConsRec) := []
  last : SMap Nat := []
  tick : SMap ConsRec := []
  deriving DecidableEq, Repr

/-! ### Clocks (CLK) -/

/-- CLK beside its registers: the I3 frequency in force and the one a switch in progress leads to, coded as in
CLK_POOL_SEL (R38, R39). -/
structure ClkState where
  pool : Nat := 2
  target : Nat := 2
  deriving DecidableEq, Repr

/-! ### Start-up: BOOT, KEC, XSPI, BIV -/

/-- BOOT beside its registers: the flash on the xSPI port and the OTP, by byte; the Rope-team pairs' TCM, as the image loaded
it; the running manifest; the slots whose latest VERIFY returned OK and that nothing has touched since (R491); DBG_OPEN
(R472); whether the part is held in reset, and the cause the next cold start records (R467, R539); when the application
watchdog was last kicked (R489); the slot a warm restart loads, and whether for a COMMIT (R486); when an ATTEST began to
sign, NS and ERA (R493); and whether CE START waits for a t0 (R482). -/
structure BootState where
  flash : List Host.Cell := []
  otp : List Host.Cell := []
  tcm : List Host.Cell := []
  man : List Byte := []
  okSlots : List Nat := []
  opened : Bool := false
  inReset : Bool := false
  cause : Nat := 1
  wdogAt : Nat := 0
  warm : Option (Nat × Bool) := none
  attAt : Word × Word := (0, 0)
  ceStart : Bool := false
  deriving DecidableEq, Repr

/-- KEC beside its registers: SHA3-256 instead of SHAKE256, the bytes absorbed into the open hash, how many of Base camp's
tasks use the engine, and the state they found it in (R498). -/
structure KecState where
  sha3 : Bool := false
  msg : List Byte := []
  users : Nat := 0
  saved : Option Nat := none
  deriving DecidableEq, Repr

/-- A flash operation: command code, flash address, memory address, bytes, and the ns it began (R500). -/
structure XspiOp where
  code : Nat
  faddr : Nat
  maddr : Nat
  len : Nat
  since : Nat
  deriving DecidableEq, Repr

/-- XSPI beside its registers: the operation in progress or suspended, how many of Base camp's tasks use the flash, the state
they found XSPI in, and whether the device suspends a program (bit 0) and an erase (bit 1) (R470, R500). -/
structure XspiState where
  op : Option XspiOp := none
  users : Nat := 0
  saved : Option Nat := none
  susp : BitVec 2 := 0
  deriving DecidableEq, Repr

/-- BIV beside its registers: the load that awaits an edge (SEC, FRAC), the copies of PCC and OPS in the supervisor store
(R538), the ns at which the present operating second began (R539), and whether VBATLOW has been recorded since cold
start (R537). -/
structure BivState where
  load : Option (Nat × Nat) := none
  pcc : Word := 0
  ops : Word := 0
  opsAt : Nat := 0
  lowRec : Bool := false
  deriving DecidableEq, Repr

/-- The state of the part. -/
structure State where
  /-- The commands that wait, first in first out. -/
  pending : List Instr
  /-- Every register, by OFS; a register not listed reads its reset value. -/
  regs : SMap Word
  /-- Registers held per master port (R95, R177, R428, R442, R444, R553), by port × 2^22 + OFS. -/
  portRegs : SMap Word
  /-- The words latched for a port by a read of the register that latches them (R42), by port × 2^22 + OFS. -/
  held : SMap Word
  /-- What each port's latest access answered. -/
  answers : SMap Answer
  /-- Memory: every byte of the internal address space that is not a register (R15). -/
  mem : List Host.Cell
  /-- The commands in progress, by the OFS of the _CMD register. -/
  busy : SMap Busy
  /-- The image shadow's word of each configuration register whose stored bits have been upset; of every other one the
  shadow holds the register's own word (R54, R55). -/
  shadow : SMap Word
  /-- The islands whose channels are fenced (R13). -/
  fenced : BitVec 14
  /-- A live reserved bit has been changed: behaviour is not specified until the next cold start (R53). -/
  unspecified : Bool
  sig : SigState
  que : QueState
  wsch : WschState
  memc : MemcState
  srec : SrecState
  flt : FltState
  hut : HutState
  tb : TbState
  pcie : PcieState
  eth : SMap EthMac
  can : CanState
  dac : DacState
  clk : ClkState
  cyc : CycState
  ocu : SMap OcuState
  ce : CeState
  ctab : Option CtabJob
  /-- Requests for a stop of a profile generator, taken at its next t0 (R135, R170, R171, R312): generator; 0 STOP,
  1 quick stop, 2 SAT2, 3 interlock; and the ns of the request. -/
  stopReq : List (Nat × Nat × Nat)
  prof : ProfState
  axc : SMap AxcChan
  step : StepState
  enc : SMap EncPort
  seq : SeqState
  ilk : IlkState
  adc : AdcState
  sdm : SMap SdmChan
  fio : FioState
  safe : SafeSt
  boot : BootState
  kec : KecState
  xspi : XspiState
  biv : BivState
  deriving DecidableEq, Repr

/-- The reset value of the register at OFS; a place where no register stands reads 0 (R41). [DESIGN CHOICE: log 6; DESIGN CHOICE: log 7; DESIGN CHOICE: log 8; DESIGN CHOICE: log 9] -/
def resetWord (a : Nat) : Word :=
  if a = Reg.SYS_UID_LO then Config.uidLo
  else if a = Reg.SYS_UID_HI then Config.uidHi
  else if a = Reg.PCIE_ID then 0x7128#16 ++ Config.pcieVendor
  else
    match regDesc a with
    | some d => d.reset + d.rstep * wordOfNat ((a % 0x10000 - d.first) / d.s1)
    | none => 0

/-- The part right after reset: every register at its reset value, every queue empty, memory with nothing listed. [DESIGN CHOICE: log 145] -/
def State.reset : State :=
  { pending := [], regs := [], portRegs := [], held := [], answers := [], mem := [], busy := [], shadow := [],
    fenced := 0, unspecified := false, sig := {}, que := {}, wsch := {}, memc := {}, srec := {}, flt := {}, hut := {},
    tb := {}, pcie := {}, eth := [], can := {}, dac := {}, clk := {}, cyc := {}, ocu := [],
    ce := {}, ctab := none, stopReq := [], prof := {}, axc := [], step := {}, enc := [], seq := {}, ilk := {}, adc := {}, sdm := [], fio := {},
    safe := {}, boot := {}, kec := {}, xspi := {}, biv := {} }

end Sys2Proof.Machine
end

