-- ==== Sys2Proof/Machine/Ops.lean ====
section
/-!
DEFINITION. The named operations every family shares: registers, memory, time, commands (R60–R68), events and work
items (R428, R429), interrupt vectors (R509), hut-book requests (R551), buckets and retirement (R515–R519) and fault
events (R528).
-/
namespace Sys2Proof.Machine

/-! ### Registers -/

/-- The word of the register at OFS. -/
def State.reg (s : State) (a : Nat) : Word := smGet resetWord s.regs a

/-- The state with the register at OFS holding w. -/
def State.setReg (s : State) (a : Nat) (w : Word) : State := { s with regs := smSet resetWord s.regs a w }

/-- The state with several registers written, in order. -/
def State.setRegs (s : State) (l : List (Nat × Word)) : State := l.foldl (fun s p => s.setReg p.1 p.2) s

/-- Set bits of a register. -/
def State.orReg (s : State) (a : Nat) (m : Word) : State := s.setReg a (s.reg a ||| m)

/-- Increment a counter that saturates at `top`. -/
def State.incTo (s : State) (top : Nat) (a : Nat) : State :=
  if (s.reg a).toNat < top then s.setReg a (s.reg a + 1) else s

/-- Increment a counter that saturates at 0xFFFF_FFFF. -/
def State.inc (s : State) (a : Nat) : State := s.incTo 0xFFFFFFFF a

/-- Add to a counter that saturates at 0xFFFF_FFFF. -/
def State.addSat (s : State) (a n : Nat) : State := s.setReg a (wordOfNat (min ((s.reg a).toNat + n) 0xFFFFFFFF))

/-- The word a port holds of a per-port register. -/
def State.preg (s : State) (port a : Nat) : Word := smGet (fun k => resetWord (k % 0x400000)) s.portRegs (portKey port a)

/-- Write a per-port register. -/
def State.setPreg (s : State) (port a : Nat) (w : Word) : State :=
  { s with portRegs := smSet (fun k => resetWord (k % 0x400000)) s.portRegs (portKey port a) w }

/-- Latch a word for a port (R42). [DEDUCED: log 19] -/
def State.latch (s : State) (port a : Nat) (w : Word) : State := { s with held := smPut s.held (portKey port a) w }

/-- What a port reads of a latched register: the held word once it has read the latching register, else the live
one (R42). [DEDUCED: log 19] -/
def State.latchedOr (s : State) (port a : Nat) : Word := (smFind s.held (portKey port a)).getD (s.reg a)

/-- Record what an access answered to its port. -/
def State.answer (s : State) (port : Nat) (data : Word) (err : Bool) : State :=
  { s with answers := smPut s.answers port ⟨data, err⟩ }

/-! ### Memory -/

/-- What a byte that nothing has written reads as. [DESIGN CHOICE: log 10] -/
def memDefault (_ : Nat) : Byte := 0

/-- One byte of memory. [DESIGN CHOICE: log 10] -/
def State.byte (s : State) (a : Nat) : Byte := smGet memDefault s.mem a

/-- Write one byte of memory. -/
def State.setByte (s : State) (a : Nat) (b : Byte) : State := { s with mem := smSet memDefault s.mem a b }

/-- The canonical form of memory: addresses strictly rising, no entry that equals an unlisted byte. -/
def Memory.wf (m : List Host.Cell) : Bool := smCanon memDefault m

/-- A 32-bit word of memory, least significant byte first. -/
def State.word (s : State) (a : Nat) : Word := s.byte (a + 3) ++ s.byte (a + 2) ++ s.byte (a + 1) ++ s.byte a

/-- Write a 32-bit word of memory, least significant byte first. -/
def State.setWord (s : State) (a : Nat) (w : Word) : State :=
  (((s.setByte a (w.extractLsb' 0 8)).setByte (a + 1) (w.extractLsb' 8 8)).setByte (a + 2) (w.extractLsb' 16 8)).setByte
    (a + 3) (w.extractLsb' 24 8)

/-- n words of memory from an address up. -/
def State.words (s : State) (a n : Nat) : List Word := (List.range n).map (fun i => s.word (a + 4 * i))

/-- Write words of memory from an address up. -/
def State.setWords (s : State) : Nat → List Word → State
  | _, [] => s
  | a, w :: ws => (s.setWord a w).setWords (a + 4) ws

/-- n bytes of memory from an address up. -/
def State.bytes (s : State) (a n : Nat) : List Byte := (List.range n).map (fun i => s.byte (a + i))

/-- Write bytes of memory from an address up. -/
def State.setBytes (s : State) : Nat → List Byte → State
  | _, [] => s
  | a, b :: bs => (s.setByte a b).setBytes (a + 1) bs

/-- Usable DRAM in bytes: MEMC_USABLE, in MiB (R16). -/
def State.dramUsable (s : State) : Nat := (s.reg Reg.MEMC_USABLE).toNat * 0x100000

/-- Does every byte of a range lie in memory that answers without an error: shared SRAM, CE local memory, MRAM or usable
DRAM (R15–R17)? -/
def State.inMemory (s : State) (a n : Nat) : Bool :=
  n = 0 || match regionOf s.dramUsable a with
    | .sram | .sramSup => a + n ≤ 0x800000
    | .ceLocal => a + n ≤ 0x10100000
    | .mramHut | .mramSup => a + n ≤ 0x20080000
    | .dram => a + n ≤ 0x100000000 + s.dramUsable
    | _ => false

/-- Does a range lie in the general region of shared SRAM or in usable DRAM? -/
def State.inGeneral (s : State) (a n : Nat) : Bool :=
  a + n ≤ 0x780000 || (0x100000000 ≤ a && a + n ≤ 0x100000000 + s.dramUsable)

/-! ### Time (R85, R377–R380) -/

/-- The full time of the time base, ERA × 2^32 + NS, in ns (R377). -/
def State.tbFull (s : State) : Nat := (s.reg Reg.TB_TIME_HI).toNat * 0x100000000 + (s.reg Reg.TB_TIME_LO).toNat

/-- The elapsed time in ns: the full time, but for settings of the time base, which pass no time. -/
def State.now (s : State) : Nat := ((s.tbFull : Int) + s.tb.ofs).toNat

/-- A word of the supervisor regions that no master has written: their layout is the part's (R15, R55). [DESIGN CHOICE: log 11] -/
def State.supWord (s : State) (a : Nat) : Word :=
  let b (i : Nat) : Byte := match smFind s.mem (a + i) with
    | some x => x
    | none => Config.supByte (a + i) s.now
  b 3 ++ b 2 ++ b 1 ++ b 0

/-- TB_INC as it acts: outside the valid range its reset value (R378, R48). -/
def State.tbInc (s : State) : Nat :=
  let w := (s.reg Reg.TB_INC).toNat
  if 0x027F0000 ≤ w ∧ w ≤ 0x02810000 then w else 0x02800000

/-- TB_SLEW as it acts (R380, R48). -/
def State.tbSlew (s : State) : Nat :=
  let w := (s.reg Reg.TB_SLEW).toNat
  if 0x0100 ≤ w ∧ w ≤ 0xFFFF then w else 0x4000

/-- The fields of a time in ns with a fraction of 2^−24 ns. -/
def State.setTime (s : State) (t24 : Nat) : State :=
  s.setRegs [(Reg.TB_TIME_HI, wordOfNat (t24 / 2 ^ 56)), (Reg.TB_TIME_LO, wordOfNat (t24 / 2 ^ 24)),
    (Reg.TB_FRAC, wordOfNat (t24 % 2 ^ 24 * 2 ^ 8))]

/-- ns since the latest t0, as CYC_PHASE shows it. -/
def State.phase (s : State) : Nat := (s.tbFull + 0x100000000 - (s.reg Reg.CYC_T0_LAST).toNat) % 0x100000000

/-! ### Commands (R60–R68) -/

/-- _CMDSTAT stands one word above _CMD. -/
def statOf (unit : Nat) : Nat := unit + 4

/-- Is a command in progress on this command register? -/
def State.inProgress (s : State) (unit : Nat) : Bool := (smFind s.busy unit).isSome

/-- The command in progress on this command register has this code. -/
def State.busyWith (s : State) (unit code : Nat) : Bool :=
  match smFind s.busy unit with
  | some b => b.code = code
  | none => false

/-! ### Interrupt vectors (R509) -/

/-- A word of the MSI-X table after a reset of the endpoint: bit 0 of a vector's word 3 masks it. -/
def msixDefault (k : Nat) : Word := if k % 4 = 3 then 1 else 0

/-- Raise MSI-X vector v: masked, it becomes pending; else its message is sent (R509). [PRESUMED: log 23] -/
def State.msixRaise (s : State) (v : Nat) : State :=
  let masked := bitOf (smGet msixDefault s.pcie.msix (4 * v + 3)) 0
  if masked then { s with pcie := { s.pcie with pba := s.pcie.pba ||| BitVec.ofNat 64 (2 ^ v) } }
  else { s with pcie := { s.pcie with sent := smSet (fun _ => 0) s.pcie.sent v (smGet (fun _ => 0) s.pcie.sent v + 1) } }

/-- The hardware vector of a block's EVT register, and the bits that raise it (R509). -/
def hwVector (evt : Nat) : Option (Nat × Word) :=
  if evt = Reg.FLT_EVT then some (8, 0xF)
  else if evt = Reg.BOOT_EVT then some (9, 0x1F)
  else if evt = Reg.SREC_EVT then some (10, 0x34)
  else if evt = Reg.SAFE_EVT then some (11, 0x7)
  else if evt = Reg.SEQ_EVT then some (12, 0x6)
  else if evt = Reg.ILK_EVT then some (13, 0x1)
  else if evt = Reg.OCU_EVT 0 then some (14, 0x4018)
  else if evt = Reg.PCIE_EVT then some (15, 0x130)
  else none

/-- The effect of EVT bits changing from 0 to 1 on the hardware vectors, where PCIE_HEV_EN enables them (R509). -/
def State.hwEvent (s : State) (evt : Nat) (risen : Word) : State :=
  match hwVector evt with
  | some (v, m) => if !(risen &&& m == 0) && bitOf (s.reg Reg.PCIE_HEV_EN) v then s.msixRaise v else s
  | none => s

/-! ### Work items and queues (R426–R429) -/

/-- What a queue reads where nothing is listed: empty. -/
def queDefault (_ : Nat) : QueRec := {}

/-- The record of a queue. -/
def State.queue (s : State) (q : Nat) : QueRec := smGet queDefault s.que.queues q

/-- Items a queue holds. -/
def QueRec.held (r : QueRec) : Nat := r.head.length + (r.wr - r.rd)

/-- The active SIZE of a queue (R427). -/
def State.queSize (s : State) (q : Nat) : Nat := fld (s.reg (Reg.QUE_Q_BASE_HI q)) 20 16

/-- CAP of a queue (R427). -/
def State.queCap (s : State) (q : Nat) : Nat := if s.queSize q = 0 then 16 else 2 ^ s.queSize q

/-- The slot at which body position i of a queue lies (R427). -/
def State.queSlot (s : State) (q i : Nat) : Nat :=
  fld (s.reg (Reg.QUE_Q_BASE_HI q)) 7 0 * 0x100000000 + (s.reg (Reg.QUE_Q_BASE_LO q)).toNat + 64 * (i % 2 ^ s.queSize q)

/-- A queue waits to be resized: a RESIZE of it is in progress (R441). -/
def State.queResizing (s : State) (q : Nat) : Bool :=
  match smFind s.busy Reg.QUE_CMD with
  | some b => b.code = 2 && b.arg % 128 = q
  | none => false

/-- Has a queue room for one more (R428)? -/
def State.queRoom (s : State) (q : Nat) : Bool := (s.queue q).held < s.queCap q && !s.queResizing q

/-- Store a queue's record, and with it QUE_Qn_LVL and its bit of QUE_FULL_MAP. -/
def State.setQueue (s : State) (q : Nat) (r : QueRec) : State :=
  let s := { s with que := { s.que with queues := smSet queDefault s.que.queues q r } }
  let s := s.setReg (Reg.QUE_Q_LVL q) (wordOfNat (r.head.length * 0x1000000 + r.held))
  s.setReg (Reg.QUE_FULL_MAP (q / 32)) (setBit (s.reg (Reg.QUE_FULL_MAP (q / 32))) (q % 32) (r.held ≥ s.queCap q))

/-- Put an item into a queue that has room: into the head where the body is empty and the head has room, else into the
body's next slot in memory (R427). -/
def State.quePut (s : State) (q : Nat) (item : List Word) : State :=
  let r := s.queue q
  let s := s.inc (Reg.QUE_Q_ENQ_CNT q)
  if r.wr = r.rd ∧ r.head.length < 16 then s.setQueue q { r with head := r.head ++ [(item, s.now)] }
  else (s.setWords (s.queSlot q r.wr) item).setQueue q { r with wr := r.wr + 1 }

/-- Room in a queue lets the oldest stalled commit in, whose port then reads OK; else a block's waiting event item (R428,
R429). -/
def State.queServe (s : State) (q : Nat) : State :=
  if !s.queRoom q then s
  else match s.que.stalls.find? (fun x => x.queue == q) with
    | some x =>
      let s := { s with que := { s.que with stalls := s.que.stalls.erase x } }
      let item := x.item.set 2 (s.reg Reg.TB_TIME_LO)
      (s.quePut q item).setPreg x.port Reg.QUE_ENQ_RES (wordOfNat (q * 0x100 + 1))
    | none =>
      match s.que.evWait.find? (fun x => x.2.1 == q) with
      | some x =>
        ({ s with que := { s.que with evWait := s.que.evWait.erase x } }).quePut q (x.2.2.set 2 (s.reg Reg.TB_TIME_LO))
      | none => s

/-- Take the oldest item of a queue's head: the next one becomes the candidate, and the queue gains room (R427, R428). -/
def State.quePop (s : State) (q : Nat) : Option (List Word) × State :=
  let r := s.queue q
  match r.head with
  | [] => (none, s)
  | (x, _) :: h =>
    let h := match h with
      | (y, _) :: l => (y, s.now) :: l
      | [] => []
    (some x, ((s.inc (Reg.QUE_Q_DEQ_CNT q)).setQueue q { r with head := h }).queServe q)

/-- Empty a queue, its items counted as taken (R441). -/
def State.queClear (s : State) (q : Nat) : State :=
  let r := s.queue q
  (s.addSat (Reg.QUE_Q_DEQ_CNT q) r.held).setQueue q { r with head := [], rd := r.wr }

/-- A work item with the words QUE writes at commit (R426). -/
def mkItem (kind blk cls core stamp : Nat) (ws : List Word) : List Word :=
  [setFld (ws.getD 0 0) 31 30 kind, wordOfNat (blk * 0x1000000 + cls * 0x400000 + core * 0x20000), wordOfNat stamp]
    ++ (List.range 13).map (fun i => ws.getD (i + 3) 0)

/-- The event queue of a block index (R444). [DEDUCED: log 53] -/
def State.evQueue (s : State) (blk : Nat) : Nat := fld (s.reg (Reg.QUE_EVQ (blk / 4))) (8 * (blk % 4) + 6) (8 * (blk % 4))

/-- SYS_STATE reads WARM. -/
def State.warm (s : State) : Bool := s.reg Reg.SYS_STATE == 3

/-- Enqueue a block's item of this kind (1 event, 2 resynchronisation), carrying its EVT register in W3: one waits per
block, and none is enqueued while the chip is WARM (R32, R429). [DEDUCED: log 38] -/
def State.blockItem (s : State) (blk kind evt : Nat) : State :=
  if s.warm then { s with que := { s.que with resync := if s.que.resync.contains blk then s.que.resync else s.que.resync ++ [blk] } }
  else if s.que.evWait.any (fun p => p.1 == blk) then s
  else
    let q := s.evQueue blk
    let item := mkItem kind blk 0 31 (s.reg Reg.TB_TIME_LO).toNat [0, 0, 0, s.reg evt]
    if !bitOf (s.reg (Reg.QUE_Q_CFG q)) 31 then s
    else if s.queRoom q then s.quePut q item
    else { s with que := { s.que with evWait := s.que.evWait ++ [(blk, q, item)] } }

/-- Set EVT bits of a block: the bits, the hardware vector they raise, and the event item where EVT_EN enables one
(R46, R429, R509). -/
def State.raiseEvt (s : State) (blk evt : Nat) (en : Option Nat) (mask : Word) : State :=
  let old := s.reg evt
  let s := (s.setReg evt (old ||| mask)).hwEvent evt (mask &&& ~~~old)
  match en with
  | some e => if s.reg e &&& mask == 0 then s else s.blockItem blk 1 evt
  | none => s

/-! ### Hut-book requests (R551) -/

/-- A block asks for a record: it waits behind the 8-entry queue; waiting records are given up by `hutPrune`. [DEDUCED: log 140] -/
def State.hutRequest (s : State) (typ blk : Nat) (payload : List Word) : State :=
  { s with hut := { s.hut with queue := s.hut.queue ++ [⟨typ, payload, blk, s.now⟩] } }

/-- Records beyond the 8 the queue holds are given up after 1 ms, and ILK's at the end of its FC; each counts in
HUT_DROP_CNT (R551), and in ILK_HUT_DROP where it was ILK's (R250). -/
def State.hutPrune (s : State) (endOfFc : Bool) : State :=
  let late (r : HutReq) : Bool := (endOfFc && r.blk == 0x1D) || s.now ≥ r.since + 1000000
  let wait := s.hut.queue.drop 8
  let lost := wait.filter late
  let ilk := (lost.filter (fun r => r.blk == 0x1D)).length
  let s := { s with hut := { s.hut with queue := s.hut.queue.take 8 ++ wait.filter (fun r => !late r) } }
  if lost.isEmpty then s
  else
    let s := s.addSat Reg.HUT_DROP_CNT lost.length
    if ilk = 0 then s
    else (s.addSat Reg.ILK_HUT_DROP ilk).raiseEvt 0x1D Reg.ILK_EVT (some Reg.ILK_EVT_EN) 4

/-! ### Fault events (R528), buckets and retirement (R515–R519) -/

/-- A fault event of severity 0 INFO, 1 DEGRADED, 2 LOSS or 3 FATAL (R528, R529). -/
def State.faultEvent (s : State) (sev blk cls inst : Nat) (detail : Word) : State :=
  let s := s.inc Reg.FLT_FAULT_CNT
  let d0 := wordOfNat (0x80000000 + b2n s.flt.lostNext * 0x40000000 + sev * 0x10000000 + blk * 0x10000 + cls * 0x1000 + inst % 0x1000)
  let e : List Word := [d0, detail, s.reg Reg.TB_TIME_LO, s.reg Reg.CYC_COUNT]
  let s :=
    if s.flt.log.length < 64 then
      ({ s with flt := { s.flt with log := s.flt.log ++ [e], lostNext := false } }).setReg Reg.FLT_LOG_LVL
        (wordOfNat (s.flt.log.length + 1))
    else ({ s with flt := { s.flt with lostNext := true } }).inc Reg.FLT_LOG_LOST
  let s := s.raiseEvt 4 Reg.FLT_EVT (some Reg.FLT_EVT_EN) (bitMask sev)
  if sev = 0 && !bitOf (s.reg Reg.FLT_CFG) 1 then s else s.hutRequest 5 4 e

/-- The key of a resource instance: class × 2^24 + instance. -/
def resKey (cls inst : Nat) : Nat := cls * 0x1000000 + inst

/-- An entry of the retirement list, as FLT_RET_ENT shows it (R534). -/
def retWord (cls inst : Nat) : Word := wordOfNat (0x80000000 + cls * 0x1000000 + inst)

/-- Is an instance retired (R519)? -/
def State.isRetired (s : State) (cls inst : Nat) : Bool :=
  s.flt.retList.any (fun p => p.2 == retWord cls inst) || s.flt.retExtra.contains (resKey cls inst)

/-- N and T of a resource class; T < N is reserved, and both then act as their defaults (R517, R48). -/
def State.bucketCfg (s : State) (cls : Nat) : Nat × Nat :=
  let w := s.reg (Reg.FLT_BKT_CFG cls)
  let w := if fld w 7 0 = 0 ∨ fld w 31 8 < fld w 7 0 then resetWord (Reg.FLT_BKT_CFG cls) else w
  (fld w 7 0, fld w 31 8)

/-- Put an instance on the retirement list, or beside it where all 256 entries are in use (R519). [DEDUCED: log 134] -/
def State.retire (s : State) (cls inst : Nat) : State :=
  match (List.range 256).find? (fun i => (smFind s.flt.retList i).isNone) with
  | some i => { s with flt := { s.flt with retList := smPut s.flt.retList i (retWord cls inst) } }
  | none => ({ s with flt := { s.flt with retExtra := s.flt.retExtra ++ [resKey cls inst] } }).raiseEvt 4 Reg.FLT_EVT
      (some Reg.FLT_EVT_EN) 0x80

/-- Level of a bucket. -/
def State.bucket (s : State) (cls inst : Nat) : Nat := smGet (fun _ => 0) s.flt.buckets (resKey cls inst)

/-- Store a bucket level, in the supervisor store too (R516). Rows (classes 6 and 0xA) have at most 256 buckets a class; a
new row displaces the row with the lowest level (R517). [DEDUCED: log 135] -/
def State.setBucket (s : State) (cls inst lvl : Nat) : State :=
  let b := s.flt.buckets
  let mine := b.filter (fun p => p.1 / 0x1000000 == cls)
  let low := mine.foldl (fun (acc : Option (Nat × Nat)) p =>
    match acc with
    | none => some p
    | some q => if p.2 < q.2 then some p else some q) none
  let out (m : SMap Nat) : SMap Nat :=
    if (cls = 6 ∨ cls = 10) ∧ lvl ≠ 0 ∧ (smFind b (resKey cls inst)).isNone ∧ mine.length ≥ 256 then
      match low with
      | some q => smDel m q.1
      | none => m
    else m
  { s with flt := { s.flt with buckets := smSet (fun _ => 0) (out b) (resKey cls inst) lvl,
                               stored := smSet (fun _ => 0) (out s.flt.stored) (resKey cls inst) lvl } }

/-- A finding of weight w on an instance (R515, R516): on a retired instance an INFO event and nothing else; else the
level rises; below N the finding is transient, an INFO event; at N the bucket overflows, its level returns to 0 and the
instance is listed as retired. The Bool reports the overflow; what retirement means for the class is the caller's, the
DEGRADED or LOSS event included. -/
def State.finding (s : State) (cls inst w blk : Nat) (detail : Word) : State × Bool :=
  if s.isRetired cls inst then (s.faultEvent 0 blk cls inst detail, false)
  else
    let lvl := s.bucket cls inst + w
    if lvl ≥ (s.bucketCfg cls).1 then ((s.setBucket cls inst 0).retire cls inst, true)
    else ((s.setBucket cls inst lvl).faultEvent 0 blk cls inst detail, false)

/-! ### Denied and failing accesses (R13, R17, R59) -/

/-- Record a denied write: counted, named in FLT_DENY_LAST, FLT_EVT.DENY set; the first since DENY was cleared writes a
hut-book record (R59, R530). -/
def State.noteDenied (s : State) (cls blk off : Nat) : State :=
  let w := wordOfNat (cls * 0x40000000 + blk % 64 * 0x10000 + off % 0x4000)
  let first := !bitOf (s.reg Reg.FLT_EVT) 4
  let s := ((s.inc Reg.FLT_DENY_CNT).setReg Reg.FLT_DENY_LAST w).raiseEvt 4 Reg.FLT_EVT (some Reg.FLT_EVT_EN) 0x10
  if first then s.hutRequest 6 4 [w] else s

/-- A decode error (R17): counted, with address bits [39:10] and the master class. -/
def State.decodeError (s : State) (cls a : Nat) : State :=
  (s.inc Reg.SYS_DECERR_CNT).setReg Reg.SYS_DECERR_ADDR (wordOfNat (cls * 0x40000000 + a / 1024 % 0x40000000))

/-- Is the window of a block clock-gated by the role (R17, R22)? -/
def State.gated (s : State) (blk : Nat) : Bool :=
  bitOf (s.reg Reg.CLK_ISL_GATE) (blockIsland blk)

/-- Are the channels into a block's island fenced (R13)? -/
def State.isFenced (s : State) (blk : Nat) : Bool := s.fenced.getLsbD (blockIsland blk)

/-- May a master use a register of a block with this access suffix (R57)? In RECOVERY and APPFAIL external masters have /P
access to BOOT and XSPI (R485, R488). [DEDUCED: log 123] -/
def State.granted (s : State) (m : Sys2Proof.Master) (a : Nat) (p : Priv) : Bool :=
  accGranted (mclass m) p || (p == .priv && mclass m == .external && (a / 0x10000 == 2 || a / 0x10000 == 0x3D)
    && (s.reg Reg.BOOT_STATE == 6 || s.reg Reg.BOOT_STATE == 7))

/-- An access of a master to a block: a gated island's window is a decode error (R17), a fenced one's an error response
(R13); else the access goes on. -/
def State.access (s : State) (m : Sys2Proof.Master) (a : Nat) (go : State → State) : State :=
  if s.gated (a / 0x10000) then (s.decodeError (mclassCode (mclass m)) (0x40000000 + a)).answer (mport m) 0 true
  else if s.isFenced (a / 0x10000) then s.answer (mport m) 0 true
  else go s

/-- A write to a /P register that its class does not grant is denied (R59). -/
def State.writeGranted (s : State) (m : Sys2Proof.Master) (a : Nat) (p : Priv) (go : State → State) : State :=
  s.access m a fun s =>
    if s.granted m a p then go s else s.noteDenied (mclassCode (mclass m)) (a / 0x10000) (a % 0x10000)

/-! ### Commands (R60–R68) -/

/-- What a block decides about a write to a command register (R62). -/
inductive Verdict where
  | rejPriv
  | rejCode
  | rejState
  | accept
  deriving DecidableEq, Repr

/-- One command as its chapter gives it: the command register, its access suffix, the code, whether ARG is valid
(check 2), whether the command has a BUSY phase (check 4), whether the state permits it (check 5), and whether what its
operand registers hold lets it be accepted (a REJ_CODE of the chapter). -/
structure Cmd where
  unit : Nat
  acc : Priv
  code : Nat
  argOk : Bool
  busy : Bool
  permitted : Bool
  contentOk : Bool

/-- The decision procedure of R62. [DEDUCED: log 27] -/
def State.decideCommand (s : State) (m : Sys2Proof.Master) (a : Sys2Proof.CmdArg) (c : Cmd) : Verdict :=
  if !s.granted m c.unit c.acc then .rejPriv
  else if !(a.rsv == 0) || !c.argOk then .rejCode
  else if s.inProgress c.unit && c.busy then .rejState
  else if !c.permitted then .rejState
  else if !c.contentOk then .rejCode
  else .accept

/-- A rejected command: _CMDSTAT alone changes (R63), and FLT records a denied write (R59). -/
def State.rejectCmd (s : State) (m : Sys2Proof.Master) (unit code status : Nat) : State :=
  let t := s.setReg (statOf unit) (cmdstatReject (s.reg (statOf unit)) code status)
  if status = stRejPriv then t.noteDenied (mclassCode (mclass m)) (unit / 0x10000) (unit % 0x10000) else t

/-- Accept a command with a BUSY phase. -/
def State.acceptBusy (s : State) (m : Sys2Proof.Master) (a : Sys2Proof.CmdArg) (unit code : Nat) : State :=
  ({ s with busy := smPut s.busy unit ⟨code, a.arg.toNat, mport m, mclassCode (mclass m), s.now⟩ }).setReg (statOf unit)
    (cmdstatBusy (s.reg (statOf unit)) code)

/-- Accept a command that completes at acceptance (R64). -/
def State.acceptNow (s : State) (unit code : Nat) : State :=
  s.setReg (statOf unit) (cmdstatAtOnce (s.reg (statOf unit)) code)

/-- A write of a command to a command register: decided by R62, then rejected, or accepted with its effect. -/
def State.command (s : State) (m : Sys2Proof.Master) (a : Sys2Proof.CmdArg) (c : Cmd) (eff : State → State) : State :=
  s.access m c.unit fun s =>
    match s.decideCommand m a c with
    | .rejPriv => s.rejectCmd m c.unit c.code stRejPriv
    | .rejCode => s.rejectCmd m c.unit c.code stRejCode
    | .rejState => s.rejectCmd m c.unit c.code stRejState
    | .accept => eff (if c.busy then s.acceptBusy m a c.unit c.code else s.acceptNow c.unit c.code)

/-- End the command in progress as completed: DONE with its code (R61). -/
def State.complete (s : State) (unit : Nat) : State :=
  match smFind s.busy unit with
  | some b => ({ s with busy := smDel s.busy unit }).setReg (statOf unit) (cmdstatDone (s.reg (statOf unit)) b.code)
  | none => s

/-- End the command in progress with REJ_CODE. [DEDUCED: log 113] -/
def State.completeFailed (s : State) (unit : Nat) : State :=
  match smFind s.busy unit with
  | some b => ({ s with busy := smDel s.busy unit }).setReg (statOf unit) (cmdstatFailed (s.reg (statOf unit)) b.code)
  | none => s

/-- End a channel's command in progress as a block-level ABORT does (R66). [DEDUCED: log 30] -/
def State.abortChannel (s : State) (unit : Nat) : State :=
  match smFind s.busy unit with
  | some _ => ({ s with busy := smDel s.busy unit }).setReg (statOf unit) (cmdstatAborted (s.reg (statOf unit)))
  | none => s

/-- A write of ABORT (R67): checks 1 and 2 alone; accepted in every state, it ends the command in progress and has the
block's effect (R68), given the command it ended. -/
def State.abort (s : State) (m : Sys2Proof.Master) (a : Sys2Proof.CmdArg) (unit : Nat) (acc : Priv)
    (eff : Option Busy → State → State) : State :=
  s.access m unit fun s =>
    if !s.granted m unit acc then s.rejectCmd m unit 0x0F stRejPriv
    else if !(a.rsv == 0) || !(a.arg == 0) then s.rejectCmd m unit 0x0F stRejCode
    else
      let b := smFind s.busy unit
      eff b (({ s with busy := smDel s.busy unit }).setReg (statOf unit) (cmdstatAbort (s.reg (statOf unit))))

/-- A command that zeroes a block's counters (R64): the counter registers return to 0. -/
def State.zeroRegs (s : State) (l : List Nat) : State := l.foldl (fun s a => s.setReg a 0) s

/-! ### Hidden structures by index -/

/-- What Ocuant block u (0 OCUB, 1 OCUS) holds beside its registers. -/
def State.ocuOf (s : State) (u : Nat) : OcuState := smGet (fun _ => {}) s.ocu u

/-- Store it. -/
def State.setOcu (s : State) (u : Nat) (o : OcuState) : State := { s with ocu := smSet (fun _ => {}) s.ocu u o }

/-! ### Fenced islands (R13) -/

/-- An event of a block in an island: while the island is fenced its clock is down, and nothing happens there (R13). [DESIGN CHOICE: log 3] -/
def State.alive (s : State) (isl : Nat) (t : State) : State := if s.fenced.getLsbD isl then s else t

/-! ### Outcomes -/

/-- The outcome of a command that leads to state t: once a live reserved bit has been changed, behaviour is not
specified (R53). [DEDUCED: log 15] -/
def State.goesTo (s t : State) : Host.Outcome State Fault Refusal :=
  if s.unspecified then .fault .reservedBitChanged else .next t

end Sys2Proof.Machine
end

