-- ==== Sys2Proof/Machine/SigOps.lean ====
section
/-!
DEFINITION. The shared operations on signals: conversion between encodings (R72, R79), route-table entries and their
validity (R74–R78, R576), delivery to consumers (R78–R83), producer updates and publications, substitution (R82), and
the block-state signals (R531).
-/
namespace Sys2Proof.Machine

/-! ### Encodings (R72, R79) -/

/-- The number a word stands for in an encoding: 0 INT32, 1 Q16.16, 2 BF32 (R72). -/
def encVal (enc : Nat) (w : Word) : FloatVal :=
  match enc with
  | 0 => .fin ⟨w.toInt, 0⟩ false
  | 1 => .fin ⟨w.toInt, -16⟩ false
  | _ => bf32Val w

/-- A finite number narrowed to an encoding, with the saturation reported (R79). -/
def encOf (enc : Nat) (x : Dyadic) (neg : Bool) : Word × Bool :=
  match enc with
  | 0 => let r := satInt 32 x.rne; (wordOfInt r.1, r.2)
  | 1 => let r := satInt 32 (x.scale 16).rne; (wordOfInt r.1, r.2)
  | _ => let r := floatEncode 8 23 true x neg; (wordOfNat r.1, r.2)

/-- x × 2^sc from one encoding to another: the word, whether it saturated, and whether a NaN had no value to give
(R79). -/
def convert (from_ to_ : Nat) (sc : Int) (w : Word) : Word × Bool × Bool :=
  if from_ = to_ ∧ sc = 0 then (w, false, false)
  else
    match encVal from_ w with
    | .fin x neg => let r := encOf to_ (x.scale sc) neg; (r.1, r.2, false)
    | .inf neg => if to_ = 2 then (w, false, false) else (if neg then 0x80000000#32 else 0x7FFFFFFF#32, true, false)
    | .nan => if to_ = 2 then (w, false, false) else (0, false, true)

/-! ### Route-table entries (R74–R77) -/

/-- The field [hi:lo] of an entry. -/
def efld (e : BitVec 128) (hi lo : Nat) : Nat := (e.toNat / 2 ^ lo) % 2 ^ (hi - lo + 1)

/-- EN. -/
def eEN (e : BitVec 128) : Bool := e.getLsbD 127

/-- ENC. -/
def eENC (e : BitVec 128) : Nat := efld e 121 120

/-- PROD. -/
def ePROD (e : BitVec 128) : Nat := efld e 79 64

/-- FORCE. -/
def eFORCE (e : BitVec 128) : Bool := e.getLsbD 99

/-- STALE_LIM. -/
def eLIM (e : BitVec 128) : Nat := efld e 113 102

/-- SUBST. -/
def eSUBST (e : BitVec 128) : Nat := efld e 101 100

/-- SCALE, signed. -/
def eSCALE (e : BitVec 128) : Int := let v := efld e 119 114; if v < 32 then v else (v : Int) - 64

/-- REC, which an invalid RDEC treats as 0 (R76). -/
def eREC (e : BitVec 128) : Bool := e.getLsbD 126 && efld e 125 122 ≤ 10

/-- RDEC. -/
def eRDEC (e : BitVec 128) : Nat := efld e 125 122

/-- The block-state endpoints of R531: k = 0 of every allocated block, and the listed others. -/
def blockStateOk (inst : Nat) : Bool :=
  let b := inst / 32
  let k := inst % 32
  blockAllocated b && (k == 0 || match b with
    | 0x04 | 0x01 | 0x10 | 0x20 => k == 1
    | 0x24 | 0x28 | 0x29 => k == 1 || k == 2
    | 0x25 => 1 ≤ k && k ≤ 8
    | 0x14 | 0x15 | 0x16 | 0x17 => 1 ≤ k && k ≤ 4
    | _ => false)

/-- A valid producer endpoint (R75, R76). -/
def prodOk (ep : Nat) : Bool :=
  let i := ep % 0x1000
  match ep / 0x1000 with
  | 0x0 => i == 0
  | 0x1 => i < 32 || (64 ≤ i && i < 128)
  | 0x2 => i < 48
  | 0x3 => i < 64
  | 0x4 => i < 16
  | 0x6 | 0x7 | 0x8 => true
  | 0x9 => 16 ≤ i % 32
  | 0xA => i % 32 ≤ 7
  | 0xB => i % 256 ≤ 5
  | 0xC => i < 1024
  | 0xD => 128 ≤ i % 256 && i % 256 ≤ 131
  | 0xE => i == 0
  | 0xF => blockStateOk i
  | _ => false

/-- A valid consumer endpoint (R75, R76). -/
def consOk (ep : Nat) : Bool :=
  let i := ep % 0x1000
  match ep / 0x1000 with
  | 0x0 => i == 0
  | 0x4 => 16 ≤ i && i < 32
  | 0x5 => i < 16
  | 0x6 | 0x7 | 0x8 => true
  | 0x9 => i % 32 < 16
  | 0xA => 16 ≤ i % 32 && i % 32 ≤ 18
  | 0xD => i % 256 ≤ 5
  | _ => false

/-- An entry that acts: EN, with PROD, ENC and SUBST valid (R76). -/
def entryOn (e : BitVec 128) : Bool := eEN e && prodOk (ePROD e) && eENC e != 3 && eSUBST e != 3

/-- An entry written with EN = 1 that holds an invalid field (R76). -/
def entryBad (e : BitVec 128) : Bool :=
  eEN e && !(prodOk (ePROD e) && eENC e != 3 && eSUBST e != 3 && eRDEC e ≤ 10
    && [0, 16, 32, 48].all (fun lo => consOk (efld e (lo + 15) lo)))

/-- The consumers an entry names: valid fields that are not None (R76). -/
def entryCons (e : BitVec 128) : List Nat :=
  ([0, 16, 32, 48].map (fun lo => efld e (lo + 15) lo)).filter (fun c => c != 0 && consOk c)

/-- What an entry that is not listed holds. -/
def routeDefault (_ : Nat) : BitVec 128 := 0

/-- What a signal that is not listed holds. -/
def recDefault (_ : Nat) : SigRec := {}

/-- The entry of a signal ID. -/
def State.route (s : State) (id : Nat) : BitVec 128 := smGet routeDefault s.sig.routes id

/-- The dynamic part of a signal. -/
def State.sigRec (s : State) (id : Nat) : SigRec := smGet recDefault s.sig.recs id

/-- Store the dynamic part of a signal. -/
def State.setSigRec (s : State) (id : Nat) (r : SigRec) : State :=
  { s with sig := { s.sig with recs := smSet recDefault s.sig.recs id r } }

/-- Does this route feed the consumer: no lower ID's acting entry names it (R77)? -/
def State.feeds (s : State) (id c : Nat) : Bool :=
  !s.sig.routes.any (fun p => p.1 < id && entryOn p.2 && (entryCons p.2).contains c)

/-! ### Substitution and the present value (R82, R227) -/

/-- The value and status consumers and readers receive of a signal: while STALE, what SUBST gives (R82). [DEDUCED: log 31] -/
def State.present (s : State) (id : Nat) : Word × BitVec 8 :=
  let r := s.sigRec id
  let e := s.route id
  if stHas r.st sSTALE then
    match eSUBST e with
    | 1 => (smGet (fun _ => 0) s.sig.subst id, (r.st ||| sVALID ||| sSUBST))
    | 2 => (0, (r.st ||| sVALID ||| sSUBST))
    | _ => (r.held, r.st &&& ~~~sVALID)
  else (r.held, r.st)

/-! ### Consumers -/

/-- The address of the directory entry of a CE slot in the active directory (R113). -/
def State.ceDirEntry (s : State) (slot : Nat) : Nat :=
  0x10000000 + fld (s.reg Reg.CE_DIR_ACT) 0 0 * 0x2000 + 64 * slot

/-- The native encoding of a consumer; a slot word and a CAN buffer word take the route's own (R146, R195, R115, R274,
R337, R409). -/
def State.nativeEnc (s : State) (c enc : Nat) : Nat :=
  let i := c % 0x1000
  match c / 0x1000 with
  | 0x4 => 0
  | 0x5 => 2
  | 0x9 => if bitOf (s.word (s.ceDirEntry (i / 32) + 16)) (16 + i % 32) then 0 else 2
  | 0xA => 0
  | 0xD => if i % 256 = 4 then 0 else 2
  | _ => enc

/-- The encoding a producer publishes in; `none` for those the route's own encoding carries bit for bit (R79, R112, R146,
R195, R204, R245, R267, R271, R291, R531). -/
def State.prodEnc (s : State) (ep : Nat) : Option Nat :=
  let i := ep % 0x1000
  match ep / 0x1000 with
  | 0x2 => some 2
  | 0x6 | 0x7 | 0x8 | 0xE => none
  | 0x9 => some (if bitOf (s.word (s.ceDirEntry (i / 32) + 16)) (i % 32 - 16) then 0 else 2)
  | 0xA => some (if 2 ≤ i % 32 ∧ i % 32 ≤ 4 then 2 else 0)
  | 0xD => some (if i % 256 = 129 ∨ i % 256 = 130 then 2 else 0)
  | _ => some 0

/-- Give a consumer a value of its route, converted to its native encoding (R79). -/
def State.deliverTo (s : State) (e : BitVec 128) (c : Nat) (x : Word) (st : BitVec 8) : State :=
  let (v, satd, bad) := convert (eENC e) (s.nativeEnc c (eENC e)) (eSCALE e) x
  let st := if satd then st ||| sOVER else st
  let st := if bad then st &&& ~~~sVALID else st
  { s with sig := { s.sig with cons := smPut s.sig.cons c ⟨v, st, true⟩ } }

/-- What a consumer endpoint holds. -/
def State.consumer (s : State) (c : Nat) : ConsRec := smGet (fun _ => {}) s.sig.cons c

/-- What a consumer endpoint latched at the apply latch (R88). -/
def State.latchedCons (s : State) (c : Nat) : ConsRec := smGet (fun _ => {}) s.sig.latched c

/-- Is the record of a consumer a valid value (R88)? -/
def ConsRec.valid (r : ConsRec) : Bool := r.live && stHas r.st sVALID

/-- A consumer that was enabled, started or reconfigured holds no value yet, latched or delivered (R88). [DEDUCED: log 32] -/
def State.renewCons (s : State) (c : Nat) : State :=
  { s with sig := { s.sig with cons := smDel s.sig.cons c, latched := smDel s.sig.latched c } }

/-- Is the endpoint routed: does some acting entry name it as a consumer? -/
def State.consRouted (s : State) (c : Nat) : Bool :=
  s.sig.routes.any (fun p => entryOn p.2 && (entryCons p.2).contains c)

end Sys2Proof.Machine
end

