-- ==== Sys2Proof/Machine/Record.lean ====
section
/-!
DEFINITION. What the signal recorder takes as it happens: producer updates (R454), transitions into STALE (R454), and trace
records (R455). Frames are written in Srec.
-/
namespace Sys2Proof.Machine

/-- Is SREC recording; while STOPPING, it records until the FC in progress ends (R465). -/
def State.recording (s : State) : Bool := s.reg Reg.SREC_STATE == 1 || s.reg Reg.SREC_STATE == 2

/-- Bytes of raw values in the staging buffer. -/
def State.recStaged (s : State) : Nat :=
  let cur := match s.srec.cur with
    | some f => f.samples.length
    | none => 0
  4 * s.srec.frames.foldl (fun n f => n + f.samples.length) cur

/-- A sample joins the FC in progress, or is dropped for want of room (R461): 24,000 samples an FC, 256 KiB of staging, and
none lost up to 62,500 bytes. -/
def State.recTake (s : State) (x : SrecSample) : State :=
  match s.srec.cur with
  | none => s
  | some f =>
    let n := s.recStaged
    if f.samples.length < 24000 ∧ (n + 4 ≤ 62500 ∨ (n + 4 ≤ 262144 ∧ Config.srecFits n)) then
      ({ s with srec := { s.srec with cur := some { f with samples := f.samples ++ [x] } } }).inc Reg.SREC_SAMPLE_CNT
    else ({ s with srec := { s.srec with lost := s.srec.lost + 1 } }).inc Reg.SREC_DROP_CNT

/-- A producer update of a signal recorded at every update (R454). -/
def State.recUpdate (s : State) (id : Nat) (x : Word) (st : BitVec 8) : State :=
  let e := s.route id
  if s.recording && eREC e && eRDEC e == 0 then s.recTake ⟨id, x, eENC e == 2, st⟩ else s

/-- A recorded signal becomes STALE (R454). -/
def State.recStale (s : State) (id : Nat) : State :=
  match s.srec.cur with
  | some f =>
    if s.recording && eREC (s.route id) then
      { s with srec := { s.srec with cur := some { f with stale := f.stale ++ [(id, (s.sigRec id).st)] } } }
    else s
  | none => s

/-- A record that keeps its place in the order of arrival (R456). -/
def State.recExtra (s : State) (l : List Word) : State :=
  match s.srec.cur with
  | some f => { s with srec := { s.srec with cur := some { f with extra := f.extra ++ [l] } } }
  | none => s

/-- A WSCH trace record: dropped, and counted by WSCH, while TRACE = 0 or SREC does not record (R439, R455). -/
def State.recTrace (s : State) (l : List Word) : State :=
  if s.reg Reg.SREC_STATE == 1 && bitOf (s.reg Reg.SREC_CFG) 9 && s.srec.cur.isSome then s.recExtra (0x50000000 :: l)
  else (s.inc Reg.WSCH_TRDROP_CNT).raiseEvt 0x38 Reg.WSCH_EVT (some Reg.WSCH_EVT_EN) 2

end Sys2Proof.Machine
end

