-- ==== Sys2Proof/Machine/Deliver.lean ====
section
/-!
DEFINITION. What a delivery brings about: a CAN transmit request (R410, R411), a DAC IMMEDIATE update waiting (R275);
and the ways a signal takes a value: a producer's publication (R78–R83), the t0 substitution (R82) and block-state
signals (R531).
-/
namespace Sys2Proof.Machine

/-! ### CAN transmit requests (R410, R411) -/

/-- What a CAN buffer that is not listed holds. -/
def canBufDefault (_ : Nat) : CanBuf := {}

/-- The hidden part of buffer b of controller k. -/
def State.canBuf (s : State) (k b : Nat) : CanBuf := smGet canBufDefault s.can.bufs (k * 64 + b)

/-- Store the hidden part of a buffer, and with it its bit of CAN_TXPEND. -/
def State.setCanBuf (s : State) (k b : Nat) (r : CanBuf) : State :=
  let a := Reg.CAN_TXPEND k (b / 32)
  ({ s with can := { s.can with bufs := smSet canBufDefault s.can.bufs (k * 64 + b) r } }).setReg a
    (setBit (s.reg a) (b % 32) r.req.isSome)

/-- Data bytes of a frame of this format (ISO 11898-1): DLC 9–15 mean 12 to 64 in CAN FD, 8 in classical CAN. -/
def canLen (fmt : Word) : Nat :=
  let d := fld fmt 3 0
  if bitOf fmt 10 then 0
  else if d ≤ 8 then d
  else if bitOf fmt 8 then [12, 16, 20, 24, 32, 48, 64].getD (d - 9) 64
  else 8

/-- Is the buffer retired (R416)? -/
def State.canRetired (s : State) (k b : Nat) : Bool := bitOf (s.reg (Reg.CAN_RET k (b / 32))) (b % 32)

/-- The arbitration field a request's frame sends, lowest first (R412): base ID, then a base data frame, a base remote frame
or an extended frame, the extended ID, and RTR. -/
def CanSnap.key (x : CanSnap) : Nat :=
  let rtr := b2n (bitOf x.fmt 10)
  fld x.id 28 18 * 2 ^ 22 + (if bitOf x.id 29 then 3 * 2 ^ 20 + fld x.id 17 0 * 2 + rtr else rtr * 2 ^ 20)

/-- The requests pending at a controller, by buffer. -/
def State.canPending (s : State) (k : Nat) : List (Nat × CanSnap) :=
  (List.range 64).filterMap (fun b => (s.canBuf k b).req.map (fun x => (b, x)))

/-- MODE as read at the latest entry to INTEGRATING (R422). [DEDUCED: log 101] -/
def State.canMode (s : State) (k : Nat) : Nat := fld ((smGet (fun _ => []) s.can.timing k).getD 2 0) 1 0

/-- Where a frame may start, the pending request of highest priority goes on the bus, of two with one arbitration field the
lower buffer's (R412); restricted operation and bus monitoring send none. [DEDUCED: log 101] -/
def State.canOffer (s : State) (k : Nat) : State :=
  let free := s.reg (Reg.CAN_STATE k) == 2 && (smFind s.can.onBus k).isNone && !s.can.wait.contains k
  if free && (s.canMode k == 0 || s.canMode k == 3) then
    match (s.canPending k).foldl (fun (b : Option (Nat × Nat)) p =>
        match b with
        | none => some (p.1, p.2.key)
        | some c => if p.2.key < c.2 then some (p.1, p.2.key) else some c) none with
    | some (b, _) => { s with can := { s.can with onBus := smPut s.can.onBus k b } }
    | none => s
  else s

/-- A transmit request of buffer b of controller k (R410, R411): a snapshot of its words, ID and format, which replaces
that of a request still pending; withheld where a routed word that the DLC covers is not VALID and INVAL is set. -/
def State.canRequest (s : State) (k b : Nat) : State :=
  let cfg := s.reg (Reg.CAN_B_CFG k b)
  if !(bitOf cfg 31 && bitOf cfg 30) || s.canRetired k b then s
  else
    let fmt := s.reg (Reg.CAN_B_FMT k b)
    let nw := (canLen fmt + 3) / 4
    let ep (w : Nat) : Nat := 0x8000 + k * 1024 + b * 16 + w
    let bad := (List.range nw).any (fun w => s.consRouted (ep w) && !stHas (s.consumer (ep w)).st sVALID)
    let st := s.reg (Reg.CAN_B_STAT k b)
    let st := st &&& ~~~0x7E#32
    let r := s.canBuf k b
    if bad && bitOf cfg 26 then
      let s := (s.setReg (Reg.CAN_B_STAT k b) (setBit st 5 true)).setCanBuf k b { r with req := none }
      (s.inc (Reg.CAN_WITHHELD_CNT k)).raiseEvt (0x30 + k) (Reg.CAN_EVT k) (some (Reg.CAN_EVT_EN k)) 0x100
    else
      let snap : CanSnap := ⟨s.reg (Reg.CAN_B_ID k b), fmt, (List.range 16).map (fun w => s.reg (Reg.CAN_B_D k b w))⟩
      let s := if r.req.isSome then s.inc (Reg.CAN_PEROVR_CNT k) else s
      ((s.setReg (Reg.CAN_B_STAT k b) st).setCanBuf k b { r with req := some snap }).canOffer k

/-- A delivery to a CAN transmit word (R410, R411): it overwrites Dw, and with TRIG 2 a delivery to word 0 raises a
request, at most one per FC. -/
def State.canDelivered (s : State) (c : Nat) : State :=
  let i := c % 0x1000
  let k := i / 1024
  let b := i / 16 % 64
  let w := i % 16
  let cfg := s.reg (Reg.CAN_B_CFG k b)
  if !bitOf cfg 30 then s
  else
    let s := s.setReg (Reg.CAN_B_D k b w) (s.consumer c).val
    let r := s.canBuf k b
    if w = 0 ∧ fld cfg 29 28 = 2 ∧ !r.fcReq then (s.setCanBuf k b { r with fcReq := true }).canRequest k b else s

/-! ### DAC IMMEDIATE queue (R275) -/

/-- The MODE of a DAC channel; 3 is reserved and acts as SYNC_FC (R275, R48). -/
def State.dacMode (s : State) (c : Nat) : Nat := let m := fld (s.reg (Reg.DAC_CH_CFG c)) 1 0; if m = 3 then 0 else m

/-- A delivery to a DAC channel in IMMEDIATE mode joins its queue of 4; at a full queue it displaces the oldest. -/
def State.dacDelivered (s : State) (ep : Nat) : State :=
  let c := ep % 16
  if bitOf (s.reg (Reg.DAC_CH_CFG c)) 31 && s.dacMode c = 2 then
    let q := smGet (fun _ => []) s.dac.queue c
    let r := s.consumer ep
    if q.length < 4 then { s with dac := { s.dac with queue := smSet (fun _ => []) s.dac.queue c (q ++ [r]) } }
    else
      let s := { s with dac := { s.dac with queue := smSet (fun _ => []) s.dac.queue c (q.drop 1 ++ [r]) } }
      (s.inc (Reg.DAC_CH_QOVF_CNT c)).raiseEvt 0x22 Reg.DAC_EVT (some Reg.DAC_EVT_EN) 4
  else s

/-- What follows a delivery to a consumer that acts at once. -/
def State.delivered (s : State) (c : Nat) : State :=
  match c / 0x1000 with
  | 0x5 => s.dacDelivered c
  | 0x8 => s.canDelivered c
  | _ => s

/-- Deliver a signal's present value to the consumers its route feeds, an inhibited one excepted (R29, R77, R79). -/
def State.deliver (s : State) (id : Nat) : State :=
  let e := s.route id
  let (x, st) := s.present id
  (entryCons e).foldl (fun s c =>
    if s.feeds id c && !s.sig.inhibit.contains (id, c) then (s.deliverTo e c x st).delivered c else s) s

/-! ### Updates (R30, R78–R83) -/

/-- An update of one signal by its producer: the value in the route's encoding with the status it carries. Under a
source of rank 1–4 it is only kept for the release (R30). [DEDUCED: log 33] -/
def State.sigUpdate (s : State) (id : Nat) (x : Word) (st : BitVec 8) : State :=
  let e := s.route id
  if !entryOn e || eFORCE e then s
  else
    let s := s.recUpdate id x st
    let r := s.sigRec id
    let r := { r with last := some (x, st), age := 0, upd := true }
    if s.sig.ovrOn.contains id then s.setSigRec id r
    else (s.setSigRec id { r with held := x, st := st }).deliver id

/-- The acting entries that a publication updates (R78). -/
def State.pubTargets (s : State) (p : Pub) : List (Nat × BitVec 128) :=
  s.sig.routes.filter (fun q => entryOn q.2 && ePROD q.2 == p.ep && p.only.all (fun i => i == q.1))

/-- One publication reaches every acting entry its endpoint produces (R78), converted to the entry's encoding (R79). -/
def State.takePub (s : State) (p : Pub) : State :=
  (s.pubTargets p).foldl (fun s q =>
    let enc := eENC q.2
    let (x, satd, bad) := convert (p.enc.getD enc) enc 0 p.val
    s.sigUpdate q.1 x (stUpdate (p.valid && !bad) (p.satd || satd))) s

/-- The island a producer endpoint publishes from (R20, R75, R531). -/
def epIsland (ep : Nat) : Nat :=
  match ep / 0x1000 with
  | 1 => 7
  | 2 => 7
  | 3 => 6
  | 4 => 13
  | 6 => 8
  | 7 => 9
  | 8 => 10
  | 9 => 5
  | 0xA => 6
  | 0xB => 5
  | 0xC => 5
  | 0xD => 6
  | 0xF => blockIsland (ep % 0x1000 / 32)
  | _ => 4

/-- The route engine takes up to 24,000 updates of signals per FC; those beyond wait, and none is dropped (R83). A fenced
island delivers none (R13). [DEDUCED: log 5] -/
def State.publish (s : State) (p : Pub) : State :=
  let n := (s.pubTargets p).length
  if n = 0 || s.fenced.getLsbD (epIsland p.ep) || s.fenced.getLsbD 4 then s
  else if s.sig.count + n ≤ 24000 && s.sig.queue.isEmpty then
    ({ s with sig := { s.sig with count := s.sig.count + n } }).takePub p
  else { s with sig := { s.sig with queue := s.sig.queue ++ [p] } }

/-- Publish an integer. -/
def State.pubInt (s : State) (ep : Nat) (v : Int) : State := s.publish ⟨ep, some 0, wordOfInt v, false, true, none⟩

/-- Publish a BF32 word. [DEDUCED: log 39] -/
def State.pubBf (s : State) (ep : Nat) (v : Word) : State := s.publish ⟨ep, some 2, v, false, true, none⟩

/-- The block-state endpoint k of a block (R531). -/
def bsEp (blk k : Nat) : Nat := 0xF000 + blk * 32 + k

/-- Give a block's _STATE register a value, published as its block-state signal (R531). [DEDUCED: log 39] -/
def State.setState (s : State) (blk : Nat) (v : Nat) : State :=
  let a := blk * 0x10000 + 8
  if s.reg a = wordOfNat v then s
  else (s.setReg a (wordOfNat v)).publish ⟨bsEp blk 0, some 0, wordOfNat v, false, true, none⟩

/-- Publish a block-state signal with the word of a register (R531). -/
def State.pubReg (s : State) (blk k a : Nat) : State := s.publish ⟨bsEp blk k, some 0, s.reg a, false, true, none⟩

end Sys2Proof.Machine
end

