-- ==== Sys2Proof/Machine/Tick.lean ====
section
/-!
DEFINITION. The clock: the time base's tick (R377, R380), and how an event that the spec places at an instant of the
fast cycle finds the time base there (R85, R89).
-/
namespace Sys2Proof.Machine

/-- The elapsed time in units of 2^−24 ns. -/
def State.time24 (s : State) : Nat := s.now * 2 ^ 24 + (s.reg Reg.TB_FRAC).toNat / 2 ^ 8

/-- What remains of the correction, shown in TB_REMAIN and TB_STATE (R380). [DEDUCED: log 97] -/
def State.setRemain (s : State) (r : Int) : State :=
  let s := { s with tb := { s.tb with remain := r } }
  let s := s.setReg Reg.TB_REMAIN (wordOfInt (satInt 32 (truncDiv r (2 ^ 20))).1)
  if s.reg Reg.TB_STATE = 3 then s else s.setState 0x2C (if r = 0 then 1 else 2)

/-- Move on to an elapsed time; a carry out of NS is a wrap, which sets TB_EVT.WRAP (R377). -/
def State.moveTime (s : State) (t24 : Nat) : State :=
  let era := s.reg Reg.TB_TIME_HI
  let s := s.setTime ((t24 : Int) - s.tb.ofs * 2 ^ 24).toNat
  if s.reg Reg.TB_TIME_HI = era then s else s.raiseEvt 0x2C Reg.TB_EVT (some Reg.TB_EVT_EN) 1

/-- The slew step of one tick: the sign of what remains times the smaller of TB_SLEW and what remains (R380). -/
def slewStep (slew : Nat) (remain : Int) : Int :=
  if remain = 0 then 0 else if 0 < remain then min slew remain.toNat else -(min slew (-remain).toNat : Nat)

/-- One 400 MHz tick: TB_INC and the slew step are added (R377, R380). [DESIGN CHOICE: log 1] -/
def State.tick (s : State) : State :=
  let d := slewStep s.tbSlew s.tb.remain
  let s := s.moveTime (((s.time24 : Int) + s.tbInc + d).toNat)
  if d = 0 then s else s.setRemain (s.tb.remain - d)

/-- Bring the time base to an instant, if it stands before it: the remaining correction is slewed by the ticks that
pass meanwhile (R380). -/
def State.advanceTo (s : State) (ns : Nat) : State :=
  if s.now < ns then
    let ticks := (ns * 2 ^ 24 - s.time24) / s.tbInc
    let r := s.tb.remain
    let d : Int := if 0 ≤ r then min (ticks * s.tbSlew : Nat) r.toNat else -(min (ticks * s.tbSlew) (-r).toNat : Nat)
    let s := s.moveTime (ns * 2 ^ 24)
    if d = 0 then s else s.setRemain (r - d)
  else s

/-- The full time of the latest t0. -/
def State.t0 (s : State) : Nat := s.now - s.phase

/-- Does CYC keep a fast cycle: MASTER, LOCKED or HOLDOVER (R92)? -/
def State.cycRuns (s : State) : Bool :=
  let st := s.reg Reg.CYC_STATE
  st == 1 || st == 3 || st == 4

/-- May the part pass to an elapsed time, in 2^−24 ns, without passing a t0? [DESIGN CHOICE: log 3; DESIGN CHOICE: log 36] -/
def State.beforeT0 (s : State) (t24 : Nat) : Bool := !s.cycRuns || t24 ≤ s.cyc.next * 2 ^ 24

/-- Has a t0 fallen in the present fast cycle? -/
def State.hasT0 (s : State) : Bool := s.cycRuns && s.cyc.begun

/-- Bring the time base to an offset in ns from the latest t0, if it stands before it. [DESIGN CHOICE: log 36] -/
def State.atOffset (s : State) (ofs : Nat) : State := if s.hasT0 then s.advanceTo (s.t0 + ofs) else s

end Sys2Proof.Machine
end

