-- ==== Sys2Proof/Machine/Enc.lean ====
section
/-!
DEFINITION. The encoder ports (R197–R205, R223–R225): counting, the index latch, SSI frames, SINCOS samples, the jump
check, publication and reconfiguration.
-/
namespace Sys2Proof.Machine

/-- The hidden part of port p. -/
def State.encPort (s : State) (p : Nat) : EncPort := smGet (fun _ => {}) s.enc p

/-- Store it. -/
def State.setEncPort (s : State) (p : Nat) (e : EncPort) : State := { s with enc := smSet (fun _ => {}) s.enc p e }

/-- The active MODE of a port. -/
def State.encMode (s : State) (p : Nat) : Nat := fld (s.reg (Reg.ENC_P_MODE p)) 2 0

/-- An error of a port: ERR bits, the map and the work item (R223). [DEDUCED: log 64] -/
def State.encErr (s : State) (p mask : Nat) : State :=
  ((s.orReg (Reg.ENC_P_ERR p) (wordOfNat mask)).inc (Reg.ENC_P_ERRCNT p)).raiseEvt 0x19 Reg.ENC_ERR_MAP
    (some Reg.ENC_EVT_EN) (bitMask p)

/-- ERR bits (R223). -/
def eQERR : Nat := 0x01
def eJUMP : Nat := 0x02
def eSSIIDLE : Nat := 0x04
def eSSIPAR : Nat := 0x08
def eAMPL : Nat := 0x10
def eSINCOS : Nat := 0x20

/-! ### Publication (R203–R205) -/

/-- In the FC before the change of a CONFIG the port publishes nothing (R205). -/
def State.encSilent (s : State) (p : Nat) : Bool :=
  match smFind s.busy Reg.ENC_CMD with
  | some b => b.code = 1 && b.arg = p && decide (b.acc + 2000 ≤ s.t0 + 31250)
  | none => false

/-- EDGE: ns between the last two accepted count edges (R204). -/
def State.encEdge (s : State) (p : Nat) : Nat :=
  let e := s.encPort p
  match e.edgeAt with
  | some t => if s.now - t < 2 ^ 31 then e.edge else 0x7FFFFFFF
  | none => 0x7FFFFFFF

/-- ELANG of a position, where CPR is not 0 (R204). -/
def State.encElang (s : State) (p : Nat) (pos : Word) : Option Word :=
  let cpr := (s.reg (Reg.ENC_P_CPR p)).toNat
  if cpr = 0 then none
  else some (wordOfNat (((pos.toInt - (s.reg (Reg.ENC_P_EOFS p)).toInt) % cpr).toNat * (s.reg (Reg.ENC_P_EMUL p)).toNat))

/-- The jump check of a position against the one published last (R203). [DEDUCED: log 64] -/
def State.encJump (s : State) (p : Nat) (pos : Word) : Bool :=
  let j := (s.reg (Reg.ENC_P_JMP p)).toNat
  match (s.encPort p).last with
  | some l => j != 0 && decide (j < (pos - l).toInt.natAbs)
  | none => false

/-- A position is published, unless the jump check rejects it: the Bool tells that it was accepted (R203, R204). -/
def State.encPublish (s : State) (p : Nat) (pos : Word) : State × Bool :=
  if s.encJump p pos then (s.encErr p eJUMP, false)
  else
    let s := (s.setReg (Reg.ENC_P_POS p) pos).setEncPort p { s.encPort p with last := some pos, acc := true }
    let ep (q : Nat) : Nat := 0x3000 + p * 4 + q
    let s := s.pubInt (ep 0) pos.toInt
    let s := match s.encElang p pos with
      | some w => s.pubInt (ep 1) w.toInt
      | none => s
    ((s.pubInt (ep 2) (s.reg (Reg.ENC_P_IDX p)).toInt).pubInt (ep 3) (s.encEdge p : Int), true)

/-! ### Counting (R198, R199) -/

/-- The step of the quadrature sequence from one pair of levels to the next, A leading B counting up. [PRESUMED: log 62] -/
def quadStep (a a' b' : Bool) : Int := if a ≠ a' then (if a' = b' then -1 else 1) else if a' = b' then 1 else -1

/-- What accepted levels of A and B do to the count in a mode; `none` where both changed at once in a mode that counts
quadrature (R197, R198). [PRESUMED: log 62] -/
def countStep (mode : Nat) (a b a' b' : Bool) : Option Int :=
  let rise := !a && a'
  match mode with
  | 1 | 5 => if a ≠ a' ∧ b ≠ b' then none else if a = a' ∧ b = b' then some 0 else some (quadStep a a' b')
  | 2 => if a ≠ a' ∧ b ≠ b' then none else if rise then some (if b then -1 else 1) else some 0
  | 3 => if rise then some (if b' then 1 else -1) else some 0
  | _ => some 0

/-- ENCODER_COUNT_EDGE (R198): levels of A and B are accepted. -/
def encoderCountEdge (p : Nat) (a b : Bool) (s : State) : State :=
  let e := s.encPort p
  let mode := s.encMode p
  match countStep mode e.a e.b a b with
  | none =>
    let s := s.setEncPort p { e with a := a, b := b }
    if mode = 5 then s else s.encErr p eQERR
  | some d =>
    if d = 0 then s.setEncPort p { e with a := a, b := b }
    else
      let gap := match e.edgeAt with
        | some t => min (s.now - t) 0x7FFFFFFF
        | none => 0x7FFFFFFF
      s.setEncPort p { e with a := a, b := b, count := e.count + wordOfInt d, edgeAt := some s.now, edge := gap }

def execEncoderCountEdge (p : BitVec 4) (a b : Bool) (s : State) : Host.Outcome State Fault Refusal :=
  s.goesTo (s.alive 6 (encoderCountEdge p.toNat a b s))

/-- INDEX_LATCH (R199): a rising edge of Z; with ZMODE 2 only while A = B = 1. -/
def indexLatch (p : Nat) (s : State) : State :=
  let e := s.encPort p
  let z := fld (s.reg (Reg.ENC_P_MODE1 p)) 25 24
  let mode := s.encMode p
  if (mode = 1 ∨ mode = 2 ∨ mode = 5) ∧ (z = 1 ∨ (z = 2 ∧ e.a ∧ e.b)) then
    (s.setReg (Reg.ENC_P_IDX p) e.count).setReg (Reg.ENC_P_IDXINFO p)
      (resultNew (s.reg (Reg.ENC_P_IDXINFO p)) (s.reg (Reg.ENC_P_IDXINFO p)) 15 8 0)
  else s

def execIndexLatch (p : BitVec 4) (s : State) : Host.Outcome State Fault Refusal := s.goesTo (s.alive 6 (indexLatch p.toNat s))

/-! ### SSI (R200, R201, R205) -/

/-- t_pub − t0 of a mode word, in ns (R200). -/
def ssiTime (w : Word) : Nat :=
  let div := if fld w 18 16 = 0 then 8 else fld w 18 16
  100 + (fld w 13 8 + fld w 20 20 + 2) * div * 100 + fld w 29 22 * 5

/-- Gray code to binary. -/
def unGray (n v : Nat) : Nat := (List.range n).foldl (fun a i => a ^^^ (v >>> i)) 0

/-- Parity of the low n bits: true where an odd number of them is 1. -/
def oddBits (n v : Nat) : Bool := (List.range n).foldl (fun p i => p != v.testBit i) false

/-- The value of a frame as decoded. -/
def ssiValue (w : Word) (data : Nat) : Nat :=
  let n := fld w 13 8
  let v := data % 2 ^ n
  if bitOf w 19 then unGray n v % 2 ^ n else v

/-- The position a frame gives (R201). -/
def State.ssiPos (s : State) (p v : Nat) : Word :=
  let w := s.reg (Reg.ENC_P_MODE p)
  match bitOf w 21, (s.encPort p).ssi with
  | true, some v0 =>
    let n := fld w 13 8
    let d := (v + 2 ^ n - v0) % 2 ^ n
    s.reg (Reg.ENC_P_POS p) + wordOfInt (if d < 2 ^ (n - 1) then (d : Int) else (d : Int) - 2 ^ n)
  | _, _ => wordOfNat v

/-- What a frame that has ended does: it is checked, and published or rejected; an SSI_READ takes its result. -/
def State.ssiEnd (s : State) (p : Nat) (data : Nat) (idleLow par : Bool) : State :=
  let w := s.reg (Reg.ENC_P_MODE p)
  let n := fld w 13 8
  let badPar := bitOf w 20 && (oddBits n data != par)
  let v := ssiValue w data
  let pos := s.ssiPos p v
  let r : State × Nat :=
    if idleLow || badPar then (s.encErr p (b2n idleLow * eSSIIDLE + b2n badPar * eSSIPAR), b2n idleLow * 4 + b2n badPar * 2)
    else if s.encSilent p then (s, 0)
    else
      let q := s.encPublish p pos
      (if q.2 then q.1.setEncPort p { q.1.encPort p with ssi := some v } else q.1, if q.2 then 0 else 1)
  if r.1.busyWith Reg.ENC_CMD 2 && (match smFind s.busy Reg.ENC_CMD with
      | some b => b.arg == p
      | none => false) then
    let info := r.1.reg (Reg.ENC_P_RESINFO p)
    let s := (r.1.setReg (Reg.ENC_P_RES p) (wordOfNat v)).setReg (Reg.ENC_P_RESINFO p)
      (setFld (resultNew info info 15 8 0) 3 1 r.2)
    (s.setState 0x19 1).complete Reg.ENC_CMD
  else r.1

/-- SSI_FRAME_COMPLETE (R201): the frame on the wire ends with these data bits, its first in the highest place; whether
the line was low before the first clock edge, and the parity bit received. -/
def ssiFrameComplete (p : Nat) (data : Nat) (idleLow par : Bool) (s : State) : State :=
  let e := s.encPort p
  let w := s.reg (Reg.ENC_P_MODE p)
  if fld w 2 0 = 4 ∧ e.frame then
    let s := if bitOf w 7 then s.atOffset (ssiTime w) else s
    (s.setEncPort p { e with frame := false }).ssiEnd p data idleLow par
  else s

def execSsiFrameComplete (p : BitVec 4) (data : BitVec 32) (idleLow par : Bool) (s : State) :
    Host.Outcome State Fault Refusal := s.goesTo (s.alive 6 (ssiFrameComplete p.toNat data.toNat idleLow par s))

/-! ### Commands (R205, R225) -/

/-- An analog input stands assigned to another port that runs SINCOS. -/
def State.encAinTaken (s : State) (p x : Nat) : Bool :=
  (List.range 16).any (fun q => q != p && s.encMode q == 5 &&
    (fld (s.reg (Reg.ENC_P_MODE1 q)) 4 0 == x || fld (s.reg (Reg.ENC_P_MODE1 q)) 12 8 == x))

/-- May the pending words of a port become active (R200, R225)? -/
def State.encPendOk (s : State) (p : Nat) : Bool :=
  let w := s.reg (Reg.ENC_P_PEND p)
  let w1 := s.reg (Reg.ENC_P_PEND1 p)
  let mode := fld w 2 0
  let sin := fld w1 4 0
  let cos := fld w1 12 8
  mode ≤ 5 && fld w1 25 24 != 3
    && (mode != 4 || (8 ≤ fld w 13 8 && fld w 13 8 ≤ 32 && ssiTime w ≤ 3500))
    && (mode != 5 || (2 ≤ fld w1 19 16 && fld w1 19 16 ≤ 12 && sin != cos && !s.encAinTaken p sin && !s.encAinTaken p cos))

/-- CONFIG: BUSY until the next t0 at least 2 µs on. -/
def encConfig (m : Sys2Proof.Master) (a : Sys2Proof.CmdArg) (s : State) : State :=
  let p := a.arg.toNat
  s.command m a ⟨Reg.ENC_CMD, .priv, 1, decide (p < 16), true, true, s.encPendOk p⟩ fun s => s.setState 0x19 2

def execEncConfig (m : Sys2Proof.Master) (a : Sys2Proof.CmdArg) (s : State) : Host.Outcome State Fault Refusal :=
  s.goesTo (encConfig m a s)

/-- CONFIG takes effect at a t0: POS restarts at 0 where MODE changes, and an SSI port begins anew. [DEDUCED: log 64] -/
def State.encConfigAtT0 (s : State) : State :=
  match smFind s.busy Reg.ENC_CMD with
  | some b =>
    if b.code = 1 ∧ b.acc + 2000 ≤ s.t0 then
      let p := b.arg
      let e := s.encPort p
      let change := s.encMode p != fld (s.reg (Reg.ENC_P_PEND p)) 2 0
      let s := s.setRegs [(Reg.ENC_P_MODE p, s.reg (Reg.ENC_P_PEND p)), (Reg.ENC_P_MODE1 p, s.reg (Reg.ENC_P_PEND1 p))]
      let e := { e with ssi := none, frame := false }
      let e := if change then { e with count := 0, last := none, edgeAt := none, edge := 0x7FFFFFFF } else e
      let s := s.setEncPort p e
      let s := if change then s.setReg (Reg.ENC_P_POS p) 0 else s
      (s.setState 0x19 1).complete Reg.ENC_CMD
    else s
  | none => s

/-- SSI_READ: one frame of an SSI port that is not cyclic. -/
def encSsiRead (m : Sys2Proof.Master) (a : Sys2Proof.CmdArg) (s : State) : State :=
  let p := a.arg.toNat
  s.command m a ⟨Reg.ENC_CMD, .priv, 2, decide (p < 16), true,
      s.encMode p == 4 && !bitOf (s.reg (Reg.ENC_P_MODE p)) 7, true⟩ fun s =>
    (s.setEncPort p { s.encPort p with frame := true }).setState 0x19 3

def execEncSsiRead (m : Sys2Proof.Master) (a : Sys2Proof.CmdArg) (s : State) : Host.Outcome State Fault Refusal :=
  s.goesTo (encSsiRead m a s)

/-- ABORT (R68): a pending CONFIG or SSI_READ is cancelled. -/
def encAbort (m : Sys2Proof.Master) (a : Sys2Proof.CmdArg) (s : State) : State :=
  s.abort m a Reg.ENC_CMD .priv fun b s =>
    let s := match b with
      | some b => if b.code = 2 then s.setEncPort b.arg { s.encPort b.arg with frame := false } else s
      | none => s
    s.setState 0x19 1

def execEncAbort (m : Sys2Proof.Master) (a : Sys2Proof.CmdArg) (s : State) : Host.Outcome State Fault Refusal :=
  s.goesTo (encAbort m a s)

/-! ### Sampling at t0 and at current tick B (R202, R204) -/

/-- A SINCOS sample: sine and cosine in µV, and the rules of R202 (AMPL, quadrant against the count, position). [DESIGN CHOICE: log 63] -/
def State.encSinCos (s : State) (p : Nat) (sin cos : Int) : State :=
  let w1 := s.reg (Reg.ENC_P_MODE1 p)
  let res := fld w1 19 16
  let mag2 := sin * sin + cos * cos
  let s := s.setReg (Reg.ENC_P_AMPL p) (Config.encAmpl sin cos &&& 0xFFFF#32)
  if mag2 < 300000 ^ 2 ∨ 700000 ^ 2 < mag2 then s.encErr p eAMPL
  else
    let phi := (Config.encAtan2 sin cos).toNat
    let q := (phi / 2 ^ 14) ^^^ fld w1 21 20
    let c := (s.encPort p).count
    let e := (q + 4 - c.toNat % 4) % 4
    if e = 2 then s.encErr p eSINCOS
    else
      let c := if e = 1 then c + 1 else if e = 3 then c - 1 else c
      (s.encPublish p (wordOfInt (floorDiv c.toInt 4 * 2 ^ res + (phi / 2 ^ (16 - res) : Nat)))).1

/-- A port's sample at t0 or at current tick B; `ain` gives the analog inputs in µV. -/
def State.encSample (s : State) (tickB : Bool) (ain : Nat → Int) (p : Nat) : State :=
  let w := s.reg (Reg.ENC_P_MODE p)
  if s.encSilent p then s
  else
    match fld w 2 0 with
    | 1 | 2 | 3 => if !tickB || bitOf w 3 then (s.encPublish p (s.encPort p).count).1 else s
    | 5 => if !tickB || bitOf w 3 then
        let w1 := s.reg (Reg.ENC_P_MODE1 p)
        s.encSinCos p (ain (fld w1 4 0)) (ain (fld w1 12 8))
      else s
    | _ => s

/-- An SSI port with CYCLIC set starts its frame at t0 + 0.10 µs (R200). -/
def State.encFrameAtT0 (s : State) (p : Nat) : State :=
  let w := s.reg (Reg.ENC_P_MODE p)
  if fld w 2 0 = 4 ∧ bitOf w 7 then s.setEncPort p { s.encPort p with frame := true } else s

end Sys2Proof.Machine
end

