-- ==== Sys2Proof/Machine/Signals.lean ====
section
/-!
DEFINITION. The steps of the route engine: route updates (R78–R83), route-table entries and their bulk load and swap
(R76–R80, R96), reads and writes of signals (R84, R95), and what a t0 does to the signals (R30, R81, R82).
-/
namespace Sys2Proof.Machine

/-! ### Entries (R76, R77, R80) -/

/-- A consumer whose route has been written keeps the value last delivered, but holds no valid value until the next
delivery (R80, R88). [DEDUCED: log 32] -/
def State.unliveCons (s : State) (c : Nat) : State :=
  { s with sig := { s.sig with cons := smSet (fun _ => {}) s.sig.cons c { s.consumer c with live := false },
                               latched := smSet (fun _ => {}) s.sig.latched c { s.latchedCons c with live := false } } }

/-- A write of a whole entry (R80): invalid fields are counted (R76), consumers that two acting entries name are
reported by the higher ID (R77), and a restarting write returns the signal to 0 and not VALID. [DEDUCED: log 32] -/
def State.writeEntry (s : State) (id : Nat) (e : BitVec 128) : State :=
  let old := s.route id
  let restart := (!eEN old && eEN e) || ePROD old != ePROD e || eENC old != eENC e
  let s := { s with sig := { s.sig with routes := smSet routeDefault s.sig.routes id e } }
  let r := s.sigRec id
  let s :=
    if restart then
      s.setSigRec id {}
    else if eFORCE old && !eFORCE e then
      s.setSigRec id { r with st := r.st &&& ~~~sFORCED, age := 0, upd := true,
                              last := r.last.map (fun p => (p.1, p.2 &&& ~~~sFORCED)) }
    else if !eFORCE old && eFORCE e then s.setSigRec id { r with age := 0 }
    else s
  let s := (entryCons e).foldl (fun s c => if restart || !(entryCons old).contains c then s.unliveCons c else s) s
  let s := if entryBad e then (s.inc Reg.SIG_BADENT).raiseEvt 8 Reg.SIG_EVT none 2 else s
  if entryOn e then
    let clash := (s.sig.routes.filter (fun p => p.1 != id && entryOn p.2 &&
      (entryCons p.2).any (fun c => (entryCons e).contains c))).map (fun p => max p.1 id)
    match clash.getLast? with
    | some x => (s.setReg Reg.SIG_CONFL_ID (wordOfNat x)).raiseEvt 8 Reg.SIG_EVT none 4
    | none => s
  else s

/-- An entry from its four words, D0 first (R74). -/
def entryOfWords (d0 d1 d2 d3 : Word) : BitVec 128 := d3 ++ d2 ++ d1 ++ d0

/-- Word k of an entry (R74). -/
def entryWord (e : BitVec 128) (k : Nat) : Word := e.extractLsb' (32 * k) 32

/-- SIG_ENT_IDX with OP 1 (R95): the entry into SIG_ENT_D0–D3. -/
def sigEntryRead (m : Sys2Proof.Master) (id : BitVec 13) (s : State) : State :=
  s.access m Reg.SIG_ENT_IDX fun s =>
    if !accGranted (mclass m) .priv then s.noteDenied (mclassCode (mclass m)) 8 0x20
    else
      let e := s.route id.toNat
      s.setRegs ((Reg.SIG_ENT_IDX, wordOfNat id.toNat) :: (List.range 4).map (fun k => (Reg.SIG_ENT_D k, entryWord e k)))

def execSigEntryRead (m : Sys2Proof.Master) (id : BitVec 13) (s : State) : Host.Outcome State Fault Refusal :=
  s.goesTo (sigEntryRead m id s)

/-- SIG_ENT_IDX with OP 2 (R80, R95): SIG_ENT_D0–D3 to the entry. -/
def sigEntryWrite (m : Sys2Proof.Master) (id : BitVec 13) (s : State) : State :=
  s.access m Reg.SIG_ENT_IDX fun s =>
    if !accGranted (mclass m) .priv then s.noteDenied (mclassCode (mclass m)) 8 0x20
    else
      let d (k : Nat) : Word := s.reg (Reg.SIG_ENT_D k)
      (s.setReg Reg.SIG_ENT_IDX (wordOfNat id.toNat)).writeEntry id.toNat (entryOfWords (d 0) (d 1) (d 2) (d 3))

def execSigEntryWrite (m : Sys2Proof.Master) (id : BitVec 13) (s : State) : Host.Outcome State Fault Refusal :=
  s.goesTo (sigEntryWrite m id s)

/-! ### Bulk load (R96) -/

/-- Write the entries of a load up to a number of them, lowest ID first. -/
def State.loadTo (s : State) (n : Nat) : State :=
  match s.sig.load with
  | none => s
  | some j =>
    let n := min n j.cnt
    let s := (List.range (n - j.fin)).foldl (fun s i =>
      let k := j.fin + i
      let a := j.src + 16 * k
      s.writeEntry ((j.first + k) % 8192) (entryOfWords (s.word a) (s.word (a + 4)) (s.word (a + 8)) (s.word (a + 12)))) s
    { s with sig := { s.sig with load := some { j with fin := max j.fin n } } }

/-- The entries of a load in progress that its rate of one entry per 8 ns has written by now (R96). -/
def State.loadProgress (s : State) : State :=
  match smFind s.busy Reg.SIG_CMD with
  | some b => if b.code = 1 then s.loadTo ((s.now - b.acc) / 8) else s
  | none => s

/-- SIG_CMD LOAD (R96). -/
def sigLoad (m : Sys2Proof.Master) (a : Sys2Proof.CmdArg) (s : State) : State :=
  let cnt := (s.reg Reg.SIG_LOAD_CNT).toNat
  let src := (s.reg Reg.SIG_LOAD_ADDR).toNat
  let ok := 1 ≤ cnt && cnt ≤ 8192 && src + 16 * cnt ≤ 0x800000 && (src + 16 * cnt ≤ 0x780000 || mclass m = .secure)
  s.command m a ⟨Reg.SIG_CMD, .priv, 1, a.arg == 0, true, s.reg Reg.SIG_STATE == 1, ok⟩ fun s =>
    ({ s with sig := { s.sig with load := some ⟨src, (s.reg Reg.SIG_LOAD_FIRST).toNat, cnt, 0⟩ } }).setState 8 2

def execSigLoad (m : Sys2Proof.Master) (a : Sys2Proof.CmdArg) (s : State) : Host.Outcome State Fault Refusal :=
  s.goesTo (sigLoad m a s)

/-- The load ends (R96): its last entry is written, or an SRAM error at entry `err` stops it with LOADERR; the entries
before the error stay. -/
def sigLoadDone (err : Option (BitVec 13)) (s : State) : State :=
  match s.sig.load, smFind s.busy Reg.SIG_CMD with
  | some j, some b =>
    let n := match err with
      | some i => min i.toNat j.cnt
      | none => j.cnt
    let s := (s.advanceTo (b.acc + 8 * n)).loadTo n
    let s := { s with sig := { s.sig with load := none } }
    let s := if err.isSome then s.raiseEvt 8 Reg.SIG_EVT none 0x10 else s
    (s.complete Reg.SIG_CMD).setState 8 1
  | _, _ => s

def execSigLoadDone (err : Option (BitVec 13)) (s : State) : Host.Outcome State Fault Refusal :=
  s.goesTo (s.alive 4 (sigLoadDone err s))

/-! ### The staged set (R49–R52, R96) -/

/-- The entry a staged place holds. -/
def State.stagedEntry (s : State) (n : Nat) : BitVec 128 :=
  let d (k : Nat) : Word := s.reg (Reg.SIG_STG_D_S n k)
  entryOfWords (d 0) (d 1) (d 2) (d 3)

/-- A staged entry holds no reserved encoding: ENC, SUBST and RDEC are defined (R52, R72, R74). [DEDUCED: log 34] -/
def State.stagedOk (s : State) (n : Nat) : Bool :=
  let e := s.stagedEntry n
  eENC e != 3 && eSUBST e != 3 && eRDEC e ≤ 10

/-- SIG_CMD SWAP (R50–R52, R96). -/
def sigSwap (m : Sys2Proof.Master) (a : Sys2Proof.CmdArg) (s : State) : State :=
  s.command m a ⟨Reg.SIG_CMD, .priv, 2, a.arg == 0, true, s.reg Reg.SIG_STATE == 1, (List.range 64).all s.stagedOk⟩
    fun s => s.setState 8 3

def execSigSwap (m : Sys2Proof.Master) (a : Sys2Proof.CmdArg) (s : State) : Host.Outcome State Fault Refusal :=
  s.goesTo (sigSwap m a s)

/-- Has a staged swap of this command register, with this code, reached a t0 at least 2 µs after acceptance (R50)? -/
def State.swapDue (s : State) (unit code : Nat) : Bool :=
  match smFind s.busy unit with
  | some b => b.code = code && s.now ≥ b.acc + 2000
  | none => false

/-- The swap instant of SIG (R96): every staged entry with USE is written. -/
def State.sigSwapAtT0 (s : State) : State :=
  if s.swapDue Reg.SIG_CMD 2 then
    let s := (List.range 64).foldl (fun s n =>
      let w := s.reg (Reg.SIG_STG_ID_S n)
      if bitOf w 15 then s.writeEntry (fld w 12 0) (s.stagedEntry n) else s) s
    (s.complete Reg.SIG_CMD).setState 8 1
  else s

/-- SIG_CMD ABORT (R68, R96): a bulk load stops, the entries copied so far staying; a pending swap is cancelled. -/
def sigAbort (m : Sys2Proof.Master) (a : Sys2Proof.CmdArg) (s : State) : State :=
  s.abort m a Reg.SIG_CMD .priv fun b s =>
    let s := match b with
      | some b => if b.code = 1 then s.loadTo ((s.now - b.acc) / 8) else s
      | none => s
    ({ s with sig := { s.sig with load := none } }).setState 8 1

def execSigAbort (m : Sys2Proof.Master) (a : Sys2Proof.CmdArg) (s : State) : Host.Outcome State Fault Refusal :=
  s.goesTo (sigAbort m a s)

/-! ### Reads and writes of signals (R84, R95) -/

/-- What a read of a signal returns: the present value, the status and the age; a signal whose entry does not act does
not exist (R71, R82, R227). [DEDUCED: log 31] -/
def State.readSignal (s : State) (id : Nat) : Word × BitVec 8 × Nat :=
  if entryOn (s.route id) then
    let p := s.present id
    (p.1, p.2, (s.sigRec id).age)
  else (0, 0, 0)

/-- A write to SIG_PEEK_ID (R95): value, status and age are captured together for the writing port. -/
def sigPeek (m : Sys2Proof.Master) (id : BitVec 13) (s : State) : State :=
  s.access m Reg.SIG_PEEK_ID fun s =>
    let p := mport m
    let r := s.readSignal id.toNat
    ((s.setPreg p Reg.SIG_PEEK_ID (wordOfNat id.toNat)).setPreg p Reg.SIG_PEEK_VAL r.1).setPreg p Reg.SIG_PEEK_STAT
      (wordOfNat (r.2.2 * 0x1000 + r.2.1.toNat))

def execSigPeek (m : Sys2Proof.Master) (id : BitVec 13) (s : State) : Host.Outcome State Fault Refusal :=
  s.goesTo (sigPeek m id s)

/-- A value written on a signal at rank 6, or at rank 7 by an external master (R84): an update where PROD is class 0xE
without FORCE; the forced value where FORCE is set; else ignored and counted. In one FC a write of rank 6 prevails over
those of rank 7 (R28). -/
def State.writeSignal (s : State) (id : Nat) (ext : Bool) (x : Word) : State :=
  let e := s.route id
  let r := s.sigRec id
  if !entryOn e then s.inc Reg.SIG_WR_IGN
  else if eFORCE e then
    if ext && r.fw then s
    else
      let st := sFORCED ||| sVALID
      let s := s.recUpdate id x st
      let r := { r with last := some (x, st), age := 0, upd := true, fw := r.fw || !ext }
      if s.sig.ovrOn.contains id then s.setSigRec id r
      else (s.setSigRec id { r with held := x, st := st }).deliver id
  else if ePROD e = 0xE000 then
    if ext && r.fw then s
    else (s.setSigRec id { r with fw := r.fw || !ext }).publish ⟨0xE000, none, x, false, true, some id⟩
  else s.inc Reg.SIG_WR_IGN

/-- A write to SIG_WR_VAL (R84), on the signal SIG_WR_ID names for the port. -/
def sigWrValWrite (m : Sys2Proof.Master) (x : BitVec 32) (s : State) : State :=
  s.access m Reg.SIG_WR_VAL fun s =>
    s.writeSignal (fld (s.preg (mport m) Reg.SIG_WR_ID) 12 0) (mclass m = .external) x

def execSigWrValWrite (m : Sys2Proof.Master) (x : BitVec 32) (s : State) : Host.Outcome State Fault Refusal :=
  s.goesTo (sigWrValWrite m x s)

/-! ### Route updates (R11, R78–R83) -/

/-- A producer publishes a value; a word whose parity fails at an island crossing is discarded (R11). -/
def routeUpdate (ep : BitVec 16) (x : BitVec 32) (satd valid parityOk : Bool) (s : State) : State :=
  if parityOk && prodOk ep.toNat && ep.toNat / 0x1000 != 0 && ep.toNat / 0x1000 != 0xE then
    s.loadProgress.publish ⟨ep.toNat, s.prodEnc ep.toNat, x, satd, valid, none⟩
  else s

def execRouteUpdate (ep : BitVec 16) (x : BitVec 32) (satd valid parityOk : Bool) (s : State) :
    Host.Outcome State Fault Refusal := s.goesTo (s.alive 4 (routeUpdate ep x satd valid parityOk s))

/-! ### Signals at t0 (R28–R30, R81–R83, R228) -/

/-- The source of ranks 2 to 4 that acts on a signal: the lowest rank, and in it the lowest number (R28, R29). -/
def State.ovrOf (s : State) (id : Nat) : Option Override :=
  (s.sig.ovr.filter (fun o => o.id == id)).foldl (fun b o =>
    match b with
    | none => some o
    | some c => if o.rank < c.rank ∨ (o.rank = c.rank ∧ o.src < c.src) then some o else some c) none

/-- At an apply instant a source of rank 2–4 publishes its value on its signal (R28, R228); a hold sets ILK-HELD. [DEDUCED: log 33] -/
def State.applyOvr (s : State) (o : Override) : State :=
  let r := s.sigRec o.id
  let st := sVALID ||| (if o.rank = 2 then sILKHELD else 0) ||| (r.st &&& sFORCED)
  if entryOn (s.route o.id) then
    ((s.recUpdate o.id o.val st).setSigRec o.id { r with held := o.val, st := st, age := 0, upd := true, fw := false }).deliver o.id
  else s

/-- A signal that no source of rank 2–4 holds any longer takes its producer's latest value; where there is none, the
value last applied stays (R30). -/
def State.releaseOvr (s : State) (id : Nat) : State :=
  let r := s.sigRec id
  match r.last with
  | some (x, st) => (s.setSigRec id { r with held := x, st := st }).deliver id
  | none => s.setSigRec id { r with st := r.st &&& ~~~sILKHELD }

/-- Ranks 2–4 at an apply instant. -/
def State.ovrAtT0 (s : State) : State :=
  let ids := (s.sig.ovr.map (fun o => o.id)).eraseDups
  let gone := s.sig.ovrOn.filter (fun id => !ids.contains id)
  let s := { s with sig := { s.sig with ovrOn := ids } }
  let s := gone.foldl (fun s id => s.releaseOvr id) s
  ids.foldl (fun s id => match s.ovrOf id with
    | some o => s.applyOvr o
    | none => s) s

/-- Ageing and substitution of one signal at t0 (R81, R82). [DEDUCED: log 33] -/
def State.ageSignal (s : State) (id : Nat) : State :=
  let e := s.route id
  if !entryOn e then s
  else
    let r := s.sigRec id
    let age := if eFORCE e || r.upd then r.age else min (r.age + 1) 4095
    let stale := eLIM e ≠ 0 ∧ age > eLIM e ∧ !eFORCE e
    let r' := { r with age := age, upd := false, fw := false }
    if stale ∧ !stHas r.st sSTALE then
      let s := (s.setSigRec id { r' with st := r.st ||| sSTALE }).recStale id
      let s := ((s.inc Reg.SIG_STALE_CNT).setReg Reg.SIG_STALE_ID (wordOfNat id)).raiseEvt 8 Reg.SIG_EVT none 1
      s.deliver id
    else s.setSigRec id r'

/-- The updates that wait are taken, oldest first, up to 24,000 in the FC that begins (R83). -/
def drainUpdates : List Pub → State → State
  | [], s => { s with sig := { s.sig with queue := [] } }
  | p :: r, s =>
    let n := (s.pubTargets p).length
    if s.sig.count + n ≤ 24000 then drainUpdates r (({ s with sig := { s.sig with count := s.sig.count + n } }).takePub p)
    else { s with sig := { s.sig with queue := p :: r } }

/-- The signals at t0: a queue left over is counted (R83), every enabled signal ages (R81, R82) but for those a source of
ranks 2–4 updates in the same clock, those sources
act or release (R28–R30, R228), and the waiting updates are taken. -/
def State.signalsAtT0 (s : State) : State :=
  let s := if s.sig.queue.isEmpty then s else (s.inc Reg.SIG_OVL_CNT).raiseEvt 8 Reg.SIG_EVT none 8
  let ids := (s.sig.routes.map (fun p => p.1)).filter (fun id => !s.sig.ovr.any (fun o => o.id == id))
  let s := ids.foldl (fun s id => s.ageSignal id) s
  let s := s.ovrAtT0
  drainUpdates s.sig.queue { s with sig := { s.sig with count := 0, queue := [] } }

end Sys2Proof.Machine
end

