-- ==== Sys2Proof/Machine/Adc.lean ====
section
/-!
DEFINITION. The SAR converters (R257–R269, R276–R280): trigger groups, requests and conversions, interleaving, checks,
retirement, results and window comparators.
-/
namespace Sys2Proof.Machine

/-- Set ADC_EVT bits: 0 WIN, 1 URGDROP, 2 QOVF, 3 LATE, 4 CALERR, 5 SUBST, 6 NOSPARE, 7 ILVLOST (R276). -/
def State.adcEvt (s : State) (b : Nat) : State := s.raiseEvt 0x20 Reg.ADC_EVT (some Reg.ADC_EVT_EN) (bitMask b)

/-! ### Converters in service (R258, R262, R263) -/

/-- The converter and the partner of an input (R279); 0x3F means none. -/
def State.adcConv (s : State) (n : Nat) : Nat := fld (s.reg (Reg.ADC_IN_CONV n)) 5 0
def State.adcPartner (s : State) (n : Nat) : Nat := fld (s.reg (Reg.ADC_IN_CONV n)) 13 8
def State.setAdcConv (s : State) (n c : Nat) : State :=
  s.setReg (Reg.ADC_IN_CONV n) (setFld (s.reg (Reg.ADC_IN_CONV n)) 5 0 c)
def State.setAdcPartner (s : State) (n c : Nat) : State :=
  s.setReg (Reg.ADC_IN_CONV n) (setFld (s.reg (Reg.ADC_IN_CONV n)) 13 8 c)

/-- Role (0 free, 1 substitute, 2 interleave, 3 retired) and input of spare 32 + k (R276). -/
def State.spareRole (s : State) (k : Nat) : Nat := fld (s.reg Reg.ADC_SPARE) (8 * k + 7) (8 * k + 6)
def State.spareIn (s : State) (k : Nat) : Nat := fld (s.reg Reg.ADC_SPARE) (8 * k + 4) (8 * k)
def State.setSpare (s : State) (k role n : Nat) : State :=
  s.setReg Reg.ADC_SPARE (setFld (s.reg Reg.ADC_SPARE) (8 * k + 7) (8 * k) (role * 64 + n))

/-- Is an input held by an encoder port in SINCOS mode (R202)? -/
def State.encHolds (s : State) (n : Nat) : Bool :=
  (List.range 16).any (fun p => s.encMode p == 5 &&
    (fld (s.reg (Reg.ENC_P_MODE1 p)) 4 0 == n || fld (s.reg (Reg.ENC_P_MODE1 p)) 12 8 == n))

/-- Is a converter retired? -/
def State.convRetired (s : State) (c : Nat) : Bool :=
  if c < 32 then bitOf (s.reg Reg.ADC_RET_LO) c else bitOf (s.reg Reg.ADC_RET_HI) (c - 32)

/-- An interleave ends. -/
def State.freeSpare (s : State) (k : Nat) : State := (s.setAdcPartner (s.spareIn k) 0x3F).setSpare k 0 0

/-- Interleaving follows ILV and ILVSP as far as the spares are free (R263), and the ENC bits follow the encoder
ports. -/
def State.adcSync (s : State) : State :=
  let s := [0, 1].foldl (fun s k =>
    let n := s.spareIn k
    let c := s.reg (Reg.ADC_IN_CFG n)
    if s.spareRole k = 2 ∧ !(bitOf c 30 && fld c 29 29 == k) then s.freeSpare k else s) s
  let s := [0, 1].foldl (fun s k =>
    if s.spareRole k = 0 then
      match (List.range 32).find? (fun n =>
          bitOf (s.reg (Reg.ADC_IN_CFG n)) 30 && fld (s.reg (Reg.ADC_IN_CFG n)) 29 29 == k && s.adcConv n == n
            && !s.convRetired n) with
      | some n => (s.setSpare k 2 n).setAdcPartner n (32 + k)
      | none => s
    else s) s
  (List.range 32).foldl (fun s n =>
    s.setReg (Reg.ADC_IN_CONV n) (setBit (s.reg (Reg.ADC_IN_CONV n)) 17 (s.encHolds n))) s

/-! ### Requests (R261, R262) -/

/-- Is a converter busy? -/
def State.convBusy (s : State) (c : Nat) : Bool := s.adc.jobs.any (fun j => j.conv == c && !j.free)

/-- A conversion of input n starts on converter c, now. -/
def State.adcStart (s : State) (c n : Nat) : State :=
  { s with adc := { s.adc with jobs := s.adc.jobs ++ [⟨c, n, s.now, false⟩] } }

/-- Requests queued for an input. -/
def State.adcQueued (s : State) (n : Nat) : Nat := smGet (fun _ => 0) s.adc.queue n
def State.setAdcQueued (s : State) (n k : Nat) : State :=
  { s with adc := { s.adc with queue := smSet (fun _ => 0) s.adc.queue n k } }

/-- The converters that serve an input. [DEDUCED: log 71] -/
def State.adcServe (s : State) (n : Nat) : List Nat :=
  s.adcConv n :: (if s.adcPartner n = 0x3F then [] else [s.adcPartner n])

/-- One request to the converter of input n. [DEDUCED: log 71] -/
def State.adcRequest (s : State) (n : Nat) (urgent : Bool) : State :=
  let out := bitOf (s.reg (Reg.ADC_IN_CONV n)) 16
  if !bitOf (s.reg (Reg.ADC_IN_CFG n)) 31 || s.encHolds n || out then s
  else
    match (s.adcServe n).find? (fun c => !s.convBusy c) with
    | some c => if urgent || s.adcQueued n == 0 then s.adcStart c n else s.setAdcQueued n (s.adcQueued n + 1)
    | none =>
      if urgent then (s.inc Reg.ADC_URGDROP_CNT).adcEvt 1
      else if s.adcQueued n < 4 then s.setAdcQueued n (s.adcQueued n + 1)
      else (s.inc Reg.ADC_QOVF_CNT).adcEvt 2

/-! ### Groups (R259, R260) -/

/-- EN and URGENT of a group's active configuration. -/
def State.adcOn (s : State) (g : Nat) : Bool := bitOf (s.reg (Reg.ADC_G_CFG g)) 31
def State.adcUrgent (s : State) (g : Nat) : Bool := bitOf (s.reg (Reg.ADC_G_CFG g)) 30
def State.adcSrc (s : State) (g : Nat) : Nat := fld (s.reg (Reg.ADC_G_CFG g)) 18 16

/-- One group fires: a request to the converter of every input in its mask. -/
def State.adcFire (s : State) (g : Nat) : State :=
  let mask := s.reg (Reg.ADC_G_MASK g)
  let urgent := s.adcUrgent g
  (List.range 32).foldl (fun s n => if bitOf mask n then s.adcRequest n urgent else s) (s.inc (Reg.ADC_G_FIRE_CNT g))

/-- Groups that fire in one clock: urgent requests before others, then the lower group first (R261). -/
def State.adcFireAll (s : State) (l : List Nat) : State :=
  (l.filter (fun g => s.adcUrgent g) ++ l.filter (fun g => !s.adcUrgent g)).foldl (fun s g => s.adcFire g) s

/-- TRIGGER fires every enabled group named in ARG. -/
def adcTrigger (m : Sys2Proof.Master) (a : Sys2Proof.CmdArg) (s : State) : State :=
  s.command m a ⟨Reg.ADC_CMD, .priv, 1, true, false, true, true⟩ fun s =>
    s.adcFireAll ((List.range 16).filter (fun g => a.arg.getLsbD g && s.adcOn g))

def execAdcTrigger (m : Sys2Proof.Master) (a : Sys2Proof.CmdArg) (s : State) : Host.Outcome State Fault Refusal :=
  s.goesTo (adcTrigger m a s)

/-- FC_PHASE_TRIGGER: t0 + PHASE, or current tick B + PHASE, of the groups with this PHASE. [DEDUCED: log 72] -/
def fcPhaseTrigger (phase : Nat) (tickB : Bool) (s : State) : State :=
  let ofs := phase + (if tickB then 15625 else 0)
  if s.hasT0 && !s.adc.fired.contains ofs && decide (ofs < 31250) then
    let s := s.atOffset ofs
    let s := { s with adc := { s.adc with fired := ofs :: s.adc.fired } }
    s.adcFireAll ((List.range 16).filter (fun g =>
      let c := s.reg (Reg.ADC_G_CFG g)
      s.adcOn g && s.adcSrc g == 1 && fld (s.reg (Reg.ADC_G_PHASE g)) 14 0 == phase && (!tickB || bitOf c 29)
        && (s.reg Reg.CYC_COUNT).toNat % 2 ^ (fld c 27 24) == 0))
  else s

def execFcPhaseTrigger (phase : BitVec 15) (tickB : Bool) (s : State) : Host.Outcome State Fault Refusal :=
  s.goesTo (s.alive 7 (fcPhaseTrigger phase.toNat tickB s))

/-- ATRG_EDGE: an accepted edge of a pin fires the groups that name it, in the sense of their EDGE. -/
def atrgEdge (pin : Nat) (rising : Bool) (s : State) : State :=
  s.adcFireAll ((List.range 16).filter (fun g =>
    let c := s.reg (Reg.ADC_G_CFG g)
    s.adcOn g && s.adcSrc g == 2 && fld c 10 8 == pin && (fld c 5 4 == 2 || fld c 5 4 == (if rising then 0 else 1))))

def execAtrgEdge (pin : BitVec 3) (rising : Bool) (s : State) : Host.Outcome State Fault Refusal :=
  s.goesTo (s.alive 7 (atrgEdge pin.toNat rising s))

/-- Arm a group for a time, or disarm it. [DEDUCED: log 72] -/
def State.adcArm (s : State) (g : Nat) (t : Option Nat) : State :=
  { s with adc := { s.adc with armed := match t with
      | some t => smPut s.adc.armed g t
      | none => smDel s.adc.armed g } }

/-- TIME_BASE_TRIGGER: the time base reaches the target of an armed group, which then goes on by PERIOD (R259, R260). [DEDUCED: log 72] -/
def timeBaseTrigger (g : Nat) (s : State) : State :=
  match smFind s.adc.armed g with
  | some t =>
    if s.adcOn g && s.adcSrc g == 3 then
      let p := (s.reg (Reg.ADC_G_PERIOD g)).toNat
      (((s.advanceTo t).adcArm g (if p = 0 then none else some (t + p)))).adcFireAll [g]
    else s
  | none => s

def execTimeBaseTrigger (g : BitVec 4) (s : State) : Host.Outcome State Fault Refusal := s.goesTo (s.alive 7 (timeBaseTrigger g.toNat s))

/-- Arm a group from a value of TBTIME (R260): a target at or behind the present time fires at once, late. -/
def State.adcTarget (s : State) (g : Nat) (x : Word) : State :=
  let d := (x - s.reg Reg.TB_TIME_LO).toInt
  if 0 < d then s.adcArm g (some (s.now + d.toNat))
  else
    let p := (s.reg (Reg.ADC_G_PERIOD g)).toNat
    let next := if p = 0 then none else some (s.now + p - (-d).toNat % p)
    let s := ((s.adcArm g next).inc Reg.ADC_LATE_CNT).adcEvt 3
    s.adcFireAll [g]

/-- TBTIME_WRITE (R260): the write arms a time-base group. -/
def tbtimeWrite (m : Sys2Proof.Master) (g : Nat) (x : Word) (s : State) : State :=
  s.access m (Reg.ADC_G_TBTIME g) fun s =>
    if !accGranted (mclass m) .priv then s.noteDenied (mclassCode (mclass m)) 0x20 (Reg.ADC_G_TBTIME g % 0x10000)
    else
      let s := s.setReg (Reg.ADC_G_TBTIME g) x
      if s.adcOn g && s.adcSrc g == 3 then s.adcTarget g x else s

def execTbtimeWrite (m : Sys2Proof.Master) (g : BitVec 4) (x : BitVec 32) (s : State) : Host.Outcome State Fault Refusal :=
  s.goesTo (tbtimeWrite m g.toNat x s)

/-! ### SWAP and ABORT (R276, R278) -/

/-- The staged words of a group hold no reserved encoding (R277, R278). -/
def State.adcStagedOk (s : State) (g : Nat) : Bool :=
  let c := s.reg (Reg.ADC_G_CFG_S g)
  let ph := fld (s.reg (Reg.ADC_G_PHASE_S g)) 14 0
  let pe := (s.reg (Reg.ADC_G_PERIOD_S g)).toNat
  let mask := s.reg (Reg.ADC_G_MASK_S g)
  fld c 18 16 ≤ 3 && fld c 27 24 ≤ 10 && fld c 5 4 != 3 && decide (ph ≤ 31249) && (!bitOf c 29 || decide (ph < 15625))
    && (pe == 0 || (decide (200 ≤ pe) && decide (pe ≤ 0x80000000)) ||
      (pe == 100 && (List.range 32).all (fun n => !bitOf mask n || s.adcPartner n != 0x3F)))

/-- SWAP. -/
def adcSwap (m : Sys2Proof.Master) (a : Sys2Proof.CmdArg) (s : State) : State :=
  s.command m a ⟨Reg.ADC_CMD, .priv, 2, a.arg == 0, true, s.reg Reg.ADC_STATE == 1,
    (List.range 16).all (fun g => s.adcStagedOk g)⟩ fun s => s.setState 0x20 2

def execAdcSwap (m : Sys2Proof.Master) (a : Sys2Proof.CmdArg) (s : State) : Host.Outcome State Fault Refusal :=
  s.goesTo (adcSwap m a s)

/-- The swap instant (R50): the staged sets become active; a group without EN is disarmed. -/
def State.adcSwapAtT0 (s : State) : State :=
  if s.swapDue Reg.ADC_CMD 2 then
    let s := (List.range 16).foldl (fun s g =>
      let s := s.setRegs [(Reg.ADC_G_CFG g, s.reg (Reg.ADC_G_CFG_S g)), (Reg.ADC_G_MASK g, s.reg (Reg.ADC_G_MASK_S g)),
        (Reg.ADC_G_PHASE g, s.reg (Reg.ADC_G_PHASE_S g)), (Reg.ADC_G_PERIOD g, s.reg (Reg.ADC_G_PERIOD_S g))]
      if s.adcOn g then s else s.adcArm g none) s
    (s.setState 0x20 1).complete Reg.ADC_CMD
  else s

/-- ABORT (R68, R276): queued requests are cancelled, time-base groups disarmed, a pending SWAP dropped; a conversion
already running completes. -/
def adcAbort (m : Sys2Proof.Master) (a : Sys2Proof.CmdArg) (s : State) : State :=
  s.abort m a Reg.ADC_CMD .priv fun _ s =>
    ({ s with adc := { s.adc with queue := [], armed := [] } }).setState 0x20 1

def execAdcAbort (m : Sys2Proof.Master) (a : Sys2Proof.CmdArg) (s : State) : Host.Outcome State Fault Refusal :=
  s.goesTo (adcAbort m a s)

/-! ### Window comparators (R268, R269) -/

/-- HYST, LO and HI of a comparator as they act (R48). -/
def State.winLims (s : State) (w : Nat) : Int × Int × Int :=
  let code (v : Word) (d : Int) : Int := if -32768 ≤ v.toInt ∧ v.toInt ≤ 32767 then v.toInt else d
  (fld (s.reg (Reg.ADC_WIN_CFG w)) 15 0, code (s.reg (Reg.ADC_WIN_LO w)) (-32768), code (s.reg (Reg.ADC_WIN_HI w)) 32767)

/-- The next state of a comparator: 0 IN, 1 ABOVE, 2 BELOW, 3 INIT. -/
def winNext (st : Nat) (hyst lo hi code : Int) (ovr : Bool) : Nat :=
  let above := if ovr then decide (0 < code) else decide (hi < code)
  let below := if ovr then decide (code ≤ 0) else decide (code < lo)
  if above then 1 else if below then 2
  else if st = 1 then (if code ≤ hi - hyst then 0 else 1)
  else if st = 2 then (if lo + hyst ≤ code then 0 else 2)
  else 0

/-- A comparator judges a result of its input, and publishes its state. -/
def State.winJudge (s : State) (w : Nat) (code : Int) (ovr : Bool) : State :=
  let (hyst, lo, hi) := s.winLims w
  let stat := s.reg (Reg.ADC_WIN_STAT w)
  let st := fld stat 1 0
  if !bitOf (s.reg (Reg.ADC_WIN_CFG w)) 31 || decide (hi < lo) || decide (hi - hyst < lo + hyst) then
    s.setReg (Reg.ADC_WIN_STAT w) (setFld stat 1 0 3)
  else
    let nx := winNext st hyst lo hi code ovr
    let event := st != 3 && nx != 0 && nx != st
    let s :=
      if event then
        let a := if w < 32 then Reg.ADC_WIN_MAP0 else Reg.ADC_WIN_MAP1
        ((s.setReg (Reg.ADC_WIN_STAT w) (setFld (setFld stat 31 16 (wordOfInt code).toNat) 1 0 nx)).orReg a (bitMask (w % 32))).adcEvt 0
      else s.setReg (Reg.ADC_WIN_STAT w) (setFld stat 1 0 nx)
    s.pubInt (0x1000 + 64 + w) (nx : Int)

/-! ### Conversions (R257, R258, R266, R267) -/

/-- The code and OVER-RANGE of a differential voltage in µV (R257). [DEDUCED: log 71] -/
def adcCode (uv : Int) : Int × Bool :=
  if 2560000 < uv then (32767, true) else if uv < -2560000 then (-32768, true)
  else (clampInt (-32768) 32767 (rneDiv (uv * 65536) 5000000), false)

/-- CONVERTER_FREE (R261): 200 ns after its hold instant a converter is free and starts the oldest queued request of the
input it serves. -/
def converterFree (c : Nat) (s : State) : State :=
  match s.adc.jobs.find? (fun j => j.conv == c && !j.free) with
  | some j =>
    let s := s.advanceTo (j.hold + 200)
    let s := { s with adc := { s.adc with jobs := s.adc.jobs.map (fun k => if k = j then { k with free := true } else k) } }
    match (List.range 32).find? (fun n => (s.adcServe n).contains c && s.adcQueued n != 0) with
    | some n => (s.setAdcQueued n (s.adcQueued n - 1)).adcStart c n
    | none => s
  | none => s

def execConverterFree (conv : Fin 34) (s : State) : Host.Outcome State Fault Refusal := s.goesTo (s.alive 7 (converterFree conv.val s))

/-- CONVERSION_COMPLETE (R258): 400 ns after the hold instant the result of a conversion is written and published, and
the comparators judge it; a retired converter's result is not published (R265). `uv` is the voltage held, in µV. [DEDUCED: log 71] -/
def conversionComplete (c : Nat) (uv : Int) (s : State) : State :=
  match s.adc.jobs.find? (fun j => j.conv == c && j.free) with
  | some j =>
    let s := s.advanceTo (j.hold + 400)
    let s := { s with adc := { s.adc with jobs := s.adc.jobs.erase j } }
    if s.convRetired c then s
    else
      let r := adcCode uv
      let n := j.input
      let old := s.reg (Reg.ADC_IN_RES n)
      let w := wordOfNat ((wordOfInt r.1).toNat % 65536 * 0x10000 + c * 4 + b2n r.2 * 2)
      let s := s.setRegs [(Reg.ADC_IN_RES n, resultNew old w 15 8 0), (Reg.ADC_IN_TS n, wordOfNat j.hold)]
      let s := s.publish ⟨0x1000 + n, some 0, wordOfInt r.1, r.2, true, none⟩
      (List.range 64).foldl (fun s w => if fld (s.reg (Reg.ADC_WIN_CFG w)) 20 16 = n then s.winJudge w r.1 r.2 else s) s
  | none => s

def execConversionComplete (conv : Fin 34) (uv : BitVec 24) (s : State) : Host.Outcome State Fault Refusal :=
  s.goesTo (s.alive 7 (conversionComplete conv.val uv.toInt s))

/-! ### Checks and retirement (R264, R265) -/

/-- The bit of a converter in ADC_UNCHK or ADC_RET_HI. -/
def State.setUnchecked (s : State) (c : Nat) (b : Bool) : State :=
  if c < 32 then s.setReg Reg.ADC_UNCHK (setBit (s.reg Reg.ADC_UNCHK) c b)
  else s.setReg Reg.ADC_RET_HI (setBit (s.reg Reg.ADC_RET_HI) (c - 16) b)

/-- A spare that is free, or one that leaves an interleave: that with the higher-numbered input. -/
def State.spareFor (s : State) : Option (Nat × Bool) :=
  if s.spareRole 0 = 0 then some (0, false)
  else if s.spareRole 1 = 0 then some (1, false)
  else
    match s.spareRole 0 == 2, s.spareRole 1 == 2 with
    | true, true => some (if s.spareIn 0 < s.spareIn 1 then 1 else 0, true)
    | true, false => some (0, true)
    | false, true => some (1, true)
    | false, false => none

/-- Input n loses its converter: a spare is brought in, or the input goes out of service (R265). [DEDUCED: log 73] -/
def State.adcSubstitute (s : State) (n : Nat) : State :=
  match s.spareFor with
  | some (k, lost) =>
    let s := if lost then (s.freeSpare k).adcEvt 7 else s
    ((s.setSpare k 1 n).setAdcConv n (32 + k)).adcEvt 5
  | none => (s.setReg (Reg.ADC_IN_CONV n) (setBit (s.reg (Reg.ADC_IN_CONV n)) 16 true)).adcEvt 6

/-- A retirement acts, at a t0. [DEDUCED: log 73] -/
def State.adcRetire (s : State) (c : Nat) : State :=
  if c < 32 then s.adcSubstitute c
  else
    let k := c - 32
    let role := s.spareRole k
    let n := s.spareIn k
    let s := if role = 2 then s.setAdcPartner n 0x3F else s
    let s := s.setSpare k 3 0
    if role = 1 then s.adcSubstitute n else s

/-- A converter's bucket has overflowed: its bit is set, its retirement acts from the next t0, and the fault event tells
whether a spare comes in (R265, R529). [DEDUCED: log 73] -/
def State.adcOverflow (s : State) (c : Nat) (detail : Word) : State :=
  let s := if c < 32 then s.orReg Reg.ADC_RET_LO (bitMask c) else s.orReg Reg.ADC_RET_HI (bitMask (c - 32))
  let sev := if c < 32 ∧ s.spareFor.isSome then 1 else 2
  ({ s with adc := { s.adc with retiring := s.adc.retiring ++ [c] } }).faultEvent sev 0x20 1 c detail

/-- REFERENCE_CHECK (R264): the codes of 0 V and +2.000 V of a converter that is idle with nothing queued; an error above
32 LSB is counted, and a failed check is charged once (R515). [DEDUCED: log 146] -/
def referenceCheck (c : Nat) (zero ref : Int) (s : State) : State :=
  let queued := (List.range 32).any (fun n => (s.adcServe n).contains c && s.adcQueued n != 0)
  if s.convBusy c || queued then s
  else
    let s := s.setUnchecked c false
    let bad := [(zero, (0 : Int)), (ref, 26214)].filter (fun p => decide (32 < (p.1 - p.2).natAbs))
    let s := bad.foldl (fun (s : State) _ => (s.inc Reg.ADC_CALERR_CNT).adcEvt 4) s
    match bad with
    | [] => s
    | p :: _ =>
      let r := s.finding 1 c 1 0x20 (wordOfInt p.1)
      if r.2 then r.1.adcOverflow c (wordOfInt p.1) else r.1

def execReferenceCheck (conv : Fin 34) (zero ref : BitVec 16) (s : State) : Host.Outcome State Fault Refusal :=
  s.goesTo (s.alive 7 (referenceCheck conv.val zero.toInt ref.toInt s))

/-- CONVERTER_UNCHECKED (R264): no idle 200 ns for 10 ms. -/
def converterUnchecked (c : Nat) (s : State) : State := s.setUnchecked c true

def execConverterUnchecked (conv : Fin 34) (s : State) : Host.Outcome State Fault Refusal :=
  s.goesTo (s.alive 7 (converterUnchecked conv.val s))

/-- ADC at a t0: retirements act, and interleaving follows. -/
def State.adcAtT0 (s : State) : State :=
  let l := s.adc.retiring
  (l.foldl (fun (s : State) c => s.adcRetire c) { s with adc := { s.adc with retiring := [], fired := [] } }).adcSync

end Sys2Proof.Machine
end

