-- ==== Sys2Proof/Machine/Stepper.lean ====
section
/-!
DEFINITION. The stepper regulators (R206–R215): the microstep index, the coil targets, the two current regulations, the
load angle and the standstill.
-/
namespace Sys2Proof.Machine

/-! ### Tables and registers -/

def sineRow0 : List Nat :=
  [0, 25, 50, 75, 101, 126, 151, 176, 201, 226, 251, 276, 301, 326, 351, 376,
   401, 426, 451, 476, 501, 526, 551, 576, 601, 626, 651, 675, 700, 725, 750, 774]
def sineRow1 : List Nat :=
  [799, 824, 848, 873, 897, 922, 946, 971, 995, 1020, 1044, 1068, 1092, 1117, 1141, 1165,
   1189, 1213, 1237, 1261, 1285, 1309, 1332, 1356, 1380, 1404, 1427, 1451, 1474, 1498, 1521, 1544]
def sineRow2 : List Nat :=
  [1567, 1591, 1614, 1637, 1660, 1683, 1706, 1729, 1751, 1774, 1797, 1819, 1842, 1864, 1886, 1909,
   1931, 1953, 1975, 1997, 2019, 2041, 2062, 2084, 2106, 2127, 2149, 2170, 2191, 2213, 2234, 2255]
def sineRow3 : List Nat :=
  [2276, 2296, 2317, 2338, 2359, 2379, 2399, 2420, 2440, 2460, 2480, 2500, 2520, 2540, 2559, 2579,
   2598, 2618, 2637, 2656, 2675, 2694, 2713, 2732, 2751, 2769, 2788, 2806, 2824, 2843, 2861, 2878]
def sineRow4 : List Nat :=
  [2896, 2914, 2932, 2949, 2967, 2984, 3001, 3018, 3035, 3052, 3068, 3085, 3102, 3118, 3134, 3150,
   3166, 3182, 3198, 3214, 3229, 3244, 3260, 3275, 3290, 3305, 3320, 3334, 3349, 3363, 3378, 3392]
def sineRow5 : List Nat :=
  [3406, 3420, 3433, 3447, 3461, 3474, 3487, 3500, 3513, 3526, 3539, 3551, 3564, 3576, 3588, 3600,
   3612, 3624, 3636, 3647, 3659, 3670, 3681, 3692, 3703, 3713, 3724, 3734, 3745, 3755, 3765, 3775]
def sineRow6 : List Nat :=
  [3784, 3794, 3803, 3812, 3822, 3831, 3839, 3848, 3857, 3865, 3873, 3881, 3889, 3897, 3905, 3912,
   3920, 3927, 3934, 3941, 3948, 3954, 3961, 3967, 3973, 3979, 3985, 3991, 3996, 4002, 4007, 4012]
def sineRow7 : List Nat :=
  [4017, 4022, 4027, 4031, 4036, 4040, 4044, 4048, 4052, 4055, 4059, 4062, 4065, 4068, 4071, 4074,
   4076, 4079, 4081, 4083, 4085, 4087, 4088, 4090, 4091, 4092, 4093, 4094, 4095, 4095, 4095, 4095]
/-- T[k] after cold start: min(round(4,096 × sin(πk / 512)), 4,095) (R207). -/
def sineTable : List Nat := sineRow0 ++ sineRow1 ++ sineRow2 ++ sineRow3 ++ sineRow4 ++ sineRow5 ++ sineRow6 ++ sineRow7

/-- An entry of a microstep table at cold start, by table × 256 + entry. -/
def stepTabDefault (i : Nat) : Nat := sineTable.getD (i % 256) 0

/-- T[k] of table t, where T[256] is 4,096 (R207). -/
def State.stepTab (s : State) (t k : Nat) : Nat := if k = 256 then 4096 else smGet stepTabDefault s.step.tables (t * 256 + k)

/-- The hidden part of stepper channel n. -/
def State.stepCh (s : State) (n : Nat) : StepChan := smGet (fun _ => {}) s.step.chans n

/-- Store it. -/
def State.setStepCh (s : State) (n : Nat) (c : StepChan) : State :=
  { s with step := { s.step with chans := smSet (fun _ => {}) s.step.chans n c } }

/-- CPFS and INRES, in which 9–15 act as 0 (R222, R48). -/
def stepExp (v : Nat) : Nat := if v ≤ 8 then v else 0

/-- ISET, STALL and STRONG of channel n (R221). -/
def State.stepIset (s : State) (n : Nat) : Nat := fld (s.reg (Reg.STEP_CH_STAT n)) 27 16
def State.stepStrong (s : State) (n : Nat) : Bool := bitOf (s.reg (Reg.STEP_CH_STAT n)) 12
def State.setIset (s : State) (n v : Nat) : State :=
  s.setReg (Reg.STEP_CH_STAT n) (setFld (s.reg (Reg.STEP_CH_STAT n)) 27 16 (min v 4095))
def State.setStrong (s : State) (n : Nat) (b : Bool) : State :=
  s.setReg (Reg.STEP_CH_STAT n) (setBit (s.reg (Reg.STEP_CH_STAT n)) 12 b)

/-- MODE of a channel; 3 acts as 0 (R222, R48). -/
def State.stepMode (s : State) (n : Nat) : Nat := let m := fld (s.reg (Reg.STEP_CH_CFG n)) 30 29; if m = 3 then 0 else m

/-- EN with an active TYPE of 1 (R222). -/
def State.stepRuns (s : State) (n : Nat) : Bool :=
  bitOf (s.reg (Reg.STEP_CH_CFG n)) 31 && fld (s.reg (Reg.AXC_CH_CFG (n / 4) (n % 4))) 1 0 == 1

/-! ### The index (R206, R208, R209) -/

/-- The interpolator's output at a time, in index steps: toward the target at the rate of the latest steps (R209). [DEDUCED: log 59] -/
def StepInt.outAt (x : StepInt) (now : Nat) : Q :=
  let gap := (qi x.tgt).sub x.out
  let go := (qq (x.num * (now - x.since.getD now) : Nat) x.den).min gap.abs
  if gap.isNeg then x.out.sub go else x.out.add go

/-- The index before it is taken modulo 1,024 (R206). [DEDUCED: log 59] -/
def State.stepIndex (s : State) (n : Nat) : Int :=
  let c := s.stepCh n
  let cfg := s.reg (Reg.STEP_CH_CFG n)
  let f : Int := 2 ^ (8 - stepExp (fld cfg 19 16))
  let ofs := (s.reg (Reg.STEP_CH_MSOFS n)).toInt
  if bitOf cfg 24 then (c.sd.outAt s.now).floor - ofs * f
  else
    let p : Q :=
      if bitOf cfg 27 then (qi c.old.toInt).add (qq ((c.pos - c.old).toInt * (min s.phase 31250 : Nat)) 31250)
      else qi c.pos.toInt
    ((p.sub (qi ofs)).scale f).floor

/-- The coil targets of an index, in 1/4,096 of full scale times 4,096 (R207): sign and magnitude. -/
def State.stepTargets (s : State) (n : Nat) (index : Int) : Int × Int :=
  let m := (index % 1024).toNat
  let t := fld (s.reg (Reg.STEP_CH_CFG n)) 26 25
  let q := m / 256
  let k := m % 256
  let u : Int := s.stepTab t k
  let w : Int := s.stepTab t (256 - k)
  let i : Int := s.stepIset n
  let p : Int × Int := if q = 0 then (w, u) else if q = 1 then (-u, w) else if q = 2 then (-w, -u) else (u, -w)
  (p.1 * i, p.2 * i)

/-! ### The current (R214, R215) -/

/-- x × ISCALE, in 1/4,096 of full scale. -/
def State.stepScaled (s : State) (n x : Nat) : Nat :=
  ((((bfUnit (s.stepCh n).scale).getD (qi 0)).scale x).free 1).toNat

/-- ISET where motion begins, or with ADAPT = 0 (R214). -/
def State.stepStart (s : State) (n : Nat) : Nat :=
  let irun := fld (s.reg (Reg.STEP_CH_CUR1 n)) 11 0
  let c2 := s.reg (Reg.STEP_CH_CUR2 n)
  if bitOf (s.reg (Reg.STEP_CH_CFG n)) 28 then s.stepScaled n (min (max irun (fld c2 11 0)) (fld c2 27 16))
  else s.stepScaled n irun

/-- |v| in 1/8 index steps per FC: the change of the index over the last 8 FC (R210). -/
def StepChan.speed8 (c : StepChan) : Nat := (c.moves.foldl (fun a b => a + b) 0).natAbs

/-- The regulator at a carrier turning point: it starts when the channel is enabled, reads the index, and sets ISET where
motion begins (R208, R214, R215). -/
def State.stepRead (s : State) (n : Nat) : State :=
  let c := s.stepCh n
  let first := !c.on
  let i := s.stepIndex n
  let s := if first then (s.setReg (Reg.STEP_CH_KV n) (s.reg (Reg.STEP_CH_KVINIT n) &&& 0xFFFF#32)).setIset n (s.stepStart n)
    else s
  let mode := s.stepMode n
  let s := s.setStrong n (if mode = 1 then false else if mode = 2 then true else !first && s.stepStrong n)
  let moved := !first && i != c.index
  let begins := moved && (!c.moving || c.standby)
  let c := { c with on := true, index := i, fcIndex := if first then i else c.fcIndex,
                    moves := if first then [] else c.moves, still := if first || moved then 0 else c.still,
                    moving := if first then false else c.moving || moved,
                    standby := if first || moved then false else c.standby }
  let s := s.setStepCh n c
  let s := if begins || (!bitOf (s.reg (Reg.STEP_CH_CFG n)) 28 && !c.standby) then s.setIset n (s.stepStart n) else s
  s.setReg (Reg.STEP_CH_STAT n) (setFld (s.reg (Reg.STEP_CH_STAT n)) 9 0 (i % 1024).toNat)

/-- The duties of quiet mode (R211): d+ and d− of both coils. -/
def State.stepQuiet (s : State) (n : Nat) : List Q :=
  let t := s.stepTargets n (s.stepCh n).index
  let kv : Int := fld (s.reg (Reg.STEP_CH_KV n)) 15 0
  let u (x : Int) : Q := ((qq (kv * x) (256 * 16777216)).min (qi 1)).max (qi (-1))
  let pair (x : Int) : List Q := [(qq 1 2).add (u x).half, (qq 1 2).sub (u x).half]
  pair t.1 ++ pair t.2

/-- The commands of a coil's two half-bridges over one chopping period of L ticks (R212), where the sinc1 current reaches
|i*| `reach` × 10 ns after the valley, if it does. -/
def chopWaves (target : Int) (blank fdt L : Nat) (reach : Option Nat) : List (List (Nat × Bool)) :=
  let drive : List (Nat × Bool) := [(0, true)]
  let away : List (Nat × Bool) := [(0, false)]
  let w : List (Nat × Bool) × List (Nat × Bool) :=
    match reach with
    | some r =>
      let t := 4 * max r blank
      let e := t + 4 * fdt
      if L ≤ t then (drive, away)
      else (drive ++ [(t, false)], away ++ [(t, true)] ++ (if e < L then [(e, false)] else []))
    | none => (drive, away)
  if target < 0 then [w.2, w.1] else [w.1, w.2]

/-- The commands of strong mode over the period that starts at this valley (R212). -/
def State.stepStrongWaves (s : State) (n L : Nat) (ra rb : Option Nat) : List (List (Nat × Bool)) :=
  let t := s.stepTargets n (s.stepCh n).index
  let w := s.reg (Reg.STEP_CH_CHOP n)
  chopWaves t.1 (fld w 7 0) (fld w 15 8) L ra ++ chopWaves t.2 (fld w 7 0) (fld w 15 8) L rb

/-! ### t0 (R208, R210, R215) -/

/-- A stepper channel at t0: STEPPOS and ISCALE are applied, and the moves of the last FC are noted. -/
def State.stepAtT0 (s : State) (n : Nat) : State :=
  let c := s.stepCh n
  let p := s.latchedCons (0xD000 + n * 256 + 4)
  let k := 0xD000 + n * 256 + 5
  let f := s.latchedCons k
  let pos := if p.valid then p.val else Config.stepBadPos c.pos p.val
  let scale := if !s.consRouted k then 0x3F800000#32
    else if f.valid && (bfUnit f.val).isSome then f.val else Config.stepBadScale c.scale
  let s := s.setStepCh n { c with old := c.pos, pos := pos, scale := scale }
  if s.stepRuns n && c.on then
    let i := s.stepIndex n
    let c := s.stepCh n
    s.setStepCh n { c with fcIndex := i, moves := (c.moves ++ [i - c.fcIndex]).drop (c.moves.length - 7),
                           still := if i = c.fcIndex then c.still + 1 else 0 }
  else s

/-! ### The events of STEP -/

/-- STEP_MODE_SWITCH (R210): in AUTO, where the speed calls for the other mode, at a full-step boundary; `mean` is the
mean applied coil voltage over the last full step, × 2^−16 of the bridge voltage. [DEDUCED: log 61] -/
def stepModeSwitch (n : Nat) (mean : Nat) (s : State) : State :=
  let c := s.stepCh n
  let w := s.reg (Reg.STEP_CH_VSW n)
  let v := c.speed8 * 32
  let vth := fld w 15 0
  let vhys := fld w 31 16
  if s.stepRuns n && c.on && s.stepMode n == 0 then
    if !s.stepStrong n && decide (vth ≤ v) then s.setStrong n true
    else if s.stepStrong n && decide (v + vhys < vth) then
      let i := s.stepIset n
      let kv := if i = 0 then Config.stepKvZero (s.reg (Reg.STEP_CH_KV n))
        else wordOfNat (min ((qq (mean * 16 : Nat) i).free 2).toNat 0xFFFF)
      (s.setReg (Reg.STEP_CH_KV n) kv).setStrong n false
    else s
  else s

def execStepModeSwitch (n : BitVec 4) (mean : BitVec 16) (s : State) : Host.Outcome State Fault Refusal :=
  s.goesTo (s.alive 6 (stepModeSwitch n.toNat mean.toNat s))

/-- KV after one electrical period in quiet mode, from the amplitude measured, in 1/4,096 of full scale (R211). -/
def State.adaptKv (s : State) (n amp : Nat) : State :=
  let kv := s.reg (Reg.STEP_CH_KV n)
  let i := s.stepIset n
  let g := fld (s.reg (Reg.STEP_CH_CHOP n)) 19 16
  if i = 0 then s.setReg (Reg.STEP_CH_KV n) (Config.stepKvZero kv)
  else
    let k := (qi (fld kv 15 0)).mul ((qi 1).add (qq ((i : Int) - amp) (i * 2 ^ g)))
    s.setReg (Reg.STEP_CH_KV n) (wordOfNat (min (k.free 3).toNat 0xFFFF))

/-- A stall (R214): STALL is set, LOST_CNT counts, and the block's event with its map. [DEDUCED: log 61] -/
def State.stepStalled (s : State) (n : Nat) : State :=
  let s := s.setReg (Reg.STEP_CH_STAT n) (setBit (s.reg (Reg.STEP_CH_STAT n)) 13 true)
  ((s.inc (Reg.STEP_CH_LOST_CNT n)).orReg Reg.STEP_STALL_MAP (bitMask n)).raiseEvt 0x18 Reg.STEP_EVT (some Reg.STEP_EVT_EN) 1

/-- ISET after an estimate of δ, in 2^−16 periods (R214). -/
def State.stepAdapt (s : State) (n : Nat) (d : Int) : State :=
  let w := s.reg (Reg.STEP_CH_LOAD n)
  let c2 := s.reg (Reg.STEP_CH_CUR2 n)
  let i := s.stepIset n
  let istep := fld w 31 24
  let s := if d < sfld w 23 16 * 256 then s.setReg (Reg.STEP_CH_STAT n) (setBit (s.reg (Reg.STEP_CH_STAT n)) 13 false) else s
  if i = fld c2 27 16 ∧ sfld w 23 16 * 256 ≤ d then s.stepStalled n
  else if sfld w 7 0 * 256 ≤ d then s.setIset n (min (i + istep) (fld c2 27 16))
  else if d ≤ sfld w 15 8 * 256 then s.setIset n (max (i - istep) (fld c2 11 0))
  else s

/-- LOAD_ANGLE_ESTIMATE (R211, R213, R214), once per electrical period: the mean angles of coil voltage and coil current
as fractions of a period, and the amplitude measured, in 1/4,096 of full scale. -/
def loadAngleEstimate (n : Nat) (angV angI : BitVec 16) (amp : Nat) (s : State) : State :=
  let c := s.stepCh n
  if s.stepRuns n && c.on then
    let s := if s.stepStrong n then s else s.adaptKv n amp
    let w := s.reg (Reg.STEP_CH_MOT n)
    if c.speed8 * 32 < fld w 31 16 then s
    else
      let d := (BitVec.ofInt 16 ((angV.toNat : Int) - angI.toNat - Config.stepPhi0 c.speed8 (fld w 15 0))).toInt
      let s := s.setReg (Reg.STEP_CH_LOADANG n) (wordOfInt d &&& 0xFFFF#32)
      let s := if bitOf (s.reg (Reg.STEP_CH_CFG n)) 28 then s.stepAdapt n d else s
      s.pubBf (0xD000 + n * 256 + 129) (bf32Ieee ⟨d, -16⟩)
  else s

def execLoadAngleEstimate (n : BitVec 4) (angV angI : BitVec 16) (amp : BitVec 13) (s : State) :
    Host.Outcome State Fault Refusal := s.goesTo (s.alive 6 (loadAngleEstimate n.toNat angV angI amp.toNat s))

/-- STANDSTILL_TIMEOUT (R215): after TSTBY FC without a change of the index ISET drops to IHOLD × ISCALE. -/
def standstillTimeout (n : Nat) (s : State) : State :=
  let c := s.stepCh n
  let t := fld (s.reg (Reg.STEP_CH_STBY n)) 15 0
  if s.stepRuns n && c.on && t != 0 && decide (t ≤ c.still) && !c.standby then
    (s.setStepCh n { c with standby := true, moving := false }).setIset n
      (s.stepScaled n (fld (s.reg (Reg.STEP_CH_CUR1 n)) 27 16))
  else s

def execStandstillTimeout (n : BitVec 4) (s : State) : Host.Outcome State Fault Refusal :=
  s.goesTo (s.alive 6 (standstillTimeout n.toNat s))

/-- An input step of a step/dir interpolator (R209): the target moves by M; the first step after a direction change or a
long pause moves the output by M at once, another sets the rate. -/
def StepInt.step (x : StepInt) (now m : Nat) (up : Bool) : StepInt :=
  let out := x.outAt now
  let d : Int := if up then m else -(m : Int)
  let fresh : Bool := match x.since with
    | some t => (up != x.up) || decide (655360 < now - t)
    | none => true
  let since := x.since.getD now
  if fresh then { x with tgt := x.tgt + d, out := out.add (qi d), since := some now, up := up }
  else { tgt := x.tgt + d, out := out, since := some now, num := m, den := max (now - since) 1, up := up }

/-- STEP_DIR_INPUT_STEP (R209): a step of an encoder port in STEPDIR mode moves the interpolators fed from it. -/
def stepDirInputStep (p : Nat) (up : Bool) (s : State) : State :=
  if fld (s.reg (Reg.ENC_P_MODE p)) 2 0 = 3 then
    (List.range 16).foldl (fun s n =>
      let cfg := s.reg (Reg.STEP_CH_CFG n)
      if bitOf cfg 24 && fld cfg 23 20 == p then
        s.setStepCh n { s.stepCh n with sd := (s.stepCh n).sd.step s.now (2 ^ stepExp (fld cfg 15 12)) up }
      else s) s
  else s

def execStepDirInputStep (p : BitVec 4) (up : Bool) (s : State) : Host.Outcome State Fault Refusal :=
  s.goesTo (s.alive 6 (stepDirInputStep p.toNat up s))

/-! ### RESHAPE (R216) -/

/-- RESHAPE: ARG names a table; permitted in IDLE. -/
def stepReshape (m : Sys2Proof.Master) (a : Sys2Proof.CmdArg) (s : State) : State :=
  s.command m a ⟨Reg.STEP_CMD, .priv, 1, decide (a.arg.toNat < 4), true, s.reg Reg.STEP_STATE == 1, true⟩ fun s =>
    let src := fld (s.reg Reg.STEP_SRC_HI) 7 0 * 0x100000000 + (s.reg Reg.STEP_SRC_LO).toNat / 2 * 2
    ({ s with step := { s.step with src := src } }).setState 0x18 2

def execStepReshape (m : Sys2Proof.Master) (a : Sys2Proof.CmdArg) (s : State) : Host.Outcome State Fault Refusal :=
  s.goesTo (stepReshape m a s)

/-- The 16-bit entries at the source of a RESHAPE. -/
def State.stepEntries (s : State) : List Nat :=
  (List.range 256).map (fun i => (s.byte (s.step.src + 2 * i)).toNat + 256 * (s.byte (s.step.src + 2 * i + 1)).toNat)

/-- STEP_RESHAPE_COMPLETE: the read has ended, with or without an error; a read error or an entry above 4,095 leaves the
table as it was. -/
def stepReshapeComplete (err : Bool) (s : State) : State :=
  match smFind s.busy Reg.STEP_CMD with
  | some b =>
    let l := s.stepEntries
    let s :=
      if err || !s.inMemory s.step.src 512 then s.raiseEvt 0x18 Reg.STEP_EVT (some Reg.STEP_EVT_EN) 4
      else if l.any (fun v => decide (4095 < v)) then s.raiseEvt 0x18 Reg.STEP_EVT (some Reg.STEP_EVT_EN) 2
      else
        let t := (List.range 256).foldl (fun t i => smSet stepTabDefault t (b.arg * 256 + i) (l.getD i 0)) s.step.tables
        { s with step := { s.step with tables := t } }
    (s.setState 0x18 1).complete Reg.STEP_CMD
  | none => s

def execStepReshapeComplete (err : Bool) (s : State) : Host.Outcome State Fault Refusal := s.goesTo (s.alive 6 (stepReshapeComplete err s))

/-- ABORT (R68, R216): a reshape stops, and the table keeps its contents. -/
def stepAbort (m : Sys2Proof.Master) (a : Sys2Proof.CmdArg) (s : State) : State :=
  s.abort m a Reg.STEP_CMD .priv fun _ s => s.setState 0x18 1

def execStepAbort (m : Sys2Proof.Master) (a : Sys2Proof.CmdArg) (s : State) : Host.Outcome State Fault Refusal :=
  s.goesTo (stepAbort m a s)

end Sys2Proof.Machine
end

