-- ==== Sys2Proof/Machine/Axc.lean ====
section
/-!
DEFINITION. The axis channels (R183–R195, R217–R220): enable and trips, the STO path, the carriers and their turning
points, duties and gate signals.
-/
namespace Sys2Proof.Machine

/-! ### A channel -/

/-- The hidden part of channel n. -/
def State.axcCh (s : State) (n : Nat) : AxcChan := smGet (fun _ => {}) s.axc n

/-- Store it. -/
def State.setAxcCh (s : State) (n : Nat) (c : AxcChan) : State := { s with axc := smSet (fun _ => {}) s.axc n c }

/-- The state code: 0 OFF, 1 PRECHG, 2 RUN, 3 FAULT, 4 STO (R218). -/
def State.axcSt (s : State) (n : Nat) : Nat := fld (s.reg (Reg.AXC_CH_STATE (n / 4) (n % 4))) 2 0

/-- Give a channel a state, published as its block-state signal (R531). -/
def State.setAxcSt (s : State) (n st : Nat) : State :=
  let a := Reg.AXC_CH_STATE (n / 4) (n % 4)
  (s.setReg a (wordOfNat st)).pubReg (0x14 + n / 4) (1 + n % 4) a

/-- SYNC and TYPE of a channel; TYPE 3 acts as 0 (R48, R219). [DEDUCED: log 55] -/
def State.axcSync (s : State) (n : Nat) : Nat := fld (s.reg (Reg.AXC_CH_CFG (n / 4) (n % 4))) 6 4
def State.axcType (s : State) (n : Nat) : Nat := let t := fld (s.reg (Reg.AXC_CH_CFG (n / 4) (n % 4))) 1 0; if t = 3 then 0 else t

/-- PER of a channel (R48, R186). -/
def State.axcPer (s : State) (n : Nat) : Nat :=
  let p := fld (s.reg (Reg.AXC_CH_PER (n / 4) (n % 4))) 13 0
  if 1000 ≤ p ∧ p ≤ 12500 then p else 3125

/-- PRECHG in µs (R48, R220). -/
def State.axcPrechg (s : State) (n : Nat) : Nat :=
  let p := fld (s.reg (Reg.AXC_CH_FLT (n / 4) (n % 4))) 25 16
  if p ≤ 1000 then p else 0

/-- The half-bridges a TYPE drives (R184). [DEDUCED: log 55] -/
def drivenHb (t : Nat) : Nat := if t = 0 then 3 else 4

/-! ### Enable, trips and STO (R190–R193) -/

/-- Every gate signal and AXn_EN go low. -/
def State.axcDrop (s : State) (n : Nat) : State :=
  (s.setAxcCh n { s.axcCh n with en := false, sw := false, wave := [], before := [], tickB := [] }).setStepCh n
    { s.stepCh n with on := false }

/-- A channel in PRECHG or RUN trips; `mask` are its CAUSE bits (R191). -/
def State.axcTrip (s : State) (n : Nat) (mask : Nat) : State :=
  let k := n / 4
  let c := n % 4
  if s.axcSt n = 1 ∨ s.axcSt n = 2 then
    let s := ((s.axcDrop n).orReg (Reg.AXC_CH_CAUSE k c) (wordOfNat mask)).inc (Reg.AXC_CH_TRIP_CNT k c)
    let s := s.setReg (Reg.AXC_CH_TRIP_TIME k c) (s.reg Reg.TB_TIME_LO)
    (s.raiseEvt (0x14 + k) (Reg.AXC_EVT k) (some (Reg.AXC_EVT_EN k)) (bitMask c)).setAxcSt n 3
  else s

/-- An STO demand reaches channel n (R192, R193). -/
def State.axcSto (s : State) (n : Nat) : State :=
  let k := n / 4
  let c := n % 4
  if s.axcSt n = 4 then s
  else
    let fault := s.axcSt n == 3
    let s := s.axcDrop n
    let s := (s.setAxcCh n { s.axcCh n with ret := fault }).orReg (Reg.AXC_CH_CAUSE k c) 8
    (s.raiseEvt (0x14 + k) (Reg.AXC_EVT k) (some (Reg.AXC_EVT_EN k)) (bitMask (4 + c))).setAxcSt n 4

/-- Does Base camp hold every channel in STO: I2 or I7 has failed (R524), or the last Rope-team pair is halted (R523)? -/
def State.baseSto (s : State) : Bool :=
  s.fenced.getLsbD 2 || s.fenced.getLsbD 7 || s.flt.pairReset.contains (fld (s.reg Reg.FLT_ROPE) 0 0)

/-- The STO demand on channel n is released; nothing is re-enabled (R193). -/
def State.axcStoEnd (s : State) (n : Nat) : State :=
  if s.axcSt n = 4 ∧ !s.baseSto then s.setAxcSt n (if (s.axcCh n).ret then 3 else 0) else s

/-- DISABLE, a channel ABORT and a block ABORT take PRECHG and RUN to OFF (R193). -/
def State.axcOff (s : State) (n : Nat) : State :=
  if s.axcSt n = 1 ∨ s.axcSt n = 2 then (s.axcDrop n).setAxcSt n 0 else s

/-! ### The carrier (R186) -/

/-- The halves of one FC for SYNC 1 to 6: first tick and length, in order. -/
def carrierHalves (sync : Nat) : List (Nat × Nat) :=
  let l := 12500 / sync
  let r := 12500 % sync
  (List.range sync).flatMap (fun i =>
    let n := if i < r then l + 1 else l
    let start := i * l + min i r
    [(start, (n + 1) / 2), (start + (n + 1) / 2, n / 2)])

/-- The turning point nearest current tick B, 6,250 ticks after t0 (R189). -/
def nearTickB (sync : Nat) : Nat :=
  let dist (i : Nat) : Nat := (((carrierHalves sync).getD i (0, 0)).1 - 6250) + (6250 - ((carrierHalves sync).getD i (0, 0)).1)
  (List.range (2 * sync)).foldl (fun b i => if dist i < dist b then i else b) 0

/-- The length of the half that starts at turning point tp, in ticks. -/
def State.axcHalf (s : State) (n tp : Nat) : Nat :=
  match s.axcSync n with
  | 0 => s.axcPer n
  | 7 => 12500
  | k => ((carrierHalves k).getD tp (0, 6250)).2

/-- The turning points after which the count starts again. [DEDUCED: log 54] -/
def State.axcTurns (s : State) (n : Nat) : Nat := let k := s.axcSync n; if k = 0 ∨ k = 7 then 2 else 2 * k

/-! ### Duty and gates (R187, R188) -/

/-- A fraction × 2^−16 of which 0xFFFF means 1 (R218). [DESIGN CHOICE: log 56] -/
def dutyLim (v : Nat) : Q := if v = 0xFFFF then qi 1 else qq v 65536

/-- A duty clamped to [DMIN, DMAX]. [DEDUCED: log 57] -/
def State.clampDuty (s : State) (n : Nat) (d : Q) : Q :=
  let w := s.reg (Reg.AXC_CH_DLIM (n / 4) (n % 4))
  let lo := dutyLim (fld w 15 0)
  let hi := dutyLim (fld w 31 16)
  if hi.lt lo then qq (Config.axcEmptyRange w).toNat 65536 else (d.max lo).min hi

/-- The on-time of a half of H ticks. -/
def State.onTicks (s : State) (n H : Nat) (d : Q) : Nat :=
  let on := ((s.clampDuty n d).scale H).rneAt 0 |>.toNat
  let minpw := fld (s.reg (Reg.AXC_CH_DT (n / 4) (n % 4))) 23 16
  if 1 ≤ on ∧ on ≤ minpw then 0 else if 1 ≤ H - on ∧ H - on ≤ minpw then H else on

/-- The command over a half with an on-time adjacent to the peak. -/
def halfWave (up : Bool) (H on : Nat) : List (Nat × Bool) :=
  if on = 0 then [(0, false)] else if H ≤ on then [(0, true)]
  else if up then [(0, false), (H - on, true)] else [(0, true), (on, false)]

/-- The command x ticks after the turning point, and the ticks since it last changed. -/
def waveAt (before : Bool × Nat) (w : List (Nat × Bool)) (x : Nat) : Bool × Nat :=
  let r := w.foldl (fun (r : Bool × Int) e => if e.1 ≤ x ∧ e.2 ≠ r.1 then (e.2, (e.1 : Int)) else r) (before.1, -(before.2 : Int))
  (r.1, ((x : Int) - r.2).toNat)

/-- A wave as it goes on after a turning point H ticks later. -/
def shiftWave (w : List (Nat × Bool)) (H : Nat) : List (Nat × Bool) :=
  (0, (waveAt (false, 0) w H).1) :: (w.filter (fun e => H < e.1)).map (fun e => (e.1 - H, e.2))

/-- The levels of AXn_HS[h] and AXn_LS[h], x ticks after the latest turning point: a switch turns on DTR or DTF ticks
after the other has turned off (R188); in PRECHG and until switching starts, the low sides are on where PRECHG > 0
(R190); in safe hold every gate signal is low (R525). [DEDUCED: log 55; DEDUCED: log 58] -/
def State.gates (s : State) (n h x : Nat) : Bool × Bool :=
  let c := s.axcCh n
  if s.flt.safeHold || !c.en || decide (drivenHb (s.axcType n) ≤ h) then (false, false)
  else if !c.sw then (false, s.axcPrechg n != 0)
  else
    let r := waveAt (c.before.getD h (false, 256)) (c.wave.getD h []) x
    let dt := s.reg (Reg.AXC_CH_DT (n / 4) (n % 4))
    (r.1 && decide (fld dt 7 0 ≤ r.2), !r.1 && decide (fld dt 15 8 ≤ r.2))

/-- The duty of one input as the channel takes it: a NaN, a value not VALID and an input without a route or without a
delivery since enable become 0.5, and are counted (R187). [DEDUCED: log 57] -/
def State.takeDuty (s : State) (n h : Nat) (r : ConsRec) : State × Q :=
  let d := if r.valid && s.consRouted (0xD000 + n * 256 + h) then bfUnit r.val else none
  match d with
  | some q => (s, q)
  | none => ((s.inc (Reg.AXC_CH_BADIN_CNT (n / 4) (n % 4))).raiseEvt (0x14 + n / 4) (Reg.AXC_EVT (n / 4))
      (some (Reg.AXC_EVT_EN (n / 4))) 0x100, qq 1 2)

/-- Show a duty as loaded (R218). -/
def State.showDuty (s : State) (n h : Nat) (d : Q) : State :=
  s.setReg (Reg.AXC_CH_DUTY (n / 4) (n % 4) h) (wordOfNat (min ((s.clampDuty n d).rneAt 16).toNat 0xFFFF))

/-- Load duties from what the inputs hold. [DEDUCED: log 55] -/
def State.loadDuties (s : State) (n : Nat) (inputs : List ConsRec) : State :=
  let r := (List.range (drivenHb (s.axcType n))).foldl (fun (r : State × List Q) h =>
    let q := r.1.takeDuty n h (inputs.getD h {})
    (q.1.showDuty n h q.2, r.2 ++ [q.2])) (s, [])
  r.1.setAxcCh n { r.1.axcCh n with duty := r.2 }

/-- What the duty inputs hold, by a reading of consumers. -/
def dutyInputs (get : Nat → ConsRec) (n : Nat) : List ConsRec := (List.range 4).map (fun h => get (0xD000 + n * 256 + h))

/-- Does this turning point load duty inputs, and from where (R189)? -/
def State.dutySource (s : State) (n tp : Nat) : Option (List ConsRec) :=
  match s.axcSync n with
  | 0 => if tp % 2 = 0 then some (dutyInputs s.consumer n) else none
  | 7 => some (dutyInputs s.latchedCons n)
  | k => if tp = 0 then some (dutyInputs s.latchedCons n) else if tp = nearTickB k then some (s.axcCh n).tickB else none

/-- The waves of a channel that switches, from turning point tp. -/
def State.newWaves (s : State) (n tp : Nat) (ra rb : Option Nat) : List (List (Nat × Bool)) :=
  let c := s.axcCh n
  let H := s.axcHalf n tp
  let up := tp % 2 == 0
  if s.axcType n = 1 && s.stepRuns n && s.stepStrong n then
    if up then s.stepStrongWaves n (H + s.axcHalf n (tp + 1)) ra rb else c.wave.map (fun w => shiftWave w c.half)
  else
    let d := if s.axcType n = 1 then (if s.stepRuns n then s.stepQuiet n else [qq 1 2, qq 1 2, qq 1 2, qq 1 2]) else c.duty
    d.map (fun q => halfWave up H (s.onTicks n H q))

/-- What a turning point does to a channel in PRECHG or RUN. [DEDUCED: log 54] -/
def State.turn (s : State) (n tp : Nat) (ra rb : Option Nat) : State :=
  let s :=
    if s.axcType n = 1 then (if s.stepRuns n then s.stepRead n else s.setStepCh n { s.stepCh n with on := false })
    else match s.dutySource n tp with
      | some l => s.loadDuties n l
      | none => s
  if s.axcSt n = 2 ∧ ((s.axcCh n).sw ∨ tp % 2 = 0) then
    let s := if s.axcType n ≠ 1 ∧ (s.axcCh n).duty = [] then s.loadDuties n [] else s
    let c := s.axcCh n
    let before : List (Bool × Nat) :=
      if c.sw then (List.range 4).map (fun h => waveAt (c.before.getD h (false, 256)) (c.wave.getD h []) c.half)
      else [(false, 256), (false, 256), (false, 256), (false, 256)]
    let w := s.newWaves n tp ra rb
    s.setAxcCh n { c with sw := true, before := before, wave := w, half := s.axcHalf n tp }
  else s

/-- DUTY_LOAD (R186–R189): a carrier turning point of channel n. In strong mode the sinc1 currents reach their targets
`reachA` and `reachB` × 10 ns after the valley. [DEDUCED: log 54] -/
def dutyLoad (n : Nat) (ra rb : Option Nat) (s : State) : State :=
  let k := s.axcSync n
  if k ≠ 0 ∧ !s.hasT0 then s
  else
    let tp := (s.axcCh n).tp % s.axcTurns n
    let s := if 1 ≤ k ∧ k ≤ 6 then s.atOffset (((carrierHalves k).getD tp (0, 0)).1 * 5 / 2) else s
    let s := if s.axcSt n = 1 ∨ s.axcSt n = 2 then s.turn n tp ra rb else s
    s.setAxcCh n { s.axcCh n with tp := (tp + 1) % s.axcTurns n }

def execDutyLoad (n : BitVec 4) (reachA reachB : Option (BitVec 12)) (s : State) : Host.Outcome State Fault Refusal :=
  s.goesTo (s.alive 6 (dutyLoad n.toNat (reachA.map (fun x => x.toNat)) (reachB.map (fun x => x.toNat)) s))

/-- The latch of the duty inputs for current tick B (R189). -/
def State.axcLatchB (s : State) : State :=
  (List.range 16).foldl (fun s n => s.setAxcCh n { s.axcCh n with tickB := dutyInputs s.consumer n }) s

/-! ### Commands of a channel (R194) -/

/-- A command of channel n. -/
def chanCmd (n : Nat) (a : Sys2Proof.CmdArg) (code : Nat) (permitted : Bool) : Cmd :=
  ⟨Reg.AXC_CH_CMD (n / 4) (n % 4), .priv, code, a.arg == 0, false, permitted, true⟩

/-- ENABLE (R190): AXn_EN rises, PRECHG begins; the duty inputs hold nothing yet (R88). [DEDUCED: log 58] -/
def axcEnable (m : Sys2Proof.Master) (n : Nat) (a : Sys2Proof.CmdArg) (s : State) : State :=
  s.command m a (chanCmd n a 1 (s.axcSt n == 0 && fld (s.reg (Reg.AXC_CH_CFG (n / 4) (n % 4))) 1 0 != 3)) fun s =>
    let s := (List.range 4).foldl (fun s h => s.renewCons (0xD000 + n * 256 + h)) s
    (s.setAxcCh n { s.axcCh n with en := true, enAt := s.now, sw := false, wave := [], before := [], tickB := [],
                                   duty := [] }).setAxcSt n 1

def execAxcEnable (m : Sys2Proof.Master) (n : BitVec 4) (a : Sys2Proof.CmdArg) (s : State) :
    Host.Outcome State Fault Refusal := s.goesTo (axcEnable m n.toNat a s)

/-- DISABLE (R190). -/
def axcDisable (m : Sys2Proof.Master) (n : Nat) (a : Sys2Proof.CmdArg) (s : State) : State :=
  s.command m a (chanCmd n a 2 (s.axcSt n == 1 || s.axcSt n == 2)) fun s => s.axcOff n

def execAxcDisable (m : Sys2Proof.Master) (n : BitVec 4) (a : Sys2Proof.CmdArg) (s : State) :
    Host.Outcome State Fault Refusal := s.goesTo (axcDisable m n.toNat a s)

/-- RESET (R193): FAULT returns to OFF, the CAUSE bits stay. -/
def axcReset (m : Sys2Proof.Master) (n : Nat) (a : Sys2Proof.CmdArg) (s : State) : State :=
  s.command m a (chanCmd n a 3 (s.axcSt n == 3)) fun s => s.setAxcSt n 0

def execAxcReset (m : Sys2Proof.Master) (n : BitVec 4) (a : Sys2Proof.CmdArg) (s : State) :
    Host.Outcome State Fault Refusal := s.goesTo (axcReset m n.toNat a s)

/-- ABORT of a channel (R190). -/
def axcChannelAbort (m : Sys2Proof.Master) (n : Nat) (a : Sys2Proof.CmdArg) (s : State) : State :=
  s.abort m a (Reg.AXC_CH_CMD (n / 4) (n % 4)) .priv fun _ s => s.axcOff n

def execAxcChannelAbort (m : Sys2Proof.Master) (n : BitVec 4) (a : Sys2Proof.CmdArg) (s : State) :
    Host.Outcome State Fault Refusal := s.goesTo (axcChannelAbort m n.toNat a s)

/-! ### Commands of a block (R217) -/

/-- A staged set without a reserved encoding (R52, R218, R219). -/
def State.axcStagedOk (s : State) (k : Nat) : Bool :=
  (List.range 4).all (fun c =>
    let per := fld (s.reg (Reg.AXC_CH_PER_S k c)) 13 0
    fld (s.reg (Reg.AXC_CH_CFG_S k c)) 1 0 != 3 && 1000 ≤ per && per ≤ 12500)

/-- SWAP: rejected where it would change the TYPE of a channel in PRECHG or RUN. -/
def axcSwap (m : Sys2Proof.Master) (k : Nat) (a : Sys2Proof.CmdArg) (s : State) : State :=
  let clash := (List.range 4).any (fun c => (s.axcSt (4 * k + c) == 1 || s.axcSt (4 * k + c) == 2) &&
    fld (s.reg (Reg.AXC_CH_CFG_S k c)) 1 0 != fld (s.reg (Reg.AXC_CH_CFG k c)) 1 0)
  s.command m a ⟨Reg.AXC_CMD k, .priv, 2, a.arg == 0, true, !clash, s.axcStagedOk k⟩ fun s => s.setState (0x14 + k) 2

def execAxcSwap (m : Sys2Proof.Master) (k : BitVec 2) (a : Sys2Proof.CmdArg) (s : State) :
    Host.Outcome State Fault Refusal := s.goesTo (axcSwap m k.toNat a s)

/-- The swap instant of block k: the staged set becomes active, and every carrier restarts with a valley. -/
def State.axcSwapAtT0 (s : State) (k : Nat) : State :=
  if s.swapDue (Reg.AXC_CMD k) 2 then
    let s := (List.range 4).foldl (fun s c =>
      (s.setRegs [(Reg.AXC_CH_CFG k c, s.reg (Reg.AXC_CH_CFG_S k c)), (Reg.AXC_CH_PER k c, s.reg (Reg.AXC_CH_PER_S k c)),
        (Reg.AXC_CH_DT k c, s.reg (Reg.AXC_CH_DT_S k c))]).setAxcCh (4 * k + c) { s.axcCh (4 * k + c) with tp := 0 }) s
    (s.setState (0x14 + k) 1).complete (Reg.AXC_CMD k)
  else s

/-- ABORT of a block (R68): PRECHG and RUN channels go to OFF; a pending SWAP is cancelled. [DEDUCED: log 30] -/
def axcAbort (m : Sys2Proof.Master) (k : Nat) (a : Sys2Proof.CmdArg) (s : State) : State :=
  s.abort m a (Reg.AXC_CMD k) .priv fun _ s =>
    ((List.range 4).foldl (fun s c => (s.abortChannel (Reg.AXC_CH_CMD k c)).axcOff (4 * k + c)) s).setState (0x14 + k) 1

def execAxcAbort (m : Sys2Proof.Master) (k : BitVec 2) (a : Sys2Proof.CmdArg) (s : State) :
    Host.Outcome State Fault Refusal := s.goesTo (axcAbort m k.toNat a s)

/-! ### Events of a channel -/

/-- PRECHG_ELAPSED (R193): RUN; switching starts at the next valley. -/
def prechgElapsed (n : Nat) (s : State) : State :=
  if s.axcSt n = 1 then (s.advanceTo ((s.axcCh n).enAt + s.axcPrechg n * 1000)).setAxcSt n 2 else s

def execPrechgElapsed (n : BitVec 4) (s : State) : Host.Outcome State Fault Refusal := s.goesTo (s.alive 6 (prechgElapsed n.toNat s))

/-- AXIS_TRIP (R191): a fault input with FLTEN = 1, a readback that differs, or both. -/
def axisTrip (n : Nat) (desat enrb : Bool) (s : State) : State :=
  let d := desat && bitOf (s.reg (Reg.AXC_CH_FLT (n / 4) (n % 4))) 8
  if d || enrb then s.axcTrip n (b2n d + 4 * b2n enrb) else s

def execAxisTrip (n : BitVec 4) (desat enrb : Bool) (s : State) : Host.Outcome State Fault Refusal :=
  s.goesTo (s.alive 6 (axisTrip n.toNat desat enrb s))

/-! ### t0 -/

/-- A channel at t0: a synchronous carrier is aligned (R186), a stepper takes its position, and the outputs of FC rate are
published (R195). -/
def State.axcAtT0 (s : State) (n : Nat) : State :=
  let k := s.axcSync n
  let s := if k = 0 then s
    else s.setAxcCh n { s.axcCh n with tp := if k = 7 then (s.reg Reg.CYC_COUNT).toNat % 2 else 0 }
  let s := s.stepAtT0 n
  let ep (q : Nat) : Nat := 0xD000 + n * 256 + q
  let st := s.reg (Reg.STEP_CH_STAT n)
  let s := s.pubInt (ep 128) ((s.axcSt n + fld (s.reg (Reg.AXC_CH_CAUSE (n / 4) (n % 4))) 3 0 * 256 +
    b2n (bitOf st 12) * 0x10000 + b2n (bitOf st 13) * 0x20000 : Nat) : Int)
  if s.axcType n = 1 then
    (s.pubBf (ep 130) (bf32Ieee ⟨s.stepIset n, -12⟩)).pubInt (ep 131) (satInt 32 (s.reg (Reg.STEP_CH_LOST_CNT n)).toNat).1
  else s

end Sys2Proof.Machine
end

