-- ==== Sys2Proof/Machine/Seq.lean ====
section
/-!
DEFINITION. The recipe engine (R226–R245, R254, R255): reading signals, records and conditions, setpoint actions and
ramps, the evaluation of a channel, its t0, and its commands.
-/
namespace Sys2Proof.Machine

/-! ### Reading signals (R227) -/

/-- The order of a value in its encoding; a NaN has none. −0 equals +0. -/
def sigKey (enc : Nat) (w : Word) : Option Int :=
  if enc = 2 then
    let m := w.toNat % 0x80000000
    if 0x7F800000 < m then none else some (if bitOf w 31 then -(m : Int) else m)
  else some w.toInt

/-- What ILK and SEQ read of a signal: its value's order, and whether it is VALID. -/
def State.readSig (s : State) (id : Nat) : Option Int × Bool :=
  let e := s.route id
  if entryOn e then
    let p := s.present id
    let k := sigKey (eENC e) p.1
    (k, stHas p.2 sVALID && k.isSome)
  else (none, false)

/-! ### A channel -/

/-- The hidden part of channel c. -/
def State.seqCh (s : State) (c : Nat) : SeqChan := smGet (fun _ => {}) s.seq.chans c

/-- Store it. -/
def State.setSeqCh (s : State) (c : Nat) (x : SeqChan) : State :=
  { s with seq := { s.seq with chans := smSet (fun _ => {}) s.seq.chans c x } }

/-- The state code: 0 IDLE, 1 STARTING, 2 RUN, 3 PAUSED, 4 DONE, 5 ABORTING, 6 ABORTED (R255). -/
def State.seqSt (s : State) (c : Nat) : Nat := fld (s.reg (Reg.SEQ_CH_STATE c)) 3 0
def State.setSeqSt (s : State) (c st : Nat) : State :=
  s.setReg (Reg.SEQ_CH_STATE c) (setFld (s.reg (Reg.SEQ_CH_STATE c)) 3 0 st)

/-- Bits of STATE: 8 HOST, 9 ILK, 10 WARMWAIT, 11 release latch full. -/
def State.seqBit (s : State) (c b : Nat) : Bool := bitOf (s.reg (Reg.SEQ_CH_STATE c)) b
def State.setSeqBit (s : State) (c b : Nat) (v : Bool) : State :=
  s.setReg (Reg.SEQ_CH_STATE c) (setBit (s.reg (Reg.SEQ_CH_STATE c)) b v)

/-- The present step. -/
def State.seqStep (s : State) (c : Nat) : Nat := fld (s.reg (Reg.SEQ_CH_STEP c)) 15 0

/-- E. -/
def State.seqE (s : State) (c : Nat) : Nat := (s.reg (Reg.SEQ_CH_ELAPSED c)).toNat

/-- The release latch, 0xFFFF when empty (R237). -/
def State.seqLatch (s : State) (c : Nat) : Nat := fld (s.reg (Reg.SEQ_CH_RELEASE c)) 15 0
def State.setSeqLatch (s : State) (c v : Nat) : State :=
  (s.setReg (Reg.SEQ_CH_RELEASE c) (wordOfNat v)).setSeqBit c 11 (v != 0xFFFF)

/-- Set SEQ_EVT bits for a channel (R254). -/
def State.seqEvt (s : State) (c : Nat) (m : Nat) : State :=
  (s.orReg Reg.SEQ_EVT_MAP (bitMask c)).raiseEvt 0x1C Reg.SEQ_EVT (some Reg.SEQ_EVT_EN) (wordOfNat m)

/-- Set an ERR bit of a channel: 0 BADHDR, 1 BADREC, 2 FETCH, 3 BADACT, 4 RAMPINV, with its event (R254, R255). -/
def State.seqErr (s : State) (c b : Nat) : State :=
  let s := s.orReg (Reg.SEQ_CH_ERR c) (bitMask b)
  match b with
  | 1 => s.seqEvt c 0x10
  | 2 => s.seqEvt c 0x40
  | 3 => s.seqEvt c 0x80
  | _ => s

/-- The pause causes act: RUN to PAUSED with a cause, PAUSED to RUN without (R241, R242). -/
def State.seqPauses (s : State) (c : Nat) : State :=
  let cause := s.seqBit c 8 || s.seqBit c 9
  if s.seqSt c = 2 ∧ cause then (s.setSeqSt c 3).seqEvt c 8
  else if s.seqSt c = 3 ∧ !cause then s.setSeqSt c 2
  else s

/-- The pausing rules that name a channel, each with its ARES: the ILK cause follows them, and stays until RESUME where
one without ARES had paused (R241). -/
def State.seqRules (s : State) (c : Nat) (rules : List (Nat × Bool)) : State :=
  let x := s.seqCh c
  let nonAres := x.nonAres || rules.any (fun r => !r.2)
  let sticky := x.sticky || (rules.isEmpty && !x.rules.isEmpty && x.nonAres)
  let x := { x with rules := rules, sticky := sticky, nonAres := if rules.isEmpty && !sticky then false else nonAres }
  ((s.setSeqCh c x).setSeqBit c 9 (!rules.isEmpty || sticky)).seqPauses c

/-- A newly active rule with ABORT names the channel (R235, R240, R250). -/
def State.seqIlkAbort (s : State) (c rule : Nat) : State :=
  let st := s.seqSt c
  if st = 5 then s.inc (Reg.SEQ_CH_ABTIGN c)
  else if st = 1 ∨ st = 2 ∨ st = 3 then
    let x := s.seqCh c
    s.setSeqCh c { x with ilkAbt := some (min rule (x.ilkAbt.getD rule)) }
  else s

/-! ### Recipes (R229–R233) -/

/-- The header at a base, or what is wrong with it (R229, R242). [DEDUCED: log 66] -/
def State.seqHeader (s : State) (base : Nat) : Except Nat SeqHdr :=
  if !s.inGeneral base 64 then .error 2
  else
    let w (i : Nat) : Word := s.word (base + 4 * i)
    let h : SeqHdr := ⟨base, fld (w 0) 15 0, fld (w 1) 31 16, fld (w 1) 15 0, w 2, (w 3).toNat⟩
    if fld (w 0) 31 16 = 0x5EC1 ∧ 1 ≤ h.nstep ∧ h.first < h.nstep ∧ (h.abortStep = 0xFFFF ∨ h.abortStep < h.nstep)
        ∧ 64 + 4 * h.nstep ≤ 16 * h.len then .ok h
    else .error 0

/-- An action and a condition as they stand in memory (R231, R232). [DEDUCED: log 66] -/
def State.seqAct (s : State) (a : Nat) : SeqAct :=
  let w := s.word a
  ⟨fld w 31 30, fld w 12 0, s.word (a + 4), (s.word (a + 8)).toNat⟩
def State.seqCond (s : State) (a : Nat) : SeqCond :=
  let w := s.word a
  let w1 := s.word (a + 4)
  ⟨fld w 31 28, fld w 27 26, fld w1 31 13 * 2 ^ fld w 25 22, bitOf w 21, fld w 15 0, fld w1 12 0, s.word (a + 8), s.word (a + 12)⟩

/-- A condition with a defined TYPE and MODE (R232, R233). -/
def SeqCond.ok (c : SeqCond) (abort : Bool) : Bool :=
  1 ≤ c.typ && c.typ ≤ 5 && !(abort && c.typ == 5) && !(c.typ == 3 && 2 ≤ c.mode) && !(c.typ == 4 && c.mode == 3)

/-- A branch field: END, or a step of the recipe. -/
def branchOk (h : SeqHdr) (n : Nat) : Bool := n == 0xFFFF || decide (n < h.nstep)

/-- The record of a step, or what is wrong: 1 BADREC, 2 FETCH (R230, R233, R236). -/
def State.seqFetchRec (s : State) (h : SeqHdr) (i : Nat) : Except Nat SeqRec :=
  if !s.inGeneral (h.base + 64 + 4 * i) 4 then .error 2
  else
    let off := (s.word (h.base + 64 + 4 * i)).toNat
    let a := h.base + 16 * off
    if h.len ≤ off then .error 1
    else if !s.inGeneral a 16 then .error 2
    else
      let w := s.word a
      let nact := fld w 31 25
      let nend := fld w 24 21
      let nabt := fld w 20 18
      let n := 1 + nact + nend + nabt
      if 64 < nact ∨ 8 < nend ∨ 4 < nabt ∨ h.len < off + n then .error 1
      else if !s.inGeneral a (16 * n) then .error 2
      else
        let acts := (List.range nact).map (fun k => s.seqAct (a + 16 + 16 * k))
        let ends := (List.range nend).map (fun k => s.seqCond (a + 16 * (1 + nact + k)))
        let abts := (List.range nabt).map (fun k => s.seqCond (a + 16 * (1 + nact + nend + k)))
        let nd := fld (s.word (a + 8)) 31 16
        if acts.all (fun x => x.ramp != 3) && ends.all (fun x => x.ok false && branchOk h x.next)
            && abts.all (fun x => x.ok true && branchOk h x.next) && branchOk h nd
        then .ok ⟨fld w 15 0, (s.word (a + 4)).toNat, nd, acts, ends, abts⟩
        else .error 1

/-! ### Actions and ramps (R238, R239) -/

/-- A number rounded to binary64. -/
def b64Round (x : Dyadic) : Dyadic :=
  match floatDecode 11 52 (floatEncode 11 52 false x false).1 with
  | .fin y _ => y
  | _ => x

/-- k / RT, and r of it, in binary64. -/
def rampB64 (ramp k rt : Nat) : Dyadic :=
  let x := b64Round (ratSticky k rt 1100)
  if ramp = 1 then x
  else b64Round ((b64Round (x.mul x)).mul (b64Round ((⟨3, 0⟩ : Dyadic).add (x.scale 1).neg)))

/-- A BF32 ramp value: v0 + (TARGET − v0) × r in binary64, rounded once to binary32. -/
def rampBf32 (v0 target : Word) (ramp k rt : Nat) : Word :=
  let r := rampB64 ramp k rt
  match bf32Val v0, bf32Val target with
  | .fin a na, .fin t _ =>
    let d := b64Round (t.add a.neg)
    let y := b64Round (a.add (b64Round (d.mul r)))
    wordOfNat (floatEncode 8 23 false y (na && decide (d.m < 0))).1
  | .fin _ _, .inf neg => if r.m = 0 then bf32NaN else if neg then 0xFF800000 else 0x7F800000
  | _, _ => bf32NaN

/-- r(k / RT) exactly, as a fraction (R238). -/
def rampFrac (ramp k rt : Nat) : Int × Nat := if ramp = 1 then (k, rt) else ((k * k : Nat) * (3 * rt - 2 * k : Int), rt * rt * rt)

/-- The value of an action at its k (R238). -/
def SeqDrive.val (d : SeqDrive) : Word :=
  if d.act.ramp = 0 ∨ d.act.rt = 0 ∨ d.act.rt ≤ d.k then d.act.target
  else if d.enc = 2 then rampBf32 d.v0 d.act.target d.act.ramp d.k d.act.rt
  else
    let r := rampFrac d.act.ramp d.k d.act.rt
    wordOfInt (d.v0.toInt + rneDiv ((d.act.target.toInt - d.v0.toInt) * r.1) r.2)

/-- What a channel drives, put at its rank among the sources of ranks 2–4 (R28, R239); a signal that it begins to drive
beside another channel is a conflict (R29). -/
def State.seqApply (s : State) (c : Nat) : State :=
  let x := s.seqCh c
  let rank := if x.rank3 then 3 else 4
  let mine (o : Override) : Bool := (o.rank == 3 || o.rank == 4) && o.src == c
  let before := (s.sig.ovr.filter (fun o => mine o && o.rank == rank)).map (fun o => o.id)
  let others := (s.sig.ovr.filter (fun o => o.rank == rank && o.src != c)).map (fun o => o.id)
  let new := x.drv.map (fun d => (⟨d.act.id, rank, c, d.val⟩ : Override))
  let clash := (new.map (fun o => o.id)).filter (fun i => !before.contains i && others.contains i)
  let s := { s with sig := { s.sig with ovr := s.sig.ovr.filter (fun o => !mine o) ++ new } }
  clash.foldl (fun s i => ((s.inc Reg.SEQ_CONFL_CNT).setReg Reg.SEQ_CONFL_SIG (wordOfNat i)).seqEvt c 0x20) s

/-- Ramps go on by one FC (R239). -/
def State.seqAdvance (s : State) (c : Nat) : State :=
  let x := s.seqCh c
  (s.setSeqCh c { x with drv := x.drv.map (fun d => { d with k := min (d.k + 1) d.act.rt }) }).seqApply c

/-- One action of a step (R238, R239). -/
def State.seqDo (s : State) (c : Nat) (seen : List Nat) (a : SeqAct) : State :=
  let x := s.seqCh c
  let e := s.route a.id
  let held := x.drv.any (fun d => d.act.id == a.id)
  if seen.contains a.id || !entryOn e || (!held && decide (256 ≤ x.drv.length)) then (s.inc Reg.SEQ_BADACT_CNT).seqErr c 3
  else
    let p := s.present a.id
    let ok := stHas p.2 sVALID && (sigKey (eENC e) p.1).isSome
    let step := a.ramp == 0 || a.rt == 0
    let v0 := if ok || step then p.1 else a.target
    let d : SeqDrive := ⟨a, v0, eENC e, 0⟩
    let s := s.setSeqCh c { x with drv := if held then x.drv.map (fun y => if y.act.id = a.id then d else y) else x.drv ++ [d] }
    if ok || step then s else s.seqErr c 4

/-- The actions of a step; the lowest-indexed one on a signal acts. -/
def State.seqActs (s : State) (c : Nat) (l : List SeqAct) : State :=
  ((l.foldl (fun (r : State × List Nat) a => (r.1.seqDo c r.2 a, a.id :: r.2)) (s, [])).1).seqApply c

/-! ### Steps and aborts (R234, R236, R240) -/

/-- A step begins at the next t0: its first values are computed, and its conditions take as previous values those of the
deciding evaluation, the first step after START none (R232). -/
def State.seqEnter (s : State) (c i : Nat) (r : SeqRec) (first : Bool) : State :=
  let mem (d : SeqCond) : SeqMem := if first then {} else { prev := some (smGet (fun _ => none) s.seq.snap d.id) }
  let s := s.seqActs c r.acts
  s.setSeqCh c { s.seqCh c with next := some (some (i, r, (r.abts ++ r.ends).map mem)), fetch := none }

/-- Commands that a channel's state ends: ABORT in ABORTING or past it, START in ABORTED (R240, R243). -/
def State.seqSettle (s : State) (c : Nat) : State :=
  let u := Reg.SEQ_CH_CMD c
  let st := s.seqSt c
  let s := if (st = 5 ∨ st = 6 ∨ st = 4) ∧ s.busyWith u 0x0F then s.complete u else s
  if st = 6 ∧ s.busyWith u 1 then s.complete u else s

/-- A channel enters ABORTED and keeps its present values at rank 3 (R240). [DEDUCED: log 67] -/
def State.seqAborted (s : State) (c : Nat) : State :=
  let x := s.seqCh c
  let drv := x.drv.map (fun d => { d with act := { d.act with ramp := 0, target := d.val } })
  ((((s.setSeqCh c { x with rank3 := true, drv := drv, fetch := none, next := none, inc := false }).seqApply c).setSeqSt c 6)).seqSettle c

/-- An abort is decided (R240): the source, its index, and the target step. [DEDUCED: log 67] -/
def State.seqAbort (s : State) (c src idx target : Nat) (code : Option Nat) : State :=
  let x := s.seqCh c
  let s := s.setReg (Reg.SEQ_CH_ABTINFO c) (wordOfNat (src * 0x10000000 + idx % 1024 * 0x10000 + s.seqStep c))
  let s := match code with
    | some k => (s.setReg (Reg.SEQ_CH_LAST c) (wordOfNat (s.seqStep c * 0x10000 + k))).inc (Reg.SEQ_CH_TRANS_CNT c)
    | none => s
  let s := (s.setSeqCh c { x with rank3 := true, cmdAbt := false, ilkAbt := none, fetch := none, next := none, inc := false }).seqApply c
  let s := (s.seqEvt c 4).setSeqSt c 5
  if target = 0xFFFF then s.seqAborted c
  else
    let s := s.seqSettle c
    match (if (x.hdr.map (fun h => h.abortStep)) = some target then x.abrec else none) with
    | some r => s.seqEnter c target r false
    | none => s.setSeqCh c { s.seqCh c with fetch := some ⟨false, target, true⟩ }

/-- The ABORT_STEP of a channel's recipe. -/
def SeqChan.abortStep (x : SeqChan) : Nat := (x.hdr.map (fun h => h.abortStep)).getD 0xFFFF

/-- A record could not be fetched (2) or is invalid (1): the channel enters abort (R233, R236); in ABORTING, where it has
no other step to go to, it ends in ABORTED (R240). -/
def State.seqFetchFails (s : State) (c err : Nat) : State :=
  let x := s.seqCh c
  let entering := (x.fetch.map (fun f => f.abort)).getD false
  let s := s.seqErr c err
  if s.seqSt c = 5 ∧ !entering then (s.inc (Reg.SEQ_CH_ABTIGN c)).seqAborted c
  else s.seqAbort c (if err = 2 then 5 else 4) 0 x.abortStep none

/-- Step FIRST begins at the next t0 (R242); where its record was invalid the channel enters abort (R233). -/
def State.seqBegin (s : State) (c : Nat) : State :=
  let x := s.seqCh c
  match x.hdr, x.first with
  | some h, some r => s.seqEnter c h.first r true
  | _, _ => (s.seqErr c 1).seqAbort c 4 0 x.abortStep none

/-- START fails: BADHDR, BADREC of the ABORT_STEP record, or FETCH (R242). -/
def State.seqStartFails (s : State) (c err : Nat) : State :=
  let x := s.seqCh c
  ((((s.seqErr c err).setSeqCh c { x with rank3 := true, fetch := none, cmdAbt := false, ilkAbt := none }).seqApply c).setSeqSt c 6).seqSettle c

/-- The next t0 is at least 25 µs after START (R242). -/
def State.seqStartDue (s : State) (c : Nat) : Bool := (s.seqCh c).startAt + 25000 ≤ s.t0 + 31250

/-- The record of ABORT_STEP, where the header names one (R234, R236). -/
def State.seqAbortRec (s : State) (h : SeqHdr) : Except Nat (Option SeqRec) :=
  if h.abortStep = 0xFFFF then .ok none else (s.seqFetchRec h h.abortStep).map some

/-- The fetch of START ends (R236, R242): header, ABORT_STEP record and FIRST record. Where this FC's evaluation has
passed and the next t0 is the first step's, its values are computed now. -/
def State.seqStartFetched (s : State) (c : Nat) : State :=
  let base := 0x100000000 * fld (s.reg (Reg.SEQ_CH_BASE_HI c)) 7 0 + (s.reg (Reg.SEQ_CH_BASE_LO c)).toNat / 64 * 64
  match s.seqHeader base with
  | .error e => s.seqStartFails c e
  | .ok h =>
    match s.seqAbortRec h with
    | .error e => s.seqStartFails c e
    | .ok ab =>
      let f := s.seqFetchRec h h.first
      match f with
      | .error 2 => s.seqStartFails c 2
      | _ =>
        let s := s.setSeqCh c { s.seqCh c with hdr := some h, abrec := ab, first := f.toOption, ready := true, fetch := none }
        if s.hasT0 && s.seq.evald && s.seqStartDue c then s.seqBegin c else s

/-- STEP_FETCH_COMPLETE (R236): the fetch of channel c has ended, `err` with an uncorrectable memory error. [DEDUCED: log 65] -/
def stepFetchComplete (c : Nat) (err : Bool) (s : State) : State :=
  let x := s.seqCh c
  match x.fetch with
  | some f =>
    if f.start then (if err then s.seqStartFails c 2 else s.seqStartFetched c)
    else
      match x.hdr with
      | some h =>
        match (if err then .error 2 else s.seqFetchRec h f.step) with
        | .ok r => s.seqEnter c f.step r false
        | .error e => s.seqFetchFails c e
      | none => s.seqFetchFails c 2
  | none => s

def execStepFetchComplete (c : BitVec 4) (err : Bool) (s : State) : Host.Outcome State Fault Refusal :=
  s.goesTo (s.alive 5 (stepFetchComplete c.toNat err s))

/-- At the apply latch a fetch that has not ended has failed (R236); that of START only where the next t0 is its first
step's. [DEDUCED: log 65] -/
def State.seqAtLatch (s : State) : State :=
  (List.range 16).foldl (fun s c =>
    match (s.seqCh c).fetch with
    | some f => if f.start then (if s.seqStartDue c then s.seqStartFails c 2 else s) else s.seqFetchFails c 2
    | none => s) s

/-! ### Conditions (R232) -/

/-- One condition at an evaluation: whether it fires, and its memory after it; `count` is clear while the channel is
paused (R235). -/
def State.seqTest (s : State) (c : Nat) (d : SeqCond) (m : SeqMem) (abort count : Bool) : Bool × SeqMem :=
  if d.typ = 1 then (decide (d.a.toNat ≤ s.seqE c + 1), m)
  else
    let (cur, valid) := s.readSig d.id
    let enc := eENC (s.route d.id)
    let prev := m.prev.getD cur
    let m := { m with prev := some cur }
    if !valid then (abort && !d.nvf, if count then { m with band := 0 } else m)
    else
      match cur with
      | none => (false, m)
      | some x =>
        let a := sigKey enc d.a
        let b := sigKey enc d.b
        match d.typ with
        | 2 =>
          match a with
          | none => (false, m)
          | some a =>
            (match d.mode with
              | 0 => prev.any (fun p => decide (p < a)) && decide (a ≤ x)
              | 1 => prev.any (fun p => decide (a < p)) && decide (x ≤ a)
              | 2 => decide (a ≤ x)
              | _ => decide (x ≤ a), m)
        | 3 =>
          let inside := a.any (fun a => decide (a ≤ x)) && b.any (fun b => decide (x ≤ b))
          let hit := if d.mode = 0 then inside else !inside
          let band := if count then (if hit then m.band + 1 else 0) else m.band
          (hit && decide (max d.hold 1 ≤ band), { m with band := band })
        | _ =>
          let rise := prev.any (fun p => p == 0) && x != 0
          let fall := prev.any (fun p => p != 0) && x == 0
          (if d.mode = 0 then rise else if d.mode = 1 then fall else rise || fall, m)

/-- Conditions in order: those that fire, by index, and the memories. -/
def State.seqTests (s : State) (c : Nat) (abort count : Bool) : List (SeqCond × SeqMem) → List Bool × List SeqMem
  | [] => ([], [])
  | (d, m) :: l =>
    let r := s.seqTest c d m abort count
    let t := s.seqTests c abort count l
    (r.1 :: t.1, r.2 :: t.2)

/-! ### The evaluation of a channel (R235, R237, R244) -/

/-- The first condition that fires, with its index. -/
def firstFiring (l : List Bool) : Option Nat := l.findIdx? (fun b => b)

/-- A step ends without an abort (R234, R235). -/
def State.seqEnds (s : State) (c code target : Nat) : State :=
  let s := (s.setReg (Reg.SEQ_CH_LAST c) (wordOfNat (s.seqStep c * 0x10000 + code))).inc (Reg.SEQ_CH_TRANS_CNT c)
  if target = 0xFFFF then s.setSeqCh c { s.seqCh c with next := some none }
  else s.setSeqCh c { s.seqCh c with fetch := some ⟨false, target, false⟩ }

/-- An ABORT command or a newly active rule, where one waits: its source, index and outcome code. -/
def SeqChan.abortWaits (x : SeqChan) : Option (Nat × Nat × Nat) :=
  if x.cmdAbt then some (1, 0, 13) else x.ilkAbt.map (fun r => (2, r, 14))

/-- A channel in RUN, PAUSED or ABORTING. -/
def State.seqEvalRun (s : State) (c : Nat) (r : SeqRec) : State :=
  let st := s.seqSt c
  let paused := st == 3
  let x := s.seqCh c
  let na := r.abts.length
  let ta := if st = 5 then ([], x.mems.take na) else s.seqTests c true (!paused) (r.abts.zip (x.mems.take na))
  let te := s.seqTests c false (!paused) (r.ends.zip (x.mems.drop na))
  let rel (d : SeqCond) : Bool := d.typ == 5
  let want := r.ends.any rel && s.seqLatch c == s.seqStep c
  let ww := s.warm && want
  let s := if ww && !s.seqBit c 10 then s.seqEvt c 0x100 else s
  let s := s.setSeqBit c 10 ww
  let fires := (r.ends.zip te.1).map (fun q => if rel q.1 then !s.warm && s.seqLatch c == s.seqStep c else q.2)
  let s := s.setSeqCh c { x with mems := ta.2 ++ te.2, cmdAbt := false, ilkAbt := none }
  let adv := if paused then s else s.seqAdvance c
  match (if st = 5 then none else x.abortWaits) with
  | some (src, i, code) => adv.seqAbort c src i x.abortStep (some code)
  | none =>
    match firstFiring ta.1 with
    | some i => adv.seqAbort c 3 i ((r.abts.map (fun d => d.next)).getD i 0xFFFF) (some (9 + i))
    | none =>
      if paused then s
      else
        match firstFiring fires with
        | some i =>
          let emptied := if (r.ends.map rel).getD i false then adv.setSeqLatch c 0xFFFF else adv
          emptied.seqEnds c i ((r.ends.map (fun d => d.next)).getD i 0xFFFF)
        | none =>
          if r.dur ≠ 0 ∧ s.seqE c + 1 = r.dur then adv.seqEnds c 8 r.nextDef
          else adv.setSeqCh c { adv.seqCh c with inc := true }

/-- One channel at the evaluation. -/
def State.seqEval (s : State) (c : Nat) : State :=
  let x := s.seqCh c
  match s.seqSt c with
  | 0 => s
  | 1 =>
    let s := s.seqAdvance c
    if x.ready then
      match x.abortWaits with
      | some (src, i, code) =>
        let s := if x.cmdAbt && s.busyWith (Reg.SEQ_CH_CMD c) 1 then s.abortChannel (Reg.SEQ_CH_CMD c) else s
        s.seqAbort c src i x.abortStep (some code)
      | none => if s.seqStartDue c then s.seqBegin c else s
    else s
  | 2 | 3 | 5 => match x.cur with
    | some r => s.seqEvalRun c r
    | none => s
  | _ => s.seqAdvance c

/-- The outputs of a channel (R245). -/
def State.seqPublish (s : State) (c : Nat) : State :=
  let ep (q : Nat) : Nat := 0xB000 + c * 256 + q
  let x := s.seqCh c
  let st := s.reg (Reg.SEQ_CH_STATE c)
  let s := s.pubInt (ep 0) ((fld st 3 0 + fld st 10 8 * 256 : Nat) : Int)
  let s := s.pubInt (ep 1) (s.seqStep c : Int)
  let s := s.pubInt (ep 2) (s.reg (Reg.SEQ_CH_ELAPSED c)).toInt
  let s := s.pubInt (ep 3) (fld (s.reg (Reg.SEQ_CH_LAST c)) 3 0 : Nat)
  let s := s.pubInt (ep 4) (match x.hdr with
    | some h => h.rid.toInt
    | none => 0)
  s.pubInt (ep 5) (fld (s.reg (Reg.SEQ_CH_STEP c)) 31 16 : Nat)

/-- A block ABORT is done once every affected channel is in ABORTING (R240). -/
def State.seqBlockSettle (s : State) : State :=
  if s.busyWith Reg.SEQ_CMD 0x0F && !(List.range 16).any (fun c => (s.seqCh c).cmdAbt) then s.complete Reg.SEQ_CMD else s

/-- SEQ_EVALUATION (R226, R235, R245): t0 + 5.00 µs to t0 + 6.50 µs, once per FC. [DEDUCED: log 65] -/
def seqEvaluation (s : State) : State :=
  if s.hasT0 && !s.seq.evald then
    let s := s.atOffset 5000
    let snap := s.sig.routes.foldl (fun m q => smSet (fun _ => none) m q.1 (s.readSig q.1).1) []
    let s := { s with seq := { s.seq with evald := true, snap := snap } }
    let s := (List.range 16).foldl (fun s c => s.seqEval c) s
    let s := s.seqBlockSettle.atOffset 6500
    (List.range 16).foldl (fun s c => s.seqPublish c) s
  else s

def execSeqEvaluation (s : State) : Host.Outcome State Fault Refusal := s.goesTo (s.alive 5 (seqEvaluation s))

/-! ### t0 (R234, R242) -/

/-- What the latest evaluation decided begins at this t0. -/
def State.seqAtT0 (s : State) (c : Nat) : State :=
  let x := s.seqCh c
  let s := if x.inc then s.setReg (Reg.SEQ_CH_ELAPSED c) (wordOfNat (s.seqE c + 1)) else s
  let s := s.setSeqCh c { x with inc := false, next := none }
  match x.next with
  | none => s
  | some none => (if s.seqSt c = 5 then s.setSeqSt c 6 else (s.setSeqSt c 4).seqEvt c 2).seqSettle c
  | some (some (i, r, mems)) =>
    let s := s.setSeqCh c { s.seqCh c with cur := some r, mems := mems }
    let s := s.setRegs [(Reg.SEQ_CH_STEP c, wordOfNat (r.tag * 0x10000 + i)), (Reg.SEQ_CH_ELAPSED c, 0)]
    let s := s.seqEvt c 1
    if s.seqSt c = 1 then
      let s := s.setSeqSt c 2
      (if s.busyWith (Reg.SEQ_CH_CMD c) 1 then s.complete (Reg.SEQ_CH_CMD c) else s).seqPauses c
    else s

/-! ### Commands (R243) -/

/-- A command of channel c. -/
def seqCmd (c : Nat) (code : Nat) (argOk busy permitted : Bool) : Cmd :=
  ⟨Reg.SEQ_CH_CMD c, .any, code, argOk, busy, permitted, true⟩

/-- START: header, ABORT_STEP record and FIRST record are fetched. -/
def seqStart (m : Sys2Proof.Master) (c : Nat) (a : Sys2Proof.CmdArg) (s : State) : State :=
  s.command m a (seqCmd c 1 (a.arg == 0) true (s.seqSt c == 0 || s.seqSt c == 4)) fun s =>
    let x := s.seqCh c
    (s.setSeqCh c { x with hdr := none, abrec := none, first := none, ready := false, cur := none, mems := [],
                           cmdAbt := false, ilkAbt := none, startAt := s.now, fetch := some ⟨true, 0, false⟩,
                           next := none, inc := false }).setSeqSt c 1

def execSeqStart (m : Sys2Proof.Master) (c : BitVec 4) (a : Sys2Proof.CmdArg) (s : State) :
    Host.Outcome State Fault Refusal := s.goesTo (seqStart m c.toNat a s)

/-- PAUSE (R241). -/
def seqPause (m : Sys2Proof.Master) (c : Nat) (a : Sys2Proof.CmdArg) (s : State) : State :=
  s.command m a (seqCmd c 2 (a.arg == 0) false (s.seqSt c == 2)) fun s => (s.setSeqBit c 8 true).seqPauses c

def execSeqPause (m : Sys2Proof.Master) (c : BitVec 4) (a : Sys2Proof.CmdArg) (s : State) :
    Host.Outcome State Fault Refusal := s.goesTo (seqPause m c.toNat a s)

/-- RESUME (R241): permitted when no pausing rule without ARES is active. -/
def seqResume (m : Sys2Proof.Master) (c : Nat) (a : Sys2Proof.CmdArg) (s : State) : State :=
  s.command m a (seqCmd c 3 (a.arg == 0) false (s.seqSt c == 3 && (s.seqCh c).rules.all (fun r => r.2))) fun s =>
    let x := s.seqCh c
    (((s.setSeqCh c { x with sticky := false, nonAres := false }).setSeqBit c 8 false).setSeqBit c 9 (!x.rules.isEmpty)).seqPauses c

def execSeqResume (m : Sys2Proof.Master) (c : BitVec 4) (a : Sys2Proof.CmdArg) (s : State) :
    Host.Outcome State Fault Refusal := s.goesTo (seqResume m c.toNat a s)

/-- RELEASE (R237): ARG, a step index below 0xFFFF, becomes the release latch. -/
def seqRelease (m : Sys2Proof.Master) (c : Nat) (a : Sys2Proof.CmdArg) (s : State) : State :=
  let st := s.seqSt c
  s.command m a (seqCmd c 4 (a.arg != 0xFFFF) false (st == 1 || st == 2 || st == 3 || st == 5)) fun s =>
    s.setSeqLatch c a.arg.toNat

def execSeqRelease (m : Sys2Proof.Master) (c : BitVec 4) (a : Sys2Proof.CmdArg) (s : State) :
    Host.Outcome State Fault Refusal := s.goesTo (seqRelease m c.toNat a s)

/-- RESET (R242): IDLE; every driven signal is released, the release latch is emptied. [DEDUCED: log 67] -/
def seqReset (m : Sys2Proof.Master) (c : Nat) (a : Sys2Proof.CmdArg) (s : State) : State :=
  s.command m a (seqCmd c 5 (a.arg == 0) false (s.seqSt c == 4 || s.seqSt c == 6)) fun s =>
    let x := s.seqCh c
    let s := (s.setSeqCh c { x with drv := [], rank3 := false, cur := none, mems := [] }).seqApply c
    ((s.setSeqLatch c 0xFFFF).setSeqBit c 8 false).setSeqSt c 0

def execSeqReset (m : Sys2Proof.Master) (c : BitVec 4) (a : Sys2Proof.CmdArg) (s : State) :
    Host.Outcome State Fault Refusal := s.goesTo (seqReset m c.toNat a s)

/-- An ABORT reaches a channel: effective in STARTING, RUN and PAUSED, ignored and counted in ABORTING (R235, R240). -/
def State.seqAbortAsked (s : State) (c : Nat) : State :=
  let st := s.seqSt c
  if st = 5 then s.inc (Reg.SEQ_CH_ABTIGN c)
  else if st = 1 ∨ st = 2 ∨ st = 3 then s.setSeqCh c { s.seqCh c with cmdAbt := true }
  else s

/-- An ABORT that reports BUSY until the channels concerned are in ABORTING (R240). [DEDUCED: log 67] -/
def State.seqAbortBusy (s : State) (m : Sys2Proof.Master) (unit : Nat) : State :=
  ({ s with busy := smPut s.busy unit ⟨0x0F, 0, mport m, mclassCode (mclass m), s.now⟩ }).setReg (statOf unit)
    (cmdstatBusy (s.reg (statOf unit)) 0x0F)

/-- ABORT of a channel. -/
def seqChannelAbort (m : Sys2Proof.Master) (c : Nat) (a : Sys2Proof.CmdArg) (s : State) : State :=
  s.abort m a (Reg.SEQ_CH_CMD c) .any fun _ s =>
    let s := s.seqAbortAsked c
    if (s.seqCh c).cmdAbt then s.seqAbortBusy m (Reg.SEQ_CH_CMD c) else s

def execSeqChannelAbort (m : Sys2Proof.Master) (c : BitVec 4) (a : Sys2Proof.CmdArg) (s : State) :
    Host.Outcome State Fault Refusal := s.goesTo (seqChannelAbort m c.toNat a s)

/-- ABORT of the block (R68): every running or paused channel. [DEDUCED: log 30] -/
def seqAbort (m : Sys2Proof.Master) (a : Sys2Proof.CmdArg) (s : State) : State :=
  s.abort m a Reg.SEQ_CMD .priv fun _ s =>
    let s := (List.range 16).foldl (fun s c => s.seqAbortAsked c) s
    if (List.range 16).any (fun c => (s.seqCh c).cmdAbt) then s.seqAbortBusy m Reg.SEQ_CMD else s

def execSeqAbort (m : Sys2Proof.Master) (a : Sys2Proof.CmdArg) (s : State) : Host.Outcome State Fault Refusal :=
  s.goesTo (seqAbort m a s)

end Sys2Proof.Machine
end

