-- ==== Sys2Proof/Machine/Dac.lean ====
section
/-!
DEFINITION. The DAC channels (R274, R275, R283).
-/
namespace Sys2Proof.Machine

/-- Set DAC_EVT bits: 0 CLAMP, 1 BADIN, 2 QOVF. -/
def State.dacEvt (s : State) (b : Nat) : State := s.raiseEvt 0x22 Reg.DAC_EVT (some Reg.DAC_EVT_EN) (bitMask b)

/-- EN of a channel. -/
def State.dacOn (s : State) (c : Nat) : Bool := bitOf (s.reg (Reg.DAC_CH_CFG c)) 31

/-- What a value asks for: a code, or nothing for a NaN; infinities stand beyond every code. -/
inductive DacWant where
  | code (k : Int)
  | low
  | high
  | bad

/-- GAIN × x + OFS in binary64 (R274). [DEDUCED: log 75] -/
def dacWant (gain ofs x : Word) : DacWant :=
  match bf32Val gain, bf32Val x, bf32Val ofs with
  | .nan, _, _ => .bad
  | _, .nan, _ => .bad
  | _, _, .nan => .bad
  | .fin g _, .fin v _, .fin o _ => .code (b64Round ((b64Round (g.mul v)).add o)).rne
  | .fin _ _, .fin _ _, .inf n => if n then .low else .high
  | .fin g gn, .inf n, o => dacInf (g.m = 0) (gn != n) o
  | .inf n, .fin v vn, o => dacInf (v.m = 0) (vn != n) o
  | .inf n, .inf k, o => dacInf false (n != k) o
where
  /-- An infinite product of this sign, or 0 × ∞, and OFS. -/
  dacInf (zero neg : Bool) (o : FloatVal) : DacWant :=
    if zero then .bad
    else match o with
      | .inf n => if n = neg then (if neg then .low else .high) else .bad
      | _ => if neg then .low else .high

/-- A value reaches the output of channel c (R274). [DEDUCED: log 75] -/
def State.dacApply (s : State) (c : Nat) (r : ConsRec) : State :=
  let put (k : Nat) (clamp : Bool) : State :=
    let s := s.setReg (Reg.DAC_CH_CODE c) (wordOfNat k)
    if clamp then (s.inc (Reg.DAC_CH_CLAMP_CNT c)).dacEvt 0 else s
  let bad : State := (s.inc (Reg.DAC_CH_BADIN_CNT c)).dacEvt 1
  if !r.valid then bad
  else
    match dacWant (s.reg (Reg.DAC_CH_GAIN c)) (s.reg (Reg.DAC_CH_OFS c)) r.val with
    | .code k => if k < 0 then put 0 true else if 65535 < k then put 65535 true else put k.toNat false
    | .low => put 0 true
    | .high => put 65535 true
    | .bad => bad

/-- The SYNC channels at t0, or at current tick B (R275). -/
def State.dacSync (s : State) (tickB : Bool) : State :=
  (List.range 16).foldl (fun s c =>
    if !s.dacOn c then s
    else if tickB then (if s.dacMode c = 1 then s.dacApply c (smGet (fun _ => {}) s.dac.tick c) else s)
    else if s.dacMode c = 2 then s else s.dacApply c (s.latchedCons (0x5000 + c))) s

/-- The latch of the SYNC_TICK channels for current tick B. -/
def State.dacLatchB (s : State) : State :=
  let t := (List.range 16).foldl (fun t c => smSet (fun _ => {}) t c (s.consumer (0x5000 + c))) s.dac.tick
  { s with dac := { s.dac with tick := t } }

/-- DAC_IMMEDIATE_UPDATE (R275): the oldest queued value of a channel is applied, at most one per 1 µs. -/
def dacImmediateUpdate (c : Nat) (s : State) : State :=
  match smGet (fun _ => []) s.dac.queue c with
  | r :: l =>
    if s.dacOn c && s.dacMode c == 2 then
      let s := match smFind s.dac.last c with
        | some t => s.advanceTo (t + 1000)
        | none => s
      let s := { s with dac := { s.dac with queue := smSet (fun _ => []) s.dac.queue c l, last := smPut s.dac.last c s.now } }
      s.dacApply c r
    else s
  | [] => s

def execDacImmediateUpdate (c : BitVec 4) (s : State) : Host.Outcome State Fault Refusal :=
  s.goesTo (s.alive 7 (dacImmediateUpdate c.toNat s))

/-- A write of DAC_CHc_CFG (R275): EN from 0 to 1 sets the output to INIT, and the consumer holds nothing yet (R88); EN 0
drives code 0. -/
def State.dacCfg (s : State) (c : Nat) (old new : Word) : State :=
  let s := s.setReg (Reg.DAC_CH_CFG c) new
  if bitOf new 31 then
    if bitOf old 31 then s
    else ((s.setReg (Reg.DAC_CH_CODE c) (s.reg (Reg.DAC_CH_INIT c) &&& 0xFFFF#32)).renewCons (0x5000 + c))
  else
    let s := { s with dac := { s.dac with queue := smDel s.dac.queue c, tick := smDel s.dac.tick c } }
    s.setReg (Reg.DAC_CH_CODE c) 0

/-- ABORT (R68, R275): the IMMEDIATE queues are emptied. -/
def dacAbort (m : Sys2Proof.Master) (a : Sys2Proof.CmdArg) (s : State) : State :=
  s.abort m a Reg.DAC_CMD .priv fun _ s => { s with dac := { s.dac with queue := [] } }

def execDacAbort (m : Sys2Proof.Master) (a : Sys2Proof.CmdArg) (s : State) : Host.Outcome State Fault Refusal :=
  s.goesTo (dacAbort m a s)

end Sys2Proof.Machine
end

