-- ==== Sys2Proof/Machine/ApplyLatch.lean ====
section
/-!
DEFINITION. The apply latch (R88), with the latch of the inputs that are applied at current tick B (R189, R275).
-/
namespace Sys2Proof.Machine

/-- T_SETUP in ns. -/
def State.tSetup (s : State) : Nat := (s.reg Reg.CYC_SETUP).toNat

/-- APPLY_LATCH: t0 − T_SETUP, where every consumer latches the value it applies at the next t0 and a recipe fetch that
has not ended has failed (R236); or current tick B − T_SETUP, for the inputs of current-tick rate. [DESIGN CHOICE: log 36] -/
def applyLatch (tickB : Bool) (s : State) : State :=
  if s.hasT0 then
    if tickB then ((s.atOffset (15625 - s.tSetup)).axcLatchB).dacLatchB
    else
      let s := (s.atOffset (31250 - s.tSetup)).seqAtLatch
      { s with sig := { s.sig with latched := s.sig.cons } }
  else s

def execApplyLatch (tickB : Bool) (s : State) : Host.Outcome State Fault Refusal := s.goesTo (applyLatch tickB s)

end Sys2Proof.Machine
end

