-- ==== Sys2Proof/Machine/Keccak.lean ====
section
/-!
DEFINITION. SHAKE256 and SHA3-256 of FIPS 202, which R472–R498 name, over lists of bytes.
-/
namespace Sys2Proof.Machine

/-- A lane of the permutation's state: lane (x, y) stands at x + 5y. -/
def lane (a : List (BitVec 64)) (x y : Nat) : BitVec 64 := a.getD (x % 5 + 5 * (y % 5)) 0

/-- Rotation counts of the step rho, by x + 5y. -/
def rhoCounts : List Nat :=
  [0, 1, 62, 28, 27] ++ [36, 44, 6, 55, 20] ++ [3, 10, 43, 25, 39] ++ [41, 45, 15, 21, 8] ++ [18, 2, 61, 56, 14]

/-- Round constants of the step iota. -/
def iotaConsts : List (BitVec 64) :=
  [0x1, 0x8082, 0x800000000000808A, 0x8000000080008000, 0x808B, 0x80000001, 0x8000000080008081, 0x8000000000008009] ++
  [0x8A, 0x88, 0x80008009, 0x8000000A, 0x8000808B, 0x800000000000008B, 0x8000000000008089, 0x8000000000008003] ++
  [0x8000000000008002, 0x8000000000000080, 0x800A, 0x800000008000000A, 0x8000000080008081, 0x8000000000008080] ++
  [0x80000001, 0x8000000080008008]

/-- One round: theta, rho with pi, chi, iota. -/
def keccakRound (a : List (BitVec 64)) (rc : BitVec 64) : List (BitVec 64) :=
  let c := (List.range 5).map (fun x => lane a x 0 ^^^ lane a x 1 ^^^ lane a x 2 ^^^ lane a x 3 ^^^ lane a x 4)
  let d := (List.range 5).map (fun x => c.getD ((x + 4) % 5) 0 ^^^ (c.getD ((x + 1) % 5) 0).rotateLeft 1)
  let a := (List.range 25).map (fun i => a.getD i 0 ^^^ d.getD (i % 5) 0)
  let b := (List.range 25).map (fun i =>
    let x := (i % 5 + 3 * (i / 5)) % 5
    let y := i % 5
    (lane a x y).rotateLeft (rhoCounts.getD (x + 5 * y) 0))
  (List.range 25).map (fun i =>
    let x := i % 5
    let y := i / 5
    let v := lane b x y ^^^ (~~~(lane b (x + 1) y) &&& lane b (x + 2) y)
    if i = 0 then v ^^^ rc else v)

/-- Keccak-f[1600]. [PRESUMED: log 112] -/
def keccakF (a : List (BitVec 64)) : List (BitVec 64) := iotaConsts.foldl keccakRound a

/-- 64-bit lanes of bytes, least significant byte first. -/
def bytesLanes (n : Nat) (l : List Byte) : List (BitVec 64) :=
  (List.range n).map (fun i =>
    BitVec.ofNat 64 (((l.drop (8 * i)).take 8).foldr (fun b v => b.toNat + 256 * v) 0))

/-- The bytes of lanes. -/
def lanesBytes (a : List (BitVec 64)) : List Byte :=
  a.flatMap (fun v => (List.range 8).map (fun i => v.extractLsb' (8 * i) 8))

/-- Absorb whole blocks of 136 bytes. -/
def absorbBlocks : Nat → List Byte → List (BitVec 64) → List (BitVec 64)
  | 0, _, a => a
  | n + 1, l, a =>
    let m := bytesLanes 17 (l.take 136)
    absorbBlocks n (l.drop 136) (keccakF ((List.range 25).map (fun i => a.getD i 0 ^^^ m.getD i 0)))

/-- The sponge of rate 136 with a domain suffix; the first 136 bytes of its output. -/
def sponge136 (suffix : Nat) (msg : List Byte) : List Byte :=
  let r := msg.length % 136
  let pad : List Byte :=
    if r = 135 then [BitVec.ofNat 8 (suffix + 0x80)]
    else BitVec.ofNat 8 suffix :: (List.replicate (134 - r) (0 : Byte) ++ [0x80])
  (lanesBytes (absorbBlocks (msg.length / 136 + 1) (msg ++ pad) (List.replicate 25 0))).take 136

/-- SHAKE256 with an output of up to 136 bytes. [PRESUMED: log 112] -/
def shake256 (msg : List Byte) (n : Nat) : List Byte := (sponge136 0x1F msg).take n

/-- SHA3-256. [PRESUMED: log 112] -/
def sha3_256 (msg : List Byte) : List Byte := (sponge136 0x06 msg).take 32

/-- A 32-bit word of a list of bytes, from byte offset i. -/
def wordAt (l : List Byte) (i : Nat) : Word := l.getD (i + 3) 0 ++ l.getD (i + 2) 0 ++ l.getD (i + 1) 0 ++ l.getD i 0

/-- The bytes of words as bit vectors, least significant first. -/
def bytesOf (l : List Word) : List Byte :=
  l.flatMap (fun w => [w.extractLsb' 0 8, w.extractLsb' 8 8, w.extractLsb' 16 8, w.extractLsb' 24 8])

end Sys2Proof.Machine
end

