-- ==== Sys2Proof/Machine/Clocks.lean ====
section
/-!
DEFINITION. The commands of SYS and CLK (R34–R39): the core pool and the pool clock.
-/
namespace Sys2Proof.Machine

/-! ### The core pool (R37, R432) -/

/-- Is core n outstanding: does it execute an item (R431)? -/
def State.coreBusy (s : State) (n : Nat) : Bool := (smFind s.wsch.running n).isSome

/-- Number of set bits among the low n of a word. -/
def popCount (n : Nat) (w : Word) : Nat := ((List.range n).filter (fun i => bitOf w i)).length

/-- Set SYS_CORE_ACT, and WSCH_CONF with it (R432). -/
def State.setCoreAct (s : State) (w : Word) : State :=
  let n := popCount 24 w
  (s.setReg Reg.SYS_CORE_ACT w).setReg Reg.WSCH_CONF (wordOfNat (b2n (n ≤ 8) + n * 256))

/-- The core mask an APPLY_CORE_EN works toward: retired cores stay out (R37). -/
def State.coreTarget (s : State) : Word :=
  (List.range 24).foldl (fun w n => if s.isRetired 3 n then setBit w n false else w) s.wsch.target

/-- APPLY_CORE_EN goes as far as it can: a core to be removed leaves once it has no item; with `join`, at a scheduler
cycle, a core to be added joins. When every affected core has changed, the command is DONE (R37). -/
def State.applyCores (s : State) (join : Bool) : State :=
  if s.busyWith Reg.SYS_CMD 1 then
    let tgt := s.coreTarget
    let act := (List.range 24).foldl (fun w n =>
      if bitOf w n && !bitOf tgt n && !s.coreBusy n then setBit w n false
      else if !bitOf w n && bitOf tgt n && join then setBit w n true else w) (s.reg Reg.SYS_CORE_ACT)
    let s := if act = s.reg Reg.SYS_CORE_ACT then s else s.setCoreAct act
    if act = tgt then s.complete Reg.SYS_CMD else s
  else s

/-- SYS_CMD APPLY_CORE_EN (R37): rejected with REJ_STATE while SYS_STATE is WARM. -/
def sysApplyCoreEn (m : Sys2Proof.Master) (a : Sys2Proof.CmdArg) (s : State) : State :=
  s.command m a ⟨Reg.SYS_CMD, .priv, 1, a.arg == 0, true, !s.warm, true⟩ fun s =>
    ({ s with wsch := { s.wsch with target := s.reg Reg.SYS_CORE_EN } }).applyCores false

def execSysApplyCoreEn (m : Sys2Proof.Master) (a : Sys2Proof.CmdArg) (s : State) : Host.Outcome State Fault Refusal :=
  s.goesTo (sysApplyCoreEn m a s)

/-- SYS_CMD CLEAR_COUNTERS (R34). -/
def sysClearCounters (m : Sys2Proof.Master) (a : Sys2Proof.CmdArg) (s : State) : State :=
  s.command m a ⟨Reg.SYS_CMD, .priv, 2, a.arg == 0, false, true, true⟩ fun s => s.zeroRegs [Reg.SYS_DECERR_CNT]

def execSysClearCounters (m : Sys2Proof.Master) (a : Sys2Proof.CmdArg) (s : State) : Host.Outcome State Fault Refusal :=
  s.goesTo (sysClearCounters m a s)

/-- SYS_CMD ABORT (R37, R68): the cores changed so far keep their new state, the others their previous one. -/
def sysAbort (m : Sys2Proof.Master) (a : Sys2Proof.CmdArg) (s : State) : State :=
  s.abort m a Reg.SYS_CMD .priv fun _ s => s

def execSysAbort (m : Sys2Proof.Master) (a : Sys2Proof.CmdArg) (s : State) : Host.Outcome State Fault Refusal :=
  s.goesTo (sysAbort m a s)

/-! ### The pool clock (R39, R436) -/

/-- WSCH_STATE as dispatch stands: withheld while the pool clock switches, while SYS_STATE is WARM and while I3 is
fenced; APPLYING while an APPLY_CFG waits (R436, R440, R524). -/
def State.syncWsch (s : State) : State :=
  s.setState 0x38 (if s.reg Reg.CLK_STATE = 2 || s.warm || s.fenced.getLsbD 3 then 3
    else if s.busyWith Reg.WSCH_CMD 1 then 2 else 1)

/-- CLK_CMD APPLY_POOL_SEL (R39): dispatch is withheld until no core executes; encoding 3 is rejected with REJ_CODE. -/
def clkApplyPoolSel (m : Sys2Proof.Master) (a : Sys2Proof.CmdArg) (s : State) : State :=
  let sel := fld (s.reg Reg.CLK_POOL_SEL) 1 0
  s.command m a ⟨Reg.CLK_CMD, .secure, 1, a.arg == 0, true, true, sel != 3⟩ fun s =>
    (({ s with clk := { s.clk with target := sel } }).setState 1 2).syncWsch

def execClkApplyPoolSel (m : Sys2Proof.Master) (a : Sys2Proof.CmdArg) (s : State) : Host.Outcome State Fault Refusal :=
  s.goesTo (clkApplyPoolSel m a s)

/-- With no core executing, the I3 clock switches and dispatch resumes (R39). -/
def poolClockSwitch (s : State) : State :=
  if s.busyWith Reg.CLK_CMD 1 && s.wsch.running.isEmpty then
    ((({ s with clk := { s.clk with pool := s.clk.target } }).complete Reg.CLK_CMD).setState 1 1).syncWsch
  else s

def execPoolClockSwitch (s : State) : Host.Outcome State Fault Refusal := s.goesTo (poolClockSwitch s)

/-- CLK_CMD ABORT (R39): during SWITCHING, dispatch resumes at the previous frequency. -/
def clkAbort (m : Sys2Proof.Master) (a : Sys2Proof.CmdArg) (s : State) : State :=
  s.abort m a Reg.CLK_CMD .secure fun b s => if b.isSome then (s.setState 1 1).syncWsch else s

def execClkAbort (m : Sys2Proof.Master) (a : Sys2Proof.CmdArg) (s : State) : Host.Outcome State Fault Refusal :=
  s.goesTo (clkAbort m a s)

end Sys2Proof.Machine
end

