-- ==== Sys2Proof/Machine/Memc.lean ====
section
/-!
DEFINITION. The memory controller (R446–R453): ECC results of reads, the patrol scrub, rows mapped to spares, and the MEMC
commands.
-/
namespace Sys2Proof.Machine

/-- Set MEMC_EVT bits (R452). -/
def State.memcEvt (s : State) (n : Nat) : State := s.raiseEvt 0x3A Reg.MEMC_EVT (some Reg.MEMC_EVT_EN) (bitMask n)

/-- A row in the form of MEMC_REMAP_ROW, and its index in the retirement list (R452, R534). -/
def memcRow (w : Word) : Word := w &&& 0xCF03FFFF
def memcRowIndex (w : Word) : Nat := fld w 31 31 * 2 ^ 23 + fld w 30 30 * 2 ^ 22 + fld w 27 24 * 2 ^ 18 + fld w 17 0

/-- Spare rows in use on a channel, those of copies in progress among them (R450). -/
def State.memcUsed (s : State) (ch : Nat) : Nat :=
  fld (s.reg Reg.MEMC_REMAP_USED) (16 * ch + 6) (16 * ch) + (s.memc.jobs.filter (fun j => fld j.1 31 31 == ch)).length

/-- Has the row's channel a spare left (R450)? -/
def State.memcSpare (s : State) (row : Word) : Bool := s.memcUsed (fld row 31 31) < 64

/-- Is the 64-bit word at an address uncorrectable (R448)? [DEDUCED: log 108] -/
def State.memcBad (s : State) (a : Nat) : Bool := s.memc.ue.contains (a / 8)

/-- The 64-bit words of a range are written: none of them is uncorrectable any more (R448). [DEDUCED: log 108] -/
def State.memcWritten (s : State) (a n : Nat) : State :=
  if s.memc.ue.isEmpty then s
  else { s with memc := { s.memc with ue := s.memc.ue.filter (fun w => !(a ≤ 8 * w + 7 && 8 * w < a + n)) } }

/-- Write words of DRAM. -/
def State.dramPut (s : State) (a : Nat) (l : List Word) : State := (s.setWords a l).memcWritten a (4 * l.length)

/-- A row whose bucket overflowed: its copy to a spare begins, or NOSPARE is set (R450, R528). [DEDUCED: log 107] -/
def State.memcRetire (s : State) (row : Word) (detail : Word) : State :=
  let inst := memcRowIndex row
  if s.memcSpare row then
    ({ s with memc := { s.memc with jobs := s.memc.jobs ++ [(row, false)] } }).faultEvent 1 0x3A 6 inst detail
  else (s.memcEvt 3).faultEvent 2 0x3A 6 inst detail

/-- One word as a read finds it (R448, R517): clean; corrected; or uncorrectable, as it stays until written. [DEDUCED: log 108] -/
def State.memcCheck (s : State) (a : Nat) (corrected bad : Bool) : State :=
  let row := memcRow (Config.dramRow (a / 8 * 8))
  let lo := wordOfNat (a / 8 * 8)
  let hi := wordOfNat (a / 0x100000000 % 0x100)
  let found (w : Nat) (s : State) : State :=
    match s.finding 6 (memcRowIndex row) w 0x3A lo with
    | (t, true) => t.memcRetire row lo
    | (t, false) => t
  if bad then
    let s := if s.memcBad a then s else { s with memc := { s.memc with ue := s.memc.ue ++ [a / 8] } }
    found 4 (((s.inc Reg.MEMC_UE_CNT).setRegs [(Reg.MEMC_UE_ADDR_LO, lo), (Reg.MEMC_UE_ADDR_HI, hi)]).memcEvt 1)
  else if corrected then
    found 1 (((s.inc Reg.MEMC_CE_CNT).setRegs [(Reg.MEMC_CE_ADDR_LO, lo), (Reg.MEMC_CE_ADDR_HI, hi)]).memcEvt 0)
  else s

/-- MEMC_OST after an access: at least one transaction has been outstanding (R451, R452). -/
def State.memcTouch (s : State) : State :=
  if fld (s.reg Reg.MEMC_OST) 14 8 = 0 then s.setReg Reg.MEMC_OST (setFld (s.reg Reg.MEMC_OST) 14 8 1) else s

/-- DRAM_READ (R448): a master reads the word at an address; r is the ECC result, 0 clean, 1 corrected, 2 uncorrectable. -/
def dramRead (m : Sys2Proof.Master) (a : Nat) (r : Nat) (s : State) : State :=
  let a := a / 4 * 4
  if regionOf s.dramUsable a != .dram then (s.decodeError (mclassCode (mclass m)) a).answer (mport m) 0 true
  else if s.isFenced 0x3A then s.answer (mport m) 0 true
  else
    let bad := r == 2 || s.memcBad a
    (s.memcTouch.memcCheck a (r == 1) bad).answer (mport m) (if bad then 0 else s.word a) bad

def execDramRead (m : Sys2Proof.Master) (a : BitVec 40) (r : Fin 3) (s : State) : Host.Outcome State Fault Refusal :=
  s.goesTo (dramRead m a.toNat r.val s)

/-- The passes that MEMC_SCRUB_POS counts, one more; progress starts again (R452). -/
def State.scrubPassed (s : State) : State :=
  let w := s.reg Reg.MEMC_SCRUB_POS
  s.setReg Reg.MEMC_SCRUB_POS (wordOfNat (min (fld w 31 16 + 1) 0xFFFF * 0x10000))

/-- PATROL_SCRUB (R449): the scrub reads a word, in its period or in the pass SCRUB_NOW started; `pos` is the progress it has
then made, 0 where that completes the period's pass. -/
def patrolScrub (a r pos : Nat) (s : State) : State :=
  let run := bitOf (s.reg Reg.MEMC_SCRUB_CFG) 31
  let extra := s.busyWith Reg.MEMC_CMD 1
  if !(run || extra) || regionOf s.dramUsable a != .dram then s
  else
    let s := s.memcCheck a (r == 1) (r == 2 || s.memcBad a)
    if pos = 0 && !extra then s.scrubPassed
    else s.setReg Reg.MEMC_SCRUB_POS (setFld (s.reg Reg.MEMC_SCRUB_POS) 15 0 pos)

def execPatrolScrub (a : BitVec 40) (r : Fin 3) (pos : BitVec 16) (s : State) : Host.Outcome State Fault Refusal :=
  s.goesTo (s.alive 11 (patrolScrub a.toNat r.val pos.toNat s))

/-- SCRUB_NOW (R449, R453). -/
def memcScrubNow (m : Sys2Proof.Master) (a : Sys2Proof.CmdArg) (s : State) : State :=
  s.command m a ⟨Reg.MEMC_CMD, .priv, 1, a.arg == 0, true, s.reg Reg.MEMC_STATE == 1, true⟩ fun s => s.setState 0x3A 2

def execMemcScrubNow (m : Sys2Proof.Master) (a : Sys2Proof.CmdArg) (s : State) : Host.Outcome State Fault Refusal :=
  s.goesTo (memcScrubNow m a s)

/-- SCRUB_PASS_END (R449): the pass that SCRUB_NOW started ends. -/
def scrubPassEnd (s : State) : State :=
  if s.busyWith Reg.MEMC_CMD 1 then (((s.complete Reg.MEMC_CMD).setState 0x3A 1).scrubPassed).memcEvt 4 else s

def execScrubPassEnd (s : State) : Host.Outcome State Fault Refusal := s.goesTo (s.alive 11 (scrubPassEnd s))

/-- REMAP (R450, R453): the copy of the row that MEMC_REMAP_ROW names begins. [DEDUCED: log 107] -/
def memcRemap (m : Sys2Proof.Master) (a : Sys2Proof.CmdArg) (s : State) : State :=
  let row := memcRow (s.reg Reg.MEMC_REMAP_ROW)
  let known := s.memc.rows.contains row || s.memc.jobs.any (fun j => j.1 == row)
  s.command m a ⟨Reg.MEMC_CMD, .priv, 2, a.arg == 0, true, s.reg Reg.MEMC_STATE == 1 && s.memcSpare row,
      !Config.dramRowOutside (s.reg Reg.MEMC_DEV) row && !known⟩ fun s =>
    ({ s with memc := { s.memc with jobs := s.memc.jobs ++ [(row, true)] } }).setState 0x3A 3

def execMemcRemap (m : Sys2Proof.Master) (a : Sys2Proof.CmdArg) (s : State) : Host.Outcome State Fault Refusal :=
  s.goesTo (memcRemap m a s)

/-- ROW_REMAP_COMPLETE (R450): the oldest copy ends, its mapping is recorded, and accesses go to the spare. [DEDUCED: log 107] -/
def rowRemapComplete (s : State) : State :=
  match s.memc.jobs with
  | [] => s
  | (row, cmd) :: rest =>
    let ch := fld row 31 31
    let u := s.reg Reg.MEMC_REMAP_USED
    let s := { s with memc := { s.memc with jobs := rest, rows := s.memc.rows ++ [row] } }
    let s := s.setReg Reg.MEMC_REMAP_USED (setFld u (16 * ch + 6) (16 * ch) (fld u (16 * ch + 6) (16 * ch) + 1))
    let s := if s.isRetired 6 (memcRowIndex row) then s else s.retire 6 (memcRowIndex row)
    let s := if cmd then (s.complete Reg.MEMC_CMD).setState 0x3A 1 else s
    s.memcEvt 2

def execRowRemapComplete (s : State) : Host.Outcome State Fault Refusal := s.goesTo (s.alive 11 (rowRemapComplete s))

/-- ABORT (R68, R453): a scrub pass stops; a remap whose copy has begun completes. [DEDUCED: log 107] -/
def memcAbort (m : Sys2Proof.Master) (a : Sys2Proof.CmdArg) (s : State) : State :=
  s.abort m a Reg.MEMC_CMD .priv fun b s =>
    match b with
    | some c => if c.code = 1 then s.setState 0x3A 1 else s
    | none => s

def execMemcAbort (m : Sys2Proof.Master) (a : Sys2Proof.CmdArg) (s : State) : Host.Outcome State Fault Refusal :=
  s.goesTo (memcAbort m a s)

/-- MEMC_CMD CLEAR_STATS (R452, R453). -/
def State.memcClearStats (s : State) : State := s.zeroRegs [Reg.MEMC_CE_CNT, Reg.MEMC_UE_CNT, Reg.MEMC_OST]

/-- MR4_RATE_CHANGE (R446, R452): the refresh-rate code that a channel's devices read. -/
def mr4RateChange (ch : Bool) (code : Nat) (s : State) : State :=
  let lo := 8 * b2n ch
  let w := s.reg Reg.MEMC_TEMP
  if fld w (lo + 2) lo = code then s else (s.setReg Reg.MEMC_TEMP (setFld w (lo + 2) lo code)).memcEvt 5

def execMr4RateChange (ch : Bool) (code : BitVec 3) (s : State) : Host.Outcome State Fault Refusal :=
  s.goesTo (s.alive 11 (mr4RateChange ch code.toNat s))

end Sys2Proof.Machine
end

