-- ==== Sys2Proof/Machine/Kec.lean ====
section
/-!
DEFINITION. The Keccak engine (R497, R498): its commands, and its use by Base camp.
-/
namespace Sys2Proof.Machine

/-- INIT (R498): the state is zeroed for SHAKE256 or SHA3-256. -/
def kecInit (m : Sys2Proof.Master) (a : Sys2Proof.CmdArg) (s : State) : State :=
  let st := s.reg Reg.KEC_STATE
  s.command m a ⟨Reg.KEC_CMD, .priv, 1, a.arg.toNat < 2, false, st == 1 || st == 2, true⟩ fun s =>
    ({ s with kec := { s.kec with sha3 := a.arg == 1, msg := [] } }).setState 3 2

def execKecInit (m : Sys2Proof.Master) (a : Sys2Proof.CmdArg) (s : State) : Host.Outcome State Fault Refusal :=
  s.goesTo (kecInit m a s)

/-- ABSORB (R498). [DEDUCED: log 113] -/
def kecAbsorb (m : Sys2Proof.Master) (a : Sys2Proof.CmdArg) (s : State) : State :=
  s.command m a ⟨Reg.KEC_CMD, .priv, 2, a.arg == 0, true, s.reg Reg.KEC_STATE == 2, true⟩ fun s => s.setState 3 3

def execKecAbsorb (m : Sys2Proof.Master) (a : Sys2Proof.CmdArg) (s : State) : Host.Outcome State Fault Refusal :=
  s.goesTo (kecAbsorb m a s)

/-- The range KEC reads: address, and KEC_LEN as it acts (R497, R48). -/
def State.kecSource (s : State) : Nat × Nat :=
  let n := (s.reg Reg.KEC_LEN).toNat
  (fld (s.reg Reg.KEC_SRC_HI) 7 0 * 0x100000000 + (s.reg Reg.KEC_SRC_LO).toNat, if n ≤ 0x100000 then n else 0)

/-- Does reading a range meet an uncorrectable word (R448)? -/
def State.memcBadIn (s : State) (a n : Nat) : Bool := s.memc.ue.any (fun w => a ≤ 8 * w + 7 && 8 * w < a + n)

/-- Base camp takes the engine: an open state is saved; an absorb completes first (R498). -/
def State.kecTake (s : State) : State :=
  let st := s.reg Reg.KEC_STATE
  let s := { s with kec := { s.kec with users := s.kec.users + 1 } }
  if s.kec.saved.isSome || st == 3 then s
  else ({ s with kec := { s.kec with saved := some st.toNat } }).setState 3 4

/-- A task of Base camp is done with the engine; after the last one the state before is restored (R498). -/
def State.kecGive (s : State) : State :=
  let n := s.kec.users - 1
  let s := { s with kec := { s.kec with users := n } }
  match s.kec.saved with
  | some st => if n = 0 then ({ s with kec := { s.kec with saved := none } }).setState 3 st else s
  | none => s

/-- KEC_ABSORB_DONE (R498): the last byte is absorbed; after a read error the command ends with REJ_CODE and the state is as
before. Base camp, where it waits, takes the engine now. [DEDUCED: log 113] -/
def kecAbsorbDone (err : Bool) (s : State) : State :=
  if s.busyWith Reg.KEC_CMD 2 then
    let (a, n) := s.kecSource
    let s :=
      if err || !s.inMemory a n || s.memcBadIn a n then s.completeFailed Reg.KEC_CMD
      else ({ s with kec := { s.kec with msg := s.kec.msg ++ s.bytes a n } }).complete Reg.KEC_CMD
    if s.kec.users = 0 then s.setState 3 2
    else ({ s with kec := { s.kec with saved := some 2 } }).setState 3 4
  else s

def execKecAbsorbDone (err : Bool) (s : State) : Host.Outcome State Fault Refusal := s.goesTo (kecAbsorbDone err s)

/-- FINAL (R498): the output of SHAKE256, of KEC_OUTLEN bytes (reserved values acting as 64, R48), or the 32 bytes of
SHA3-256; the words they do not fill keep what they hold. -/
def kecFinal (m : Sys2Proof.Master) (a : Sys2Proof.CmdArg) (s : State) : State :=
  s.command m a ⟨Reg.KEC_CMD, .priv, 3, a.arg == 0, false, s.reg Reg.KEC_STATE == 2, true⟩ fun s =>
    let n := (s.reg Reg.KEC_OUTLEN).toNat
    let n := if s.kec.sha3 then 32 else if 1 ≤ n ∧ n ≤ 64 then n else 64
    let out := if s.kec.sha3 then sha3_256 s.kec.msg else shake256 s.kec.msg n
    let old := bytesOf ((List.range 16).map (fun i => s.reg (Reg.KEC_OUT i)))
    let all := out ++ old.drop n
    let s := s.setRegs ((List.range 16).map (fun i => (Reg.KEC_OUT i, wordAt all (4 * i))))
    ({ s with kec := { s.kec with msg := [] } }).setState 3 1

def execKecFinal (m : Sys2Proof.Master) (a : Sys2Proof.CmdArg) (s : State) : Host.Outcome State Fault Refusal :=
  s.goesTo (kecFinal m a s)

/-- ABORT (R68, R498): the Keccak state is zeroed; Base camp's use is not ended. Where Base camp waits for an absorb, it
takes the engine. -/
def kecAbort (m : Sys2Proof.Master) (a : Sys2Proof.CmdArg) (s : State) : State :=
  s.abort m a Reg.KEC_CMD .priv fun _ s =>
    if s.reg Reg.KEC_STATE = 4 then s
    else
      let s := { s with kec := { s.kec with msg := [] } }
      if s.kec.users = 0 then s.setState 3 1
      else ({ s with kec := { s.kec with saved := some 1 } }).setState 3 4

def execKecAbort (m : Sys2Proof.Master) (a : Sys2Proof.CmdArg) (s : State) : Host.Outcome State Fault Refusal :=
  s.goesTo (kecAbort m a s)

end Sys2Proof.Machine
end

