-- ==== Sys2Proof/Machine/Xspi.lean ====
section
/-!
DEFINITION. The xSPI flash (R470, R471, R499, R500): its commands, and its use by Base camp.
-/
namespace Sys2Proof.Machine

/-- A byte of the flash that nothing has programmed reads as erased. [PRESUMED: log 114] -/
def flashDefault (_ : Nat) : Byte := 0xFF

/-- Bytes of the flash. -/
def State.flashBytes (s : State) (a n : Nat) : List Byte := (List.range n).map (fun i => smGet flashDefault s.boot.flash (a + i))

/-- Store bytes of the flash. [PRESUMED: log 114] -/
def State.setFlash (s : State) (a : Nat) (l : List Byte) : State :=
  { s with boot := { s.boot with
    flash := l.zipIdx.foldl (fun f p => smSet flashDefault f (a + p.2) p.1) s.boot.flash } }

/-- Capacity in bytes, and the size of a slot (R471, R499). -/
def State.flashSize (s : State) : Nat := 2 ^ fld (s.reg Reg.XSPI_DEV) 4 0
def State.slotSize (s : State) : Nat := s.flashSize / 2

/-- Set XSPI_EVT bits (R499). -/
def State.xspiEvt (s : State) (n : Nat) : State := s.raiseEvt 0x3D Reg.XSPI_EVT (some Reg.XSPI_EVT_EN) (bitMask n)

/-- The operation a command code would begin with the present registers (R499, R500). -/
def State.xspiOp (s : State) (code : Nat) : XspiOp :=
  ⟨code, (s.reg Reg.XSPI_FADDR).toNat, fld (s.reg Reg.XSPI_MADDR_HI) 7 0 * 0x100000000 + (s.reg Reg.XSPI_MADDR_LO).toNat,
    if code = 3 then 0x1000 else if code = 4 then 0x10000 else (s.reg Reg.XSPI_LEN).toNat, s.now⟩

/-- Is it one that R499 and R500 allow? [DEDUCED: log 115] -/
def State.xspiValid (s : State) (o : XspiOp) : Bool :=
  1 ≤ o.len && o.faddr + o.len ≤ s.flashSize && match o.code with
    | 1 => o.len ≤ 0x1000000
    | 2 => o.faddr % 256 + o.len ≤ 256
    | _ => o.faddr % o.len == 0

/-- Does a program or erase touch the running slot (R500)? [DEDUCED: log 115] -/
def State.xspiProtects (s : State) (o : XspiOp) : Bool :=
  let base := fld (s.reg Reg.BOOT_RUN) 0 0 * s.slotSize
  let st := s.reg Reg.BOOT_STATE
  o.code != 1 && st != 6 && st != 7 && base < o.faddr + o.len && o.faddr < base + s.slotSize

/-- READ, PROGRAM and ERASE (R500): permitted in IDLE; a protected range sets PROT. A slot that a program or an erase
touches is no longer verified (R491). -/
def xspiStart (code : Nat) (m : Sys2Proof.Master) (a : Sys2Proof.CmdArg) (s : State) : State :=
  let o := s.xspiOp code
  let idle := s.reg Reg.XSPI_STATE == 1
  let c : Cmd := ⟨Reg.XSPI_CMD, .priv, code, a.arg == 0, true, idle, s.xspiValid o && !s.xspiProtects o⟩
  let prot := s.xspiProtects o && s.decideCommand m a { c with contentOk := true } == .accept &&
    !s.gated 0x3D && !s.isFenced 0x3D
  let t := s.command m a c fun s =>
    let hit (k : Nat) : Bool := code != 1 && k * s.slotSize < o.faddr + o.len && o.faddr < (k + 1) * s.slotSize
    let s := { s with xspi := { s.xspi with op := some o },
                      boot := { s.boot with okSlots := s.boot.okSlots.filter (fun k => !hit k) } }
    s.setState 0x3D (if code = 1 then 3 else if code = 2 then 4 else 5)
  if prot then t.xspiEvt 2 else t

def xspiRead (m : Sys2Proof.Master) (a : Sys2Proof.CmdArg) (s : State) : State := xspiStart 1 m a s
def execXspiRead (m : Sys2Proof.Master) (a : Sys2Proof.CmdArg) (s : State) : Host.Outcome State Fault Refusal :=
  s.goesTo (xspiRead m a s)

def xspiProgram (m : Sys2Proof.Master) (a : Sys2Proof.CmdArg) (s : State) : State := xspiStart 2 m a s
def execXspiProgram (m : Sys2Proof.Master) (a : Sys2Proof.CmdArg) (s : State) : Host.Outcome State Fault Refusal :=
  s.goesTo (xspiProgram m a s)

def xspiErase4k (m : Sys2Proof.Master) (a : Sys2Proof.CmdArg) (s : State) : State := xspiStart 3 m a s
def execXspiErase4k (m : Sys2Proof.Master) (a : Sys2Proof.CmdArg) (s : State) : Host.Outcome State Fault Refusal :=
  s.goesTo (xspiErase4k m a s)

def xspiErase64k (m : Sys2Proof.Master) (a : Sys2Proof.CmdArg) (s : State) : State := xspiStart 4 m a s
def execXspiErase64k (m : Sys2Proof.Master) (a : Sys2Proof.CmdArg) (s : State) : Host.Outcome State Fault Refusal :=
  s.goesTo (xspiErase64k m a s)

/-- The state XSPI has while an operation runs. -/
def xspiRunState (code : Nat) : Nat := if code = 1 then 3 else if code = 2 then 4 else 5

/-- RESUME (R500): the suspended operation continues. -/
def xspiResume (m : Sys2Proof.Master) (a : Sys2Proof.CmdArg) (s : State) : State :=
  s.command m a ⟨Reg.XSPI_CMD, .priv, 5, a.arg == 0, true, s.reg Reg.XSPI_STATE == 6, true⟩ fun s =>
    match s.xspi.op with
    | some o => s.setState 0x3D (xspiRunState o.code)
    | none => s

def execXspiResume (m : Sys2Proof.Master) (a : Sys2Proof.CmdArg) (s : State) : Host.Outcome State Fault Refusal :=
  s.goesTo (xspiResume m a s)

/-- Base camp takes the flash (R500): a read or a program completes first; an erase is suspended on a device that can, and
otherwise completes first. [PRESUMED: log 114] -/
def State.xspiTake (s : State) : State :=
  let st := s.reg Reg.XSPI_STATE
  let s := { s with xspi := { s.xspi with users := s.xspi.users + 1 } }
  if s.xspi.saved.isSome || st == 2 || st == 3 || st == 4 || (st == 5 && !s.xspi.susp.getLsbD 1) then s
  else ({ s with xspi := { s.xspi with saved := some st.toNat } }).setState 0x3D 2

/-- A task of Base camp is done with the flash: what it found goes on (R500). -/
def State.xspiGive (s : State) : State :=
  let n := s.xspi.users - 1
  let s := { s with xspi := { s.xspi with users := n } }
  match s.xspi.saved with
  | some st => if n = 0 then ({ s with xspi := { s.xspi with saved := none } }).setState 0x3D st else s
  | none => s

/-- XSPI is idle again, or goes to Base camp where it waits. -/
def State.xspiFree (s : State) : State :=
  let s := { s with xspi := { s.xspi with op := none } }
  if s.xspi.users = 0 then s.setState 0x3D 1
  else ({ s with xspi := { s.xspi with saved := some 1 } }).setState 0x3D 2

/-- Copy n bytes of a read from the flash to memory. -/
def State.xspiCopy (s : State) (o : XspiOp) (n : Nat) : State :=
  (s.setBytes o.maddr (s.flashBytes o.faddr n)).memcWritten o.maddr n

/-- XSPI_OPERATION_DONE (R499, R500): a read, program or erase ends, or the device reports an error or times out. A program
clears bits, an erase sets them. -/
def xspiOperationDone (err : Bool) (s : State) : State :=
  match s.xspi.op with
  | none => s
  | some o =>
    if s.reg Reg.XSPI_STATE ≠ wordOfNat (xspiRunState o.code) then s
    else
      let bad := err || (o.code ≤ 2 && !s.inMemory o.maddr o.len) || (o.code == 2 && s.memcBadIn o.maddr o.len)
      let s :=
        if bad then s
        else if o.code = 1 then s.xspiCopy o o.len
        else if o.code = 2 then
          s.setFlash o.faddr ((s.flashBytes o.faddr o.len).zipWith (fun x y => x &&& y) (s.bytes o.maddr o.len))
        else s.setFlash o.faddr (List.replicate o.len 0xFF)
      let s := (s.complete Reg.XSPI_CMD).xspiFree
      if bad then (s.inc Reg.XSPI_ERR_CNT).xspiEvt 1 else s.xspiEvt 0

def execXspiOperationDone (err : Bool) (s : State) : Host.Outcome State Fault Refusal := s.goesTo (s.alive 12 (xspiOperationDone err s))

/-- ABORT (R68, R500): a read stops at a byte boundary; a program or erase is suspended, or, on a device that cannot, runs
to its end. [DEDUCED: log 115] -/
def xspiAbort (m : Sys2Proof.Master) (a : Sys2Proof.CmdArg) (s : State) : State :=
  s.abort m a Reg.XSPI_CMD .priv fun _ s =>
    match s.xspi.op with
    | none => s
    | some o =>
      let st := s.reg Reg.XSPI_STATE
      if st = 3 then
        let n := min o.len (Config.xspiRead (s.now - o.since))
        (if s.inMemory o.maddr o.len then s.xspiCopy o n else s).xspiFree
      else if (st = 4 && s.xspi.susp.getLsbD 0) || (st = 5 && s.xspi.susp.getLsbD 1) then s.setState 0x3D 6
      else s

def execXspiAbort (m : Sys2Proof.Master) (a : Sys2Proof.CmdArg) (s : State) : Host.Outcome State Fault Refusal :=
  s.goesTo (xspiAbort m a s)

end Sys2Proof.Machine
end

