-- ==== Sys2Proof/Machine/Biv.lean ====
section
/-!
DEFINITION. The Bivouac domain (R537–R545, R556): the counters, the calendar clock and its view, and VBAT.
-/
namespace Sys2Proof.Machine

/-- Set BIV_EVT bits (R556). -/
def State.bivEvt (s : State) (n : Nat) : State := s.raiseEvt 5 Reg.BIV_EVT (some Reg.BIV_EVT_EN) (bitMask n)

/-- SUB of a stamp: the sub-second within the present operating second, of 15 bits, or of 16 on the substitute (R539,
R540). [DEDUCED: log 136] -/
def State.bivSub (s : State) : Nat :=
  let ns := s.now - s.biv.opsAt
  if bitOf (s.reg Reg.BIV_STAT) 4 then min (ns * 65536 / 1000000000) 65535
  else 2 * min (ns * 32768 / 1000000000) 32767

/-! ### The calendar (R541, R544) -/

/-- Days from 2000-01-01 to a Gregorian date from the year 2000 on. -/
def daysFromDate (y m d : Nat) : Nat :=
  let y' := if m ≤ 2 then y - 1 else y
  let doy := (153 * ((m + 9) % 12) + 2) / 5 + d - 1
  365 * y' + y' / 4 - y' / 100 + y' / 400 + doy - 730425

/-- The Gregorian date that lies so many days after 2000-01-01. -/
def dateFromDays (days : Nat) : Nat × Nat × Nat :=
  let z := days + 730425
  let era := z / 146097
  let doe := z % 146097
  let yoe := (doe - doe / 1460 + doe / 36524 - doe / 146096) / 365
  let doy := doe - (365 * yoe + yoe / 4 - yoe / 100)
  let mp := (5 * doy + 2) / 153
  let d := doy - (153 * mp + 2) / 5 + 1
  let m := if mp < 10 then mp + 3 else mp - 9
  (yoe + era * 400 + (if m ≤ 2 then 1 else 0), m, d)

/-- Days of a month. -/
def daysInMonth (y m : Nat) : Nat :=
  if m = 2 then (if y % 4 = 0 ∧ (y % 100 ≠ 0 ∨ y % 400 = 0) then 29 else 28)
  else if m = 4 ∨ m = 6 ∨ m = 9 ∨ m = 11 then 30 else 31

/-- SEC of the calendar: 48 bits. -/
def State.calSec (s : State) : Nat := fld (s.reg Reg.BIV_CAL_HI) 15 0 * 0x100000000 + (s.reg Reg.BIV_CAL_LO).toNat

/-- Give the calendar an instant, and with it the view (R541). -/
def State.setCalendar (s : State) (valid : Bool) (sec frac : Nat) : State :=
  let day := sec / 86400
  let (y, m, d) := dateFromDays day
  let t := sec % 86400
  let date := if 9999 < y then 0 else y * 0x10000 + (6 + day) % 7 * 0x1000 + m * 0x100 + d
  let time := if 9999 < y then 0x80000000 else t / 3600 * 0x10000 + t / 60 % 60 * 0x100 + t % 60
  s.setRegs [(Reg.BIV_CAL_LO, wordOfNat sec),
    (Reg.BIV_CAL_HI, wordOfNat (b2n valid * 0x80000000 + frac % 0x8000 * 0x10000 + sec / 0x100000000 % 0x10000)),
    (Reg.BIV_VIEW_DATE, wordOfNat date), (Reg.BIV_VIEW_TIME, wordOfNat time)]

/-- Do BIV_SET_DATE and BIV_SET_TIME hold a date and time that exist, in the years 2000–9999 (R544)? -/
def State.setViewOk (s : State) : Bool :=
  let d := s.reg Reg.BIV_SET_DATE
  let t := s.reg Reg.BIV_SET_TIME
  let y := fld d 31 16
  let m := fld d 11 8
  2000 ≤ y && y ≤ 9999 && 1 ≤ m && m ≤ 12 && 1 ≤ fld d 4 0 && fld d 4 0 ≤ daysInMonth y m
    && fld t 20 16 ≤ 23 && fld t 13 8 ≤ 59 && fld t 5 0 ≤ 59

/-- SET (R544): the load waits for the next edge of the 32.768 kHz clock. While the I0 clock has failed it is rejected with
REJ_STATE. -/
def bivSet (m : Sys2Proof.Master) (a : Sys2Proof.CmdArg) (s : State) : State :=
  let view := a.arg == 1
  s.command m a ⟨Reg.BIV_CMD, .priv, 1, a.arg.toNat < 2, true,
      s.reg Reg.BIV_STATE == 1 && !bitOf (s.reg Reg.BIV_STAT) 3, !view || s.setViewOk⟩ fun s =>
    let d := s.reg Reg.BIV_SET_DATE
    let t := s.reg Reg.BIV_SET_TIME
    let hi := s.reg Reg.BIV_SET_HI
    let x := if view then (daysFromDate (fld d 31 16) (fld d 11 8) (fld d 4 0) * 86400 + fld t 20 16 * 3600 + fld t 13 8 * 60 + fld t 5 0, 0)
      else (fld hi 15 0 * 0x100000000 + (s.reg Reg.BIV_SET_LO).toNat, fld hi 30 16)
    ({ s with biv := { s.biv with load := some x } }).setState 5 2

def execBivSet (m : Sys2Proof.Master) (a : Sys2Proof.CmdArg) (s : State) : Host.Outcome State Fault Refusal :=
  s.goesTo (bivSet m a s)

/-- CALENDAR_LOAD (R544, R548): at the edge the calendar is loaded and VALID, and a record of old and new is requested. -/
def calendarLoad (s : State) : State :=
  match s.biv.load with
  | none => s
  | some (sec, frac) =>
    let lo := s.reg Reg.BIV_CAL_LO
    let hi := s.reg Reg.BIV_CAL_HI
    let s := (({ s with biv := { s.biv with load := none } }).setCalendar true sec frac).complete Reg.BIV_CMD
    let s := (s.setState 5 1).bivEvt 0
    s.hutRequest 2 5 [wordOfNat (0x2000000 + b2n (bitOf hi 31)), s.reg Reg.BIV_CAL_LO, s.reg Reg.BIV_CAL_HI, lo, hi]

def execCalendarLoad (s : State) : Host.Outcome State Fault Refusal := s.goesTo (calendarLoad s)

/-- ABORT (R68, R544): a SET whose edge has not come is abandoned. -/
def bivAbort (m : Sys2Proof.Master) (a : Sys2Proof.CmdArg) (s : State) : State :=
  s.abort m a Reg.BIV_CMD .priv fun _ s => ({ s with biv := { s.biv with load := none } }).setState 5 1

def execBivAbort (m : Sys2Proof.Master) (a : Sys2Proof.CmdArg) (s : State) : Host.Outcome State Fault Refusal :=
  s.goesTo (bivAbort m a s)

/-- CALENDAR_SECOND (R540, R541): SEC increments, unless the crystal has failed. [DEDUCED: log 136] -/
def calendarSecond (s : State) : State :=
  if bitOf (s.reg Reg.BIV_STAT) 3 then s else s.setCalendar (bitOf (s.reg Reg.BIV_CAL_HI) 31) ((s.calSec + 1) % 2 ^ 48) 0

def execCalendarSecond (s : State) : Host.Outcome State Fault Refusal := s.goesTo (calendarSecond s)

/-- CALENDAR_READ (R543): the other three registers of the instant are latched for the port; `frac` is FRAC as the prescaler
stands. [DEDUCED: log 136] -/
def calendarRead (m : Sys2Proof.Master) (frac : Nat) (s : State) : State :=
  s.access m Reg.BIV_CAL_LO fun s =>
    let s := if bitOf (s.reg Reg.BIV_STAT) 3 then s else s.setReg Reg.BIV_CAL_HI (setFld (s.reg Reg.BIV_CAL_HI) 30 16 frac)
    let p := mport m
    let s := ((s.latch p Reg.BIV_CAL_HI (s.reg Reg.BIV_CAL_HI)).latch p Reg.BIV_VIEW_DATE (s.reg Reg.BIV_VIEW_DATE)).latch p
      Reg.BIV_VIEW_TIME (s.reg Reg.BIV_VIEW_TIME)
    s.answer p (s.reg Reg.BIV_CAL_LO) false

def execCalendarRead (m : Sys2Proof.Master) (frac : BitVec 15) (s : State) : Host.Outcome State Fault Refusal :=
  s.goesTo (calendarRead m frac.toNat s)

/-! ### Supply (R537) -/

/-- VBAT_MEASURE (R537): below 2.2 V VBATLOW is set, and recorded once per cold start. [DEDUCED: log 136] -/
def vbatMeasure (mv : Nat) (s : State) : State :=
  let s := s.setReg Reg.BIV_VBAT (wordOfNat mv)
  if 2200 ≤ mv then s
  else
    let s := (s.orReg Reg.BIV_STAT 2).bivEvt 1
    if s.biv.lowRec then s else ({ s with biv := { s.biv with lowRec := true } }).hutRequest 10 5 [wordOfNat mv]

def execVbatMeasure (mv : BitVec 16) (s : State) : Host.Outcome State Fault Refusal := s.goesTo (vbatMeasure mv.toNat s)

/-- VBAT_SWITCHOVER (R537): no count and no tick is lost. -/
def vbatSwitchover (s : State) : State := s

def execVbatSwitchover (s : State) : Host.Outcome State Fault Refusal := s.goesTo (vbatSwitchover s)

/-- The I0 clock fails (R524, R540): the calendar stops, invalid, and the counters run on from the substitute. [DEDUCED: log 133] -/
def State.bivXtalFail (s : State) : State :=
  let s := s.setReg Reg.BIV_CAL_HI (setBit (s.reg Reg.BIV_CAL_HI) 31 false)
  (s.orReg Reg.BIV_STAT 0x18).bivEvt 3

/-- OPERATING_SECOND (R516, R539): OPS increments, every bucket of a class leaks at the seconds its leak divides, and each 64
seconds the stored copies are rewritten (R538). [DEDUCED: log 133] -/
def operatingSecond (s : State) : State :=
  let s := (s.inc Reg.BIV_OPS)
  let ops := (s.reg Reg.BIV_OPS).toNat
  let b := s.flt.buckets.filterMap (fun (k, v) =>
    let (n, t) := s.bucketCfg (k / 0x1000000)
    let v := if ops % max 1 (t / n) = 0 then v - 1 else v
    if v = 0 then none else some (k, v))
  let s := { s with flt := { s.flt with buckets := b }, biv := { s.biv with opsAt := s.now } }
  if ops % 64 = 0 then { s with biv := { s.biv with pcc := s.reg Reg.BIV_PCC, ops := s.reg Reg.BIV_OPS } } else s

def execOperatingSecond (s : State) : Host.Outcome State Fault Refusal := s.goesTo (operatingSecond s)

end Sys2Proof.Machine
end

