-- ==== Sys2Proof/Machine/Tb.lean ====
section
/-!
DEFINITION. The time base (R377–R391): its settings and corrections, the servo, the calendar snapshot, the wrap, and the
read that latches.
-/
namespace Sys2Proof.Machine

/-- TB_JUMP_LIM as it acts (R381, R48). -/
def State.jumpLim (s : State) : Nat :=
  let w := (s.reg Reg.TB_JUMP_LIM).toNat
  if 50 ≤ w ∧ w ≤ 1000000000 then w else 1000

/-- Set TB_EVT bits (R390). -/
def State.tbEvt (s : State) (mask : Word) : State := s.raiseEvt 0x2C Reg.TB_EVT (some Reg.TB_EVT_EN) mask

/-- Give the time base a full time, in 2^−24 ns: no time passes, and armed ADC targets stay what they are in time-base
time (R260, R385). [DEDUCED: log 96] -/
def State.loadTime (s : State) (t24 : Nat) : State :=
  let now := s.now
  let old := s.tb.ofs
  let s := s.setTime t24
  let ofs : Int := (now : Int) - (s.tbFull : Int)
  { s with tb := { s.tb with ofs := ofs },
           adc := { s.adc with armed := s.adc.armed.map (fun p => (p.1, ((p.2 : Int) + ofs - old).toNat)) } }

/-- A correction by an offset, in 2^−24 ns, is refused (R381): the time base is unchanged. [DEDUCED: log 88; DEDUCED: log 96] -/
def State.tbRefuse (s : State) (x : Int) : State :=
  let ns := if x % 2 ^ 24 = 0 then x / 2 ^ 24 else x / 2 ^ 24 + (if Config.roundUp 5 x (2 ^ 24) then 1 else 0)
  let s := { s with tb := { s.tb with jrefFc := 1024 } }
  (((s.inc Reg.TB_JUMPREF_CNT).setReg Reg.TB_JUMP_LAST (wordOfInt (satInt 32 ns).1)).orReg Reg.TB_STAT 2).tbEvt 2

/-- TB_STAT.JREF stands for 1,024 FC (R381). -/
def State.tbAtT0 (s : State) : State :=
  if s.tb.jrefFc = 0 then s
  else
    let s' := { s with tb := { s.tb with jrefFc := s.tb.jrefFc - 1 } }
    if s.tb.jrefFc = 1 then s'.setReg Reg.TB_STAT (setBit (s.reg Reg.TB_STAT) 1 false) else s'

/-- TB_CMD SET (R385, R389): while a snapshot is pending, TB_STATE is SNAP and it is rejected. [DEDUCED: log 96] -/
def tbSet (m : Sys2Proof.Master) (a : Sys2Proof.CmdArg) (s : State) : State :=
  let st := s.reg Reg.CYC_STATE
  let free := s.reg Reg.TB_STATE != 3
  s.command m a ⟨Reg.TB_CMD, .priv, 1, a.arg == 0, false, free && (st == 0 || st == 2), true⟩ fun s =>
    let ns := (s.reg Reg.TB_SET_ERA).toNat * 2 ^ 32 + (s.reg Reg.TB_SET_NS).toNat
    ((s.setRemain 0).loadTime (ns * 2 ^ 24 + fld (s.reg Reg.TB_SET_FRAC) 31 8)).tbEvt 8

def execTbSet (m : Sys2Proof.Master) (a : Sys2Proof.CmdArg) (s : State) : Host.Outcome State Fault Refusal :=
  s.goesTo (tbSet m a s)

/-- TB_CMD ADJ (R380, R381, R389). [DEDUCED: log 96] -/
def tbAdj (m : Sys2Proof.Master) (a : Sys2Proof.CmdArg) (s : State) : State :=
  let free := s.reg Reg.TB_STATE != 3
  s.command m a ⟨Reg.TB_CMD, .priv, 2, a.arg == 0, false, free && fld (s.reg Reg.TB_CFG) 1 0 != 1, true⟩ fun s =>
    let x := (s.reg Reg.TB_ADJ_VAL).toInt * 2 ^ 24
    if x.natAbs + s.tb.remain.natAbs > s.jumpLim * 2 ^ 24 then s.tbRefuse x else s.setRemain (s.tb.remain + x)

def execTbAdj (m : Sys2Proof.Master) (a : Sys2Proof.CmdArg) (s : State) : Host.Outcome State Fault Refusal :=
  s.goesTo (tbAdj m a s)

/-- TB_CMD SNAP_CAL (R388). -/
def tbSnapCal (m : Sys2Proof.Master) (a : Sys2Proof.CmdArg) (s : State) : State :=
  s.command m a ⟨Reg.TB_CMD, .priv, 3, a.arg == 0, true, true, true⟩ fun s => s.setState 0x2C 3

def execTbSnapCal (m : Sys2Proof.Master) (a : Sys2Proof.CmdArg) (s : State) : Host.Outcome State Fault Refusal :=
  s.goesTo (tbSnapCal m a s)

/-- TB_STATE once no snapshot is pending (R380, R390). -/
def State.tbIdle (s : State) : State := s.setState 0x2C (if s.tb.remain = 0 then 1 else 2)

/-- SNAP_CAPTURE (R388). [DEDUCED: log 97] -/
def snapCapture (s : State) : State :=
  if s.busyWith Reg.TB_CMD 3 then
    let s := s.setRegs [(Reg.TB_SNAP_NS, s.reg Reg.TB_TIME_LO), (Reg.TB_SNAP_ERA, s.reg Reg.TB_TIME_HI),
      (Reg.TB_SNAP_CALS_LO, s.reg Reg.BIV_CAL_LO), (Reg.TB_SNAP_CALS_HI, setBit (s.reg Reg.BIV_CAL_HI) 31 false)]
    ((s.complete Reg.TB_CMD).tbIdle).tbEvt 0x10
  else s

def execSnapCapture (s : State) : Host.Outcome State Fault Refusal := s.goesTo (s.alive 6 (snapCapture s))

/-- TB_CMD ABORT (R68, R389). -/
def tbAbort (m : Sys2Proof.Master) (a : Sys2Proof.CmdArg) (s : State) : State :=
  s.abort m a Reg.TB_CMD .priv fun _ s => (s.setRemain 0).tbIdle

def execTbAbort (m : Sys2Proof.Master) (a : Sys2Proof.CmdArg) (s : State) : Host.Outcome State Fault Refusal :=
  s.goesTo (tbAbort m a s)

/-- TB_WRAP (R377): NS runs on to its next wrap, where no t0 comes before. -/
def tbWrap (s : State) : State :=
  let t := (((s.reg Reg.TB_TIME_HI).toNat + 1) * 2 ^ 32 + s.tb.ofs).toNat
  if s.beforeT0 (t * 2 ^ 24) then s.advanceTo t else s

def execTbWrap (s : State) : Host.Outcome State Fault Refusal := s.goesTo (s.alive 6 (tbWrap s))

/-- SLEW_COMPLETE (R380): the ticks that slew what remains pass, where no t0 comes before. -/
def slewComplete (s : State) : State :=
  let r := s.tb.remain
  let ticks := (r.natAbs + s.tbSlew - 1) / s.tbSlew
  let t := ((s.time24 : Int) + ticks * s.tbInc + r).toNat
  if r ≠ 0 ∧ s.beforeT0 t then (s.moveTime t).setRemain 0 else s

def execSlewComplete (s : State) : Host.Outcome State Fault Refusal := s.goesTo (s.alive 6 (slewComplete s))

/-- TB_TIME_READ (R387). -/
def tbTimeRead (m : Sys2Proof.Master) (s : State) : State :=
  s.access m Reg.TB_TIME_LO fun s =>
    let p := mport m
    ((s.latch p Reg.TB_TIME_HI (s.reg Reg.TB_TIME_HI)).latch p Reg.TB_FRAC (s.reg Reg.TB_FRAC)).answer p
      (s.reg Reg.TB_TIME_LO) false

def execTbTimeRead (m : Sys2Proof.Master) (s : State) : Host.Outcome State Fault Refusal := s.goesTo (tbTimeRead m s)

/-- TB_CMD CLEAR_STATS (R390). -/
def State.tbClearStats (s : State) : State := s.zeroRegs [Reg.TB_JUMPREF_CNT]

/-- The servo on an offset ε, in 2^−24 ns (R382): with SRC = RING alone. [DEDUCED: log 88; DEDUCED: log 97] -/
def State.servo (s : State) (eps : Int) : State :=
  if fld (s.reg Reg.TB_CFG) 1 0 = 1 then
    let d : Nat := 12500 * 2 ^ fld (s.reg Reg.TB_CFG) 11 8
    let k := if eps % d = 0 then eps / d else
      eps / d + (if 2 * (eps % d) > (d : Int) ∨ (2 * (eps % d) = (d : Int) ∧ Config.roundUp 6 eps d) then 1 else 0)
    let inc := (s.tbInc : Int) - k
    let s := (s.setRemain (-eps)).setReg Reg.TB_INC (wordOfInt (clampInt 0x027F0000 0x02810000 inc))
    if inc < 0x027F0000 ∨ 0x02810000 < inc then s.tbEvt 0x20 else s
  else s

/-- The check of ERA against a cairn frame's (R386): `t0` is the full time-base time of the node's own t0, in ns. -/
def State.eraCheck (s : State) (t0 : Nat) (t0ns era : Word) : State :=
  let lim := s.jumpLim
  let mine := wordOfNat (t0 / 2 ^ 32)
  if t0ns.toNat ≤ lim ∨ t0ns.toNat + lim ≥ 2 ^ 32 ∨ mine = era then s
  else
    let hi := s.reg Reg.TB_TIME_HI + (era - mine)
    (s.loadTime ((hi.toNat * 2 ^ 32 + (s.reg Reg.TB_TIME_LO).toNat) * 2 ^ 24 + fld (s.reg Reg.TB_FRAC) 31 8)).tbEvt 4

end Sys2Proof.Machine
end

