-- ==== Sys2Proof/Machine/Eth.lean ====
section
/-!
DEFINITION. The Ethernet MACs (R392–R403): commands, descriptor rings, transmission with launch time and one-step
correction, reception, management frames and link status.
-/
namespace Sys2Proof.Machine

/-- The block index. -/
def ethBlk (k : Nat) : Nat := 0x2D + k

/-- What a MAC holds. -/
def State.ethMac (s : State) (k : Nat) : EthMac := smGet (fun _ => {}) s.eth k

/-- Store it. -/
def State.setEth (s : State) (k : Nat) (x : EthMac) : State := { s with eth := smSet (fun _ => {}) s.eth k x }

/-- Set ETH_EVT bits (R402). -/
def State.ethEvt (s : State) (k n : Nat) : State :=
  s.raiseEvt (ethBlk k) (Reg.ETH_EVT k) (some (Reg.ETH_EVT_EN k)) (bitMask n)

/-- Is the MAC in RUN (R401)? -/
def State.ethRuns (s : State) (k : Nat) : Bool := fld (s.reg (Reg.ETH_STATE k)) 1 0 == 1

/-- Set the state, LINK and SPEED standing. -/
def State.setEthSt (s : State) (k st : Nat) : State := s.setState (ethBlk k) (setFld (s.reg (Reg.ETH_STATE k)) 1 0 st).toNat

/-- ns a byte takes: SPEED, or in-band SPEED with SPDAUTO; a reserved one acts as 1000 Mbit/s (R403, R48). -/
def State.byteTime (s : State) (k : Nat) : Nat :=
  let c := s.reg (Reg.ETH_CFG k)
  let v := if bitOf c 6 then fld (s.reg (Reg.ETH_STATE k)) 10 9 else fld c 5 4
  if v = 0 then 800 else if v = 1 then 80 else 8

/-- A STOP ends once the frame on the wire has ended (R401); 12 byte times of gap follow the frame. [DESIGN CHOICE: log 100] -/
def State.ethSettle (s : State) (k : Nat) : State :=
  if s.busyWith (Reg.ETH_CMD k) 2 && decide ((s.ethMac k).wireTill ≤ s.now + 12 * s.byteTime k) then
    (s.setEthSt k 0).complete (Reg.ETH_CMD k)
  else s

/-! ### Commands (R401) -/

/-- ETH_CMD START (R401). -/
def ethStart (k : Nat) (m : Sys2Proof.Master) (a : Sys2Proof.CmdArg) (s : State) : State :=
  let s := s.ethSettle k
  s.command m a ⟨Reg.ETH_CMD k, .priv, 1, a.arg == 0, false,
      !s.ethRuns k && fld (s.reg (Reg.ETH_CFG k)) 5 4 != 3, true⟩ fun s => s.setEthSt k 1

def execEthStart (k : Bool) (m : Sys2Proof.Master) (a : Sys2Proof.CmdArg) (s : State) :
    Host.Outcome State Fault Refusal := s.goesTo (ethStart (b2n k) m a s)

/-- ETH_CMD STOP (R401). -/
def ethStop (k : Nat) (m : Sys2Proof.Master) (a : Sys2Proof.CmdArg) (s : State) : State :=
  let s := s.ethSettle k
  s.command m a ⟨Reg.ETH_CMD k, .priv, 2, a.arg == 0, true, s.ethRuns k, true⟩ fun s => s.ethSettle k

def execEthStop (k : Bool) (m : Sys2Proof.Master) (a : Sys2Proof.CmdArg) (s : State) :
    Host.Outcome State Fault Refusal := s.goesTo (ethStop (b2n k) m a s)

/-- ETH_CMD MDIO (R401). -/
def ethMdio (k : Nat) (m : Sys2Proof.Master) (a : Sys2Proof.CmdArg) (s : State) : State :=
  let s := s.ethSettle k
  s.command m a ⟨Reg.ETH_CMD k, .priv, 4, a.arg == 0, true, true, true⟩ fun s => s

def execEthMdio (k : Bool) (m : Sys2Proof.Master) (a : Sys2Proof.CmdArg) (s : State) :
    Host.Outcome State Fault Refusal := s.goesTo (ethMdio (b2n k) m a s)

/-- ETH_MDIO_DONE (R401, R402): a read (OP 2) leaves what the PHY answered. -/
def ethMdioDone (k : Nat) (data : BitVec 16) (s : State) : State :=
  if s.busyWith (Reg.ETH_CMD k) 4 then
    let s := if fld (s.reg (Reg.ETH_MDIO_CTL k)) 29 28 = 2 then s.setReg (Reg.ETH_MDIO_DATA k) (wordOfNat data.toNat) else s
    (s.complete (Reg.ETH_CMD k)).ethEvt k 6
  else s

def execEthMdioDone (k : Bool) (data : BitVec 16) (s : State) : Host.Outcome State Fault Refusal :=
  s.goesTo (s.alive 10 (ethMdioDone (b2n k) data s))

/-- ETH_CMD CLEAR_STATS (R401, R402). -/
def State.ethClearStats (s : State) (k : Nat) : State :=
  s.zeroRegs [Reg.ETH_TXFRM_CNT k, Reg.ETH_LATE_CNT k, Reg.ETH_RXFRM_CNT k, Reg.ETH_RXCRC_CNT k, Reg.ETH_RXLEN_CNT k,
    Reg.ETH_RXNODESC_CNT k, Reg.ETH_RXWARM_CNT k]

/-- ETH_LINK_CHANGE (R402). -/
def ethLinkChange (k : Nat) (link : Bool) (speed : Nat) (s : State) : State :=
  let w := s.reg (Reg.ETH_STATE k)
  let w' := setFld (setBit w 8 link) 10 9 speed
  if w = w' then s else (s.setState (ethBlk k) w'.toNat).ethEvt k 4

def execEthLinkChange (k link : Bool) (speed : BitVec 2) (s : State) : Host.Outcome State Fault Refusal :=
  s.goesTo (s.alive 10 (ethLinkChange (b2n k) link speed.toNat s))

/-! ### Descriptor rings (R394) -/

/-- One ring of a MAC: the OFS of its BASE_LO; the others follow (R402). -/
def ethRing (k q : Nat) (tx : Bool) : Nat := if tx then Reg.ETH_Q_TXBASE_LO k q else Reg.ETH_Q_RXBASE_LO k q

/-- CNT; outside 8–4,096 it acts as its reset value (R48, R394). -/
def State.ringCnt (s : State) (r : Nat) : Nat := let c := fld (s.reg (r + 8)) 12 0; if 8 ≤ c ∧ c ≤ 4096 then c else 8

/-- HEAD and TAIL; a TAIL beyond the count acts as its reset value (R402, R48). -/
def State.ringHead (s : State) (r : Nat) : Nat := (s.reg (r + 0xC)).toNat
def State.ringTail (s : State) (r : Nat) : Nat := let t := (s.reg (r + 0x10)).toNat; if t < s.ringCnt r then t else 0

/-- QEN. -/
def State.ringOn (s : State) (r : Nat) : Bool := bitOf (s.reg (r + 0x14)) 0

/-- The address of the descriptor at HEAD. -/
def State.ringDesc (s : State) (r : Nat) : Nat :=
  fld (s.reg (r + 4)) 7 0 * 2 ^ 32 + (s.reg r).toNat / 32 * 32 + 32 * s.ringHead r

/-- Word i of a descriptor, and the buffer it names (R395, R396). -/
def State.descBuf (s : State) (d : Nat) : Nat := fld (s.word (d + 4)) 7 0 * 2 ^ 32 + (s.word d).toNat

/-- Has the ring a descriptor at HEAD: enabled, not empty, its memory answers, OWN set? -/
def State.ringReady (s : State) (r : Nat) : Bool :=
  s.ringOn r && s.ringHead r != s.ringTail r && s.inMemory (s.ringDesc r) 32 && bitOf (s.word (s.ringDesc r + 4)) 31

/-- HEAD advances past a descriptor given back: OWN cleared. -/
def State.ringPass (s : State) (r : Nat) : State :=
  let d := s.ringDesc r
  (s.setWord (d + 4) (setBit (s.word (d + 4)) 31 false)).setReg (r + 0xC) (wordOfNat ((s.ringHead r + 1) % s.ringCnt r))

/-- The queues that reach a descriptor with OWN = 0 stop until TAIL is written again (R394). -/
def State.ethStopQueues (s : State) (k : Nat) (tx : Bool) : State :=
  let x := s.ethMac k
  let dry := (List.range 8).filter (fun q =>
    let r := ethRing k q tx
    s.ringOn r && s.ringHead r != s.ringTail r && !s.ringReady r)
  if tx then s.setEth k { x with txStop := (x.txStop ++ dry).eraseDups } else s.setEth k { x with rxStop := (x.rxStop ++ dry).eraseDups }

/-- TXTAIL_WRITE and RXTAIL_WRITE (R394, R402): open to every class. -/
def tailWrite (m : Sys2Proof.Master) (k q : Nat) (tx : Bool) (x : Word) (s : State) : State :=
  let r := ethRing k q tx
  s.access m (r + 0x10) fun s =>
    let y := s.ethMac k
    let s := s.setReg (r + 0x10) x
    if tx then s.setEth k { y with txStop := y.txStop.filter (fun i => i != q) }
    else s.setEth k { y with rxStop := y.rxStop.filter (fun i => i != q) }

def execTxtailWrite (m : Sys2Proof.Master) (k : Bool) (q : BitVec 3) (x : BitVec 32) (s : State) :
    Host.Outcome State Fault Refusal := s.goesTo (tailWrite m (b2n k) q.toNat true x s)

def execRxtailWrite (m : Sys2Proof.Master) (k : Bool) (q : BitVec 3) (x : BitVec 32) (s : State) :
    Host.Outcome State Fault Refusal := s.goesTo (tailWrite m (b2n k) q.toNat false x s)

/-! ### Transmission (R395, R397–R399) -/

/-- Is the head of a transmit ring a launch-time frame: LT in TXCFG and in the descriptor (R395, R397)? -/
def State.isLaunch (s : State) (r : Nat) : Bool := bitOf (s.reg (r + 0x14)) 1 && bitOf (s.word (s.ringDesc r + 4)) 30

/-- The transmit rings with a head to be sent. -/
def State.txHeads (s : State) (k : Nat) : List Nat :=
  (List.range 8).filter (fun q => s.ringReady (ethRing k q true) && !(s.ethMac k).txStop.contains q)

/-- LEN of a head. -/
def State.txLen (s : State) (r : Nat) : Nat := fld (s.word (s.ringDesc r + 4)) 26 16

/-- ns from the preamble to the end of the gap: 8 bytes, the padded frame, its FCS, 12 bytes (R392, R397). -/
def State.wireTime (s : State) (k len : Nat) : Nat := (8 + max len 60 + 4 + 12) * s.byteTime k

/-- The ns of elapsed time at which the preamble of a launch-time head is due (R397): its first bit after SFD crosses the MDI
at TIME; TIME is a signed difference from the time base. -/
def State.launchDue (s : State) (k r : Nat) : Int :=
  (s.now : Int) + (s.word (s.ringDesc r + 8) - s.reg Reg.TB_TIME_LO).toInt - fld (s.reg (Reg.ETH_TXLAT k)) 15 0 - 8 * s.byteTime k

/-- A head is given back with a STATUS (R395). [DEDUCED: log 98] -/
def State.txDone (s : State) (k r status : Nat) : State :=
  let d := s.ringDesc r
  let s := (s.setWord (d + 20) (setFld (s.word (d + 20)) 5 0 status)).ringPass r
  s.ethEvt k 0

/-- A byte list with a big-endian 64-bit number added at an offset (R399). -/
def addField (l : List Byte) (at_ : Nat) (x : Int) : List Byte :=
  let old := (List.range 8).foldl (fun n i => n * 256 + (l.getD (at_ + i) 0).toNat) 0
  let new := (((old : Int) + x) % 2 ^ 64).toNat
  (List.range 8).foldl (fun l i => l.set (at_ + i) (BitVec.ofNat 8 (new / 2 ^ (8 * (7 - i))))) l

/-- The bytes on the wire after the preamble: one-step correction (R399), padding and FCS (R392). -/
def State.txBytes (s : State) (r : Nat) (ts : Word) : List Byte :=
  let d := s.ringDesc r
  let w3 := s.word (d + 12)
  let l := s.bytes (s.descBuf d) (s.txLen r)
  let ofs := fld w3 7 0
  let l :=
    if bitOf (s.word (d + 4)) 28 then
      let l := if bitOf w3 8 ∧ 2 ≤ ofs then (l.set (ofs - 2) 0).set (ofs - 1) 0 else l
      addField l (ofs + 8) ((ts - s.word (d + 8)).toInt * 2 ^ 16)
    else l
  let l := l ++ List.replicate (60 - l.length) 0
  let c := crc32 (l.map (fun b => b.toNat))
  l ++ (List.range 4).map (fun i => BitVec.ofNat 8 (c / 2 ^ (8 * i)))

/-- The head of a ring goes to the wire now, late or not; `jit` is what the timestamp is out by (R393). [DEDUCED: log 98] -/
def State.txSend (s : State) (k r : Nat) (late : Bool) (jit : Int) : State :=
  let d := s.ringDesc r
  let len := s.txLen r
  if len < 14 ∨ 2000 < len then (s.txDone k r 8).ethEvt k 5
  else if !s.inMemory (s.descBuf d) len then (s.txDone k r 0x10).ethEvt k 5
  else
    let ts := s.reg Reg.TB_TIME_LO + wordOfInt ((8 * s.byteTime k + fld (s.reg (Reg.ETH_TXLAT k)) 15 0 : Nat) + jit)
    let tsv := bitOf (s.word (d + 4)) 29
    let s := s.setEth k { s.ethMac k with sent := s.txBytes r ts, wireTill := s.now + s.wireTime k len }
    let s := if tsv then s.setWord (d + 16) ts else s
    let s := s.inc (Reg.ETH_TXFRM_CNT k)
    let s := if late then (s.inc (Reg.ETH_LATE_CNT k)).ethEvt k 2 else s
    s.txDone k r (1 + 2 * b2n late + 4 * b2n tsv)

/-- May a frame be started now: RUN, no STOP in progress, the wire free, no PAUSE in force? -/
def State.wireFree (s : State) (k : Nat) : Bool :=
  s.ethRuns k && !s.busyWith (Reg.ETH_CMD k) 2 && decide ((s.ethMac k).wireTill ≤ s.now) &&
    decide ((s.ethMac k).pauseTill ≤ s.now)

/-- The highest ready queue without launch time whose frame ends, with its gap, before the preamble of every pending
launch-time head is due (R397). [DEDUCED: log 98] -/
def State.txPick (s : State) (k : Nat) : Option Nat :=
  let heads := s.txHeads k
  let due := (heads.filter (fun q => s.isLaunch (ethRing k q true))).map (fun q => s.launchDue k (ethRing k q true))
  let fits (q : Nat) : Bool := due.all (fun t => decide ((s.now : Int) + s.wireTime k (s.txLen (ethRing k q true)) ≤ t))
  (heads.filter (fun q => !s.isLaunch (ethRing k q true) && fits q)).getLast?

/-- ETH_FRAME_TRANSMIT (R394, R395, R397): the highest ready queue without launch time whose frame ends, with its gap,
before the preamble of every pending launch-time head is due. -/
def ethFrameTransmit (k : Nat) (jit : Int) (s : State) : State :=
  let s := (s.ethSettle k).ethStopQueues k true
  match s.txPick k with
  | some q => if s.wireFree k then s.txSend k (ethRing k q true) false jit else s
  | none => s

def execEthFrameTransmit (k : Bool) (jit : BitVec 9) (s : State) : Host.Outcome State Fault Refusal :=
  s.goesTo (s.alive 10 (ethFrameTransmit (b2n k) jit.toInt s))

/-- Of the launch-time heads the one due first, at one TIME the higher-numbered queue (R397). -/
def State.launchPick (s : State) (k : Nat) : Option Nat :=
  let heads := (s.txHeads k).filter (fun q => s.isLaunch (ethRing k q true))
  heads.foldl (fun (b : Option Nat) q =>
    match b with
    | none => some q
    | some c => if s.launchDue k (ethRing k q true) ≤ s.launchDue k (ethRing k c true) then some q else some c) none

/-- LAUNCH_TIME (R397, R398): of the launch-time heads the one due first, at one TIME the higher-numbered queue, begins when
its preamble is due, or late, when the wire or a PAUSE frees it; beyond ETH_LT_TOL it is given back unsent. -/
def launchTime (k : Nat) (jit : Int) (s : State) : State :=
  let s := (s.ethSettle k).ethStopQueues k true
  match s.launchPick k with
  | none => s
  | some q =>
    let r := ethRing k q true
    let due := s.launchDue k r
    let x := s.ethMac k
    let start := max (max (max due 0).toNat s.now) (max x.wireTill x.pauseTill)
    if !s.ethRuns k ∨ s.busyWith (Reg.ETH_CMD k) 2 ∨ !s.beforeT0 (start * 2 ^ 24) then s
    else
      let late := (start : Int) - due
      let s := s.advanceTo start
      if late ≤ 0 then s.txSend k r false jit
      else if late ≤ (s.reg (Reg.ETH_LT_TOL k)).toNat then s.txSend k r true jit
      else ((s.inc (Reg.ETH_LATE_CNT k)).ethEvt k 2).txDone k r 3

def execLaunchTime (k : Bool) (jit : BitVec 9) (s : State) : Host.Outcome State Fault Refusal :=
  s.goesTo (s.alive 10 (launchTime (b2n k) jit.toInt s))

/-- The launch-time descriptors of a ring not started are given back with FLUSHED, up to the first other one. [DESIGN CHOICE: log 100] -/
def ethFlush (k r : Nat) : Nat → State → State
  | 0, s => s
  | n + 1, s =>
    if s.ringHead r != s.ringTail r && s.inMemory (s.ringDesc r) 32 && bitOf (s.word (s.ringDesc r + 4)) 31 && s.isLaunch r
    then ethFlush k r n (s.txDone k r 0x20) else s

/-- ETH_CMD ABORT (R68, R401). -/
def ethAbort (k : Nat) (m : Sys2Proof.Master) (a : Sys2Proof.CmdArg) (s : State) : State :=
  (s.ethSettle k).abort m a (Reg.ETH_CMD k) .priv fun _ s =>
    (List.range 8).foldl (fun s q =>
      let r := ethRing k q true
      ethFlush k r (s.ringCnt r) (s.setReg (r + 0x14) (setBit (s.reg (r + 0x14)) 0 false))) s

def execEthAbort (k : Bool) (m : Sys2Proof.Master) (a : Sys2Proof.CmdArg) (s : State) :
    Host.Outcome State Fault Refusal := s.goesTo (ethAbort (b2n k) m a s)

/-! ### Reception (R392, R393, R396, R403) -/

/-- The byte of a frame at an offset, and the big-endian 16-bit number there. -/
def fb (f : List Byte) (i : Nat) : Nat := (f.getD i 0).toNat
def fb16 (f : List Byte) (i : Nat) : Nat := fb f i * 256 + fb f (i + 1)

/-- The first six bytes as a number, byte 0 most significant. -/
def dstAddr (f : List Byte) : Nat := (List.range 6).foldl (fun n i => n * 256 + fb f i) 0

/-- The MAC address, byte 0 most significant. -/
def State.macAddr (s : State) (k : Nat) : Nat :=
  dstAddr (((wordBytes [s.reg (Reg.ETH_MAC_LO k), s.reg (Reg.ETH_MAC_HI k)]).map (fun n => BitVec.ofNat 8 n)).take 6)

/-- The multicast addresses of IEEE 1588 over Ethernet and over UDP/IPv4. [PRESUMED: log 99] -/
def ptpMulticast : List Nat := [0x011B19000000, 0x0180C200000E, 0x01005E000181, 0x01005E00006B]

/-- Is the frame addressed to this MAC or accepted (R403)? -/
def State.ethAccepts (s : State) (k : Nat) (f : List Byte) : Bool :=
  let c := s.reg (Reg.ETH_CFG k)
  let a := dstAddr f
  a == s.macAddr k || ptpMulticast.contains a || bitOf c 8 || (a == 0xFFFFFFFFFFFF && bitOf c 10) ||
    (a != 0xFFFFFFFFFFFF && fb f 0 % 2 == 1 && bitOf c 9)

/-- Has the frame an IEEE 802.1Q tag? -/
def vlanTagged (f : List Byte) : Bool := fb16 f 12 == 0x8100

/-- Is the frame PTP: EtherType 0x88F7, or UDP to port 319 or 320 (R392)? [PRESUMED: log 99] -/
def isPtp (f : List Byte) : Bool :=
  let o := if vlanTagged f then 16 else 12
  let t := fb16 f o
  let port (i : Nat) : Bool := fb16 f i == 319 || fb16 f i == 320
  t == 0x88F7 || (t == 0x0800 && fb f (o + 11) == 17 && port (o + 2 + fb f (o + 2) % 16 * 4 + 2))
    || (t == 0x86DD && fb f (o + 8) == 17 && port (o + 44))

/-- Is the frame a PAUSE (IEEE 802.3 Annex 31B)? [PRESUMED: log 99] -/
def State.isPause (s : State) (k : Nat) (f : List Byte) : Bool :=
  (dstAddr f == 0x0180C2000001 || dstAddr f == s.macAddr k) && fb16 f 12 == 0x8808 && fb16 f 14 == 1

/-- ETH_FRAME_RECEIVE (R392, R393, R396, R400, R403): the bytes with their FCS, the first bit after the SFD at the pins now. [DESIGN CHOICE: log 100; DESIGN CHOICE: log 142] -/
def ethFrameReceive (k : Nat) (f : List Byte) (jit : Int) (s : State) : State :=
  let s := s.ethSettle k
  let n := f.length - 4
  let fcs := (List.range 4).foldl (fun x i => x + fb f (n + i) * 2 ^ (8 * i)) 0
  if !s.ethRuns k then s
  else if f.length < 64 ∨ 2004 < f.length then s.inc (Reg.ETH_RXLEN_CNT k)
  else if crc32 ((f.take n).map (fun b => b.toNat)) ≠ fcs then s.inc (Reg.ETH_RXCRC_CNT k)
  else if s.isPause k f ∧ bitOf (s.reg (Reg.ETH_CFG k)) 11 then
    s.setEth k { s.ethMac k with pauseTill := s.now + fb16 f 16 * 64 * s.byteTime k }
  else if !s.ethAccepts k f then s
  else if (s.ethMac k).warm then s.inc (Reg.ETH_RXWARM_CNT k)
  else
    let s := s.ethStopQueues k false
    let c := s.reg (Reg.ETH_CFG k)
    let tag := vlanTagged f
    let pcp := fb f 14 / 32
    let q := if isPtp f then fld c 18 16 else if bitOf c 19 ∧ tag then pcp else 0
    let r := ethRing k q false
    if !s.ringReady r ∨ (s.ethMac k).rxStop.contains q then (s.inc (Reg.ETH_RXNODESC_CNT k)).ethEvt k 3
    else
      let d := s.ringDesc r
      let b := s.descBuf d
      let s := if s.inMemory b n then s.setBytes b (f.take n) else s
      let w2 := n + b2n tag * 0x10000 + (if tag then pcp * 0x20000 else 0) + b2n (isPtp f) * 0x100000
      let ts := s.reg Reg.TB_TIME_LO + wordOfInt (jit - fld (s.reg (Reg.ETH_RXLAT k)) 15 0)
      let s := ((s.setWord (d + 8) (wordOfNat w2)).setWord (d + 12) ts).ringPass r
      (s.inc (Reg.ETH_RXFRM_CNT k)).ethEvt k 1

def execEthFrameReceive (k : Bool) (f : List (BitVec 8)) (jit : BitVec 9) (s : State) :
    Host.Outcome State Fault Refusal := s.goesTo (s.alive 10 (ethFrameReceive (b2n k) f jit.toInt s))

/-- A warm restart (R400): every queue's HEAD and TAIL to 0, QEN cleared; frames are dropped until a queue is enabled. -/
def State.ethWarm (s : State) (k : Nat) : State :=
  let s := s.setEth k { s.ethMac k with txStop := [], rxStop := [], warm := true }
  ([true, false].flatMap (fun tx => (List.range 8).map (fun q => ethRing k q tx))).foldl (fun (s : State) r =>
    s.setRegs [(r + 0xC, 0), (r + 0x10, 0), (r + 0x14, setBit (s.reg (r + 0x14)) 0 false)]) s

end Sys2Proof.Machine
end

