-- ==== Sys2Proof/Machine/Hut.lean ====
section
/-!
DEFINITION. The hut book (R546–R555, R557, R558): its headers and records in MRAM, records of blocks and of masters, the
reading cursor, and authorised clearing.
-/
namespace Sys2Proof.Machine

/-- MRAM, and the record area in it (R15, R546). -/
def hutBase : Nat := 0x20000000
def hutFirst : Nat := 0x80
def hutEnd : Nat := 0x70000

/-- The MRAM word at an offset, and writes of MRAM words. -/
def State.hutWord (s : State) (o : Nat) : Word := s.word (hutBase + o)
def State.setHutWords (s : State) (o : Nat) (l : List Word) : State := s.setWords (hutBase + o) l

/-- Set HUT_EVT bits (R557). -/
def State.hutEvt (s : State) (n : Nat) : State := s.raiseEvt 6 Reg.HUT_EVT (some Reg.HUT_EVT_EN) (bitMask n)

/-! ### Headers (R546) -/

/-- Is a header copy, 0 A or 1 B, valid? -/
def State.hutHdrOk (s : State) (k : Nat) : Bool :=
  s.hutWord (64 * k) == 0x48555442 && s.hutWord (64 * k + 60) == wordOfNat (crc32c (wordBytes (s.words (hutBase + 64 * k) 15)))

/-- The header in force: the valid copy with the newer HGEN. -/
def State.hutHdr (s : State) : Option Nat :=
  match s.hutHdrOk 0, s.hutHdrOk 1 with
  | true, true => if 0 < (s.hutWord 68 - s.hutWord 4).toInt then some 1 else some 0
  | true, false => some 0
  | false, true => some 1
  | false, false => none

/-- Bytes from NEXT to OLDEST around the ring (R550). -/
def hutRoom (oldest next : Nat) : Nat := if oldest ≤ next then hutEnd - hutFirst - (next - oldest) else oldest - next

/-- HUT_FREE, the reserve of 64 bytes excluded, and NEARFULL below a sixteenth of the area (R550). -/
def State.hutShow (s : State) : State :=
  let room := hutRoom (s.reg Reg.HUT_OLDEST).toNat (s.reg Reg.HUT_NEXT).toNat
  let old := (s.reg Reg.HUT_FREE).toNat
  let s := s.setReg Reg.HUT_FREE (wordOfNat (room - 64))
  if room - 64 < 28664 ∧ 28664 ≤ old then s.hutEvt 0 else s

/-- Write the other header copy with HGEN + 1: OLDEST, NEXT, RECS, CLEARS, WRITTEN (R546). [DESIGN CHOICE: log 8] -/
def State.hutHeader (s : State) (oldest next : Nat) (recs clears written : Word) : State :=
  let k := match s.hutHdr with
    | some k => 1 - k
    | none => 0
  let gen := match s.hutHdr with
    | some j => s.hutWord (64 * j + 4) + 1
    | none => 1
  let w : List Word := [0x48555442, gen, wordOfNat oldest, wordOfNat next, recs, clears, written, 0, 0, 0, 0, 0, 0, 0, 0]
  let s := s.setHutWords (64 * k) (w ++ [wordOfNat (crc32c (wordBytes w))])
  (s.setRegs [(Reg.HUT_OLDEST, wordOfNat oldest), (Reg.HUT_NEXT, wordOfNat next), (Reg.HUT_RECS, recs),
    (Reg.HUT_CLEARS, clears), (Reg.HUT_WRITTEN, written)]).hutShow

/-- The registers as the header in force gives them (R546, R557); with no valid header the book is empty. [DESIGN CHOICE: log 8] -/
def State.hutLoad (s : State) : State :=
  match s.hutHdr with
  | some k => (s.setRegs [(Reg.HUT_OLDEST, s.hutWord (64 * k + 8)), (Reg.HUT_NEXT, s.hutWord (64 * k + 12)),
      (Reg.HUT_RECS, s.hutWord (64 * k + 16)), (Reg.HUT_CLEARS, s.hutWord (64 * k + 20)),
      (Reg.HUT_WRITTEN, s.hutWord (64 * k + 24))]).hutShow
  | none => s.hutShow

/-! ### Records (R547) -/

/-- Where a record begins once `next` is at or past the end of the area. -/
def hutNorm (o : Nat) : Nat := if hutEnd ≤ o then hutFirst else o

/-- LEN of the record at an offset, in units, where it is valid. -/
def State.hutLen (s : State) (o : Nat) : Option Nat :=
  let n := fld (s.hutWord o) 6 0
  if 1 ≤ n ∧ n ≤ 64 ∧ o + 16 * n ≤ hutEnd then some n else none

/-- The offset of the record after the one at an offset: past a WRAP record the area begins again; where LEN is invalid, the
next unit (R547, R553). -/
def State.hutAfter (s : State) (o : Nat) : Nat :=
  match s.hutLen o with
  | some n => if fld (s.hutWord o) 31 24 = 0 then hutFirst else hutNorm (o + 16 * n)
  | none => hutNorm (o + 16)

/-- Is the record at an offset committed: does its CRC match (R549)? -/
def State.hutGood (s : State) (o : Nat) : Bool :=
  match s.hutLen o with
  | some n => s.hutWord (o + 16 * n - 4) == wordOfNat (crc32c (wordBytes (s.words (hutBase + o) (4 * n - 1))))
  | none => false

/-- W0–W2 of a record stamped now (R547). -/
def State.hutStamp (s : State) (typ len : Nat) : List Word :=
  [wordOfNat (typ * 0x1000000 + s.bivSub * 0x100 + len), s.reg Reg.BIV_PCC, s.reg Reg.BIV_OPS]

/-- Bytes a record of `len` units takes from an offset on, the rest of the area included where it wraps, and where it
stands. [DEDUCED: log 137] -/
def hutPlace (next len : Nat) : Nat × Nat :=
  if next + 16 * len ≤ hutEnd then (16 * len, next) else (hutEnd - next + 16 * len, hutFirst)

/-- A record leaves the book: a cursor on it is marked (R553). [DEDUCED: log 137] -/
def State.hutMark (s : State) (o : Nat) : State :=
  let on := (List.range 29).filter (fun p => s.preg p Reg.HUT_CURSOR == wordOfNat o && !s.hut.gone.contains p)
  if on.isEmpty then s else { s with hut := { s.hut with gone := s.hut.gone ++ on } }

/-- Remove the oldest records, one header write per record, until so many bytes are free beside the reserve (R550). [DEDUCED: log 137] -/
def State.hutEvict (s : State) (need : Nat) : Nat → State
  | 0 => s
  | fuel + 1 =>
    let o := (s.reg Reg.HUT_OLDEST).toNat
    let n := (s.reg Reg.HUT_NEXT).toNat
    if o = n ∨ need + 64 ≤ hutRoom o n then s
    else
      let wrap := fld (s.hutWord o) 31 24 == 0 && (s.hutLen o).isSome
      let recs := if wrap then s.reg Reg.HUT_RECS else s.reg Reg.HUT_RECS - 1
      let t := (s.hutMark o).hutHeader (s.hutAfter o) n recs (s.reg Reg.HUT_CLEARS) (s.reg Reg.HUT_WRITTEN)
      let t := if wrap then t else (t.inc Reg.HUT_OVWR_CNT).hutEvt 2
      t.hutEvict need fuel

/-- Reserve a record (R549, R550): W0–W2 at its place, a WRAP record where it would cross the end, then the header; nothing
where there is no room. -/
def State.hutReserve (s : State) (typ len : Nat) : State × Option Nat :=
  let next := (s.reg Reg.HUT_NEXT).toNat
  let (need, o) := hutPlace next len
  let over_ := bitOf (s.reg Reg.HUT_CFG) 0
  let s := if over_ then s.hutEvict need 28700 else s
  if hutRoom (s.reg Reg.HUT_OLDEST).toNat next < need + 64 then
    let s := (s.inc Reg.HUT_DROP_CNT).hutEvt 1
    (if s.reg Reg.HUT_STATE = 2 then s else s.setState 6 3, none)
  else
    let s :=
      if o = next then s
      else
        let w := s.hutStamp 0 1
        s.setHutWords next (w ++ [wordOfNat (crc32c (wordBytes w))])
    let s := s.setHutWords o (s.hutStamp typ len)
    let written := wordOfNat (min ((s.reg Reg.HUT_WRITTEN).toNat + 1) 0xFFFFFFFF)
    let s := s.hutHeader (s.reg Reg.HUT_OLDEST).toNat (hutNorm (o + 16 * len)) (s.reg Reg.HUT_RECS + 1) (s.reg Reg.HUT_CLEARS) written
    (if over_ && s.reg Reg.HUT_STATE == 3 then s.setState 6 1 else s, some o)

/-- Commit a record: the payload from W3 on, zeros in the words not written, and the CRC last (R549). -/
def State.hutCommitAt (s : State) (o len : Nat) (payload : List Word) : State :=
  let s := s.setHutWords (o + 12) ((List.range (4 * len - 4)).map (fun i => payload.getD i 0))
  s.setHutWords (o + 16 * len - 4) [wordOfNat (crc32c (wordBytes (s.words (hutBase + o) (4 * len - 1))))]

/-- LEN of a block's record (R548). [DEDUCED: log 137] -/
def hutTypeLen (typ : Nat) : Nat := if typ = 1 then 4 else if typ = 2 ∨ typ = 7 then 3 else 2

/-- BLOCK_RECORD_COMMIT (R551): the record at the head of the queue is reserved, written and committed. [DEDUCED: log 140] -/
def blockRecordCommit (s : State) : State :=
  match s.hut.queue with
  | [] => s
  | r :: rest =>
    let s := { s with hut := { s.hut with queue := rest } }
    match s.hutReserve r.typ (hutTypeLen r.typ) with
    | (s, some o) => s.hutCommitAt o (hutTypeLen r.typ) r.payload
    | (s, none) => s

def execBlockRecordCommit (s : State) : Host.Outcome State Fault Refusal := s.goesTo (s.alive 4 (blockRecordCommit s))

/-! ### Records of masters (R552, R558) -/

/-- The reservation of a port is the open one. -/
def State.hutMine (s : State) (m : Sys2Proof.Master) : Bool :=
  match s.hut.opened with
  | some r => r.port == mport m
  | none => false

/-- RESERVE (R552, R558). -/
def hutReserve (m : Sys2Proof.Master) (a : Sys2Proof.CmdArg) (s : State) : State :=
  let typ := a.arg.toNat / 256
  let len := a.arg.toNat % 256
  s.command m a ⟨Reg.HUT_CMD, .priv, 1, true, false, s.reg Reg.HUT_STATE == 1, 0x80 ≤ typ && 1 ≤ len && len ≤ 64⟩ fun s =>
    match s.hutReserve typ len with
    | (s, some o) =>
      let s := { s with hut := { s.hut with opened := some ⟨mport m, mclassCode (mclass m), o, len, s.now⟩ } }
      (s.setRegs [(Reg.HUT_WR_OFS, wordOfNat o), (Reg.HUT_WR_IDX, 0)]).setState 6 2
    | (s, none) => s

def execHutReserve (m : Sys2Proof.Master) (a : Sys2Proof.CmdArg) (s : State) : Host.Outcome State Fault Refusal :=
  s.goesTo (hutReserve m a s)

/-- HUT_WR_DATA_WRITE (R552): the next payload word; one of another port, or beyond the payload, is discarded. -/
def hutWrDataWrite (m : Sys2Proof.Master) (x : Word) (s : State) : State :=
  s.writeGranted m Reg.HUT_WR_DATA .priv fun s =>
    match s.hut.opened with
    | some r =>
      let i := (s.reg Reg.HUT_WR_IDX).toNat
      if r.port = mport m ∧ i < 4 * r.len - 4 then
        (s.setHutWords (r.ofs + 12 + 4 * i) [x]).setReg Reg.HUT_WR_IDX (wordOfNat (i + 1))
      else s
    | none => s

def execHutWrDataWrite (m : Sys2Proof.Master) (x : BitVec 32) (s : State) : Host.Outcome State Fault Refusal :=
  s.goesTo (hutWrDataWrite m x s)

/-- The reservation is over. -/
def State.hutClose (s : State) : State := ({ s with hut := { s.hut with opened := none } }).setState 6 1

/-- COMMIT (R549, R552). -/
def hutCommit (m : Sys2Proof.Master) (a : Sys2Proof.CmdArg) (s : State) : State :=
  s.command m a ⟨Reg.HUT_CMD, .priv, 2, a.arg == 0, false, s.hutMine m, true⟩ fun s =>
    match s.hut.opened with
    | some r =>
      let n := (s.reg Reg.HUT_WR_IDX).toNat
      (s.hutCommitAt r.ofs r.len ((List.range n).map (fun i => s.hutWord (r.ofs + 12 + 4 * i)))).hutClose
    | none => s

def execHutCommit (m : Sys2Proof.Master) (a : Sys2Proof.CmdArg) (s : State) : Host.Outcome State Fault Refusal :=
  s.goesTo (hutCommit m a s)

/-- A reservation is abandoned: its record is never committed (R552). -/
def State.hutAbandon (s : State) : State := if s.hut.opened.isSome then (s.hutClose.inc Reg.HUT_ABANDON_CNT).hutEvt 3 else s

/-- CANCEL (R552). -/
def hutCancel (m : Sys2Proof.Master) (a : Sys2Proof.CmdArg) (s : State) : State :=
  s.command m a ⟨Reg.HUT_CMD, .priv, 3, a.arg == 0, false, s.hutMine m, true⟩ fun s => s.hutAbandon

def execHutCancel (m : Sys2Proof.Master) (a : Sys2Proof.CmdArg) (s : State) : Host.Outcome State Fault Refusal :=
  s.goesTo (hutCancel m a s)

/-- ABORT (R68, R558). -/
def hutAbort (m : Sys2Proof.Master) (a : Sys2Proof.CmdArg) (s : State) : State :=
  s.abort m a Reg.HUT_CMD .priv fun _ s => s.hutAbandon

def execHutAbort (m : Sys2Proof.Master) (a : Sys2Proof.CmdArg) (s : State) : Host.Outcome State Fault Refusal :=
  s.goesTo (hutAbort m a s)

/-- RESERVATION_TIMEOUT (R552): 1 ms without COMMIT. -/
def reservationTimeout (s : State) : State :=
  match s.hut.opened with
  | some r =>
    let t := r.since + 1000000
    if s.beforeT0 (t * 2 ^ 24) then (s.advanceTo t).hutAbandon else s
  | none => s

def execReservationTimeout (s : State) : Host.Outcome State Fault Refusal := s.goesTo (s.alive 4 (reservationTimeout s))

/-- The start of a warm restart abandons the reservation of an application core (R552). -/
def State.hutWarm (s : State) : State :=
  match s.hut.opened with
  | some r => if r.port < 24 then s.hutAbandon else s
  | none => s

/-- HUT_CMD CLEAR_STATS (R557). -/
def State.hutClearStats (s : State) : State := s.zeroRegs [Reg.HUT_DROP_CNT, Reg.HUT_OVWR_CNT, Reg.HUT_ABANDON_CNT]

/-! ### Reading (R553) -/

/-- HUT_CURSOR_WRITE (R553): the record at the offset is checked, and HUT_CURINFO of the port filled. [DESIGN CHOICE: log 138] -/
def hutCursorWrite (m : Sys2Proof.Master) (x : Word) (s : State) : State :=
  s.access m Reg.HUT_CURSOR fun s =>
    let p := mport m
    let o := fld x 18 4 * 16
    let w := s.hutWord o
    let typ := fld w 31 24
    let next := s.hutAfter o
    let info := 0x80000000 + b2n (s.hutGood o) * 0x40000000 + b2n (s.hut.gone.contains p) * 0x20000000 + typ / 8 * 0x80000
      + (Config.hutCurinfo typ next).toNat * 0x10000 + next % 0x10000
    let s := (s.setPreg p Reg.HUT_CURSOR (wordOfNat o)).setPreg p Reg.HUT_CURINFO (wordOfNat info)
    { s with hut := { s.hut with gone := s.hut.gone.filter (fun q => q != p) } }

def execHutCursorWrite (m : Sys2Proof.Master) (x : BitVec 32) (s : State) : Host.Outcome State Fault Refusal :=
  s.goesTo (hutCursorWrite m x s)

/-- HUT_WINk as a port reads it: wrapping from the end of the area to its start (R553). -/
def State.hutWindow (s : State) (port k : Nat) : Word :=
  let o := (s.preg port Reg.HUT_CURSOR).toNat + 4 * k
  s.hutWord (if hutEnd ≤ o then hutFirst + (o - hutEnd) else o)

/-! ### Authorised clearing (R554, R555) -/

/-- Bytes of OTP, and a word of it (R472). -/
def State.otpBytes (s : State) (o n : Nat) : List Byte := (List.range n).map (fun i => smGet (fun _ => 0) s.boot.otp (o + i))
def State.otpWord (s : State) (o : Nat) : Word := wordAt (s.otpBytes o 4) 0

/-- NONCE (R554). -/
def hutNonce (m : Sys2Proof.Master) (a : Sys2Proof.CmdArg) (s : State) : State :=
  s.command m a ⟨Reg.HUT_SC_CMD, .secure, 1, a.arg == 0, false, s.reg Reg.HUT_SC_STATE == 1, true⟩ fun s =>
    let c := s.hut.ctr
    let seed := s.otpBytes 0x100 96
    let s := { s with hut := { s.hut with ctr := c + 1, nonceValid := true } }
    s.setRegs ((List.range 8).map (fun i => (Reg.HUT_NONCE i, Config.hutNonce seed c i)))

def execHutNonce (m : Sys2Proof.Master) (a : Sys2Proof.CmdArg) (s : State) : Host.Outcome State Fault Refusal :=
  s.goesTo (hutNonce m a s)

/-- CLEAR (R555): the nonce is consumed and verification begins; not while HUT_STATE is OPEN. -/
def hutClear (m : Sys2Proof.Master) (a : Sys2Proof.CmdArg) (s : State) : State :=
  s.command m a ⟨Reg.HUT_SC_CMD, .secure, 2, a.arg == 0, true,
      s.reg Reg.HUT_SC_STATE == 1 && s.reg Reg.HUT_STATE != 2, true⟩ fun s =>
    (({ s with hut := { s.hut with clr := s.hut.nonceValid, nonceValid := false } }).setReg Reg.HUT_SC_STATE 2).kecTake

def execHutClear (m : Sys2Proof.Master) (a : Sys2Proof.CmdArg) (s : State) : Host.Outcome State Fault Refusal :=
  s.goesTo (hutClear m a s)

/-- The first failure of an authorisation, or 0 (R555). What the address does not let be read fails as ADDR. [DEDUCED: log 139] -/
def State.hutAuth (s : State) : Nat :=
  let a := fld (s.reg Reg.HUT_AUTH_HI) 7 0 * 0x100000000 + (s.reg Reg.HUT_AUTH_LO).toNat
  let at_ := s.inGeneral a 49920
  let key := s.bytes a 64
  let msg := bytesOf ([0x7128C1EA, s.reg Reg.SYS_UID_LO, s.reg Reg.SYS_UID_HI] ++
    (List.range 8).map (fun i => s.reg (Reg.HUT_NONCE i)) ++ [s.reg Reg.HUT_CLEARS])
  let ctx : List Byte := [0x57, 0x52, 0x47, 0x37, 0x31, 0x32, 0x38, 0x2D, 0x48, 0x55, 0x54]
  if !s.hut.clr then 1
  else if (s.otpBytes 0x90 32).all (fun b => b == 0) then 2
  else if !at_ then 5
  else if shake256 key 32 != s.otpBytes 0x90 32 then 3
  else if !Config.slhVerify false key ctx msg (s.bytes (a + 64) 49856) then 4
  else 0

/-- The records of the book from an offset on, oldest first. -/
def State.hutOffsets (s : State) (next : Nat) : Nat → Nat → List Nat
  | 0, _ => []
  | fuel + 1, o =>
    if o = next then []
    else if fld (s.hutWord o) 31 24 = 0 then s.hutOffsets next fuel (s.hutAfter o)
    else o :: s.hutOffsets next fuel (s.hutAfter o)

/-- The book is cleared (R555): a CLEAR record in the reserve, then one header write. -/
def State.hutCleared (s : State) : State :=
  let oldest := (s.reg Reg.HUT_OLDEST).toNat
  let next := (s.reg Reg.HUT_NEXT).toNat
  let l := s.hutOffsets next 28700 oldest
  let stamp (o : Option Nat) : List Word := match o with
    | some o => [s.hutWord (o + 4), s.hutWord (o + 8)]
    | none => [0, 0]
  let (_, o) := hutPlace next 4
  let clears := s.reg Reg.HUT_CLEARS + 1
  let payload := [s.reg Reg.HUT_RECS, wordOfNat (hutEnd - hutFirst - hutRoom oldest next), wordOfNat oldest, wordOfNat next]
    ++ stamp l.head? ++ stamp l.getLast? ++ [clears, s.reg (Reg.HUT_NONCE 0), s.reg (Reg.HUT_NONCE 1)]
  let t := l.foldl (fun (t : State) x => t.hutMark x) s
  let t := (t.setHutWords o (t.hutStamp 1 4)).hutCommitAt o 4 payload
  let written := wordOfNat (min ((t.reg Reg.HUT_WRITTEN).toNat + 1) 0xFFFFFFFF)
  let t := t.hutHeader o (hutNorm (o + 64)) 1 clears written
  (if t.reg Reg.HUT_STATE = 3 then t.setState 6 1 else t).hutEvt 4

/-- HUT_CLEAR_VERIFY_DONE (R555). [DEDUCED: log 139] -/
def hutClearVerifyDone (s : State) : State :=
  if s.busyWith Reg.HUT_SC_CMD 2 then
    let c := s.hutAuth
    let s := (s.setReg Reg.HUT_CLRRES (wordOfNat c)).kecGive
    let s := (s.complete Reg.HUT_SC_CMD).setReg Reg.HUT_SC_STATE 1
    if c = 0 then s.hutCleared
    else (s.hutRequest 11 6 [wordOfNat c, s.reg (Reg.HUT_NONCE 0), s.reg (Reg.HUT_NONCE 1)]).hutEvt 5
  else s

def execHutClearVerifyDone (s : State) : Host.Outcome State Fault Refusal := s.goesTo (s.alive 4 (hutClearVerifyDone s))

/-- ABORT on HUT_SC_CMD (R558): a verification ends with the book unchanged and the nonce consumed. -/
def hutScAbort (m : Sys2Proof.Master) (a : Sys2Proof.CmdArg) (s : State) : State :=
  s.abort m a Reg.HUT_SC_CMD .secure fun b s =>
    match b with
    | some _ => (s.setReg Reg.HUT_SC_STATE 1).kecGive
    | none => s

def execHutScAbort (m : Sys2Proof.Master) (a : Sys2Proof.CmdArg) (s : State) : Host.Outcome State Fault Refusal :=
  s.goesTo (hutScAbort m a s)

end Sys2Proof.Machine
end

