-- ==== Sys2Proof/Machine/Que.lean ====
section
/-!
DEFINITION. Queues and the work scheduler (R426–R445): commits, stalls and refills, dispatch decisions, cancel, core
retirement, and the commands of QUE and WSCH.
-/
namespace Sys2Proof.Machine

/-- TOKEN and CLASS of an item (R426). -/
def itemToken (d : List Word) : Nat := fld (d.getD 0 0) 15 0
def itemClass (d : List Word) : Nat := fld (d.getD 0 0) 23 16

/-- Fields of QUE_Qn_CFG (R445). -/
def State.qEn (s : State) (q : Nat) : Bool := bitOf (s.reg (Reg.QUE_Q_CFG q)) 31
def State.qOwn (s : State) (q : Nat) : Bool := bitOf (s.reg (Reg.QUE_Q_CFG q)) 30
def State.qPrio (s : State) (q : Nat) : Nat := fld (s.reg (Reg.QUE_Q_CFG q)) 27 24
def State.qGroup (s : State) (q : Nat) : Nat := fld (s.reg (Reg.QUE_Q_CFG q)) 23 20
def State.qCluster (s : State) (q k : Nat) : Bool := bitOf (s.reg (Reg.QUE_Q_CFG q)) (14 + k)

/-- Set QUE_EVT bits (R444). -/
def State.queEvt (s : State) (n : Nat) : State := s.raiseEvt 0x39 Reg.QUE_EVT (some Reg.QUE_EVT_EN) (bitMask n)

/-- DEF of a group (R434, R442). -/
def State.grpDef (s : State) (g : Nat) : Nat := fld (s.reg (Reg.WSCH_GRP_DEF g)) 7 0

/-- A decision trace record (R439): 1 DISPATCH, 2 DISPATCH_AFF, 3 DISPATCH_AGED, 4 CANCELLED, 5 LOST, 6 RETRY; core 31 for
none. -/
def State.trace (s : State) (q event core : Nat) (item : List Word) (since : Nat) : State :=
  if bitOf (s.reg Reg.WSCH_CFG) 31 && bitOf (s.reg (Reg.QUE_Q_CFG q)) 29 then
    s.recTrace [s.reg Reg.TB_TIME_LO, wordOfNat (itemToken item * 0x10000 + itemClass item * 0x100 + q),
      wordOfNat (event * 0x10000000 + s.qPrio q * 0x1000000 + s.qGroup q * 0x100000 + core * 0x100 + s.grpDef (s.qGroup q)),
      wordOfNat (min (s.now - since) 0xFFFFFF)]
  else s

/-! ### Commits (R428) -/

/-- The result of a port's commit: 1 OK, 2 RETRY, 3 DENIED. -/
def State.enqRes (s : State) (port q res : Nat) : State := s.setPreg port Reg.QUE_ENQ_RES (wordOfNat (q * 0x100 + res))

/-- A commit ends with RETRY (R428, R444). [DEDUCED: log 104] -/
def State.enqRetry (s : State) (port q : Nat) (item : List Word) : State :=
  (((s.enqRes port q 2).inc Reg.QUE_RETRY_CNT).queEvt 1).trace q 6 31 item s.now

/-- The core number W1 carries: 31 for a producer that is no core (R426). -/
def srcCore : Sys2Proof.Master → Nat
  | .core n _ => n.val
  | _ => 31

/-- QUE_ENQ_COMMIT (R428, R436): a full queue stalls a local master and turns an external one away; while SYS_STATE is WARM
firmware-owned queues turn external masters away. -/
def queEnqCommit (m : Sys2Proof.Master) (x : Word) (s : State) : State :=
  s.access m Reg.QUE_ENQ_COMMIT fun s =>
    let p := mport m
    let q := fld x 6 0
    let ext := mclass m == .external
    let c := mclassCode (mclass m)
    let item := mkItem 0 0xFF c (srcCore m) (s.reg Reg.TB_TIME_LO).toNat
      ((List.range 16).map (fun i => s.preg p (Reg.QUE_ENQ_D i)))
    if !s.qEn q || (ext && !bitOf (s.reg (Reg.QUE_Q_CFG q)) 28) then s.enqRes p q 3
    else if ext && s.warm && !s.qOwn q then s.enqRetry p q item
    else if s.queRoom q then (s.quePut q item).enqRes p q 1
    else if ext then s.enqRetry p q item
    else
      let s := { s with que := { s.que with stalls := s.que.stalls ++ [({ port := p, cls := c, queue := q, item := item, since := s.now } : Stall)] } }
      (s.inc Reg.QUE_STALL_CNT).queEvt 0

def execQueEnqCommit (m : Sys2Proof.Master) (x : BitVec 32) (s : State) : Host.Outcome State Fault Refusal :=
  s.goesTo (queEnqCommit m x s)

/-- COMMIT_STALL_TIMEOUT (R428): 100 µs after it stalled, a port's commit ends with RETRY. -/
def commitStallTimeout (port : Nat) (s : State) : State :=
  match s.que.stalls.find? (fun x => x.port == port) with
  | some x =>
    let t := x.since + 100000
    if s.beforeT0 (t * 2 ^ 24) then
      let s := s.advanceTo t
      ({ s with que := { s.que with stalls := s.que.stalls.erase x } }).enqRetry x.port x.queue x.item
    else s
  | none => s

def execCommitStallTimeout (port : BitVec 5) (s : State) : Host.Outcome State Fault Refusal :=
  s.goesTo (commitStallTimeout port.toNat s)

/-- The stalled commits of a queue that is disabled or reset end with RETRY at once (R428). [DEDUCED: log 104] -/
def State.queUnstall (s : State) (q : Nat) : State :=
  let mine := s.que.stalls.filter (fun x => x.queue == q)
  let s := { s with que := { s.que with stalls := s.que.stalls.filter (fun x => x.queue != q) } }
  mine.foldl (fun s x => s.enqRetry x.port q x.item) s

/-- HEAD_REFILL (R427): the body's oldest item enters the head; one read with an uncorrectable error is discarded. [DEDUCED: log 104] -/
def headRefill (q : Nat) (err : Bool) (s : State) : State :=
  let r := s.queue q
  if r.rd < r.wr ∧ r.head.length < 16 then
    let a := s.queSlot q r.rd
    let err := err || (List.range 8).any (fun i => s.memc.ue.contains (a / 8 + i))
    if err then
      let s := ((s.inc (Reg.QUE_Q_DEQ_CNT q)).setQueue q { r with rd := r.rd + 1 }).inc Reg.QUE_MEMERR_CNT
      let s := s.queEvt 2
      (s.faultEvent 2 0x39 0 0 (s.reg Reg.QUE_EVT)).queServe q
    else s.setQueue q { r with head := r.head ++ [(s.words a 16, s.now)], rd := r.rd + 1 }
  else s

def execHeadRefill (q : BitVec 7) (err : Bool) (s : State) : Host.Outcome State Fault Refusal :=
  s.goesTo (s.alive 4 (headRefill q.toNat err s))

/-! ### Dispatch (R431–R435) -/

/-- A candidate: the oldest item of a queue, with the ns since which it has been one. -/
structure Cand where
  q : Nat
  item : List Word
  since : Nat

/-- The candidates: oldest items of enabled, firmware-owned queues (R431). -/
def State.candidates (s : State) : List Cand :=
  (List.range 128).filterMap (fun q =>
    match (s.queue q).head with
    | (x, t) :: _ => if s.qEn q && !s.qOwn q then some ⟨q, x, t⟩ else none
    | [] => none)

/-- Is a core free (R431)? -/
def State.coreFree (s : State) (n : Nat) : Bool := bitOf (s.reg Reg.SYS_CORE_ACT) n && !s.coreBusy n

/-- The core that last received an item of a class (R435, R442). -/
def State.affinity (s : State) (c : Nat) : Option Nat :=
  let b := fld (s.reg (Reg.WSCH_AFF (c / 4))) (8 * (c % 4) + 7) (8 * (c % 4))
  if 128 ≤ b then some (b % 32) else none

/-- Write an affinity entry. [DEDUCED: log 105] -/
def State.setAffinity (s : State) (c v : Nat) : State :=
  s.setReg (Reg.WSCH_AFF (c / 4)) (setFld (s.reg (Reg.WSCH_AFF (c / 4))) (8 * (c % 4) + 7) (8 * (c % 4)) v)

/-- The first of a list at or after a position, going round (R433: round-robin). -/
def roundRobin (l : List Nat) (pos : Nat) : Option Nat :=
  match l.find? (fun x => pos ≤ x) with
  | some x => some x
  | none => l.head?

/-- A change of L zeroes every DEF (R434). -/
def State.setLevel (s : State) (l : Nat) : State :=
  if s.wsch.level = l then s
  else
    let s := { s with wsch := { s.wsch with level := l, stay := false } }
    (List.range 16).foldl (fun (s : State) g =>
      s.setReg (Reg.WSCH_GRP_DEF g) (setFld (s.reg (Reg.WSCH_GRP_DEF g)) 7 0 0)) s

/-- R433 steps 3 and 4 among candidates of one level: the group arbiter stays on a group while its DEF lasts, else turns to
the next, which gains A (R434); then the queue arbiter. -/
def State.arbitrate (s : State) (l : List Cand) : Option Cand × State :=
  let groups := (List.range 16).filter (fun g => l.any (fun c => s.qGroup c.q == g))
  let active (g : Nat) : Nat := (l.filter (fun c => s.qGroup c.q == g)).length
  let w := s.wsch
  let (g, s) :=
    if w.stay && groups.contains w.rrGroup then (w.rrGroup, s)
    else
      let s := if w.stay then s.setReg (Reg.WSCH_GRP_DEF w.rrGroup) (setFld (s.reg (Reg.WSCH_GRP_DEF w.rrGroup)) 7 0 0) else s
      let g := (roundRobin groups (if w.stay then w.rrGroup + 1 else w.rrGroup)).getD 0
      let a := if bitOf (s.reg Reg.WSCH_CFG) 30 then active g else 1
      (g, s.setReg (Reg.WSCH_GRP_DEF g) (wordOfNat (active g * 0x10000 + min (s.grpDef g + a) 255)))
  let d := s.grpDef g - 1
  let s := s.setReg (Reg.WSCH_GRP_DEF g) (setFld (s.reg (Reg.WSCH_GRP_DEF g)) 7 0 d)
  let s := { s with wsch := { s.wsch with stay := decide (0 < d), rrGroup := if 0 < d then g else (g + 1) % 16 } }
  let mine := l.filter (fun c => s.qGroup c.q == g)
  match roundRobin (mine.map (fun c => c.q)) (smGet (fun _ => 0) s.wsch.rrQueue g) with
  | some q =>
    (mine.find? (fun c => c.q == q),
      { s with wsch := { s.wsch with rrQueue := smSet (fun _ => 0) s.wsch.rrQueue g (q + 1) } })
  | none => (none, s)

/-- A core receives an item (R431, R435, R437). -/
def State.dispatch (s : State) (core : Nat) (c : Cand) (event : Nat) : State :=
  let s := (s.quePop c.q).2
  let r := s.queue c.q
  let s := s.setQueue c.q { r with recent := (itemToken c.item :: r.recent).take 8 }
  let s := { s with wsch := { s.wsch with running := smPut s.wsch.running core ⟨c.q, c.item⟩ } }
  let s := (List.range 16).foldl (fun (s : State) i => s.setPreg core (Reg.WSCH_DISP_D i) (c.item.getD i 0)) s
  let s := (s.orReg Reg.WSCH_CORE_BUSY (bitMask core)).inc Reg.WSCH_DISP_CNT
  let s := if event = 2 then s.inc Reg.WSCH_AFF_HIT_CNT else if event = 3 then s.inc Reg.WSCH_AFF_AGED_CNT else s
  (s.setAffinity (itemClass c.item) (128 + core)).trace c.q event core c.item c.since

/-- The candidates of the highest level in a list. -/
def State.topLevel (s : State) (l : List Cand) : Nat × List Cand :=
  let p := l.foldl (fun n c => max n (s.qPrio c.q)) 0
  (p, l.filter (fun c => s.qPrio c.q == p))

/-- A decision in the larger configuration (R433). -/
def State.decideLarge (s : State) : State :=
  let free := (List.range 24).filter s.coreFree
  let clusters := (List.range 6).filter (fun k => free.any (fun n => n / 4 == k))
  let l := s.candidates.filter (fun c => clusters.any (fun k => s.qCluster c.q k))
  if l.isEmpty then s
  else
    let (p, l) := s.topLevel l
    let s := s.setLevel p
    match roundRobin (clusters.filter (fun k => l.any (fun c => s.qCluster c.q k))) s.wsch.rrCluster with
    | some k =>
      let s := { s with wsch := { s.wsch with rrCluster := (k + 1) % 6 } }
      match free.find? (fun n => n / 4 == k), s.arbitrate (l.filter (fun c => s.qCluster c.q k)) with
      | some n, (some c, s) => s.dispatch n c 1
      | _, (_, s) => s
    | none => s

/-- Is a candidate one for R435 row 2: CLASS 0, a class without a last core in the pool, or aged? -/
def State.row2 (s : State) (c : Cand) : Bool :=
  let cls := itemClass c.item
  let noCore := match s.affinity cls with
    | some n => !bitOf (s.reg Reg.SYS_CORE_ACT) n
    | none => true
  cls == 0 || noCore || decide (c.since + 10 * fld (s.reg Reg.WSCH_CFG) 11 0 ≤ s.now)

/-- Has it been chosen for its age alone? -/
def State.agedOnly (s : State) (c : Cand) : Bool :=
  itemClass c.item != 0 && (match s.affinity (itemClass c.item) with
    | some n => bitOf (s.reg Reg.SYS_CORE_ACT) n
    | none => false)

/-- A free core's choice in the small configuration (R435): row and candidates of the highest level in it. [DEDUCED: log 105] -/
def State.smallChoice (s : State) (n : Nat) : Option (Bool × Nat × List Cand) :=
  let l := s.candidates.filter (fun c => s.qCluster c.q (n / 4))
  let one := l.filter (fun c => itemClass c.item != 0 && s.affinity (itemClass c.item) == some n)
  let two := l.filter s.row2
  if !one.isEmpty then some (true, s.topLevel one) else if !two.isEmpty then some (false, s.topLevel two) else none

/-- A decision in the small configuration (R435): the lowest-numbered free core that has a choice. [DEDUCED: log 105] -/
def State.decideSmall (s : State) : State :=
  match ((List.range 24).filter s.coreFree).findSome? (fun n => (s.smallChoice n).map (fun x => (n, x))) with
  | some (n, row1, p, l) =>
    match (s.setLevel p).arbitrate l with
    | (some c, t) => t.dispatch n c (if row1 then 2 else if s.agedOnly c then 3 else 1)
    | (none, t) => t
  | none => s

/-- DISPATCH_DECISION (R37, R431–R436, R440): one scheduler cycle. Cores that join do so now, a pending configuration is
applied, and, unless dispatch is withheld, one item goes to one free core. -/
def dispatchDecision (s : State) : State :=
  let s := s.applyCores true
  let s := if s.busyWith Reg.WSCH_CMD 1 then
      ((s.setReg Reg.WSCH_CFG (s.reg Reg.WSCH_CFG_PEND)).complete Reg.WSCH_CMD).syncWsch else s
  if s.reg Reg.WSCH_STATE = 3 then s
  else if bitOf (s.reg Reg.WSCH_CONF) 0 then s.decideSmall else s.decideLarge

def execDispatchDecision (s : State) : Host.Outcome State Fault Refusal := s.goesTo (s.alive 4 (dispatchDecision s))

/-- WSCH_DONE_WRITE (R431): a core ends its item; any other write is ignored. -/
def wschDoneWrite (m : Sys2Proof.Master) (s : State) : State :=
  s.access m Reg.WSCH_DONE fun s =>
    match m with
    | .core n _ =>
      if s.coreBusy n.val then
        let s := { s with wsch := { s.wsch with running := smDel s.wsch.running n.val } }
        (s.setReg Reg.WSCH_CORE_BUSY (setBit (s.reg Reg.WSCH_CORE_BUSY) n.val false)).applyCores false
      else s
    | _ => s

def execWschDoneWrite (m : Sys2Proof.Master) (s : State) : Host.Outcome State Fault Refusal := s.goesTo (wschDoneWrite m s)

/-- WSCH_CANCEL_WRITE (R437): 1 CANCELLED_BEFORE_DISPATCH, 2 TOO_LATE, 3 NOT_FOUND. -/
def wschCancelWrite (m : Sys2Proof.Master) (x : Word) (s : State) : State :=
  s.access m Reg.WSCH_CANCEL fun s =>
    let q := fld x 22 16
    let tok := fld x 15 0
    let res (s : State) (v : Nat) : State := s.setPreg (mport m) Reg.WSCH_CANCEL_RES (wordOfNat (q * 0x10000 + v))
    let r := s.queue q
    match r.head.findIdx? (fun p => itemToken p.1 == tok) with
    | some i =>
      let it := r.head.getD i ([], 0)
      let h := r.head.eraseIdx i
      let h := if i = 0 then (match h with
        | (y, _) :: l => (y, s.now) :: l
        | [] => []) else h
      let s := ((s.inc (Reg.QUE_Q_DEQ_CNT q)).setQueue q { r with head := h }).queServe q
      res ((s.inc Reg.WSCH_CANCEL_CNT).trace q 4 31 it.1 it.2) 1
    | none => if r.recent.contains tok then res s 2 else res s 3

def execWschCancelWrite (m : Sys2Proof.Master) (x : BitVec 32) (s : State) : Host.Outcome State Fault Refusal :=
  s.goesTo (wschCancelWrite m x s)

/-- CORE_RETIREMENT (R438): a core the fault handler has retired leaves the pool; its item is lost. -/
def coreRetirement (n : Nat) (s : State) : State :=
  if s.isRetired 3 n && bitOf (s.reg Reg.SYS_CORE_ACT) n then
    let s := s.setCoreAct (setBit (s.reg Reg.SYS_CORE_ACT) n false)
    let s := (List.range 256).foldl (fun (s : State) c => if s.affinity c == some n then s.setAffinity c 0 else s) s
    let s := match smFind s.wsch.running n with
      | some r =>
        let s := { s with wsch := { s.wsch with running := smDel s.wsch.running n } }
        let s := s.setReg Reg.WSCH_CORE_BUSY (setBit (s.reg Reg.WSCH_CORE_BUSY) n false)
        let s := s.setReg Reg.WSCH_LOST (wordOfNat (n * 0x1000000 + r.queue * 0x10000 + itemToken r.item))
        ((s.inc Reg.WSCH_LOST_CNT).raiseEvt 0x38 Reg.WSCH_EVT (some Reg.WSCH_EVT_EN) 1).trace r.queue 5 n r.item s.now
      | none => s
    s.applyCores false
  else s

def execCoreRetirement (n : Fin 24) (s : State) : Host.Outcome State Fault Refusal := s.goesTo (s.alive 4 (coreRetirement n.val s))

/-! ### Commands (R440, R441) -/

/-- WSCH_CMD APPLY_CFG (R440). -/
def wschApplyCfg (m : Sys2Proof.Master) (a : Sys2Proof.CmdArg) (s : State) : State :=
  s.command m a ⟨Reg.WSCH_CMD, .priv, 1, a.arg == 0, true, s.reg Reg.WSCH_STATE != 2,
    fld (s.reg Reg.WSCH_CFG_PEND) 11 0 != 0⟩ fun s => s.syncWsch

def execWschApplyCfg (m : Sys2Proof.Master) (a : Sys2Proof.CmdArg) (s : State) : Host.Outcome State Fault Refusal :=
  s.goesTo (wschApplyCfg m a s)

/-- WSCH_CMD ABORT (R68, R440). -/
def wschAbort (m : Sys2Proof.Master) (a : Sys2Proof.CmdArg) (s : State) : State :=
  s.abort m a Reg.WSCH_CMD .priv fun _ s => s.syncWsch

def execWschAbort (m : Sys2Proof.Master) (a : Sys2Proof.CmdArg) (s : State) : Host.Outcome State Fault Refusal :=
  s.goesTo (wschAbort m a s)

/-- WSCH_CMD CLEAR_STATS (R440, R442). -/
def State.wschClearStats (s : State) : State :=
  s.zeroRegs [Reg.WSCH_DISP_CNT, Reg.WSCH_AFF_HIT_CNT, Reg.WSCH_AFF_AGED_CNT, Reg.WSCH_CANCEL_CNT, Reg.WSCH_TRDROP_CNT,
    Reg.WSCH_LOST_CNT]

/-- QUE_CMD RESET (R441): the items are discarded, the pointers return to 0, stalled commits end with RETRY. [DEDUCED: log 104] -/
def queReset (m : Sys2Proof.Master) (a : Sys2Proof.CmdArg) (s : State) : State :=
  let q := a.arg.toNat
  s.command m a ⟨Reg.QUE_CMD, .priv, 1, q < 128, true, s.reg Reg.QUE_STATE == 1, true⟩ fun s =>
    let s := s.queUnstall q
    let r := s.queue q
    (((s.addSat (Reg.QUE_Q_DEQ_CNT q) r.held).setQueue q { r with head := [], rd := 0, wr := 0 }).complete Reg.QUE_CMD).queServe q

def execQueReset (m : Sys2Proof.Master) (a : Sys2Proof.CmdArg) (s : State) : Host.Outcome State Fault Refusal :=
  s.goesTo (queReset m a s)

/-- QUE_CMD RESIZE (R427, R441). -/
def queResize (m : Sys2Proof.Master) (a : Sys2Proof.CmdArg) (s : State) : State :=
  let q := a.arg.toNat
  let hi := s.reg (Reg.QUE_Q_PEND_HI q)
  let sz := fld hi 20 16
  let base := fld hi 7 0 * 2 ^ 32 + (s.reg (Reg.QUE_Q_PEND_LO q)).toNat / 64 * 64
  let ok := sz == 0 || (4 ≤ sz && sz ≤ 20 && base % (2 ^ sz * 64) == 0)
  s.command m a ⟨Reg.QUE_CMD, .priv, 2, q < 128, true, s.reg Reg.QUE_STATE == 1, ok⟩ fun s =>
    (s.setState 0x39 3).orReg (Reg.QUE_FULL_MAP (q / 32)) (bitMask (q % 32))

def execQueResize (m : Sys2Proof.Master) (a : Sys2Proof.CmdArg) (s : State) : Host.Outcome State Fault Refusal :=
  s.goesTo (queResize m a s)

/-- QUEUE_RESIZE_COMPLETE (R441): the queue is empty, and takes its pending base and SIZE. -/
def queueResizeComplete (s : State) : State :=
  match smFind s.busy Reg.QUE_CMD with
  | some b =>
    let q := b.arg % 128
    let r := s.queue q
    if b.code = 2 ∧ r.held = 0 then
      let hi := s.reg (Reg.QUE_Q_PEND_HI q)
      let s := s.setRegs [(Reg.QUE_Q_BASE_LO q, s.reg (Reg.QUE_Q_PEND_LO q) &&& ~~~0x3F#32),
        (Reg.QUE_Q_BASE_HI q, wordOfNat (fld hi 20 16 * 0x10000 + fld hi 7 0))]
      (((s.complete Reg.QUE_CMD).setState 0x39 1).setQueue q { r with rd := 0, wr := 0 }).queServe q
    else s
  | none => s

def execQueueResizeComplete (s : State) : Host.Outcome State Fault Refusal := s.goesTo (s.alive 4 (queueResizeComplete s))

/-- QUE_CMD ABORT (R68, R441): the queue keeps its items and active base. -/
def queAbort (m : Sys2Proof.Master) (a : Sys2Proof.CmdArg) (s : State) : State :=
  s.abort m a Reg.QUE_CMD .priv fun b s =>
    let s := s.setState 0x39 1
    match b with
    | some b => (s.setQueue (b.arg % 128) (s.queue (b.arg % 128))).queServe (b.arg % 128)
    | none => s

def execQueAbort (m : Sys2Proof.Master) (a : Sys2Proof.CmdArg) (s : State) : Host.Outcome State Fault Refusal :=
  s.goesTo (queAbort m a s)

/-- QUE_CMD CLEAR_STATS (R441, R444). -/
def State.queClearStats (s : State) : State :=
  s.zeroRegs ([Reg.QUE_RETRY_CNT, Reg.QUE_STALL_CNT, Reg.QUE_MEMERR_CNT] ++
    (List.range 128).flatMap (fun q => [Reg.QUE_Q_ENQ_CNT q, Reg.QUE_Q_DEQ_CNT q]))

/-- A write to QUE_Qn_CFG that clears EN ends the stalled commits (R428, R445). -/
def State.queCfgChanged (s : State) (q : Nat) : State := if s.qEn q then s else s.queUnstall q

/-! ### Warm restart (R31, R436) -/

/-- Dispatch state is reset, every outstanding item forgotten without a LOST record; firmware-owned queues are emptied. -/
def State.schedWarm (s : State) : State :=
  let s := { s with wsch := { s.wsch with running := [], rrCluster := 0, rrGroup := 0, rrQueue := [], level := 0, stay := false } }
  let s := s.setReg Reg.WSCH_CORE_BUSY 0
  let s := (List.range 64).foldl (fun (s : State) k => s.setReg (Reg.WSCH_AFF k) 0) s
  let s := (List.range 16).foldl (fun (s : State) g => s.setReg (Reg.WSCH_GRP_DEF g) 0) s
  let s := (List.range 128).foldl (fun (s : State) q =>
    if s.qOwn q then s
    else
      let r := s.queue q
      (s.addSat (Reg.QUE_Q_DEQ_CNT q) r.held).setQueue q { r with head := [], rd := 0, wr := 0 }) s
  s.syncWsch

end Sys2Proof.Machine
end

