-- ==== Sys2Proof/Machine/Boot.lean ====
section
/-!
DEFINITION. Images and the boot engine (R472–R496): OTP, the checks of an image, VERIFY, ATTEST, the start of a warm restart,
the application watchdog, and the secure channel. What applies an image stands in Start.
-/
namespace Sys2Proof.Machine

/-- Set BOOT_EVT bits (R494). -/
def State.bootEvt (s : State) (n : Nat) : State := s.raiseEvt 2 Reg.BOOT_EVT (some Reg.BOOT_EVT_EN) (bitMask n)

/-! ### OTP (R472–R474) -/

/-- Program bits of a word of OTP: ones are added (R472). -/
def State.otpOr (s : State) (o : Nat) (w : Word) : State :=
  let v := s.otpWord o ||| w
  { s with boot := { s.boot with
    otp := (bytesOf [v]).zipIdx.foldl (fun f p => smSet (fun _ => 0) f (o + p.2) p.1) s.boot.otp } }

/-- A key slot is programmed; usable (R473). -/
def State.keyProgrammed (s : State) (k : Nat) : Bool := bitOf (s.otpWord 0x80) k
def State.keyUsable (s : State) (k : Nat) : Bool := s.keyProgrammed k && !bitOf (s.otpWord 0x80) (8 + k)

/-- V: the consecutive ones of ROLLBACK from bit 0 (R474). -/
def State.rollV (s : State) : Nat :=
  (((List.range 64).map (fun i => bitOf (s.otpWord (0x88 + i / 32 * 4)) (i % 32))).takeWhile (fun b => b)).length

/-- DBGLOCK; 2 reads as 3 (R472). -/
def State.dbgLock (s : State) : Nat := let d := fld (s.otpWord 0xB0) 1 0; if d = 2 then 3 else d

/-- BOOT_OTP_DATA (R472, R494): the word at BOOT_OTP_ADDR; DEVSEED reads 0. -/
def State.otpData (s : State) : Word :=
  let o := fld (s.reg Reg.BOOT_OTP_ADDR) 10 0 * 4
  if 0x100 ≤ o ∧ o < 0x160 then 0 else s.otpWord o

/-! ### Images (R475–R480) -/

/-- A section of an image (R477). -/
structure Section where
  typ : Nat
  id : Nat
  app : Bool
  clean : Bool
  ofs : Nat
  len : Nat
  dest : Nat
  digest : List Byte

/-- Word i of a manifest. -/
def manWord (man : List Byte) (i : Nat) : Word := wordAt man (4 * i)

/-- Fields of the manifest header (R476). -/
def manNsec (man : List Byte) : Nat := fld (manWord man 1) 15 0
def manLen (man : List Byte) : Nat := (manWord man 2).toNat
def manGen (man : List Byte) : Word := manWord man 4

/-- The section table (R477). -/
def manSections (man : List Byte) : List Section :=
  (List.range (manNsec man)).map (fun k =>
    let b := man.drop (128 + 96 * k)
    let w (i : Nat) : Word := wordAt b (4 * i)
    { typ := fld (w 0) 31 24, id := fld (w 0) 23 16, app := bitOf (w 0) 15,
      clean := fld (w 0) 14 0 == 0 && w 5 == 0 && w 6 == 0 && w 7 == 0 && fld (w 4) 31 8 == 0,
      ofs := (w 1).toNat, len := (w 2).toNat, dest := fld (w 4) 7 0 * 0x100000000 + (w 3).toNat,
      digest := (b.drop 32).take 64 })

/-- MAGIC, FMT, NSEC, MANLEN, IMGLEN and SVN in range and the reserved fields zero (R476, R480). [DEDUCED: log 116] -/
def headerOk (slot : Nat) (h : List Byte) : Bool :=
  let n := manNsec h
  let len := (manWord h 3).toNat
  manWord h 0 == 0x71281A6E && fld (manWord h 1) 31 16 == 1 && 1 ≤ n && n ≤ 255
    && manLen h == (128 + 96 * n + 63) / 64 * 64 && manLen h + 29792 ≤ len && len ≤ slot
    && fld (manWord h 5) 31 10 == 0 && fld (manWord h 5) 7 0 ≤ 64 && (List.range 6).all (fun i => manWord h (10 + i) == 0)

/-- Do two ranges overlap? -/
def overlaps (a n b k : Nat) : Bool := a < b + k && b < a + n

/-- The structure of the sections (R477, R478, R480 code BADSEC). -/
def State.sectionsOk (s : State) (man : List Byte) : Bool :=
  let l := manSections man
  let img := (manWord man 3).toNat
  let one (x : Section) : Bool :=
    1 ≤ x.typ && x.typ ≤ 6 && x.clean && x.ofs % 64 == 0 && 1 ≤ x.len && manLen man + 29792 ≤ x.ofs && x.ofs + x.len ≤ img
      && (!x.app || x.typ == 1 || (x.typ == 3 && s.inGeneral x.dest x.len))
      && (x.typ != 3 || x.dest + x.len ≤ 0x800000 || (0x10000000 ≤ x.dest && x.dest + x.len ≤ 0x10100000)
        || (0x100000000 ≤ x.dest && x.dest + x.len ≤ 0x100000000 + s.dramUsable))
  let clash (x y : Section) : Bool :=
    (x.typ == y.typ && x.id == y.id) || overlaps x.ofs x.len y.ofs y.len
      || (x.typ == 3 && y.typ == 3 && overlaps x.dest x.len y.dest y.len)
  l.all one && l.zipIdx.all (fun p => l.zipIdx.all (fun q => p.2 == q.2 || !clash p.1 q.1))

/-- The context string of image signatures, "WRG7128-IMG" (R475). -/
def imgCtx : List Byte := [0x57, 0x52, 0x47, 0x37, 0x31, 0x32, 0x38, 0x2D, 0x49, 0x4D, 0x47]

/-- The manifest of the image in a slot, of the length its header gives: with 255 sections 24,640 bytes (R476). -/
def State.slotManifest (s : State) (k : Nat) : List Byte :=
  let b := k * s.slotSize
  s.flashBytes b (min (manLen (s.flashBytes b 128)) 24640)

/-- The checks NOHDR to BADSEC (R480): the first failure, or 0. [DEDUCED: log 116] -/
def State.imageCheck (s : State) (k : Nat) : Nat :=
  let b := k * s.slotSize
  if !headerOk s.slotSize (s.flashBytes b 128) then 1
  else
    let man := s.slotManifest k
    let slot := fld (manWord man 5) 9 8
    let key := (man.drop 64).take 64
    if !s.keyUsable slot then 2
    else if shake256 key 32 != s.otpBytes (32 * slot) 32 then 3
    else if !Config.slhVerify true key imgCtx man (s.flashBytes (b + manLen man) 29792) then 4
    else if fld (manWord man 5) 7 0 < s.rollV then 5
    else if !s.sectionsOk man then 6
    else 0

/-- The payload of a section of the image in a slot, and whether it matches its digest (R477). -/
def State.payload (s : State) (k : Nat) (x : Section) : List Byte := s.flashBytes (k * s.slotSize + x.ofs) x.len
def digestOk (x : Section) (p : List Byte) : Bool := shake256 p 64 == x.digest

/-- SYS_ROLE as ROLEDECL declares it (R476, R480). -/
def State.roleIs (s : State) (man : List Byte) : Bool :=
  s.reg Reg.SYS_ROLE &&& 0x3FFF7FFF == manWord man 6 &&& 0x3FFFFFFF

/-- The 12-byte entries of a write list: W0, MASK, VALUE (R479). -/
def listEntries (p : List Byte) : List (Word × Word × Word) :=
  (List.range (p.length / 12)).map (fun i => (wordAt p (12 * i), wordAt p (12 * i + 4), wordAt p (12 * i + 8)))

/-- May a write list of a section TYPE name a block (R478)? -/
def listBlock (typ ofs : Nat) : Bool :=
  typ == 1 || (typ == 5 && (ofs / 0x10000 == 0x28 || ofs / 0x10000 == 0x29)) || (typ == 6 && ofs / 0x10000 == 0x25)

/-- Is the section a write list? -/
def Section.isList (x : Section) : Bool := x.typ == 1 || x.typ == 5 || x.typ == 6

/-- What of a write list can be told without applying it (R479). [DEDUCED: log 116] -/
def listFormOk (x : Section) (p : List Byte) : Bool :=
  !x.isList || (p.length % 12 == 0 && (listEntries p).all (fun e =>
    let op := fld e.1 31 30
    op == 2 || (op != 3 && fld e.1 29 22 == 0 && fld e.1 1 0 == 0 && listBlock x.typ (fld e.1 21 0))))

/-- What identifies a section across images (R490). -/
def sectionKey (x : Section) : Nat × Nat × Nat × Nat × List Byte := (x.typ, x.id, x.dest, x.len, x.digest)

/-- Do two images have the same sections outside the application domain (R490)? -/
def sameContinuity (a b : List Byte) : Bool :=
  let k (m : List Byte) := ((manSections m).filter (fun x => !x.app)).map sectionKey
  (k a).all (fun x => (k b).contains x) && (k b).all (fun x => (k a).contains x)

/-- The result of VERIFY for a slot (R480, R490). -/
def State.verifyCode (s : State) (k : Nat) (err : Bool) : Nat :=
  let man := s.slotManifest k
  let l := manSections man
  let c := s.imageCheck k
  if err then 12
  else if c ≠ 0 then c
  else if !l.all (fun x => digestOk x (s.payload k x)) then 7
  else if !l.all (fun x => listFormOk x (s.payload k x)) then 8
  else if !s.roleIs man then 9
  else if !(0 < (manGen man - s.reg Reg.BOOT_GEN).toInt) then 10
  else if !sameContinuity man s.boot.man then 11
  else 0

/-! ### VERIFY (R490) -/

/-- The slot that runs. -/
def State.runSlot (s : State) : Nat := fld (s.reg Reg.BOOT_RUN) 0 0

/-- Base camp takes, and gives back, the flash and the Keccak engine (R498, R500). -/
def State.bootTake (s : State) : State := s.xspiTake.kecTake
def State.bootGive (s : State) : State := s.xspiGive.kecGive

/-- VERIFY. -/
def bootVerify (m : Sys2Proof.Master) (a : Sys2Proof.CmdArg) (s : State) : State :=
  s.command m a ⟨Reg.BOOT_CMD, .priv, 2, a.arg.toNat < 2 && a.arg.toNat != s.runSlot, true, s.reg Reg.BOOT_STATE == 2, true⟩ fun s =>
    (s.setState 2 3).bootTake

def execBootVerify (m : Sys2Proof.Master) (a : Sys2Proof.CmdArg) (s : State) : Host.Outcome State Fault Refusal :=
  s.goesTo (bootVerify m a s)

/-- A verification ends with a code (R491, R495). -/
def State.verifyEnd (s : State) (k code : Nat) : State :=
  let ok := s.boot.okSlots.filter (fun x => x != k)
  let s := { s with boot := { s.boot with okSlots := if code = 0 then ok ++ [k] else ok } }
  (s.setReg Reg.BOOT_VRES (wordOfNat (k * 0x80000000 + code))).bootGive.bootEvt 1

/-- VERIFY_DONE (R490): `err` is a flash read error. -/
def verifyDone (err : Bool) (s : State) : State :=
  match smFind s.busy Reg.BOOT_CMD with
  | some b =>
    if b.code = 2 then
      ((s.complete Reg.BOOT_CMD).setState 2 2).verifyEnd (b.arg % 2) (s.verifyCode (b.arg % 2) err)
    else s
  | none => s

def execVerifyDone (err : Bool) (s : State) : Host.Outcome State Fault Refusal := s.goesTo (verifyDone err s)

/-! ### ATTEST (R492, R493) -/

/-- The address of the report. -/
def State.attAddr (s : State) : Nat :=
  fld (s.reg Reg.BOOT_ATT_HI) 7 0 * 0x100000000 + (s.reg Reg.BOOT_ATT_LO).toNat

/-- Signing begins: the time base is taken. [DEDUCED: log 118] -/
def State.attBegin (s : State) : State :=
  { s with boot := { s.boot with attAt := (s.reg Reg.TB_TIME_LO, s.reg Reg.TB_TIME_HI) } }

/-- ATTEST (R493): before the identity key is ready it waits. [DEDUCED: log 118] -/
def bootAttest (m : Sys2Proof.Master) (a : Sys2Proof.CmdArg) (s : State) : State :=
  s.command m a ⟨Reg.BOOT_CMD, .priv, 4, a.arg == 0, true, s.reg Reg.BOOT_STATE == 2, s.inGeneral s.attAddr 50112⟩ fun s =>
    let s := (s.setState 2 5).kecTake
    if s.reg Reg.BOOT_IDSTAT = 1 then s.attBegin else s

def execBootAttest (m : Sys2Proof.Master) (a : Sys2Proof.CmdArg) (s : State) : Host.Outcome State Fault Refusal :=
  s.goesTo (bootAttest m a s)

/-- Bytes 0–255 of a report (R493). -/
def State.attHead (s : State) : List Byte :=
  let run := s.reg Reg.BOOT_RUN
  let w6 := fld run 15 8 + fld run 17 16 * 0x100 + fld run 0 0 * 0x10000 + s.dbgLock * 0x1000000
  let w7 := s.rollV + fld (s.otpWord 0x80) 15 0 * 0x100
  bytesOf ([0x7128A77E, 1, s.reg Reg.SYS_UID_LO, s.reg Reg.SYS_UID_HI, s.reg Reg.SYS_ID, s.reg Reg.BOOT_GEN, wordOfNat w6, wordOfNat w7])
    ++ shake256 s.boot.man 64
    ++ bytesOf ((List.range 8).map (fun i => s.reg (Reg.BOOT_NONCE i)) ++ [s.reg Reg.SYS_ROLE, s.reg Reg.SAFE_CONFIRM,
      s.reg Reg.BIV_PCC, s.boot.attAt.1, s.boot.attAt.2])
    ++ List.replicate 108 0

/-- ATTEST_DONE (R493): the report is written. -/
def attestDone (s : State) : State :=
  if s.busyWith Reg.BOOT_CMD 4 && s.reg Reg.BOOT_IDSTAT == 1 then
    let a := s.attAddr
    let head := s.attHead
    let seed := s.otpBytes 0x100 96
    let ctx : List Byte := [0x57, 0x52, 0x47, 0x37, 0x31, 0x32, 0x38, 0x2D, 0x41, 0x54, 0x54]
    let sig := (List.range 49856).map (fun i => Config.idSign seed ctx head i)
    let s := ((s.setBytes a head).setBytes (a + 256) sig).memcWritten a 50112
    (((s.complete Reg.BOOT_CMD).setState 2 2).kecGive).bootEvt 2
  else s

def execAttestDone (s : State) : Host.Outcome State Fault Refusal := s.goesTo (attestDone s)

/-- IDENTITY_KEY_READY (R492): after release the public key is shown; an ATTEST that waits begins to sign. [DEDUCED: log 118] -/
def identityKeyReady (s : State) : State :=
  let st := s.reg Reg.BOOT_STATE
  if s.reg Reg.BOOT_IDSTAT = 1 ∨ st = 1 ∨ st = 6 then s
  else
    let seed := s.otpBytes 0x100 96
    let s := s.setRegs ((List.range 16).map (fun i => (Reg.BOOT_IDPUB i, Config.idKey seed i)) ++ [(Reg.BOOT_IDSTAT, 1)])
    if st = 5 then s.attBegin else s

def execIdentityKeyReady (s : State) : Host.Outcome State Fault Refusal := s.goesTo (identityKeyReady s)

/-! ### Warm restart and watchdog (R486–R489, R491) -/

/-- A warm restart begins (R32, R400, R436, R487, R507, R552): 1 WARM, 2 COMMIT, 3 watchdog. -/
def State.warmBegin (s : State) (cause slot : Nat) : State :=
  let w := s.reg Reg.BOOT_WCAUSE
  let s := s.setReg Reg.BOOT_WCAUSE (wordOfNat (min (fld w 31 16 + 1) 0xFFFF * 0x10000 + cause))
  let s := (s.setState 0 3).setState 2 4
  let s := ((s.ethWarm 0).ethWarm 1).schedWarm.hutWarm
  let s := { s with
    que := { s.que with stalls := s.que.stalls.filter (fun x => 24 ≤ x.port),
                        evWait := s.que.evWait.filter (fun (x : Nat × Nat × List Word) => s.qOwn x.2.1),
                        resync := ((s.que.evWait.filter (fun (x : Nat × Nat × List Word) => !s.qOwn x.2.1)).map
                          (fun (x : Nat × Nat × List Word) => if x.1 < 0x100 then x.1 else 0x3C)).eraseDups }
    boot := { s.boot with warm := some (slot, cause == 2) } }
  s.bootTake

/-- WARM (R486, R495). -/
def bootWarm (m : Sys2Proof.Master) (a : Sys2Proof.CmdArg) (s : State) : State :=
  let st := s.reg Reg.BOOT_STATE
  s.command m a ⟨Reg.BOOT_CMD, .priv, 1, a.arg == 0, true, st == 2 || st == 7, true⟩ fun s => s.warmBegin 1 s.runSlot

def execBootWarm (m : Sys2Proof.Master) (a : Sys2Proof.CmdArg) (s : State) : Host.Outcome State Fault Refusal :=
  s.goesTo (bootWarm m a s)

/-- COMMIT (R491, R495): permitted for a slot whose latest VERIFY returned OK and that nothing has touched since. -/
def bootCommit (m : Sys2Proof.Master) (a : Sys2Proof.CmdArg) (s : State) : State :=
  let st := s.reg Reg.BOOT_STATE
  let k := a.arg.toNat
  s.command m a ⟨Reg.BOOT_CMD, .priv, 3, k < 2, true, (st == 2 || st == 7) && s.boot.okSlots.contains k, true⟩ fun s =>
    s.warmBegin 2 k

def execBootCommit (m : Sys2Proof.Master) (a : Sys2Proof.CmdArg) (s : State) : Host.Outcome State Fault Refusal :=
  s.goesTo (bootCommit m a s)

/-- The warm restart of a watchdog expiry (R489, R495): a VERIFY in progress reports ABORTED, an ATTEST is abandoned. -/
def State.wdogWarm (s : State) : State :=
  let s := match smFind s.busy Reg.BOOT_CMD with
    | some b =>
      let s := s.complete Reg.BOOT_CMD
      if b.code = 2 then s.verifyEnd (b.arg % 2) 13 else if b.code = 4 then s.kecGive else s
    | none => s
  s.warmBegin 3 s.runSlot

/-- APP_WATCHDOG_EXPIRY (R489, R495): PERIOD ms without a kick. PERIOD 0 is reserved, and never expires. [DEDUCED: log 117] -/
def appWatchdogExpiry (s : State) : State :=
  let w := s.reg Reg.BOOT_WDOG
  let st := s.reg Reg.BOOT_STATE
  let t := s.boot.wdogAt + fld w 15 0 * 1000000
  if bitOf w 31 && fld w 15 0 != 0 && (st == 2 || st == 3 || st == 5) && s.beforeT0 (t * 2 ^ 24) then
    (s.advanceTo t).wdogWarm
  else s

def execAppWatchdogExpiry (s : State) : Host.Outcome State Fault Refusal := s.goesTo (appWatchdogExpiry s)

/-- WDOG_KICK (R489). -/
def wdogKick (m : Sys2Proof.Master) (s : State) : State :=
  s.writeGranted m Reg.BOOT_WDOG_KICK .priv fun s => { s with boot := { s.boot with wdogAt := s.now } }

def execWdogKick (m : Sys2Proof.Master) (s : State) : Host.Outcome State Fault Refusal := s.goesTo (wdogKick m s)

/-- ABORT (R68, R495): a VERIFY or an ATTEST ends; a warm restart runs on. -/
def bootAbort (m : Sys2Proof.Master) (a : Sys2Proof.CmdArg) (s : State) : State :=
  let st := s.reg Reg.BOOT_STATE
  s.abort m a Reg.BOOT_CMD .priv fun b s =>
    match b with
    | some b =>
      if st = 3 then (s.setState 2 2).verifyEnd (b.arg % 2) 13
      else if st = 5 then (s.setState 2 2).kecGive
      else s
    | none => s

def execBootAbort (m : Sys2Proof.Master) (a : Sys2Proof.CmdArg) (s : State) : Host.Outcome State Fault Refusal :=
  s.goesTo (bootAbort m a s)

/-! ### The secure channel (R496) -/

/-- What a command in progress programs: OTP offsets with the bits to add, in order. -/
def State.otpPlan (s : State) (b : Busy) : List (Nat × Word) :=
  let data (o : Nat) : List (Nat × Word) := (List.range 8).map (fun i => (o + 4 * i, s.reg (Reg.BOOT_SC_DATA i)))
  let ones (n : Nat) : Word := wordOfNat (2 ^ min n 32 - 1)
  match b.code with
  | 1 => data (32 * (b.arg % 4)) ++ [(0x80, bitMask (b.arg % 4))]
  | 2 => [(0x80, bitMask (8 + b.arg % 4))]
  | 3 => [(0x88, ones b.arg), (0x8C, ones (b.arg - 32))]
  | 4 => data 0x90
  | 5 => [(0x1000 + 4 * (b.arg % 1024), s.reg (Reg.BOOT_SC_DATA 0))]
  | _ => [(0xB0, wordOfNat b.arg)]

/-- A secure-channel command that programs OTP. -/
def scProgram (code : Nat) (argOk ok : Bool) (m : Sys2Proof.Master) (a : Sys2Proof.CmdArg) (s : State) : State :=
  s.command m a ⟨Reg.BOOT_SC_CMD, .secure, code, argOk, true, s.reg Reg.BOOT_SC_STATE == 1, ok⟩ fun s =>
    s.setReg Reg.BOOT_SC_STATE 2

/-- KEY_PROG. -/
def keyProg (m : Sys2Proof.Master) (a : Sys2Proof.CmdArg) (s : State) : State :=
  scProgram 1 (a.arg.toNat < 4) (!s.keyProgrammed a.arg.toNat) m a s
def execKeyProg (m : Sys2Proof.Master) (a : Sys2Proof.CmdArg) (s : State) : Host.Outcome State Fault Refusal :=
  s.goesTo (keyProg m a s)

/-- KEY_REVOKE: not where no other usable slot would remain (R473). -/
def keyRevoke (m : Sys2Proof.Master) (a : Sys2Proof.CmdArg) (s : State) : State :=
  scProgram 2 (a.arg.toNat < 4) ((List.range 4).any (fun k => k != a.arg.toNat && s.keyUsable k)) m a s
def execKeyRevoke (m : Sys2Proof.Master) (a : Sys2Proof.CmdArg) (s : State) : Host.Outcome State Fault Refusal :=
  s.goesTo (keyRevoke m a s)

/-- ROLLFWD: a value at or below V completes with no effect. -/
def rollfwd (m : Sys2Proof.Master) (a : Sys2Proof.CmdArg) (s : State) : State :=
  let v := a.arg.toNat
  let c : Cmd := ⟨Reg.BOOT_SC_CMD, .secure, 3, v < 128, true, s.reg Reg.BOOT_SC_STATE == 1,
    v ≤ 64 && v ≤ fld (s.reg Reg.BOOT_RUN) 15 8⟩
  s.command m a c fun s => if v ≤ s.rollV then s.complete Reg.BOOT_SC_CMD else s.setReg Reg.BOOT_SC_STATE 2
def execRollfwd (m : Sys2Proof.Master) (a : Sys2Proof.CmdArg) (s : State) : Host.Outcome State Fault Refusal :=
  s.goesTo (rollfwd m a s)

/-- SVC_PROG. [DEDUCED: log 117] -/
def svcProg (m : Sys2Proof.Master) (a : Sys2Proof.CmdArg) (s : State) : State :=
  scProgram 4 (a.arg == 0) ((s.otpBytes 0x90 32).all (fun b => b == 0)) m a s
def execSvcProg (m : Sys2Proof.Master) (a : Sys2Proof.CmdArg) (s : State) : Host.Outcome State Fault Refusal :=
  s.goesTo (svcProg m a s)

/-- OTP_PROG. -/
def otpProg (m : Sys2Proof.Master) (a : Sys2Proof.CmdArg) (s : State) : State := scProgram 5 (a.arg.toNat < 1024) true m a s
def execOtpProg (m : Sys2Proof.Master) (a : Sys2Proof.CmdArg) (s : State) : Host.Outcome State Fault Refusal :=
  s.goesTo (otpProg m a s)

/-- DBG_LOCK: the level does not go down. -/
def dbgLock (m : Sys2Proof.Master) (a : Sys2Proof.CmdArg) (s : State) : State :=
  scProgram 6 (a.arg == 1 || a.arg == 3) (s.dbgLock ≤ a.arg.toNat) m a s
def execDbgLock (m : Sys2Proof.Master) (a : Sys2Proof.CmdArg) (s : State) : Host.Outcome State Fault Refusal :=
  s.goesTo (dbgLock m a s)

/-- DBG_OPEN (R472): the debug functions stay open until the next cold start. [DEDUCED: log 117] -/
def dbgOpen (m : Sys2Proof.Master) (a : Sys2Proof.CmdArg) (s : State) : State :=
  s.command m a ⟨Reg.BOOT_SC_CMD, .secure, 7, a.arg == 0, false, s.reg Reg.BOOT_SC_STATE == 1, s.dbgLock == 1⟩ fun s =>
    { s with boot := { s.boot with opened := true } }
def execDbgOpen (m : Sys2Proof.Master) (a : Sys2Proof.CmdArg) (s : State) : Host.Outcome State Fault Refusal :=
  s.goesTo (dbgOpen m a s)

/-- OTP_PROGRAM_DONE: every word is programmed. [DEDUCED: log 117] -/
def otpProgramDone (s : State) : State :=
  match smFind s.busy Reg.BOOT_SC_CMD with
  | some b =>
    let s := (s.otpPlan b).foldl (fun (s : State) p => s.otpOr p.1 p.2) s
    ((s.complete Reg.BOOT_SC_CMD).setReg Reg.BOOT_SC_STATE 1).bootEvt 5
  | none => s
def execOtpProgramDone (s : State) : Host.Outcome State Fault Refusal := s.goesTo (otpProgramDone s)

/-- ABORT on BOOT_SC_CMD: the word begun completes, the words after it are not programmed. -/
def bootScAbort (m : Sys2Proof.Master) (a : Sys2Proof.CmdArg) (s : State) : State :=
  s.abort m a Reg.BOOT_SC_CMD .secure fun b s =>
    match b with
    | some b =>
      let s := ((s.otpPlan b).take (1 + Config.otpWords (s.now - b.acc))).foldl (fun (s : State) p => s.otpOr p.1 p.2) s
      s.setReg Reg.BOOT_SC_STATE 1
    | none => s
def execBootScAbort (m : Sys2Proof.Master) (a : Sys2Proof.CmdArg) (s : State) : Host.Outcome State Fault Refusal :=
  s.goesTo (bootScAbort m a s)

end Sys2Proof.Machine
end

