-- ==== Sys2Proof/Machine/Ce.lean ====
section
/-!
DEFINITION. The control engine at work: local memory and directories (R113–R115), dispatch of the runs of an FC to lanes
(R129–R133), runs and their publication (R131), missed runs (R132), saturation supervision (R134, R135) and program
status (R136).
-/
namespace Sys2Proof.Machine

/-! ### Local memory (R113–R117) -/

/-- The base of CE local memory (R15). -/
def ceBase : Nat := 0x10000000

/-- A word of CE local memory, by local offset. -/
def State.ceRd (s : State) (a : Nat) : Word := s.word (ceBase + a)

/-- Write a word of CE local memory. -/
def State.ceWr (s : State) (a : Nat) (w : Word) : State := s.setWord (ceBase + a) w

/-- The active directory (R114). -/
def State.ceAct (s : State) : Nat := fld (s.reg Reg.CE_DIR_ACT) 0 0

/-- Word w of entry `slot` of directory d (R114). -/
def State.ceDir (s : State) (d slot w : Nat) : Word := s.ceRd (d * 0x2000 + 64 * slot + 4 * w)

/-- The stages of a slot's FC list (0) or tick list (1), from the words of its directory entry (R114). -/
def ceList (rd : Nat → Word) (dir : List Word) (l : Nat) : List Nat :=
  if l = 0 then ceWalk rd (fld (dir.getD 1 0) 31 16 * 16) (if fld (dir.getD 1 0) 5 0 = 0 then 64 else fld (dir.getD 1 0) 5 0)
  else if bitOf (dir.getD 0 0) 30 then ceWalk rd (fld (dir.getD 2 0) 31 16 * 16) (fld (dir.getD 3 0) 20 16)
  else []

/-- The words of entry `slot` of directory d. -/
def State.ceEntry (s : State) (d slot : Nat) : List Word := (List.range 16).map (fun w => s.ceDir d slot w)

/-- A table descriptor (R125, R143). -/
def State.ceTable (s : State) (n : Nat) : CeTable :=
  let d0 := s.reg (Reg.CTAB_TD_0 n)
  let d1 := s.reg (Reg.CTAB_TD_1 n)
  let mode := fld d0 31 30
  let len := fld d0 26 16
  let base := fld d0 12 0
  let lenOk := match mode with
    | 1 => 64 ≤ len && len ≤ 1024 && 2 ^ (bitLen len - 1) == len
    | 2 => 2 ≤ len && len ≤ 1024
    | 3 => 2 ≤ len && len ≤ 512
    | _ => true
  let n' := if mode = 3 then 2 * len else len
  ⟨mode, len, base, sfld d1 31 24, fld d1 4 0, s.reg (Reg.CTAB_TD_2 n), lenOk && base % 64 == 0 && base + n' ≤ 6144⟩

/-- What a stage gave last (R122). -/
def State.ceKept (s : State) (a : Nat) : List CeOp := smGet (fun _ => []) s.ce.kept a

/-! ### Program status (R136) -/

/-- Local offset of a status word of a slot. -/
def ceStatusAt (slot w : Nat) : Nat := 0x4000 + 64 * slot + 4 * w

/-- Set or clear a bit of a slot's W0. -/
def State.ceSetStatus (s : State) (slot bit : Nat) (b : Bool) : State :=
  s.ceWr (ceStatusAt slot 0) (setBit (s.ceRd (ceStatusAt slot 0)) bit b)

/-- Increment a saturating status count. -/
def State.ceIncStatus (s : State) (slot w : Nat) : State :=
  let x := s.ceRd (ceStatusAt slot w)
  if x = 0xFFFFFFFF then s else s.ceWr (ceStatusAt slot w) (x + 1)

/-- SATC of output port 16 + k of a slot. -/
def State.ceSatc (s : State) (slot k : Nat) : Nat := fld (s.ceRd (ceStatusAt slot (4 + k / 2))) (16 * (k % 2) + 15) (16 * (k % 2))

/-- Store it. -/
def State.ceSetSatc (s : State) (slot k v : Nat) : State :=
  let a := ceStatusAt slot (4 + k / 2)
  s.ceWr a (setFld (s.ceRd a) (16 * (k % 2) + 15) (16 * (k % 2)) v)

/-- Raise CE events (R138). -/
def State.ceEvt (s : State) (m : Word) : State := s.raiseEvt 0x10 Reg.CE_EVT (some Reg.CE_EVT_EN) m

/-! ### Lanes (R97, R104, R138) -/

/-- The role of a lane: 0 executing, 1 checker, 2 retired. -/
def State.ceRole (s : State) (n : Nat) : Nat := fld (s.reg Reg.CE_LANES) (2 * n + 1) (2 * n)

/-- The lanes that execute. -/
def State.ceExec (s : State) : List Nat := [0, 1, 2].filter (fun n => s.ceRole n == 0)

/-- The checker, if there is one. -/
def State.ceChecker (s : State) : Option Nat := [0, 1, 2].find? (fun n => s.ceRole n == 1)

/-- Give a lane a role, published as CE's block state (R531). -/
def State.ceSetRole (s : State) (n r : Nat) : State :=
  (s.setReg Reg.CE_LANES (setFld (s.reg Reg.CE_LANES) (2 * n + 1) (2 * n) r)).pubReg 0x10 1 Reg.CE_LANES

/-- The CE_STATE that the lanes give a running CE (R104, R139). -/
def State.ceLaneState (s : State) : Nat :=
  match s.ceExec.length with
  | 0 => 0
  | 1 => 3
  | _ => if s.ceChecker.isSome then 1 else 2

/-! ### Dispatch (R129, R130) -/

/-- A run as dispatch sees it: slot, kind, instant from which it is ready, deadline, the costs of what remains of it,
overhead first, and its start where it has begun. -/
structure CeJob where
  slot : Nat
  kind : Nat
  ready : Nat
  dl : Nat
  costs : List Nat
  start : Nat := 0
  work : Nat := 0
  deriving DecidableEq, Repr

/-- A lane in dispatch: the instant it becomes free, the tick run and the FC run it has begun. -/
structure CeLane where
  id : Nat
  free : Nat
  tick : Option CeJob := none
  main : Option CeJob := none
  live : Bool := true
  deriving DecidableEq, Repr

/-- The first job in order of readiness, which among FC runs is the order of PS, and then of slot (R130). -/
def ceFirst (l : List CeJob) : Option CeJob :=
  l.foldl (fun b j =>
    match b with
    | none => some j
    | some c => if j.ready < c.ready ∨ (j.ready = c.ready ∧ j.slot < c.slot) then some j else some c) none

/-- A job that has ended or been abandoned, as a run of the plan. -/
def ceEndRun (j : CeJob) (lane fin : Nat) (fits : Bool) : CeRun := ⟨j.slot, j.kind, lane, j.start, fin, j.dl, j.work, fits, 0⟩

/-- One stage of a job on a lane: the lane afterwards, and the run where the job ends or is abandoned at its
deadline (R132). -/
def ceAdvance (l : CeLane) (j : CeJob) : CeLane × Option CeRun :=
  match j.costs with
  | [] => (l, some (ceEndRun j l.id l.free true))
  | c :: r =>
    if l.free ≥ j.dl then (l, some (ceEndRun j l.id j.dl false))
    else if l.free + c > j.dl then
      ({ l with free := j.dl }, some (ceEndRun { j with work := j.work + (j.dl - l.free) } l.id j.dl false))
    else
      let t := l.free + c
      let j := { j with costs := r, work := j.work + c }
      if r.isEmpty then ({ l with free := t }, some (ceEndRun j l.id t true))
      else (if j.kind = 0 then { l with free := t, main := some j } else { l with free := t, tick := some j }, none)

/-- Dispatch of the jobs to the lanes, stage by stage (R130): tick runs first, each lane's begun FC run next, then FC
runs in order; a run goes to the lane free first, the lower-numbered on a tie. [DEDUCED: log 43] -/
def ceDispatch : Nat → List CeLane → List CeJob → List CeRun → List CeRun
  | 0, _, _, acc => acc
  | fuel + 1, lanes, todo, acc =>
    let pick := lanes.foldl (fun (b : Option CeLane) l =>
      if !l.live then b else match b with
        | none => some l
        | some c => if l.free < c.free then some l else some c) none
    match pick with
    | none => acc
    | some l =>
      let put (l' : CeLane) : List CeLane := lanes.map (fun x => if x.id = l'.id then l' else x)
      let ready := todo.filter (fun j => j.ready ≤ l.free)
      let go (l : CeLane) (j : CeJob) (todo : List CeJob) : List CeRun :=
        let r := ceAdvance l j
        ceDispatch fuel (put r.1) todo (match r.2 with
          | some x => acc ++ [x]
          | none => acc)
      let fresh (j : CeJob) : List CeRun :=
        go l { j with start := l.free } (todo.filter (fun x => !(x.slot == j.slot && x.kind == j.kind)))
      match l.tick with
      | some j => go { l with tick := none } j todo
      | none =>
        match ceFirst (ready.filter (fun j => j.kind != 0)) with
        | some j => fresh j
        | none =>
          match l.main with
          | some j => go { l with main := none } j todo
          | none =>
            match ceFirst ready with
            | some j => fresh j
            | none =>
              match ceFirst todo with
              | some j => ceDispatch fuel (put { l with free := j.ready }) todo acc
              | none => ceDispatch fuel (put { l with live := false }) todo acc

/-- The runs of a slot in the FC that begins at t0 (R129, R133). -/
def State.ceJobs (s : State) (t0 slot : Nat) : List CeJob :=
  let dir := s.ceEntry s.ceAct slot
  let d (i : Nat) : Word := dir.getD i 0
  if !bitOf (d 0) 31 then []
  else
    let costs (l : Nat) : List Nat := 8 :: (ceList s.ceRd dir l).map (fun a => (ceHeadAt s.ceRd a).cost)
    let job (kind base from_ to_ lim : Nat) (l : Nat) : CeJob :=
      { slot := slot, kind := kind, ready := t0 + base + 10 * from_, dl := min (t0 + base + 10 * to_) (t0 + lim),
        costs := costs l }
    job 0 0 (fld (d 0) 23 12) (fld (d 0) 11 0) 31250 0 ::
      (if bitOf (d 0) 30 then
        [job 1 0 (fld (d 2) 11 0) (fld (d 3) 11 0) 15625 1, job 2 15625 (fld (d 2) 11 0) (fld (d 3) 11 0) 31250 1]
      else [])

/-- Dispatch jobs from an instant on the executing lanes. [DEDUCED: log 43] -/
def State.cePlan (s : State) (t : Nat) (jobs : List CeJob) : List CeRun :=
  let fuel := 4 * jobs.foldl (fun n j => n + j.costs.length + 2) 4
  ceDispatch fuel (s.ceExec.map (fun n => { id := n, free := t })) jobs []

/-! ### Missed runs (R132) -/

/-- The run of the plan that stands for a slot and a kind and is still to come. -/
def State.ceRunOf (s : State) (slot kind : Nat) : Option CeRun :=
  s.ce.plan.find? (fun r => r.slot == slot && r.kind == kind && r.st == 0)

/-- Mark a run of the plan as done (1) or missed (2), its busy time counted. -/
def State.ceMark (s : State) (r : CeRun) (st : Nat) : State :=
  { s with ce := { s.ce with
      plan := s.ce.plan.map (fun x => if x.slot = r.slot ∧ x.kind = r.kind then { x with st := st } else x),
      load := s.ce.load + r.work } }

/-- Saturation supervision of a slot once its last run of the FC has ended (R134, R135). -/
def State.ceSupervise (s : State) (slot : Nat) : State :=
  let dir := s.ceEntry s.ceAct slot
  let mask := fld (dir.getD 6 0) 15 0
  let t1 := fld (dir.getD 5 0) 15 0
  let t2 := fld (dir.getD 5 0) 31 16
  if s.ce.plan.any (fun r => r.slot == slot && r.st == 0) || s.ce.miss.contains slot || mask = 0 then s
  else
    let ports := (List.range 16).filter (fun k => mask / 2 ^ k % 2 == 1)
    let s := ports.foldl (fun s k =>
      let sel := fld (dir.getD (8 + k / 2) 0) (16 * (k % 2) + 15) (16 * (k % 2))
      let hit := sel / 0x4000 = 2 ∧ s.ce.sat.contains (slot, sel / 128 % 2, sel / 256 % 64)
      let old := s.ceSatc slot k
      let new := if hit then min (old + 1) 65535 else old - 1
      let s := s.ceSetSatc slot k new
      let s := if t1 ≠ 0 ∧ old < t1 ∧ t1 ≤ new then (s.ceSetStatus slot 2 true).ceEvt 4 else s
      let latch := Reg.CE_SAT_LATCH (slot / 32)
      if t2 ≠ 0 ∧ old < t2 ∧ t2 ≤ new ∧ !bitOf (s.reg latch) (slot % 32) then
        let s := ((s.ceSetStatus slot 3 true).orReg latch (bitMask (slot % 32))).ceEvt 8
        { s with stopReq := s.stopReq ++ [(slot, 2, s.now)] }
      else s) s
    let s := if ports.all (fun k => s.ceSatc slot k == 0) then s.ceSetStatus slot 2 false else s
    { s with ce := { s.ce with sat := s.ce.sat.filter (fun p => p.1 != slot) } }

/-- A missed run (R132): nothing is published and no state changes; the miss is flagged and counted. -/
def State.ceMiss (s : State) (r : CeRun) : State :=
  let s := s.ceMark r 2
  let slot := r.slot
  let s := { s with ce := { s.ce with miss := if s.ce.miss.contains slot then s.ce.miss else s.ce.miss ++ [slot] } }
  let s := (s.ceSetStatus slot 0 true).ceIncStatus slot 1
  let s := ((s.inc Reg.CE_MISS_CNT).setReg Reg.CE_MISS_SLOT (wordOfNat slot)).orReg (Reg.CE_MISS_MAP (slot / 32))
    (bitMask (slot % 32))
  s.ceEvt 1

/-! ### Runs (R131) -/

/-- The words on the input ports of a slot: the latest value delivered to each (R131). -/
def State.ceIns (s : State) (slot : Nat) : List Word := (List.range 16).map (fun p => (s.consumer (0x9000 + slot * 32 + p)).val)

/-- A fault of a lane in one computation: what it turns over in the words at some local offsets. [DESIGN CHOICE: log 44] -/
abbrev CeUpset := List (BitVec 20 × BitVec 32)

/-- The words a computation gives, the lane's fault included. [DESIGN CHOICE: log 44] -/
def ceUpset (u : CeUpset) (ws : List (Nat × Word)) : List (Nat × Word) :=
  ws.map (fun p => (p.1, u.foldl (fun w x => if x.1.toNat = p.1 then w ^^^ x.2 else w) p.2))

/-- The computation of a run of list l from a reading of local memory and the words on its input ports. [DEDUCED: log 47] -/
def State.ceCompute (s : State) (rd : Nat → Word) (dir ins : List Word) (l : Nat) : CeOut :=
  ceRunList rd s.ceTable s.ceKept ins (fld (dir.getD 4 0) 31 16) (ceList rd dir l) (ceList rd dir (1 - l))

/-- Publish the ports of a slot that the list feeds (R112, R114, R131); the Bool reports a bad selector. [DEDUCED: log 47] -/
def State.cePublish (s : State) (slot l : Nat) (dir : List Word) : State × Bool :=
  let addrs := ceList s.ceRd dir l
  (List.range 16).foldl (fun p k =>
    let s := p.1
    let sel := fld (dir.getD (8 + k / 2) 0) (16 * (k % 2) + 15) (16 * (k % 2))
    let int := bitOf (dir.getD 4 0) k
    let pub (w : Word) (s : State) : State :=
      s.publish ⟨0x9000 + slot * 32 + 16 + k, some (if int then 0 else 2), w, false, true, none⟩
    match sel / 0x4000 with
    | 2 =>
      if sel / 128 % 2 = l then
        let o := ceStageOut s.ceRd s.ceKept addrs (sel / 256 % 64) (sel % 16)
        (pub (ceToPort o.1 int) s, p.2 || o.2)
      else p
    | 1 => p
    | b => if l = 0 then (pub 0 s, p.2 || b == 3) else p) (s, false)

/-- The words of the stages of both lists of a slot, for the snapshot (R100). -/
def State.ceSnapshot (s : State) (dir : List Word) : SMap Word :=
  (ceList s.ceRd dir 0 ++ ceList s.ceRd dir 1).foldl (fun m a =>
    (List.range ((ceHeadAt s.ceRd a).size / 4)).foldl (fun m i => smPut m (a + 4 * i) (s.ceRd (a + 4 * i))) m) []

/-- Is a run of this slot checked in the present FC (R99)? -/
def State.ceChecked (s : State) (slot : Nat) : Bool :=
  s.ceChecker.isSome && fld (s.reg Reg.CYC_COUNT) 2 0 == slot % 8

/-- A run that completes by its deadline (R131): the new words are committed, the ports the list feeds publish, and the
status, the counts and the table events follow; a run of the group checked leaves its snapshot. -/
def State.ceCommit (s : State) (r : CeRun) (u : CeUpset) : State :=
  let slot := r.slot
  let l := if r.kind = 0 then 0 else 1
  let dir := s.ceEntry s.ceAct slot
  let ins := s.ceIns slot
  let o := s.ceCompute s.ceRd dir ins l
  let ws := ceUpset u o.ws
  let chk : CeCheck := { slot := slot, kind := r.kind, lane := r.lane, words := s.ceSnapshot dir, ins := ins, dir := dir, res := ws }
  let s := if s.ceChecked slot then { s with ce := { s.ce with checks := s.ce.checks ++ [chk] } } else s
  let s := (s.ceMark r 1).advanceTo r.fin
  let s := ws.foldl (fun s p => s.ceWr p.1 p.2) s
  let addrs := ceList s.ceRd dir l
  let s := addrs.foldl (fun s a =>
    let h := ceHeadAt s.ceRd a
    if h.ok then
      { s with ce := { s.ce with kept := smPut s.ce.kept a ((List.range h.nout).map (fun k => ceOutOp s.ceRd a h k)) } }
    else s) s
  let (s, bad) := s.cePublish slot l dir
  let s := if o.bad || bad then (s.ceSetStatus slot 4 true).ceEvt 0x80 else s
  let s := if o.nan then
      { s.ceSetStatus slot 6 true with ce := { s.ce with nan := if s.ce.nan.contains slot then s.ce.nan else s.ce.nan ++ [slot] } }
    else s
  let s := if o.ovf then ((s.ceIncStatus slot 2).inc Reg.CE_OVF_CNT).ceEvt 2 else s
  let both := addrs ++ ceList s.ceRd dir (1 - l)
  let s := s.ceSetStatus slot 1 (both.any (fun a => (ceHeadAt s.ceRd a).ok && bitOf (s.ceRd (a + 4)) 0))
  let s := if r.kind = 0 then
      s.ceWr (ceStatusAt slot 3) (wordOfNat ((r.fin - s.t0) * 0x10000 + (r.start - s.t0) % 0x10000))
    else s
  let s := { s with ce := { s.ce with sat := s.ce.sat ++ o.sat.map (fun i => (slot, l, i)) } }
  let s := match o.clamp with
    | some n => (s.setReg Reg.CTAB_CLAMP_TBL (wordOfNat n)).raiseEvt 0x11 Reg.CTAB_EVT none 4
    | none => s
  let s := if o.badTd then s.raiseEvt 0x11 Reg.CTAB_EVT none 2 else s
  s.ceSupervise slot

/-- A vote on a program is pending (R103). -/
def State.ceVoting (s : State) (slot : Nat) : Bool := s.ce.votes.any (fun v => v.slot == slot)

/-- A run of the plan is made: missed where a vote on the program is undecided (R103), else committed where it completes
by its deadline. -/
def State.ceDoRun (s : State) (slot kind : Nat) (u : CeUpset) : State :=
  match s.ceRunOf slot kind with
  | some r => if s.ceVoting slot then (s.ceMiss r).ceSupervise slot else if r.fits then s.ceCommit r u else s
  | none => s

/-- CE_FC_RUN (R129–R131). -/
def execCeFcRun (slot : BitVec 7) (u : List (BitVec 20 × BitVec 32)) (s : State) : Host.Outcome State Fault Refusal :=
  s.goesTo (s.alive 5 (s.ceDoRun slot.toNat 0 u))

/-- CE_TICK_RUN: the tick run after current tick A (`false`) or B (`true`). -/
def execCeTickRun (slot : BitVec 7) (tickB : Bool) (u : List (BitVec 20 × BitVec 32)) (s : State) :
    Host.Outcome State Fault Refusal := s.goesTo (s.alive 5 (s.ceDoRun slot.toNat (if tickB then 2 else 1) u))

/-- RUN_DEADLINE_MISS (R132): a run still to come is abandoned at its deadline. [DEDUCED: log 43] -/
def runDeadlineMiss (slot : BitVec 7) (kind : Fin 3) (s : State) : State :=
  match s.ceRunOf slot.toNat kind.val with
  | some r => ((s.advanceTo r.dl).ceMiss r).ceSupervise slot.toNat
  | none => s

def execRunDeadlineMiss (slot : BitVec 7) (kind : Fin 3) (s : State) : Host.Outcome State Fault Refusal :=
  s.goesTo (s.alive 5 (runDeadlineMiss slot kind s))

/-! ### The t0 of the control engine (R99, R101, R104, R129, R134, R138, R141) -/

/-- The FC that ends: runs that did not come are missed, checks that did not finish are dropped (R101), CE_LOAD and the
per-FC status bits follow. [DEDUCED: log 43] -/
def State.ceCloseFc (s : State) : State :=
  let s := (s.ce.plan.filter (fun r => r.st == 0)).foldl (fun s r => s.ceMiss r) s
  let s := s.ce.checks.foldl (fun s _ => (s.inc Reg.CE_CHK_SKIP).ceEvt 0x100) s
  let ran := (s.ce.plan.map (fun r => r.slot)).eraseDups
  let s := ran.foldl (fun s slot =>
    (s.ceSetStatus slot 0 (s.ce.miss.contains slot)).ceSetStatus slot 6 (s.ce.nan.contains slot)) s
  let ld := min s.ce.load 0xFFFF
  let s := if s.ce.plan.isEmpty then s
    else s.setReg Reg.CE_LOAD (wordOfNat (max ld (fld (s.reg Reg.CE_LOAD) 31 16) * 0x10000 + ld))
  { s with ce := { s.ce with plan := [], checks := [], sat := [], miss := [], nan := [], load := 0 } }

/-- The directories are exchanged at the swap instant (R141); a vote on a program that is given another list is
discarded (R103). -/
def State.ceSwapAtT0 (s : State) : State :=
  if s.swapDue Reg.CE_CMD 4 then
    let s := (s.setReg Reg.CE_DIR_ACT (s.reg Reg.CE_DIR_ACT ^^^ 1)).complete Reg.CE_CMD
    { s with ce := { s.ce with votes := s.ce.votes.map (fun v =>
        let w := if v.kind = 0 then 1 else 2
        if fld (s.ceDir s.ceAct v.slot w) 31 16 = fld (v.dir.getD w 0) 31 16 then v else { v with dropped := true }) } }
  else s

/-- Lanes whose retirement has been cleared return (R104): executing where fewer than two execute, else as the
checker. -/
def State.ceLanesReturn (s : State) : State :=
  let s := [0, 1, 2].foldl (fun s n =>
    if s.ceRole n = 2 ∧ !s.isRetired 2 n then s.ceSetRole n (if s.ceExec.length < 2 then 0 else 1) else s) s
  if s.reg Reg.CE_STATE = 0 then s else s.setState 0x10 s.ceLaneState

/-- CE at t0. -/
def State.ceAtT0 (s : State) : State :=
  let s := s.ceCloseFc.ceSwapAtT0.ceLanesReturn
  if s.reg Reg.CE_STATE = 0 then s
  else
    let s := s.setReg Reg.CE_CHK_GRP (wordOfNat (fld (s.reg Reg.CYC_COUNT) 2 0))
    { s with ce := { s.ce with plan := s.cePlan s.now ((List.range 128).flatMap (fun n => s.ceJobs s.now n)) } }

end Sys2Proof.Machine
end

