-- ==== Sys2Proof/Machine/CeControl.lean ====
section
/-!
DEFINITION. The commands of CE and CTAB (R138–R144), writes to CE local memory (R113) and the compensation-table copy
(R128).
-/
namespace Sys2Proof.Machine

/-- CE_CMD START (R139): in STOPPED, with a fast cycle and a lane that is not retired. -/
def ceStart (m : Sys2Proof.Master) (a : Sys2Proof.CmdArg) (s : State) : State :=
  s.command m a ⟨Reg.CE_CMD, .priv, 1, a.arg == 0, false,
    s.reg Reg.CE_STATE == 0 && s.cycRuns && [0, 1, 2].any (fun n => s.ceRole n != 2), true⟩
    fun s => s.setState 0x10 s.ceLaneState

def execCeStart (m : Sys2Proof.Master) (a : Sys2Proof.CmdArg) (s : State) : Host.Outcome State Fault Refusal :=
  s.goesTo (ceStart m a s)

/-- CE_CMD STOP (R139): CE_STATE reads STOPPED from acceptance; the runs of the present FC go on. -/
def ceStop (m : Sys2Proof.Master) (a : Sys2Proof.CmdArg) (s : State) : State :=
  s.command m a ⟨Reg.CE_CMD, .priv, 2, a.arg == 0, false, s.reg Reg.CE_STATE != 0, true⟩ fun s => s.setState 0x10 0

def execCeStop (m : Sys2Proof.Master) (a : Sys2Proof.CmdArg) (s : State) : Host.Outcome State Fault Refusal :=
  s.goesTo (ceStop m a s)

/-- CE_CMD VALIDATE (R140). -/
def ceValidate (m : Sys2Proof.Master) (a : Sys2Proof.CmdArg) (s : State) : State :=
  s.command m a ⟨Reg.CE_CMD, .priv, 3, a.arg == 0, true, true, true⟩ fun s => s

def execCeValidate (m : Sys2Proof.Master) (a : Sys2Proof.CmdArg) (s : State) : Host.Outcome State Fault Refusal :=
  s.goesTo (ceValidate m a s)

/-! ### The checks of VALIDATE (R140) -/

/-- A selector that is reserved or names an absent stage or output; OTHER = 0 names `own`, 1 `other`. -/
def ceBadSel (rd : Nat → Word) (own other : List Nat) (sel : Nat) : Bool :=
  match sel / 0x4000 with
  | 3 => true
  | 2 =>
    match (if sel / 128 % 2 = 0 then own else other)[sel / 256 % 64]? with
    | some a => (ceHeadAt rd a).nout ≤ sel % 16
    | none => true
  | _ => false

/-- A CTAB stage whose table is invalid for it: an invalid or unused descriptor, or a bidirectional table without a
velocity operand. -/
def State.ceBadTable (s : State) (h : CeHead) : Bool :=
  h.typ == 9 && (let t := s.ceTable (h.param % 64); !t.ok || t.mode == 0 || (t.mode == 3 && h.nin != 2))

/-- The lowest reason code that an enabled entry fails, 0 where it passes; `tick17` marks the seventeenth tick list. -/
def State.ceReason (s : State) (dir : List Word) (tick17 : Bool) : Nat :=
  let rd := s.ceRd
  let d (i : Nat) : Word := dir.getD i 0
  let fc := ceList rd dir 0
  let tick := ceList rd dir 1
  let all := fc ++ tick
  let head (a : Nat) : CeHead := ceHeadAt rd a
  let tickEn := bitOf (d 0) 30
  let ps := fld (d 0) 23 12
  let pd := fld (d 0) 11 0
  let pt := fld (d 2) 11 0
  let td := fld (d 3) 11 0
  let nt := fld (d 3) 20 16
  let badSels (own other : List Nat) : Bool :=
    own.any (fun a => (List.range (head a).nin).any (fun j => ceBadSel rd own other (ceSel rd a j)))
  let osel := (List.range 16).map (fun k => fld (d (8 + k / 2)) (16 * (k % 2) + 15) (16 * (k % 2)))
  if all.any (fun a => !(head a).typeOk) then 1
  else if all.any (fun a => !(head a).countsOk) then 2
  else if badSels fc tick || badSels tick fc || osel.any (fun x => ceBadSel rd fc tick x) then 3
  else if all.any (fun a => a < 0x6000 || 0xFA000 < a + (head a).size) then 4
  else if !(ps ≤ 3124 && ps < pd && pd ≤ 3125) then 5
  else if tick17 then 6
  else if all.any (fun a => decide ((head a).eceil < (head a).efloor)) then 7
  else if all.any (fun a => !(head a).paramOk) then 8
  else if tickEn && !(1 ≤ nt && nt ≤ 16) then 9
  else if tickEn && !(pt ≤ 1560 && pt < td && td ≤ 1562) then 10
  else if all.any (fun a => s.ceBadTable (head a)) then 11
  else 0

/-- What CE_VAL takes of the shadow directory (R140). [DEDUCED: log 46] -/
def State.ceValResult (s : State) : Word :=
  let d := 1 - s.ceAct
  let en := (List.range 128).filter (fun n => bitOf (s.ceDir d n 0) 31)
  let ticks := en.filter (fun n => bitOf (s.ceDir d n 0) 30)
  match en.find? (fun n => s.ceReason (s.ceEntry d n) (ticks[16]? == some n) != 0) with
  | some n => wordOfNat (n * 256 + s.ceReason (s.ceEntry d n) (ticks[16]? == some n))
  | none => 0x80000000

/-- VALIDATE completes (R140). [DEDUCED: log 46] -/
def ceValidateDone (s : State) : State :=
  if s.busyWith Reg.CE_CMD 3 then (s.setReg Reg.CE_VAL s.ceValResult).complete Reg.CE_CMD else s

def execCeValidateDone (s : State) : Host.Outcome State Fault Refusal := s.goesTo (s.alive 5 (ceValidateDone s))

/-- CE_CMD SWAP (R141): only with CE_VAL.OK. -/
def ceSwap (m : Sys2Proof.Master) (a : Sys2Proof.CmdArg) (s : State) : State :=
  s.command m a ⟨Reg.CE_CMD, .priv, 4, a.arg == 0, true, bitOf (s.reg Reg.CE_VAL) 31, true⟩ fun s => s

def execCeSwap (m : Sys2Proof.Master) (a : Sys2Proof.CmdArg) (s : State) : Host.Outcome State Fault Refusal :=
  s.goesTo (ceSwap m a s)

/-- CE_CMD ABORT (R68, R141): a pending SWAP or a running VALIDATE is cancelled; programs run on. -/
def ceAbort (m : Sys2Proof.Master) (a : Sys2Proof.CmdArg) (s : State) : State :=
  s.abort m a Reg.CE_CMD .priv fun _ s => s

def execCeAbort (m : Sys2Proof.Master) (a : Sys2Proof.CmdArg) (s : State) : Host.Outcome State Fault Refusal :=
  s.goesTo (ceAbort m a s)

/-! ### Writes to local memory (R113, R119, R140, R141) -/

/-- A write that the classes of R15 allow, of the word at a local offset. -/
def State.ceStore (s : State) (base : Bool) (ofs : Nat) (w : Word) : State :=
  let noOk (s : State) : State := s.setReg Reg.CE_VAL (setBit (s.reg Reg.CE_VAL) 31 false)
  if ofs < 0x4000 then
    if ofs / 0x2000 = s.ceAct && !(base && s.reg Reg.SYS_STATE == 1) then s.ceEvt 0x200
    else if s.busyWith Reg.CE_CMD 4 then s.orReg Reg.CE_CMDSTAT 0x20
    else
      let s := s.ceWr ofs w
      if ofs / 0x2000 = s.ceAct then s else noOk s
  else if ofs < 0x6000 then s.ceEvt 0x200
  else if ofs < 0xFA000 then noOk (s.ceWr ofs w)
  else if base then s.ceWr ofs w
  else s.ceEvt 0x200

/-- A write of a word to CE local memory by a master: denied to a class that local memory does not grant (R15, R59). -/
def State.ceLocalWrite (s : State) (m : Sys2Proof.Master) (ofs : Nat) (w : Word) : State :=
  if regionGranted (mclass m) true .ceLocal then s.ceStore (m = .baseCamp) ofs w
  else s.noteDenied (mclassCode (mclass m)) 0x3F ofs

/-- CE_LOCAL_MEMORY_WRITE: word `ofs` of local memory. -/
def ceLocalMemoryWrite (m : Sys2Proof.Master) (ofs : BitVec 18) (w : BitVec 32) (s : State) : State :=
  s.access m Reg.CE_CMD fun s => s.ceLocalWrite m (4 * ofs.toNat) w

def execCeLocalMemoryWrite (m : Sys2Proof.Master) (ofs : BitVec 18) (w : BitVec 32) (s : State) :
    Host.Outcome State Fault Refusal := s.goesTo (ceLocalMemoryWrite m ofs w s)

/-! ### Table copies (R128, R142–R144) -/

/-- CTAB_CMD COPY (R142–R144): ARG [5:0] names the table, whose descriptor must be valid and not MODE 0. -/
def ctabCopy (m : Sys2Proof.Master) (a : Sys2Proof.CmdArg) (s : State) : State :=
  let n := a.arg.toNat % 64
  let t := s.ceTable n
  s.command m a ⟨Reg.CTAB_CMD, .priv, 1, decide (a.arg.toNat < 64), true, s.reg Reg.CTAB_STATE == 1,
    t.ok && t.mode != 0⟩ fun s =>
    let src := fld (s.reg Reg.CTAB_SRC_HI) 7 0 * 0x100000000 + (s.reg Reg.CTAB_SRC_LO).toNat
    ({ s with ctab := some ⟨n, src, if t.mode = 3 then 2 * t.len else t.len, t.base⟩ }).setState 0x11 2

def execCtabCopy (m : Sys2Proof.Master) (a : Sys2Proof.CmdArg) (s : State) : Host.Outcome State Fault Refusal :=
  s.goesTo (ctabCopy m a s)

/-- Does the whole source lie in shared SRAM or DRAM? [DEDUCED: log 48] -/
def State.ctabReadable (s : State) (j : CtabJob) : Bool :=
  (match regionOf s.dramUsable j.src with
    | .sram | .sramSup | .dram => true
    | _ => false) && s.inMemory j.src (4 * j.n)

/-- The last entry arrives (R128): the staging buffer is committed to the pool. [DEDUCED: log 48] -/
def ctabCopyComplete (s : State) : State :=
  match s.ctab with
  | some j =>
    if s.ctabReadable j then
      let s := (List.range j.n).foldl (fun s i => s.ceWr (0xFA000 + 4 * (j.base + i)) (s.word (j.src + 4 * i) &&& 0xFFFFFF00)) s
      (({ s with ctab := none }).complete Reg.CTAB_CMD).setState 0x11 1
    else s
  | none => s

def execCtabCopyComplete (s : State) : Host.Outcome State Fault Refusal := s.goesTo (s.alive 5 (ctabCopyComplete s))

/-- A source read error (R128, R144): COPYERR; the staging buffer is discarded. [DEDUCED: log 48] -/
def ctabCopyError (s : State) : State :=
  match s.ctab with
  | some _ => ((({ s with ctab := none }).raiseEvt 0x11 Reg.CTAB_EVT none 1).complete Reg.CTAB_CMD).setState 0x11 1
  | none => s

def execCtabCopyError (s : State) : Host.Outcome State Fault Refusal := s.goesTo (s.alive 5 (ctabCopyError s))

/-- CTAB_CMD ABORT (R68, R144): the staging buffer is discarded. -/
def ctabAbort (m : Sys2Proof.Master) (a : Sys2Proof.CmdArg) (s : State) : State :=
  s.abort m a Reg.CTAB_CMD .priv fun _ s => ({ s with ctab := none }).setState 0x11 1

def execCtabAbort (m : Sys2Proof.Master) (a : Sys2Proof.CmdArg) (s : State) : Host.Outcome State Fault Refusal :=
  s.goesTo (ctabAbort m a s)

end Sys2Proof.Machine
end

