-- ==== Sys2Proof/Machine/Cycle.lean ====
section
/-!
DEFINITION. The commands and events of CYC (R92–R94). What a t0 brings about stands in FcStart.
-/
namespace Sys2Proof.Machine

/-- CYC enters MASTER from STOPPED: the first t0 falls 31,250 ns later, with CYC_COUNT 0 (R92). [DEDUCED: log 41] -/
def State.cycMaster (s : State) : State :=
  ({ s with cyc := { s.cyc with begun := false, next := s.now + 31250 } }).setState 9 1

/-- Are the backbone ports in service: has OCUB accepted a LOAD_SCHED since cold start (R93)? [DEDUCED: log 41] -/
def State.backboneInService (s : State) : Bool := (s.ocuOf 0).loaded

/-- CYC_CMD START (R92, R93): to MASTER with TM_RANK 0 or no backbone port in service, else to ACQUIRE; PROF_STATE
no longer reads STOPPED (R145). -/
def cycStart (m : Sys2Proof.Master) (a : Sys2Proof.CmdArg) (s : State) : State :=
  s.command m a ⟨Reg.CYC_CMD, .priv, 1, a.arg == 0, false, s.reg Reg.CYC_STATE == 0, true⟩ fun s =>
    let s := s.setState 0x12 1
    if fld (s.reg Reg.SYS_ROLE) 10 8 = 0 ∨ !s.backboneInService then s.cycMaster
    else ({ s with cyc := { s.cyc with begun := false, seen := 0 } }).setState 9 2

def execCycStart (m : Sys2Proof.Master) (a : Sys2Proof.CmdArg) (s : State) : Host.Outcome State Fault Refusal :=
  s.goesTo (cycStart m a s)

/-- CYC_CMD SWAP (R50, R52, R94): a T_SETUP outside 250–2,000 ns is a reserved encoding. [DEDUCED: log 35] -/
def cycSwap (m : Sys2Proof.Master) (a : Sys2Proof.CmdArg) (s : State) : State :=
  let t := (s.reg Reg.CYC_SETUP_S).toNat
  s.command m a ⟨Reg.CYC_CMD, .priv, 2, a.arg == 0, true, true, 250 ≤ t && t ≤ 2000⟩ fun s => s

def execCycSwap (m : Sys2Proof.Master) (a : Sys2Proof.CmdArg) (s : State) : Host.Outcome State Fault Refusal :=
  s.goesTo (cycSwap m a s)

/-- The swap instant of CYC (R50). -/
def State.cycSwapAtT0 (s : State) : State :=
  if s.swapDue Reg.CYC_CMD 2 then (s.setReg Reg.CYC_SETUP (s.reg Reg.CYC_SETUP_S)).complete Reg.CYC_CMD else s

/-- CYC_CMD ABORT (R68): a pending SWAP is cancelled. -/
def cycAbort (m : Sys2Proof.Master) (a : Sys2Proof.CmdArg) (s : State) : State :=
  s.abort m a Reg.CYC_CMD .priv fun _ s => s

def execCycAbort (m : Sys2Proof.Master) (a : Sys2Proof.CmdArg) (s : State) : Host.Outcome State Fault Refusal :=
  s.goesTo (cycAbort m a s)

/-- An expected cairn frame is missing or outside its window (R92, R383): LOCKED enters HOLDOVER. -/
def cairnMissing (s : State) : State :=
  if s.reg Reg.CYC_STATE = 3 then
    ((({ s with cyc := { s.cyc with missed := 0, lost := false } }).orReg Reg.TB_STAT 1).setState 9 4).raiseEvt 9
      Reg.CYC_EVT none 1
  else s

def execCairnMissing (s : State) : Host.Outcome State Fault Refusal := s.goesTo (s.alive 6 (cairnMissing s))

/-- 64 FC in HOLDOVER without a cairn frame (R92, R351): CYC_EVT.LOST, a LOSS fault event, and the rings fall from RUN
to STARTING. [DEDUCED: log 40] -/
def holdoverLost (s : State) : State :=
  if s.reg Reg.CYC_STATE = 4 ∧ 64 ≤ s.cyc.missed ∧ s.cyc.lost = false then
    let s := ({ s with cyc := { s.cyc with lost := true } }).raiseEvt 9 Reg.CYC_EVT none 2
    let s := s.faultEvent 2 9 0 0 (s.reg Reg.CYC_EVT)
    [0, 1].foldl (fun s u => if fld (s.reg (Reg.OCU_STATE u)) 3 0 = 2 then
      s.setState (0x28 + u) (setFld (s.reg (Reg.OCU_STATE u)) 3 0 1).toNat else s) s
  else s

def execHoldoverLost (s : State) : Host.Outcome State Fault Refusal := s.goesTo (s.alive 6 (holdoverLost s))

end Sys2Proof.Machine
end

