-- ==== Sys2Proof/Machine/Can.lean ====
section
/-!
DEFINITION. The CAN FD controllers (R404–R425): commands and states, requests, frames sent and received, errors and
bus-off, sleep and wake.
-/
namespace Sys2Proof.Machine

/-- The block index. -/
def canBlk (k : Nat) : Nat := 0x30 + k

/-- Set CAN_EVT bits (R421). -/
def State.canEvt (s : State) (k n : Nat) : State :=
  s.raiseEvt (canBlk k) (Reg.CAN_EVT k) (some (Reg.CAN_EVT_EN k)) (bitMask n)

/-- CAN_STATE: 0 STOPPED, 1 INTEGRATING, 2 RUN, 3 BUSOFF, 4 RECOVERING, 5 SLEEPING. -/
def State.canSt (s : State) (k : Nat) : Nat := (s.reg (Reg.CAN_STATE k)).toNat

/-- The buffer whose frame is on the bus. -/
def State.canOnBus (s : State) (k : Nat) : Option Nat := smFind s.can.onBus k

/-- Set or clear a bit of CAN_Bb_STAT (R425). -/
def State.canStat (s : State) (k b n : Nat) (v : Bool) : State :=
  s.setReg (Reg.CAN_B_STAT k b) (setBit (s.reg (Reg.CAN_B_STAT k b)) n v)

/-- CANk_STB (R405). -/
def State.canStb (s : State) (k : Nat) : Bool := s.canSt k == 5 && bitOf (s.reg (Reg.CAN_CFG k)) 8

/-! ### Bit timing (R406) -/

/-- Are the settings valid (R406)? -/
def State.canTimingOk (s : State) (k : Nat) : Bool :=
  let n := s.reg (Reg.CAN_NBT k)
  let d := s.reg (Reg.CAN_DBT k)
  let nb := fld n 8 0 + 1
  let n1 := fld n 17 10 + 1
  let n2 := fld n 24 18 + 1
  let nj := fld n 31 25 + 1
  let db := fld d 4 0 + 1
  let d1 := fld d 12 8 + 1
  let d2 := fld d 19 16 + 1
  let dj := fld d 27 24 + 1
  let nt := nb * (1 + n1 + n2)
  let dt := db * (1 + d1 + d2)
  nb ≤ 512 && 2 ≤ n1 && 2 ≤ n2 && nj ≤ n2 && nj ≤ n1 && 80 ≤ nt && dj ≤ d2 && dj ≤ d1 && 10 ≤ dt && dt ≤ nt

/-- The controller enters INTEGRATING: bit timing and MODE are read (R406, R422). -/
def State.canIntegrate (s : State) (k : Nat) : State :=
  let t := [s.reg (Reg.CAN_NBT k), s.reg (Reg.CAN_DBT k), s.reg (Reg.CAN_CFG k)]
  ({ s with can := { s.can with timing := smPut s.can.timing k t } }).setState (canBlk k) 1

/-! ### Requests (R410–R413) -/

/-- A request is withdrawn, with CANC or FAIL set (bit 3 or 2). -/
def State.canWithdraw (s : State) (k b bit : Nat) : State :=
  (s.setCanBuf k b { s.canBuf k b with req := none, cancel := false }).canStat k b bit true

/-- A write to CAN_Bb_CFG that changes DIR or EN withdraws the buffer's pending request (R424). -/
def State.canCfgChanged (s : State) (k b : Nat) (old new : Word) : State :=
  if bitOf old 31 == bitOf new 31 && bitOf old 30 == bitOf new 30 then s
  else if (s.canBuf k b).req.isNone then s
  else if s.canOnBus k == some b then s.setCanBuf k b { s.canBuf k b with cancel := true }
  else s.canWithdraw k b 3

/-- What waits for the end of a frame on the bus: STOP and SLEEP (R419), and a TXCANCEL of the buffer (R413). [DEDUCED: log 101] -/
def State.canSettle (s : State) (k : Nat) : State :=
  let u := Reg.CAN_CMD k
  if (s.canOnBus k).isSome ∨ s.can.wait.contains k then s
  else if s.busyWith u 2 then (s.setState (canBlk k) 0).complete u
  else if s.busyWith u 3 then (if s.canSt k = 2 then s.setState (canBlk k) 5 else s).complete u
  else s

/-- A frame on the bus has ended: what waited for it, and the next start (R412, R413, R419). -/
def State.canFrameEnd (s : State) (k : Nat) : State :=
  let s := { s with can := { s.can with onBus := smDel s.can.onBus k, wait := s.can.wait.filter (fun i => i != k) } }
  let s := if s.busyWith (Reg.CAN_CMD k) 7 then s.complete (Reg.CAN_CMD k) else s
  (s.canSettle k).canOffer k

/-- The own frame on the bus fails (R412, R413): cancelled with CANC, one-shot withdrawn with FAIL, else it stays pending. -/
def State.canFails (s : State) (k b : Nat) : State :=
  if (s.canBuf k b).cancel then s.canWithdraw k b 3
  else if bitOf (s.reg (Reg.CAN_B_CFG k b)) 27 then s.canWithdraw k b 2
  else s

/-! ### Commands (R419, R420) -/

/-- CAN_CMD START (R406, R420). -/
def canStart (k : Nat) (m : Sys2Proof.Master) (a : Sys2Proof.CmdArg) (s : State) : State :=
  s.command m a ⟨Reg.CAN_CMD k, .priv, 1, a.arg == 0, false, s.canSt k == 0, s.canTimingOk k⟩ fun s => s.canIntegrate k

def execCanStart (k : BitVec 2) (m : Sys2Proof.Master) (a : Sys2Proof.CmdArg) (s : State) :
    Host.Outcome State Fault Refusal := s.goesTo (canStart k.toNat m a s)

/-- CAN_CMD STOP (R419, R420): pending requests are kept. [DEDUCED: log 103] -/
def canStop (k : Nat) (m : Sys2Proof.Master) (a : Sys2Proof.CmdArg) (s : State) : State :=
  s.command m a ⟨Reg.CAN_CMD k, .priv, 2, a.arg == 0, true, s.canSt k != 0, true⟩ fun s => s.canSettle k

def execCanStop (k : BitVec 2) (m : Sys2Proof.Master) (a : Sys2Proof.CmdArg) (s : State) :
    Host.Outcome State Fault Refusal := s.goesTo (canStop k.toNat m a s)

/-- CAN_CMD SLEEP (R417, R420). -/
def canSleep (k : Nat) (m : Sys2Proof.Master) (a : Sys2Proof.CmdArg) (s : State) : State :=
  let triggers := (List.range 64).any (fun b =>
    let c := s.reg (Reg.CAN_B_CFG k b)
    bitOf c 31 && bitOf c 30 && (fld c 29 28 == 1 || fld c 29 28 == 2))
  s.command m a ⟨Reg.CAN_CMD k, .priv, 3, a.arg == 0, true, s.canSt k == 2 && (s.canPending k).isEmpty && !triggers, true⟩
    fun s => s.canSettle k

def execCanSleep (k : BitVec 2) (m : Sys2Proof.Master) (a : Sys2Proof.CmdArg) (s : State) :
    Host.Outcome State Fault Refusal := s.goesTo (canSleep k.toNat m a s)

/-- The controller wakes (R417). -/
def State.canWakes (s : State) (k : Nat) : State := (s.canIntegrate k).canEvt k 6

/-- CAN_CMD WAKE (R417, R420). -/
def canWake (k : Nat) (m : Sys2Proof.Master) (a : Sys2Proof.CmdArg) (s : State) : State :=
  s.command m a ⟨Reg.CAN_CMD k, .priv, 4, a.arg == 0, false, s.canSt k == 5, true⟩ fun s => s.canWakes k

def execCanWake (k : BitVec 2) (m : Sys2Proof.Master) (a : Sys2Proof.CmdArg) (s : State) :
    Host.Outcome State Fault Refusal := s.goesTo (canWake k.toNat m a s)

/-- CAN_CMD RECOVER (R415, R420). -/
def canRecover (k : Nat) (m : Sys2Proof.Master) (a : Sys2Proof.CmdArg) (s : State) : State :=
  s.command m a ⟨Reg.CAN_CMD k, .priv, 5, a.arg == 0, false,
      s.canSt k == 3 && !bitOf (s.reg (Reg.CAN_CFG k)) 4, true⟩ fun s => s.setState (canBlk k) 4

def execCanRecover (k : BitVec 2) (m : Sys2Proof.Master) (a : Sys2Proof.CmdArg) (s : State) :
    Host.Outcome State Fault Refusal := s.goesTo (canRecover k.toNat m a s)

/-- Does an argument name an enabled transmit buffer that is not retired (R420)? -/
def State.canTxArg (s : State) (k arg : Nat) : Bool :=
  arg < 64 && bitOf (s.reg (Reg.CAN_B_CFG k arg)) 31 && bitOf (s.reg (Reg.CAN_B_CFG k arg)) 30 && !s.canRetired k arg

/-- CAN_CMD TXREQ (R410, R420). -/
def canTxreq (k : Nat) (m : Sys2Proof.Master) (a : Sys2Proof.CmdArg) (s : State) : State :=
  let b := a.arg.toNat
  s.command m a ⟨Reg.CAN_CMD k, .priv, 6, s.canTxArg k b, false, s.canSt k != 5 && (s.canBuf k b).req.isNone, true⟩
    fun s => s.canRequest k b

def execCanTxreq (k : BitVec 2) (m : Sys2Proof.Master) (a : Sys2Proof.CmdArg) (s : State) :
    Host.Outcome State Fault Refusal := s.goesTo (canTxreq k.toNat m a s)

/-- CAN_CMD TXCANCEL (R413, R420). -/
def canTxcancel (k : Nat) (m : Sys2Proof.Master) (a : Sys2Proof.CmdArg) (s : State) : State :=
  let b := a.arg.toNat
  s.command m a ⟨Reg.CAN_CMD k, .priv, 7, s.canTxArg k b, true, (s.canBuf k b).req.isSome, true⟩ fun s =>
    if s.canOnBus k == some b then s.setCanBuf k b { s.canBuf k b with cancel := true }
    else (s.canWithdraw k b 3).complete (Reg.CAN_CMD k)

def execCanTxcancel (k : BitVec 2) (m : Sys2Proof.Master) (a : Sys2Proof.CmdArg) (s : State) :
    Host.Outcome State Fault Refusal := s.goesTo (canTxcancel k.toNat m a s)

/-- CAN_CMD ABORT (R68, R420). -/
def canAbort (k : Nat) (m : Sys2Proof.Master) (a : Sys2Proof.CmdArg) (s : State) : State :=
  s.abort m a (Reg.CAN_CMD k) .priv fun _ s =>
    (s.canPending k).foldl (fun s p =>
      if s.canOnBus k == some p.1 then s.setCanBuf k p.1 { s.canBuf k p.1 with cancel := true }
      else s.canWithdraw k p.1 3) s

def execCanAbort (k : BitVec 2) (m : Sys2Proof.Master) (a : Sys2Proof.CmdArg) (s : State) :
    Host.Outcome State Fault Refusal := s.goesTo (canAbort k.toNat m a s)

/-- CAN_CMD CLEAR_STATS (R420, R421). -/
def State.canClearStats (s : State) (k : Nat) : State :=
  s.zeroRegs [Reg.CAN_TXOK_CNT k, Reg.CAN_RXOK_CNT k, Reg.CAN_RXLOST_CNT k, Reg.CAN_BUSOFF_CNT k, Reg.CAN_PEROVR_CNT k,
    Reg.CAN_DUPID_CNT k, Reg.CAN_WITHHELD_CNT k]

/-- PERIODIC_REQUEST (R411, R424): 1.00 µs after the t0 of an FC whose count matches PEXP and PHASE, once. -/
def periodicRequest (k b : Nat) (s : State) : State :=
  let c := s.reg (Reg.CAN_B_CFG k b)
  let e := if fld c 24 20 ≤ 16 then fld c 24 20 else 0
  let ph := if fld c 15 0 < 2 ^ e then fld c 15 0 else 0
  let r := s.canBuf k b
  if s.hasT0 && bitOf c 31 && bitOf c 30 && fld c 29 28 == 1 && !r.fcReq && !s.canRetired k b
      && (s.reg Reg.CYC_COUNT).toNat % 2 ^ e == ph then
    ((s.atOffset 1000).setCanBuf k b { r with fcReq := true }).canRequest k b
  else s

def execPeriodicRequest (k : BitVec 2) (b : BitVec 6) (s : State) : Host.Outcome State Fault Refusal :=
  s.goesTo (s.alive 10 (periodicRequest k.toNat b.toNat s))

/-- At t0 a new FC begins for periodic and word-0 requests (R411). -/
def State.canAtT0 (s : State) : State :=
  let l := s.can.bufs.map (fun p => (p.1, { p.2 with fcReq := false }))
  { s with can := { s.can with bufs := l.filter (fun p => p.2 != canBufDefault p.1) } }

/-! ### Error counters (R415) -/

/-- Store TEC and REC with the error state (R415, R421): passive above 127, bus-off above 255. -/
def State.setCanErr (s : State) (k tec rec_ : Nat) : State :=
  let w := s.reg (Reg.CAN_ERR k)
  let st := if 255 < tec then 2 else if 127 < tec ∨ 127 < rec_ then 1 else 0
  let s := { s with can := { s.can with recv := smSet (fun _ => 0) s.can.recv k rec_ } }
  let s := s.setReg (Reg.CAN_ERR k) (setFld (setFld (setFld w 8 0 (min tec 511)) 15 9 (min rec_ 127)) 17 16 st)
  if st = 1 ∧ fld w 17 16 = 0 then s.canEvt k 4 else s

/-- TEC and REC. [PRESUMED: log 102] -/
def State.canTec (s : State) (k : Nat) : Nat := fld (s.reg (Reg.CAN_ERR k)) 8 0
def State.canRec (s : State) (k : Nat) : Nat := smGet (fun _ => 0) s.can.recv k

/-! ### Reception (R408, R409) -/

/-- Does a buffer match a frame (R408)? -/
def State.canMatches (s : State) (k b : Nat) (f : Sys2Proof.CanRx) : Bool :=
  let c := s.reg (Reg.CAN_B_CFG k b)
  let mask := s.reg (Reg.CAN_B_MASK k b)
  let id := s.reg (Reg.CAN_B_ID k b)
  bitOf c 31 && !bitOf c 30 && !s.canRetired k b &&
    ((f.id.setWidth 32 ^^^ id) &&& mask &&& 0x1FFFFFFF#32) == 0 && (!bitOf mask 29 || bitOf id 29 == f.ide)

/-- FMT of a frame, as in CAN_Bb_FMT. -/
def canFmt (f : Sys2Proof.CanRx) : Word :=
  wordOfNat (b2n f.rtr * 0x400 + b2n f.brs * 0x200 + b2n f.fdf * 0x100 + f.dlc.toNat)

/-- Bits [31:24] of CAN_Bb_STAT for a frame (R425). -/
def canFrameBits (f : Sys2Proof.CanRx) : Nat :=
  f.dlc.toNat * 16 + b2n f.rtr * 8 + b2n f.esi * 4 + b2n f.brs * 2 + b2n f.fdf

/-- Data word w of a frame, bytes beyond its length as 0. -/
def canWord (f : Sys2Proof.CanRx) (w : Nat) : Word :=
  let n := canLen (canFmt f) - 4 * w
  let x := f.data.toNat / 2 ^ (32 * w) % 2 ^ 32
  wordOfNat (if n < 4 then x % 2 ^ (8 * n) else x)

/-- A valid frame is stored in the lowest buffer that matches and can take it, and its words are published; else it is
lost (R408, R409). [DEDUCED: log 103] -/
def State.canStore (s : State) (k : Nat) (f : Sys2Proof.CanRx) : State :=
  let fits (b : Nat) : Bool := s.canMatches k b f &&
    (bitOf (s.reg (Reg.CAN_B_CFG k b)) 25 || !bitOf (s.reg (Reg.CAN_B_STAT k b)) 0)
  match (List.range 64).find? fits with
  | none => (s.inc (Reg.CAN_RXLOST_CNT k)).canEvt k 2
  | some b =>
    let old := s.reg (Reg.CAN_B_STAT k b)
    let st := setFld (setBit (old &&& 0x0000FF80#32) 4 (bitOf old 0)) 31 24 (canFrameBits f)
    let nw := (canLen (canFmt f) + 3) / 4
    let s := s.setReg (Reg.CAN_B_STAT k b) (resultNew old st 15 8 0)
    let s := s.setReg (Reg.CAN_B_RXID k b) (setBit (f.id.setWidth 32) 29 f.ide)
    let s := s.setReg (Reg.CAN_B_TS k b) f.sof
    let s := (List.range nw).foldl (fun (s : State) w => s.setReg (Reg.CAN_B_D k b w) (canWord f w)) s
    let s := (s.orReg (Reg.CAN_RXMAP k (b / 32)) (bitMask (b % 32))).inc (Reg.CAN_RXOK_CNT k)
    let s := s.canEvt k 0
    (List.range nw).foldl (fun s w => s.publish ⟨0x8000 + k * 1024 + b * 16 + w, none, canWord f w, false, true, none⟩) s

/-- CAN_FRAME_RECEIVED (R408, R409, R415): another node's valid frame, in RUN. [DESIGN CHOICE: log 142] -/
def canFrameReceived (k : Nat) (f : Sys2Proof.CanRx) (s : State) : State :=
  if s.canSt k = 2 then
    let r := s.canRec k
    let r := if 127 < r then 119 + (Config.canRecDrop r).val else r - 1
    ((s.setCanErr k (s.canTec k) r).canStore k f).canFrameEnd k
  else s

def execCanFrameReceived (k : BitVec 2) (f : Sys2Proof.CanRx) (s : State) : Host.Outcome State Fault Refusal :=
  s.goesTo (s.alive 10 (canFrameReceived k.toNat f s))

/-! ### Transmission (R407, R412–R416) -/

/-- A snapshot as a frame on the bus; in loopback the controller receives it (R408). -/
def snapFrame (x : CanSnap) (esi : Bool) (sof : Word) : Sys2Proof.CanRx :=
  { id := x.id.setWidth 29, ide := bitOf x.id 29, rtr := bitOf x.fmt 10 && !bitOf x.fmt 8, fdf := bitOf x.fmt 8,
    brs := bitOf x.fmt 9 && bitOf x.fmt 8, esi := esi, dlc := BitVec.ofNat 4 (fld x.fmt 3 0),
    data := BitVec.ofNat 512 ((List.range 16).foldl (fun n w => n + (x.data.getD w 0).toNat * 2 ^ (32 * w)) 0), sof := sof }

/-- Transmitter delay compensation measures TDCV in a frame with BRS (R407). -/
def State.canTdc (s : State) (k : Nat) (brs : Bool) (tdcv : Nat) : State :=
  let w := s.reg (Reg.CAN_TDC k)
  let dbrp := fld ((smGet (fun _ => []) s.can.timing k).getD 1 0) 4 0 + 1
  if bitOf w 31 && dbrp ≤ 2 && brs then
    let s := s.setReg (Reg.CAN_TDC k) (setFld w 22 16 (min tdcv 127))
    if 127 < tdcv then s.canEvt k 7 else s
  else s

/-- CAN_FRAME_SENT (R412–R415): the own frame on the bus completes without error. -/
def canFrameSent (k : Nat) (sof : Word) (tdcv : Nat) (s : State) : State :=
  match s.canOnBus k with
  | none => s
  | some b =>
    match (s.canBuf k b).req with
    | none => s.canFrameEnd k
    | some x =>
      let esi := fld (s.reg (Reg.CAN_ERR k)) 17 16 == 1
      let f := snapFrame x esi sof
      let s := s.canTdc k f.brs tdcv
      let s := s.setReg (Reg.CAN_B_STAT k b) (setFld (setBit (s.reg (Reg.CAN_B_STAT k b)) 1 true) 31 24 (canFrameBits f))
      let s := s.setReg (Reg.CAN_B_TS k b) sof
      let s := s.setCanBuf k b { s.canBuf k b with req := none, patt := 0, cancel := false }
      let s := (s.setCanErr k (s.canTec k - 1) (s.canRec k)).inc (Reg.CAN_TXOK_CNT k)
      let s := s.canEvt k 1
      let s := if s.canMode k = 3 then s.canStore k f else s
      s.canFrameEnd k

def execCanFrameSent (k : BitVec 2) (sof : BitVec 32) (tdcv : BitVec 8) (s : State) :
    Host.Outcome State Fault Refusal := s.goesTo (s.alive 10 (canFrameSent k.toNat sof tdcv.toNat s))

/-- ARBITRATION_LOST (R412): another node's frame goes on. -/
def arbitrationLost (k : Nat) (s : State) : State :=
  match s.canOnBus k with
  | none => s
  | some b =>
    let s := s.canFails k b
    let s := if s.busyWith (Reg.CAN_CMD k) 7 ∧ (s.canBuf k b).req.isNone then s.complete (Reg.CAN_CMD k) else s
    { s with can := { s.can with onBus := smDel s.can.onBus k, wait := (s.can.wait.filter (fun i => i != k)) ++ [k] } }

def execArbitrationLost (k : BitVec 2) (s : State) : Host.Outcome State Fault Refusal := s.goesTo (s.alive 10 (arbitrationLost k.toNat s))

/-- A charge against a buffer's bucket; an overflow retires it (R416). [DEDUCED: log 103] -/
def State.canCharge (s : State) (k b : Nat) : State :=
  let r := s.finding 7 (k * 64 + b) 1 (canBlk k) (s.reg (Reg.CAN_EVT k))
  let s := r.1
  if r.2 then
    let s := if (s.canBuf k b).req.isSome then s.canWithdraw k b 3 else s
    let s := (s.canStat k b 7 true).orReg (Reg.CAN_RET k (b / 32)) (bitMask (b % 32))
    (s.canEvt k 9).faultEvent 2 (canBlk k) 7 (k * 64 + b) (s.reg (Reg.CAN_EVT k))
  else s

/-- A cleared buffer returns to service (R519). -/
def State.canUnretire (s : State) (k b : Nat) : State :=
  let a := Reg.CAN_RET k (b / 32)
  (s.canStat k b 7 false).setReg a (setBit (s.reg a) (b % 32) false)

/-- A pattern event (R416). -/
def State.canPattern (s : State) (k b : Nat) : State :=
  let n := (s.canBuf k b).patt + 1
  let s := s.setCanBuf k b { s.canBuf k b with patt := n }
  if n = 3 then ((s.canStat k b 6 true).inc (Reg.CAN_DUPID_CNT k)).canEvt k 5
  else if 3 < n then s.canCharge k b
  else s

/-- CAN_BUS_ERROR (R404, R412, R415, R416): `kind` as in LEC, 7 a recessive res bit; in the data phase; in the own frame; a
bit error in its DLC, data or stuff count after arbitration; and the exceptional weight of ISO 11898-1 (0 in place of 8 for
a transmitter, 8 in place of 1 for a receiver). [PRESUMED: log 102] -/
def canBusError (k kind : Nat) (dphase patt exc : Bool) (s : State) : State :=
  if s.canSt k ≠ 2 ∨ kind = 0 then s
  else if kind = 7 ∧ bitOf (s.reg (Reg.CAN_CFG k)) 5 then
    (({ s with can := { s.can with onBus := smDel s.can.onBus k, wait := s.can.wait.filter (fun i => i != k) } }).canIntegrate k)
  else
    let lec := if kind = 7 then 2 else kind
    let s := s.setReg (Reg.CAN_ERR k) (setBit (setFld (s.reg (Reg.CAN_ERR k)) 22 20 lec) 23 dphase)
    let s := match s.canOnBus k with
      | some b =>
        let s := s.setCanErr k (s.canTec k + (if exc then 0 else 8)) (s.canRec k)
        let s := s.canFails k b
        if patt then s.canPattern k b else s
      | none => s.setCanErr k (s.canTec k) (min (s.canRec k + (if exc then 8 else 1)) 135)
    if 255 < s.canTec k then
      let s := ((s.inc (Reg.CAN_BUSOFF_CNT k)).setState (canBlk k) 3).canEvt k 3
      let s := s.canFrameEnd k
      if bitOf (s.reg (Reg.CAN_CFG k)) 4 ∧ s.canSt k = 3 then s.setState (canBlk k) 4 else s
    else s.canFrameEnd k

def execCanBusError (k : BitVec 2) (kind : BitVec 3) (dphase patt exc : Bool) (s : State) :
    Host.Outcome State Fault Refusal := s.goesTo (s.alive 10 (canBusError k.toNat kind.toNat dphase patt exc s))

/-- BUS_INTEGRATION_COMPLETE (R419). -/
def busIntegrationComplete (k : Nat) (s : State) : State :=
  if s.canSt k = 1 then (s.setState (canBlk k) 2).canOffer k else s

def execBusIntegrationComplete (k : BitVec 2) (s : State) : Host.Outcome State Fault Refusal :=
  s.goesTo (s.alive 10 (busIntegrationComplete k.toNat s))

/-- BUSOFF_RECOVERY_COMPLETE (R415, R419): through INTEGRATING, where the bit timing is read, into RUN. -/
def busoffRecoveryComplete (k : Nat) (s : State) : State :=
  if s.canSt k = 4 then (((s.setCanErr k 0 0).canIntegrate k).setState (canBlk k) 2).canOffer k else s

def execBusoffRecoveryComplete (k : BitVec 2) (s : State) : Host.Outcome State Fault Refusal :=
  s.goesTo (s.alive 10 (busoffRecoveryComplete k.toNat s))

/-- WKFILT × 100 ns; outside 5–50 it acts as its reset value (R417, R48). -/
def State.canWkfilt (s : State) (k : Nat) : Nat :=
  let w := fld (s.reg (Reg.CAN_CFG k)) 15 10
  if 5 ≤ w ∧ w ≤ 50 then w * 100 else 0

/-- Does a frame match the wake pattern (R417)? -/
def State.canWakeMatch (s : State) (k : Nat) (f : Sys2Proof.CanRx) : Bool :=
  let id := s.reg (Reg.CAN_WAKE_ID k)
  let n := canLen (canFmt f)
  let d (i : Nat) : Word := s.reg (Reg.CAN_WAKE_D k i)
  let dm (i : Nat) : Word := s.reg (Reg.CAN_WAKE_DM k i)
  let byteOk (i : Nat) : Bool :=
    let lo := 8 * (i % 4)
    let mask := fld (dm (i / 4)) (lo + 7) lo
    if i < n then (fld (canWord f (i / 4)) (lo + 7) lo ^^^ fld (d (i / 4)) (lo + 7) lo) &&& mask == 0 else mask == 0
  ((f.id.setWidth 32 ^^^ id) &&& s.reg (Reg.CAN_WAKE_IDM k) &&& 0x1FFFFFFF#32) == 0 && bitOf id 29 == f.ide
    && (List.range 8).all byteOk

/-- WAKE_DETECTED (R417): a dominant level of some ns, or with WMODE 1 a matching frame, which is stored. -/
def wakeDetected (k ns : Nat) (f : Option Sys2Proof.CanRx) (s : State) : State :=
  if s.canSt k ≠ 5 then s
  else if bitOf (s.reg (Reg.CAN_CFG k)) 9 then
    match f with
    | some x => if s.canWakeMatch k x then (s.canWakes k).canStore k x else s
    | none => s
  else if s.canWkfilt k ≤ ns then s.canWakes k else s

def execWakeDetected (k : BitVec 2) (ns : BitVec 16) (f : Option Sys2Proof.CanRx) (s : State) :
    Host.Outcome State Fault Refusal := s.goesTo (s.alive 10 (wakeDetected k.toNat ns.toNat f s))

end Sys2Proof.Machine
end

