-- ==== Sys2Proof/Machine/Prof.lean ====
section
/-!
DEFINITION. The profile generators at work (R145–R176): traverses and their validity, the advance of one generator at a
t0, limits and their guard, stops, the latch, homing, and what a generator publishes.
-/
namespace Sys2Proof.Machine

/-! ### Reading a generator -/

/-- What a generator that is not listed holds. -/
def genDefault (_ : Nat) : ProfGen := {}

/-- The hidden part of generator g. -/
def State.gen (s : State) (g : Nat) : ProfGen := smGet genDefault s.prof.gens g

/-- Store it. -/
def State.setGen (s : State) (g : Nat) (x : ProfGen) : State :=
  { s with prof := { s.prof with gens := smSet genDefault s.prof.gens g x } }

/-- The state code: 0 DISABLED, 1 HOLD, 2 MOVE, 3 STOP, 4 QSTOP, 5 LIMIT (R178). -/
def State.genSt (s : State) (g : Nat) : Nat := fld (s.reg (Reg.PROF_G_STATE g)) 2 0

/-- Set the state code. -/
def State.setGenSt (s : State) (g st : Nat) : State :=
  s.setReg (Reg.PROF_G_STATE g) (setFld (s.reg (Reg.PROF_G_STATE g)) 2 0 st)

/-- RUNQ (R178). -/
def State.genRunq (s : State) (g : Nat) : Bool := bitOf (s.reg (Reg.PROF_G_STATE g)) 8

/-- Set or clear RUNQ. -/
def State.setRunq (s : State) (g : Nat) (b : Bool) : State :=
  s.setReg (Reg.PROF_G_STATE g) (setBit (s.reg (Reg.PROF_G_STATE g)) 8 b)

/-- Set FLAGS bits, and the block's event with them (R177, R180). -/
def State.genFlag (s : State) (g : Nat) (m : Nat) : State :=
  let w := wordOfNat m
  ((s.orReg (Reg.PROF_G_FLAGS g) w).orReg (Reg.PROF_EVT_MAP (g / 32)) (bitMask (g % 32))).raiseEvt 0x12 Reg.PROF_EVT
    (some Reg.PROF_EVT_EN) w

/-- FLAGS bits (R180). -/
def fLIMSTOP : Nat := 0x001
def fLIMOVR : Nat := 0x002
def fTGTCLAMP : Nat := 0x004
def fSTARVE : Nat := 0x008
def fUNDERFLOW : Nat := 0x010
def fBADTRAV : Nat := 0x020
def fLATCH : Nat := 0x040
def fSATSTOP : Nat := 0x080
def fILKSTOP : Nat := 0x100
def fGODISC : Nat := 0x200
def fHOMEFAIL : Nat := 0x400

/-- One count, in the unit of positions (R147). -/
def oneCount : Int := 2 ^ 32

/-- The virtual limits where LIMEN is set; NEG alone is permitted where NEG > POS (R150, R151). -/
def State.genLims (s : State) (g : Nat) : Option (Int × Int) :=
  if bitOf (s.reg (Reg.PROF_G_CFG g)) 31 then
    let lo := (s.reg (Reg.PROF_G_VLIM_NEG g)).toInt
    let hi := (s.reg (Reg.PROF_G_VLIM_POS g)).toInt
    some (lo * oneCount, max lo hi * oneCount)
  else none

/-- A position inside the limits. -/
def insideLims (l : Option (Int × Int)) (p : Int) : Bool :=
  match l with
  | some (lo, hi) => decide (lo ≤ p) && decide (p ≤ hi)
  | none => true

/-- A stop register as it acts: a zero is a reserved encoding (R178, R48). -/
def State.stopReg (s : State) (a : Nat) : Nat := if s.reg a = 0 then (resetWord a).toNat else (s.reg a).toNat

/-- Acceleration and jerk of a controlled stop, or of a quick or limit stop (R170, R171, R162). -/
def State.genStops (s : State) (g : Nat) (quick : Bool) : Q × Q :=
  let a := qq (s.stopReg (Reg.PROF_G_CSA g)) (2 ^ 32)
  let j := qq (s.stopReg (Reg.PROF_G_CSJ g)) (2 ^ 40)
  if quick then (a.max (qq (s.stopReg (Reg.PROF_G_QA g)) (2 ^ 32)), j.max (qq (s.stopReg (Reg.PROF_G_QJ g)) (2 ^ 40)))
  else (a, j)

/-- A position wrapped into Q32.32 (R575). -/
def wrapPos (p : Int) : Int := (BitVec.ofInt 64 p).toInt

/-! ### Traverses (R152, R153) -/

/-- Word n of a traverse, a signed 64-bit pair from word n up, and the fields of W0. -/
def tw (t : List Word) (n : Nat) : Word := t.getD n 0
def tpair (t : List Word) (n : Nat) : Int := (tw t (n + 1) ++ tw t n : BitVec 64).toInt
def tTYPE (t : List Word) : Nat := fld (tw t 0) 31 28
def tMERGE (t : List Word) : Bool := bitOf (tw t 0) 27
def tTAG (t : List Word) : Nat := fld (tw t 0) 15 0
def tDUR (t : List Word) : Nat := (tw t 1).toNat
def tV (t : List Word) : Q := qv (tpair t 4)
def tA (t : List Word) : Q := (qa (tpair t 6)).abs
def tJ (t : List Word) : Q := (qj (tpair t 8)).abs

/-- A cam descriptor: LEN, BASE, PERIODIC and SHIFT; valid as R182 says. -/
def State.camDesc (s : State) (n : Nat) : Nat × Nat × Bool × Nat :=
  let d0 := s.reg (Reg.PROF_CAMD_0 n)
  let d1 := s.reg (Reg.PROF_CAMD_1 n)
  (fld d0 30 16, fld d0 13 0, bitOf d1 8, fld d1 4 0)

/-- Is a cam table valid (R182)? -/
def State.camOk (s : State) (n : Nat) : Bool :=
  let (len, base, per, sh) := s.camDesc n
  2 ≤ len && len ≤ 16384 && base + len ≤ 16384 && !(per && 2 ^ 32 < len * 2 ^ sh)

/-- Is a traverse valid (R153)? -/
def State.travOk (s : State) (t : List Word) : Bool :=
  let nz (n : Nat) : Bool := tpair t n != 0
  match tTYPE t with
  | 1 | 2 | 8 => nz 4 && nz 6 && nz 8
  | 3 => nz 6 && nz 8
  | 4 => nz 6 && nz 8 && 1 ≤ (tw t 11).toNat && (tw t 11).toNat ≤ 0x7FFFFFFF
  | 5 => nz 6 && nz 8 && s.camOk (fld (tw t 0) 19 16)
  | 6 => 1 ≤ tDUR t && tDUR t ≤ 65535
  | 7 => true
  | _ => false

/-- The target of a PTP traverse from position p (R153). -/
def travTarget (t : List Word) (p : Int) : Int := if tTYPE t = 1 then tpair t 2 else p + tpair t 2

/-! ### Inputs and the latch (R145, R173) -/

/-- An input port of a generator. -/
def State.genIn (s : State) (g q : Nat) : ConsRec := s.consumer (0xA000 + g * 32 + q)

/-- Is the latch armed (R181)? -/
def State.latchArmed (s : State) (g : Nat) : Bool := bitOf (s.reg (Reg.PROF_G_LATCH_INFO g)) 1

/-- Arm the latch. -/
def State.armLatch (s : State) (g : Nat) : State := s.orReg (Reg.PROF_G_LATCH_INFO g) 2

/-- SWITCH is taken; an armed latch captures on its edge (R173). The Bool reports a capture. -/
def State.takeSwitch (s : State) (g : Nat) : State × Bool :=
  let sw := s.genIn g 17
  if !sw.valid then (s, false)
  else
    let act := sw.val != 0
    let x := s.gen g
    let edge := x.sw == some (!act) && (act == !bitOf (s.reg (Reg.PROF_G_CFG g)) 8)
    let s := s.setGen g { x with sw := some act }
    if edge && s.latchArmed g then
      let info := resultNew (setBit (s.reg (Reg.PROF_G_LATCH_INFO g)) 1 false) 0 15 8 0
      let info := setFld info 15 8 ((fld (s.reg (Reg.PROF_G_LATCH_INFO g)) 15 8 + 1) % 256)
      let s := s.setRegs [(Reg.PROF_G_LATCH_FB g, (s.genIn g 18).val),
        (Reg.PROF_G_LATCH_CMD g, wordOfInt (floorDiv x.k.p (2 ^ 32))), (Reg.PROF_G_LATCH_INFO g, info)]
      (s.genFlag g fLATCH, true)
    else (s, false)

/-! ### The home offset (R149) -/

/-- Shift the state of a generator, its plan and its targets by d in user coordinates. -/
def ProfGen.shift (x : ProfGen) (d : Int) : ProfGen :=
  { x with
    k := { x.k with p := x.k.p + d }
    plan := x.plan.map (fun pl => { pl with start := { pl.start with p := pl.start.p + d },
                                            snaps := pl.snaps.map (fun q => (q.1, q.2 + d)) })
    ue := x.ue + d
    home := x.home + d
    pvt := match x.pvt with
      | [p0, v0, p1, v1] => [p0 + d, v0, p1 + d, v1]
      | l => l }

/-- The home offset takes the value of PROF_Gg_HOFS. [DEDUCED: log 53] -/
def State.applyHofs (s : State) (g : Nat) : State :=
  let x := s.gen g
  let h := (s.reg (Reg.PROF_G_HOFS g)).toInt
  if h = x.hofs then s else s.setGen g { x.shift ((x.hofs - h) * oneCount) with hofs := h }

/-! ### Starting a traverse (R153–R169, R174) -/

/-- A plan begins at this t0. -/
def ProfGen.begin (x : ProfGen) (r : ProfRun) (pl : Plan) : ProfGen := { x with run := r, plan := some pl, pk := 0 }

/-- A stop that honours the virtual limits (R162, R169): under A and J, or as a limit stop. -/
def State.safeStop (s : State) (g : Nat) (k : Kin) (A J : Q) : Plan :=
  let pl := stopPlan k A J
  match s.genLims g with
  | some (lo, hi) =>
    let q := s.genStops g true
    if hi < pl.rest then limitStop k hi q.1 q.2 else if pl.rest < lo then limitStop k lo q.1 q.2 else pl
  | none => pl

/-- Is the axis at rest? -/
def Kin.still (k : Kin) : Bool := k.v == 0 && k.a == 0

/-- The table value T(φ) of a cam for a master position, in units of 2^−16 (R167, R126). [DEDUCED: log 51] -/
def State.camValue (s : State) (t : List Word) (m : Word) : Int :=
  let (len, base, per, sh) := s.camDesc (fld (tw t 0) 19 16)
  let f0 := (m - tw t 10).toNat
  let f := if per then f0 % (len * 2 ^ sh) else min f0 ((len - 1) * 2 ^ sh)
  let i := f / 2 ^ sh
  let r := f % 2 ^ sh * 65536 / 2 ^ sh
  let e (k : Nat) : Int := (smGet (fun _ => (0 : Word)) s.prof.cam (base + k % len)).toInt
  e i * 65536 + (r : Int) * (e (i + 1) - e i)

/-- A traverse that starts from rest begins its own motion: GEAR and CAM engage, a DWELL counts, a HOME searches. -/
def State.engage (s : State) (g : Nat) : State :=
  let x := s.gen g
  let t := x.trav
  let m := s.genIn g 16
  let x := { x with plan := none, age := 0 }
  match tTYPE t with
  | 4 => s.setGen g { x with run := .gear, mast := m.val, sumM := 0, carry := qi 0 }
  | 5 => s.setGen g { x with run := .cam, ue := x.k.p, te := s.camValue t m.val }
  | 8 => (s.setGen g { x.begin .search (velPlan x.k (tpair t 4) (tA t) (tJ t)) with home := x.k.p }).armLatch g
  | _ => s.setGen g { x with run := .dwell }

/-- A valid traverse starts at this t0. [DEDUCED: log 50] -/
def State.startTrav (s : State) (g : Nat) (t : List Word) : State :=
  let x := s.gen g
  let lims := s.genLims g
  let q := s.genStops g true
  let s := (s.setReg (Reg.PROF_G_TAG g) (setFld (s.reg (Reg.PROF_G_TAG g)) 15 0 (tTAG t))).setGenSt g 2
  let x := { x with trav := t, age := 0, outside := !insideLims lims x.k.p }
  match tTYPE t with
  | 1 | 2 =>
    let target := travTarget t x.k.p
    let aim := match lims with
      | some (lo, hi) => clampInt lo hi target
      | none => target
    let s := if aim = target then s else s.genFlag g fTGTCLAMP
    s.setGen g (x.begin .ptp (movePlan x.k aim (tV t).abs (tA t) (tJ t) lims q.1 q.2))
  | 3 => s.setGen g (x.begin .vel (velPlan x.k (tpair t 4) (tA t) (tJ t)))
  | 6 =>
    let d := tpair t 2 - x.k.p
    s.setGen g { x with run := .pvt, plan := none, pvt := [x.k.p, x.k.v, x.k.p + (if lims.isSome then d else wrapPos d), tpair t 4] }
  | ty =>
    if x.k.still then (s.setGen g x).engage g
    else
      let c := if ty = 7 then s.genStops g false else (tA t, tJ t)
      s.setGen g (x.begin .pre (s.safeStop g x.k c.1 c.2))

/-! ### Stops (R156, R168, R170, R171) -/

/-- A stop begins from the present state: RUNQ is cleared, queued traverses stay. -/
def State.beginStop (s : State) (g : Nat) (quick : Bool) : State :=
  let x := s.gen g
  let c := s.genStops g quick
  ((s.setRunq g false).setGenSt g (if quick then 4 else 3)).setGen g (x.begin .stop (stopPlan x.k c.1 c.2))

/-- The axis comes to rest, or stays so: HOLD, or LIMIT with LIMOVR outside the limits (R175). -/
def State.restHere (s : State) (g : Nat) : State :=
  let x := s.gen g
  let s := s.setGen g { x with k := { x.k with v := 0, a := 0 }, plan := none, run := .idle, outside := false }
  if insideLims (s.genLims g) x.k.p then s.setGenSt g 1 else (s.genFlag g fLIMOVR).setGenSt g 5

/-! ### The queue (R154–R156) -/

/-- Show the depth of the on-chip queue (R178). -/
def State.genDepth (s : State) (g : Nat) : State :=
  s.setReg (Reg.PROF_G_TAG g) (setFld (s.reg (Reg.PROF_G_TAG g)) 20 16 (s.gen g).queue.length)

/-- The oldest traverse of the on-chip queue, if it was there at this t0. -/
def State.nextTrav (s : State) (g : Nat) : Option (List Word) :=
  match (s.gen g).queue with
  | (t, at_) :: _ => if at_ ≤ s.t0 then some t else none
  | [] => none

/-- The hardware queue backing a generator, where CFG.QEN is set and the queue is hardware's own (R154, R430). -/
def State.genHwq (s : State) (g : Nat) : Option Nat :=
  let c := s.reg (Reg.PROF_G_CFG g)
  let q := fld c 22 16
  if bitOf c 23 && bitOf (s.reg (Reg.QUE_Q_CFG q)) 30 then some q else none

/-- The hardware queue of a generator holds a traverse. -/
def State.hwHolds (s : State) (g : Nat) : Bool :=
  match s.genHwq g with
  | some q => (s.queue q).held != 0
  | none => false

/-- Take the next traverse from the on-chip queue and start it; an invalid one is discarded (R156). The generator may be
moving. [DEDUCED: log 53] -/
def State.takeNext (s : State) (g : Nat) (t : List Word) : State :=
  let x := s.gen g
  let s := (s.setGen g { x with queue := x.queue.drop 1 }).genDepth g
  if s.travOk t then s.startTrav g t
  else
    let s := ((s.genFlag g fBADTRAV).inc Reg.PROF_BADTRAV_CNT).setRunq g false
    if (s.gen g).k.still then s.restHere g else s.beginStop g false

/-! ### The end of a traverse (R154, R159, R168, R174) -/

/-- Does what runs reach its end at this t0? -/
def ProfGen.ends (x : ProfGen) : Bool :=
  match x.run with
  | .ptp | .pre | .stop | .limEnd | .searchStop | .homeBack | .homeFail =>
    match x.plan with
    | some pl => pl.len ≤ x.pk
    | none => true
  | .pvt | .dwell => tDUR x.trav ≤ x.age
  | _ => false

/-- The flags that fall at this t0: limit stops are counted (R162). -/
def State.genMarks (s : State) (g : Nat) : State :=
  let x := s.gen g
  match x.plan with
  | some pl =>
    let due := pl.marks.filter (fun q => q.1 ≤ x.pk)
    let s := s.setGen g { x with plan := some { pl with marks := pl.marks.filter (fun q => !(q.1 ≤ x.pk)) } }
    due.foldl (fun s q => (s.genFlag g q.2).inc Reg.PROF_LIM_CNT) s
  | none => s

/-- What ends does so: RESID of a PTP (R159); the parts of a HOME follow one another (R174); the stop before a traverse
gives way to it. The Bool reports that a traverse or a stop is over. -/
def State.finish (s : State) (g : Nat) : State × Bool :=
  let x := s.gen g
  let t := x.trav
  match x.run with
  | .ptp =>
    let r := match x.plan with
      | some pl => pl.resid
      | none => 0
    (s.setReg (Reg.PROF_G_RESID g) (wordOfInt (satInt 32 r).1), true)
  | .pre => (s.engage g, false)
  | .searchStop =>
    let target := (s.reg (Reg.PROF_G_LATCH_CMD g)).toInt * oneCount
    let k : Kin := { x.k with v := 0, a := 0 }
    (s.setGen g (({ x with k := k, outside := !insideLims (s.genLims g) k.p } : ProfGen).begin .homeBack
      (restToRest k target (tV t).abs (tA t) (tJ t))), false)
  | .homeBack =>
    ((s.setReg (Reg.PROF_G_HOFS g) (s.reg (Reg.PROF_G_LATCH_FB g) - tw t 10)).applyHofs g, true)
  | .homeFail => ((s.genFlag g fHOMEFAIL).setRunq g false, true)
  | _ => (s, true)

/-- After a traverse has ended, or where none runs: with RUNQ set the next one starts at this t0; where the on-chip queue
is empty but the hardware queue is not, the generator holds for this FC with STARVE; a PVT point passed in motion without
a successor is an underflow; else the generator rests (R154, R168). -/
def State.follow (s : State) (g : Nat) : State :=
  let x := s.gen g
  let runq := s.genRunq g && decide (x.runqAt ≤ s.t0)
  match (if runq then s.nextTrav g else none) with
  | some t => s.takeNext g t
  | none =>
    if x.run = .pvt ∧ x.k.v ≠ 0 then (s.genFlag g fUNDERFLOW).beginStop g false
    else if runq && s.hwHolds g then
      let x := { x with k := { x.k with v := 0, a := 0 }, plan := none, run := .starve }
      ((s.setGen g x).genFlag g fSTARVE).inc Reg.PROF_STARVE_CNT
    else s.restHere g

/-- Endings and beginnings that fall on one t0, at most as many as the queue can hold. -/
def State.settle (s : State) (g : Nat) : Nat → State
  | 0 => s
  | f + 1 =>
    if (s.gen g).ends then
      let r := s.finish g
      if r.2 then (r.1.follow g).settle g f else r.1.settle g f
    else s

/-! ### The guard (R163) -/

/-- The limit that the present plan would pass, if there is one: the state it reaches at the next t0 is given. -/
def State.guardHit (s : State) (g : Nat) (next : Kin) : Option Int :=
  let x := s.gen g
  match s.genLims g with
  | none => none
  | some (lo, hi) =>
    if x.outside then none
    else
      let pts : List Int := match x.run with
        | .ptp | .pre | .stop | .limEnd | .homeBack =>
          match x.plan with
          | some pl => (pl.snaps.filter (fun q => x.pk ≤ q.1)).map (fun q => q.2)
          | none => []
        | .vel | .gear | .cam | .pvt =>
          let c := s.genStops g false
          [next.p, next.p + (stopDist next c.1 c.2).rneAt 32]
        | _ => []
      if pts.any (fun p => decide (hi < p)) then some hi else if pts.any (fun p => decide (p < lo)) then some lo else none

/-- A limit stop begins at this t0 (R162, R163): a PTP goes on from the limit; a stop ends there; a VEL, GEAR, CAM or PVT
traverse ends with it. -/
def State.guardStop (s : State) (g : Nat) (l : Int) : State :=
  let x := s.gen g
  let q := s.genStops g true
  let pl := limitStop x.k l q.1 q.2
  match x.run with
  | .ptp | .homeBack =>
    let lost := pl.marks.any (fun m => m.2 == markLimovr)
    let aim := match s.genLims g with
      | some (lo, hi) => clampInt lo hi ((x.plan.map (fun p => p.rest)).getD x.k.p)
      | none => x.k.p
    let t := x.trav
    let pl := if lost then pl else pl.then (restToRest { p := pl.rest } aim (tV t).abs (tA t) (tJ t))
    s.setGen g (x.begin x.run pl)
  | .pre => s.setGen g (x.begin .pre pl)
  | .vel | .gear | .cam | .pvt => (s.setRunq g false).setGen g (x.begin .limEnd pl)
  | r => s.setGen g (x.begin r pl)

/-! ### The advance (R148, R165–R168) -/

/-- The state of a cubic segment k FC after its start, and its jerk (R168). -/
def pvtAt (p0 v0 p1 v1 : Int) (T k : Nat) : Kin × Int :=
  let d := qp (p1 - p0)
  let u := qv v0
  let w := qv v1
  let t := qi T
  let c2 := ((d.scale 3).div t.sq).sub (((u.scale 2).add w).div t)
  let c3 := ((u.add w).div t.sq).sub ((d.scale 2).div (t.sq.mul t))
  let s : KinQ := (⟨qi 0, u, c2.scale 2⟩ : KinQ).after (c3.scale 6) (qi k)
  ({ p := p0 + s.p.rneAt 32, v := (satInt 64 (s.v.rneAt 40)).1, a := (satInt 64 (s.a.rneAt 48)).1 },
   (satInt 64 ((c3.scale 6).rneAt 56)).1)

/-- A state reached by a step dp of a source that the generator follows: velocity, acceleration and jerk are its
differences per FC. [DEDUCED: log 51] -/
def followKin (k : Kin) (dp : Int) : Kin × Int :=
  let v := (satInt 64 (dp * 256)).1
  let a := (satInt 64 ((v - k.v) * 256)).1
  ({ p := k.p + dp, v := v, a := a }, (satInt 64 ((a - k.a) * 256)).1)

/-- The geared step of this FC, with the master's move and the remainder it leaves (R166). [DEDUCED: log 51] -/
def State.gearStep (s : State) (g : Nat) : Int × ProfGen :=
  let x := s.gen g
  let t := x.trav
  let m := s.genIn g 16
  if stHas m.st sSTALE then (0, x)
  else
    let dm := (m.val - x.mast).toInt
    let sum := x.sumM + dm.natAbs
    let eng := (tw t 12).toNat
    let r := (qq ((tw t 10).toInt * dm) (tw t 11).toNat).mul (if eng = 0 then qi 1 else (qq sum eng).min (qi 1))
    let y := (r.scale oneCount).add x.carry
    (y.floor, { x with mast := m.val, sumM := sum, carry := y.sub (qi y.floor) })

/-- The state at the next t0 under the present plan, the jerk, and the generator with what it read. -/
def State.nextKin (s : State) (g : Nat) : Kin × Int × ProfGen :=
  let x := s.gen g
  match x.run with
  | .gear =>
    let (dp, y) := s.gearStep g
    let r := followKin x.k dp
    (r.1, r.2, y)
  | .cam =>
    let u := x.ue + (s.camValue x.trav (s.genIn g 16).val - x.te) * 65536
    let r := followKin x.k (u - x.k.p)
    (r.1, r.2, x)
  | .pvt =>
    match x.pvt with
    | [p0, v0, p1, v1] =>
      let r := pvtAt p0 v0 p1 v1 (tDUR x.trav) (x.age + 1)
      (r.1, r.2, x)
    | _ => (x.k, 0, x)
  | _ =>
    match x.plan with
    | some pl =>
      let r := pl.at (x.pk + 1)
      (r.1, r.2, x)
    | none => ({ x.k with v := 0, a := 0 }, 0, x)

/-- HOME at this t0: the edge, or the end of the search distance, ends the search (R174). -/
def State.homeSearch (s : State) (g : Nat) (edge : Bool) : State :=
  let x := s.gen g
  if x.run = .search then
    let t := x.trav
    let far := decide ((tw t 3).toNat * oneCount ≤ ((x.k.p - x.home).natAbs : Int))
    if edge then s.setGen g (x.begin .searchStop (stopPlan x.k (tA t) (tJ t)))
    else if far then s.setGen g (x.begin .homeFail (stopPlan x.k (tA t) (tJ t)))
    else s
  else s

/-! ### One generator at one t0 -/

/-- The stop requests that have come by this t0: whether one did, whether it is a quick stop, and the flags. -/
def State.stopDue (s : State) (g : Nat) : Bool × Bool × Nat :=
  let l := s.stopReq.filter (fun r => r.1 == g && decide (r.2.2 ≤ s.t0))
  (!l.isEmpty, l.any (fun r => r.2.1 == 1),
    (if l.any (fun r => r.2.1 == 2) then fSATSTOP else 0) + (if l.any (fun r => r.2.1 == 3) then fILKSTOP else 0))

/-- The GO of a generator is discarded (R172, R175). -/
def State.dropGo (s : State) (g : Nat) : State :=
  let x := s.gen g
  ((s.setGen g { x with go := none }).complete (Reg.PROF_G_CMD g)).genFlag g fGODISC

/-- Is a GO due at this t0 (R50)? -/
def State.goDue (s : State) (g : Nat) : Bool :=
  (s.gen g).go.isSome && (match smFind s.busy (Reg.PROF_G_CMD g) with
    | some b => b.code = 3 && decide (b.acc + 2000 ≤ s.t0)
    | none => false)

/-- What begins and ends at this t0: stops, GO, the queue, MERGE (R154, R155, R170–R172). [DEDUCED: log 50] -/
def State.decideGen (s : State) (g : Nat) : State :=
  let (stop, quick, flags) := s.stopDue g
  let s := { s with stopReq := s.stopReq.filter (fun r => !(r.1 == g && decide (r.2.2 ≤ s.t0))) }
  if stop then
    let s := if s.goDue g then s.dropGo g else s
    let st := s.genSt g
    let x := s.gen g
    if x.ends then
      let r := s.finish g
      if r.2 then r.1.restHere g else (if flags = 0 then r.1 else r.1.genFlag g flags).beginStop g quick
    else if st = 2 ∨ (quick ∧ st = 3) then (if flags = 0 then s else s.genFlag g flags).beginStop g quick
    else s
  else if s.goDue g then
    let s := if (s.gen g).ends then (s.finish g).1 else s
    match (s.gen g).go with
    | some (t, _) =>
      let x := s.gen g
      (((s.setGen g { x with go := none }).complete (Reg.PROF_G_CMD g)).startTrav g t).settle g 20
    | none => s
  else
    let x := s.gen g
    let runq := s.genRunq g && decide (x.runqAt ≤ s.t0)
    let next := if runq then s.nextTrav g else none
    let timed := (x.run = .vel ∨ x.run = .gear ∨ x.run = .cam) ∧ tDUR x.trav ≠ 0 ∧ tDUR x.trav ≤ x.age
    let merge := x.run = .ptp ∧ tMERGE x.trav ∧ (x.plan.map (fun p => decide (p.decel ≤ x.pk ∧ x.pk < p.len))).getD false
    match next with
    | some t =>
      if timed ∨ merge ∨ x.run = .starve ∨ (x.run = .idle ∧ s.genSt g = 1) then (s.takeNext g t).settle g 20
      else s.settle g 20
    | none => if x.run = .starve then s.follow g else s.settle g 20

/-- A disabled generator tracks its feedback (R175). -/
def State.stepDisabled (s : State) (g : Nat) : State :=
  let fb := s.genIn g 18
  let x := s.gen g
  let p := if fb.valid then wrapPos ((fb.val.toInt - x.hofs) * oneCount) else x.k.p
  { s.setGen g { x with k := { p := p }, j := 0, plan := none, run := .idle } with
    stopReq := s.stopReq.filter (fun r => !(r.1 == g && decide (r.2.2 ≤ s.t0))) }

/-- The limits at this t0: LIMIT where the axis stands outside, and the guard (R163, R175). -/
def State.stepLimits (s : State) (g : Nat) : State :=
  let x := s.gen g
  let s := if s.genSt g = 1 ∧ !insideLims (s.genLims g) x.k.p then s.setGenSt g 5 else s
  let s := if x.outside && insideLims (s.genLims g) x.k.p then s.setGen g { x with outside := false } else s
  match s.guardHit g (s.nextKin g).1 with
  | some l => s.guardStop g l
  | none => s

/-- The state moves on to the next t0 (R148). -/
def ProfGen.moved (x : ProfGen) (k : Kin) (j : Int) : ProfGen :=
  if x.plan.isSome then { x with k := k, j := j, age := x.age + 1, pk := x.pk + 1 }
  else { x with k := { k with p := wrapPos k.p }, j := j, age := x.age + 1 }

/-- The advance of a generator to the next t0; a stale master starves a GEAR (R166). -/
def State.stepAdvance (s : State) (g : Nat) : State :=
  let s := if (s.gen g).run = .gear ∧ stHas (s.genIn g 16).st sSTALE then s.genFlag g fSTARVE else s
  let r := s.nextKin g
  s.setGen g (r.2.2.moved r.1 r.2.1)

/-- A generator at this t0: the home offset, its inputs, what begins and ends, the limits and their guard, and the
advance to the next t0. -/
def State.stepGen (s : State) (g : Nat) : State :=
  let s := if (s.gen g).hofsAt ≤ s.t0 then s.applyHofs g else s
  let r := s.takeSwitch g
  if r.1.genSt g = 0 then r.1.stepDisabled g
  else ((((r.1.genMarks g).homeSearch g r.2).decideGen g).stepLimits g).stepAdvance g

/-! ### Publication (R145, R146, R178) -/

/-- What generator g publishes and shows. -/
def State.pubGen (s : State) (g : Nat) : State :=
  let x := s.gen g
  let p := wrapPos x.k.p
  let e := p + x.hofs * oneCount
  let vel := bf32Ieee ⟨x.k.v, -40⟩
  let acc := bf32Ieee ⟨x.k.a, -48⟩
  let ep (q : Nat) : Nat := 0xA000 + g * 32 + q
  let s := s.setRegs [(Reg.PROF_G_POS_LO g, wordOfInt p), (Reg.PROF_G_POS_HI g, wordOfInt (floorDiv p (2 ^ 32))),
    (Reg.PROF_G_VEL g, vel), (Reg.PROF_G_ACC g, acc)]
  let s := s.pubInt (ep 0) (floorDiv e (2 ^ 32))
  let s := s.pubInt (ep 1) e
  let s := ((s.pubBf (ep 2) vel).pubBf (ep 3) acc).pubBf (ep 4) (bf32Ieee ⟨x.j, -56⟩)
  let s := s.pubInt (ep 5) ((s.genSt g + fld (s.reg (Reg.PROF_G_FLAGS g)) 10 0 * 256 : Nat) : Int)
  let s := s.pubInt (ep 6) (s.reg (Reg.PROF_G_LATCH_FB g)).toInt
  s.pubInt (ep 7) ((fld (s.reg (Reg.PROF_G_TAG g)) 15 0 : Nat) : Int)

/-- PROFILE_ADVANCE (R145): once per FC, by t0 + 1.20 µs. -/
def profileAdvance (s : State) : State :=
  if s.hasT0 && !s.prof.adv then
    let s := s.atOffset 600
    let s := { s with prof := { s.prof with adv := true } }
    let s := (List.range 128).foldl (fun s g => s.stepGen g) s
    let s := s.atOffset 1200
    (List.range 128).foldl (fun s g => s.pubGen g) s
  else s

def execProfileAdvance (s : State) : Host.Outcome State Fault Refusal := s.goesTo (s.alive 6 (profileAdvance s))

end Sys2Proof.Machine
end

