-- ==== Sys2Proof/Machine/ProfControl.lean ====
section
/-!
DEFINITION. The commands of PROF and of its generators (R175–R177), the refill of a generator's queue (R154), and the
two registers whose accesses do more than store (R149, R177).
-/
namespace Sys2Proof.Machine

/-- A command of generator g, with ARG 0. -/
def genCmd (g : Nat) (a : Sys2Proof.CmdArg) (code : Nat) (busy permitted contentOk : Bool) : Cmd :=
  ⟨Reg.PROF_G_CMD g, .priv, code, a.arg == 0, busy, permitted, contentOk⟩

/-- ENABLE (R175): p takes FBPOS where it is VALID; HOLD, or LIMIT outside the limits. -/
def profEnable (m : Sys2Proof.Master) (g : Nat) (a : Sys2Proof.CmdArg) (s : State) : State :=
  s.command m a (genCmd g a 1 false (s.genSt g == 0) true) fun s =>
    let x := s.gen g
    let fb := s.genIn g 18
    let p := if fb.valid then wrapPos ((fb.val.toInt - x.hofs) * oneCount) else x.k.p
    (s.setGen g { x with k := { p := p }, j := 0, plan := none, run := .idle, outside := false }).setGenSt g
      (if insideLims (s.genLims g) p then 1 else 5)

def execProfEnable (m : Sys2Proof.Master) (g : BitVec 7) (a : Sys2Proof.CmdArg) (s : State) :
    Host.Outcome State Fault Refusal := s.goesTo (profEnable m g.toNat a s)

/-- DISABLE (R175): a GO still BUSY is discarded and completes as DONE. -/
def profDisable (m : Sys2Proof.Master) (g : Nat) (a : Sys2Proof.CmdArg) (s : State) : State :=
  s.command m a (genCmd g a 2 false (s.genSt g == 1 || s.genSt g == 5) true) fun s =>
    let s := if (s.gen g).go.isSome then (s.dropGo g).acceptNow (Reg.PROF_G_CMD g) 2 else s
    (s.setGen g { s.gen g with plan := none, run := .idle, k := { p := (s.gen g).k.p }, j := 0 }).setGenSt g 0

def execProfDisable (m : Sys2Proof.Master) (g : BitVec 7) (a : Sys2Proof.CmdArg) (s : State) :
    Host.Outcome State Fault Refusal := s.goesTo (profDisable m g.toNat a s)

/-- The immediate traverse of a port (R177). -/
def State.profImm (s : State) (port : Nat) : List Word := (List.range 16).map (fun i => s.preg port (Reg.PROF_IMM_D i))

/-- GO (R164, R176): in LIMIT only with a PTP target inside the limits; an immediate traverse that fails R153 is
rejected with REJ_CODE (R156). [DEDUCED: log 52] -/
def profGo (m : Sys2Proof.Master) (g : Nat) (a : Sys2Proof.CmdArg) (s : State) : State :=
  let t := s.profImm (mport m)
  let st := s.genSt g
  let home : Bool := (tTYPE t == 1 || tTYPE t == 2) && insideLims (s.genLims g) (travTarget t (s.gen g).k.p)
  s.command m a (genCmd g a 3 true (st == 1 || st == 2 || (st == 5 && home)) (s.travOk t)) fun s =>
    s.setGen g { s.gen g with go := some (t, mport m) }

def execProfGo (m : Sys2Proof.Master) (g : BitVec 7) (a : Sys2Proof.CmdArg) (s : State) :
    Host.Outcome State Fault Refusal := s.goesTo (profGo m g.toNat a s)

/-- RUN_QUEUE (R175, R176): sets RUNQ; what the queue holds starts at the next t0. -/
def profRunQueue (m : Sys2Proof.Master) (g : Nat) (a : Sys2Proof.CmdArg) (s : State) : State :=
  s.command m a (genCmd g a 4 false ((s.genSt g == 1 || s.genSt g == 2) && bitOf (s.reg (Reg.PROF_G_CFG g)) 23) true)
    fun s => (if s.genRunq g then s else s.setGen g { s.gen g with runqAt := s.now }).setRunq g true

def execProfRunQueue (m : Sys2Proof.Master) (g : BitVec 7) (a : Sys2Proof.CmdArg) (s : State) :
    Host.Outcome State Fault Refusal := s.goesTo (profRunQueue m g.toNat a s)

/-- Ask for a stop of generator g at its next t0. -/
def State.askStop (s : State) (g kind : Nat) : State := { s with stopReq := s.stopReq ++ [(g, kind, s.now)] }

/-- STOP (R170, R172). -/
def profStop (m : Sys2Proof.Master) (g : Nat) (a : Sys2Proof.CmdArg) (s : State) : State :=
  s.command m a (genCmd g a 5 false (s.genSt g != 0) true) fun s => s.askStop g 0

def execProfStop (m : Sys2Proof.Master) (g : BitVec 7) (a : Sys2Proof.CmdArg) (s : State) :
    Host.Outcome State Fault Refusal := s.goesTo (profStop m g.toNat a s)

/-- QSTOP (R171, R172). -/
def profQstop (m : Sys2Proof.Master) (g : Nat) (a : Sys2Proof.CmdArg) (s : State) : State :=
  s.command m a (genCmd g a 6 false (s.genSt g != 0) true) fun s => s.askStop g 1

def execProfQstop (m : Sys2Proof.Master) (g : BitVec 7) (a : Sys2Proof.CmdArg) (s : State) :
    Host.Outcome State Fault Refusal := s.goesTo (profQstop m g.toNat a s)

/-- FLUSH (R176): the on-chip and the hardware queue are emptied. -/
def profFlush (m : Sys2Proof.Master) (g : Nat) (a : Sys2Proof.CmdArg) (s : State) : State :=
  s.command m a (genCmd g a 7 false (!(s.genSt g == 2 && s.genRunq g)) true) fun s =>
    let s := (s.setGen g { s.gen g with queue := [] }).genDepth g
    match s.genHwq g with
    | some q => s.queClear q
    | none => s

def execProfFlush (m : Sys2Proof.Master) (g : BitVec 7) (a : Sys2Proof.CmdArg) (s : State) :
    Host.Outcome State Fault Refusal := s.goesTo (profFlush m g.toNat a s)

/-- LATCH_ARM (R173). -/
def profLatchArm (m : Sys2Proof.Master) (g : Nat) (a : Sys2Proof.CmdArg) (s : State) : State :=
  s.command m a (genCmd g a 8 false (s.genSt g != 0) true) fun s => s.armLatch g

def execProfLatchArm (m : Sys2Proof.Master) (g : BitVec 7) (a : Sys2Proof.CmdArg) (s : State) :
    Host.Outcome State Fault Refusal := s.goesTo (profLatchArm m g.toNat a s)

/-- ABORT of a generator (R171, R176): a pending GO is cancelled, and a moving axis makes a quick stop. -/
def profGenAbort (m : Sys2Proof.Master) (g : Nat) (a : Sys2Proof.CmdArg) (s : State) : State :=
  s.abort m a (Reg.PROF_G_CMD g) .priv fun _ s =>
    let s := s.setGen g { s.gen g with go := none }
    if s.genSt g = 2 ∨ s.genSt g = 3 then s.askStop g 1 else s

def execProfGenAbort (m : Sys2Proof.Master) (g : BitVec 7) (a : Sys2Proof.CmdArg) (s : State) :
    Host.Outcome State Fault Refusal := s.goesTo (profGenAbort m g.toNat a s)

/-- Ask for a stop of every generator in MOVE. -/
def State.askStopAll (s : State) (kind : Nat) : State :=
  (List.range 128).foldl (fun s g => if s.genSt g = 2 then s.askStop g kind else s) s

/-- STOP_ALL (R170, R177). -/
def profStopAll (m : Sys2Proof.Master) (a : Sys2Proof.CmdArg) (s : State) : State :=
  s.command m a ⟨Reg.PROF_CMD, .priv, 2, a.arg == 0, false, true, true⟩ fun s => s.askStopAll 0

def execProfStopAll (m : Sys2Proof.Master) (a : Sys2Proof.CmdArg) (s : State) : Host.Outcome State Fault Refusal :=
  s.goesTo (profStopAll m a s)

/-- Block ABORT (R66, R68, R171): the command in progress on every channel ends, and every generator with a traverse in
progress makes a quick stop. [DEDUCED: log 30] -/
def profAbort (m : Sys2Proof.Master) (a : Sys2Proof.CmdArg) (s : State) : State :=
  s.abort m a Reg.PROF_CMD .priv fun _ s =>
    ((List.range 128).foldl (fun s g => (s.abortChannel (Reg.PROF_G_CMD g)).setGen g { s.gen g with go := none }) s).askStopAll 1

def execProfAbort (m : Sys2Proof.Master) (a : Sys2Proof.CmdArg) (s : State) : Host.Outcome State Fault Refusal :=
  s.goesTo (profAbort m a s)

/-- TRAVERSE_REFILL (R154): with room in the on-chip queue, the oldest traverse of the hardware queue moves there. -/
def traverseRefill (g : Nat) (s : State) : State :=
  match s.genHwq g with
  | some q =>
    if (s.gen g).queue.length < 16 then
      match s.quePop q with
      | (some t, s) => (s.setGen g { s.gen g with queue := (s.gen g).queue ++ [(t, s.now)] }).genDepth g
      | (none, s) => s
    else s
  | none => s

def execTraverseRefill (g : BitVec 7) (s : State) : Host.Outcome State Fault Refusal := s.goesTo (s.alive 6 (traverseRefill g.toNat s))

/-- HOFS_WRITE (R149): the register takes the value; the generator's state shifts at the next t0. A write of the FC
before that has not been taken yet is taken first. -/
def hofsWrite (m : Sys2Proof.Master) (g : Nat) (x : Word) (s : State) : State :=
  s.writeGranted m (Reg.PROF_G_HOFS g) .priv fun s =>
    let s := if s.hasT0 && !s.prof.adv && decide ((s.gen g).hofsAt ≤ s.t0) then s.applyHofs g else s
    (s.setReg (Reg.PROF_G_HOFS g) x).setGen g { s.gen g with hofsAt := s.now }

def execHofsWrite (m : Sys2Proof.Master) (g : BitVec 7) (x : Word) (s : State) : Host.Outcome State Fault Refusal :=
  s.goesTo (hofsWrite m g.toNat x s)

/-- CAM_DATA_ACCESS (R177): the entry at PROF_CAM_ADDR is written, or read, and the address increments. -/
def camDataAccess (m : Sys2Proof.Master) (x : Option Word) (s : State) : State :=
  let i := fld (s.reg Reg.PROF_CAM_ADDR) 13 0
  let bump (s : State) : State :=
    s.setReg Reg.PROF_CAM_ADDR (setFld (s.reg Reg.PROF_CAM_ADDR) 13 0 ((i + 1) % 16384))
  match x with
  | some w => s.writeGranted m Reg.PROF_CAM_DATA .priv fun s =>
      bump { s with prof := { s.prof with cam := smSet (fun _ => 0) s.prof.cam i w } }
  | none => s.access m Reg.PROF_CAM_DATA fun s =>
      if accGranted (mclass m) .priv then (bump s).answer (mport m) (smGet (fun _ => 0) s.prof.cam i) false
      else s.answer (mport m) 0 false

def execCamDataAccess (m : Sys2Proof.Master) (x : Option (BitVec 32)) (s : State) : Host.Outcome State Fault Refusal :=
  s.goesTo (camDataAccess m x s)

end Sys2Proof.Machine
end

