-- ==== Sys2Proof/Machine/Safe.lean ====
section
/-!
DEFINITION. The safety functions (R303–R323): groups, faults and lockout, the STO input, the monitoring functions and
their evaluation, the Belay, the reset sequence and commissioning.
-/
namespace Sys2Proof.Machine

/-! ### Channels and groups -/

/-- What the safety functions hold of channel n. -/
def State.safeCh (s : State) (n : Nat) : SafeChan := smGet (fun _ => {}) s.safe.chans n

/-- Store it. -/
def State.setSafeCh (s : State) (n : Nat) (c : SafeChan) : State :=
  { s with safe := { s.safe with chans := smSet (fun _ => {}) s.safe.chans n c } }

/-- What the safety functions hold of group g. -/
def State.safeGrp (s : State) (g : Nat) : SafeGroup := smGet (fun _ => {}) s.safe.groups g

/-- Store it. -/
def State.setSafeGrp (s : State) (g : Nat) (x : SafeGroup) : State :=
  { s with safe := { s.safe with groups := smSet (fun _ => {}) s.safe.groups g x } }

/-- SAFE_STATE [3:0]: 0 ABSENT, 1 START, 2 RUN, 3 CONFIG. -/
def State.safeMode (s : State) : Nat := fld (s.reg Reg.SAFE_STATE) 3 0

/-- RUN or CONFIG: the safety functions are at work. -/
def State.safeOn (s : State) : Bool := s.safeMode == 2 || s.safeMode == 3

/-- The state of a group: 0 STO, 1 SS1, 2 NORMAL, 3 LOCKOUT (R321). -/
def State.groupSt (s : State) (g : Nat) : Nat := fld (s.reg Reg.SAFE_GSTATE) (4 * g + 1) (4 * g)

/-- VIOL, and STARTACK pending, of a group. -/
def State.groupViol (s : State) (g : Nat) : Bool := bitOf (s.reg Reg.SAFE_GSTATE) (4 * g + 2)
def State.groupAck (s : State) (g : Nat) : Bool := bitOf (s.reg Reg.SAFE_GSTATE) (4 * g + 3)

/-- Give a group a state, published as its block-state signal (R531). The quick stop of an SS1 acts while the group is
in SS1 or STO (R312). -/
def State.setGroupSt (s : State) (g st : Nat) : State :=
  if s.groupSt g = st then s
  else
    let s := s.setReg Reg.SAFE_GSTATE (setFld (s.reg Reg.SAFE_GSTATE) (4 * g + 1) (4 * g) st)
    let s := if 2 ≤ st then s.setSafeGrp g { s.safeGrp g with quick := false } else s
    s.pubInt (bsEp 0x25 (1 + g)) (st : Int)

/-- Word w of channel n. -/
def State.safeW (s : State) (n w : Nat) : Word := s.reg (Reg.SAFE_CH_W n w)

/-- The group of a channel, and whether the channel is monitored (R323). -/
def State.safeOf (s : State) (n : Nat) : Nat := fld (s.safeW n 0) 31 29
def State.safeEn (s : State) (n : Nat) : Bool := bitOf (s.safeW n 0) 0

/-- NV in FC. -/
def State.safeNv (s : State) (n : Nat) : Nat := 2 ^ fld (s.safeW n 0) 19 18

/-- STOMODE of a group; 3 acts as 0 (R48). -/
def State.stoMode (s : State) (g : Nat) : Nat := let m := fld (s.reg (Reg.SAFE_G_CFG g)) 29 28; if m = 3 then 0 else m

/-- A hut-book record of SAFE: the EVT bit, the groups, the causes of the lowest, the confirmed value (R548). -/
def State.safeHut (s : State) (bit groups : Nat) : State :=
  let low := ((List.range 8).find? (fun g => groups.testBit g)).getD 0
  s.hutRequest 8 0x25 [wordOfNat bit, wordOfNat groups, s.reg (Reg.SAFE_G_CAUSE low), s.reg Reg.SAFE_CONFIRM]

/-- Set bits of SAFE_EVT. -/
def State.safeEvt (s : State) (mask : Word) : State := s.raiseEvt 0x25 Reg.SAFE_EVT (some Reg.SAFE_EVT_EN) mask

/-! ### Gate enables and outputs (R192, R308, R315) -/

/-- The H path demands STO of a group without software: STOIN = 1 and STOMODE STO. -/
def State.hardSto (s : State) (g : Nat) : Bool :=
  s.safe.demH && bitOf (s.reg (Reg.SAFE_G_CFG g)) 31 && s.stoMode g == 0

/-- Remove the gate enables of the channels of a set of groups. [DEDUCED: log 58] -/
def State.gatesOff (s : State) (groups : Nat) : State :=
  (List.range 16).foldl (fun s n => if groups.testBit (s.safeOf n) then s.axcSto n else s) s

/-- The gate enables as the groups' states and the H path have them: permitted in SS1 and NORMAL. -/
def State.gatesFollow (s : State) : State :=
  (List.range 16).foldl (fun s n =>
    let g := s.safeOf n
    if s.groupSt g = 0 ∨ s.groupSt g = 3 ∨ s.hardSto g then s.axcSto n else s.axcStoEnd n) s

/-- The nibble that assigns output k: EN and the group. -/
def State.outGroup (s : State) (k : Nat) : Option Nat :=
  let w := s.reg (if k < 8 then Reg.SAFE_OUTGRP0 else Reg.SAFE_OUTGRP1)
  let n := fld w (4 * (k % 8) + 3) (4 * (k % 8))
  if 8 ≤ n then some (n - 8) else none

/-- The outputs that SAFE commands on (R315). -/
def State.safeOuts (s : State) : State :=
  let on (k : Nat) : Bool := bitOf (s.reg Reg.SAFE_STRAP) 3 && s.safeMode == 2 &&
    (match s.outGroup k with
      | some g => s.groupSt g == 2
      | none => false)
  let w := (List.range 16).foldl (fun n k => if on k then n + 2 ^ k else n) 0
  { s with safe := { s.safe with outs := BitVec.ofNat 16 w } }

/-! ### Faults (R316) -/

/-- Causes (R316). -/
def cSTOPATH : Nat := 0
def cBELAY : Nat := 1
def cENRB : Nat := 2
def cOUTTEST : Nat := 3
def cENCPL : Nat := 4
def cFOLLOW : Nat := 5
def cCEVOTE : Nat := 6
def cCRC : Nat := 7
def cSTRAP : Nat := 8
def cCLOCK : Nat := 9
def cROPE : Nat := 10

/-- Set or clear LIVE bits of a set of groups. -/
def State.setLive (s : State) (groups mask : Nat) (on : Bool) : State :=
  (List.range 8).foldl (fun s g =>
    if groups.testBit g then
      let w := s.reg (Reg.SAFE_G_LIVE g)
      s.setReg (Reg.SAFE_G_LIVE g) (if on then w ||| wordOfNat mask else w &&& ~~~wordOfNat mask)
    else s) s

/-- A fault of a cause on the groups in its scope: LOCKOUT, gate enables removed, outputs commanded off, CAUSE and LIVE
set, counted and recorded. A condition that is already live on every group of the scope is no new fault. -/
def State.safeFault (s : State) (cause groups : Nat) : State :=
  let fresh := (List.range 8).any (fun g => groups.testBit g && !bitOf (s.reg (Reg.SAFE_G_LIVE g)) cause)
  if !s.safeOn || !fresh then s
  else
    let s := (List.range 8).foldl (fun s g =>
      if groups.testBit g then (s.orReg (Reg.SAFE_G_CAUSE g) (bitMask cause)).setGroupSt g 3 else s) s
    let s := ((s.setLive groups (2 ^ cause) true).gatesOff groups).safeOuts
    ((s.inc Reg.SAFE_FAULT_CNT).safeEvt 4).safeHut 2 groups

/-- A CE vote that failed on a slot (R316, CEVOTE). -/
def State.safeCeVote (s : State) (slot : Nat) : State :=
  let groups := (List.range 16).foldl (fun m n =>
    let w0 := s.safeW n 0
    if bitOf w0 0 && bitOf w0 1 && fld (s.safeW n 10) 22 16 == slot then m ||| 2 ^ s.safeOf n else m) 0
  if groups = 0 then s else s.safeFault cCEVOTE groups

/-- A failed test of a safety output (R315, OUTTEST). -/
def State.safeOutTest (s : State) (k : Nat) : State :=
  match s.outGroup k with
  | some g => s.safeFault cOUTTEST (2 ^ g)
  | none => s

/-- With CYC outside MASTER, LOCKED and HOLDOVER every group is held in STO (R304); a LOCKOUT ends by a reset alone
(R317). -/
def State.safeNoCycle (s : State) : State :=
  if s.safeOn then
    ((List.range 8).foldl (fun s g => if s.groupSt g = 3 then s else s.setGroupSt g 0) s).gatesFollow.safeOuts
  else s

/-! ### The check value (R318) -/

/-- The safety parameter set: SAFE_STRAP_DECL and every word from offset 0x0100 to 0x05FC. -/
def State.safeParams (s : State) : List Word :=
  s.reg Reg.SAFE_STRAP_DECL :: (List.range 320).map (fun i => s.reg (0x250100 + 4 * i))

/-- SAFE_CRC is computed anew. -/
def State.safeCrc (s : State) : State := s.setReg Reg.SAFE_CRC (wordOfNat (crc32c (wordBytes s.safeParams)))

/-- Does the confirmed value equal SAFE_CRC? -/
def State.safeConfirmed (s : State) : Bool := s.safe.confirm == some (s.reg Reg.SAFE_CRC)

/-- SAFE_CRC_CHECK (R318): once per 1 ms; a difference in RUN is a CRC fault. -/
def safeCrcCheck (s : State) : State :=
  let s := s.safeCrc
  if s.safeMode = 2 ∧ s.safeConfirmed = false then s.safeFault cCRC 0xFF else s

def execSafeCrcCheck (s : State) : Host.Outcome State Fault Refusal := s.goesTo (s.alive 2 (safeCrcCheck s))

/-! ### Straps and START (R306, R307, R318, R319) -/

/-- The straps as declared, with STOTYPE not reserved. -/
def State.strapsOk (s : State) : Bool :=
  let w := s.reg Reg.SAFE_STRAP
  fld w 3 0 == fld (s.reg Reg.SAFE_STRAP_DECL) 3 0 && fld w 2 1 != 3

/-- START passes to ABSENT or RUN; with the safety functions present every group is in STO, STARTACK is pending where
the group asks for it, and the straps and the check value are checked. [DESIGN CHOICE: log 7] -/
def State.safeStart (s : State) : State :=
  let s := s.safeCrc
  if !bitOf (s.reg Reg.SAFE_STRAP) 0 then
    let s := s.setState 0x25 0
    if fld (s.reg Reg.SAFE_STRAP) 3 0 = fld (s.reg Reg.SAFE_STRAP_DECL) 3 0 then s else s.safeEvt 0x200
  else
    let s := s.setState 0x25 2
    let s := (List.range 8).foldl (fun s g => s.setReg Reg.SAFE_GSTATE (setFld (s.reg Reg.SAFE_GSTATE) (4 * g + 3) (4 * g)
      (8 * b2n (bitOf (s.reg (Reg.SAFE_G_CFG g)) 30)))) s
    let s := s.gatesOff 0xFF
    let s := if s.strapsOk then s else s.safeFault cSTRAP 0xFF
    if s.safeConfirmed then s else s.safeFault cCRC 0xFF

/-- STRAP_SAMPLE (R306, R307): a sample that differs from the value latched at PORST_N is a STRAP fault. [DESIGN CHOICE: log 7] -/
def strapSample (v : Nat) (s : State) : State :=
  let s := s.setReg Reg.SAFE_STRAP (setFld (s.reg Reg.SAFE_STRAP) 7 4 v)
  if v % 16 = fld (s.reg Reg.SAFE_STRAP) 3 0 then s else s.safeFault cSTRAP 0xFF

def execStrapSample (v : BitVec 4) (s : State) : Host.Outcome State Fault Refusal := s.goesTo (s.alive 2 (strapSample v.toNat s))

/-! ### The STO input (R308, R309) -/

/-- The levels of the two paths and the demand, as SAFE_STOIN shows them; STOPATH is live while the paths differ. -/
def State.setStoIn (s : State) (demH demL : Bool) : State :=
  let w := s.reg Reg.SAFE_STOIN
  let s := ({ s with safe := { s.safe with demH := demH, demL := demL } }).setReg Reg.SAFE_STOIN
    (setFld w 2 0 (b2n (!demH) + 2 * b2n (!demL) + 4 * b2n (demH || demL)))
  if demH = demL then s.setLive 0xFF (2 ^ cSTOPATH) false else s

/-- STO_DEMAND (R308): STO_IN has been low for longer than TF on the paths given. On the H path the gate enables of the
groups with STOIN = 1 and STOMODE STO go at once; the L path is what the safety logic reads. -/
def stoDemand (h l : Bool) (s : State) : State :=
  if s.safeMode = 0 ∨ (h = false ∧ l = false) then s
  else
    let s := s.setStoIn (s.safe.demH || h) (s.safe.demL || l)
    let s := if s.safeOn then s.safeEvt 1 else s
    if s.safeOn then s.gatesOff ((List.range 8).foldl (fun m g => if s.hardSto g then m ||| 2 ^ g else m) 0) else s

def execStoDemand (h l : Bool) (s : State) : Host.Outcome State Fault Refusal := s.goesTo (stoDemand h l s)

/-- STO_DEMAND_END (R309): high for 10 ms on both paths. -/
def stoDemandEnd (s : State) : State := if s.safeMode = 0 then s else s.setStoIn false false

def execStoDemandEnd (s : State) : Host.Outcome State Fault Refusal := s.goesTo (stoDemandEnd s)

/-- STOPATH_FAULT (R309): the paths have differed for TF + 100 µs, the H path at the level given. -/
def stopathFault (h : Bool) (s : State) : State :=
  if s.safeOn then
    (s.setReg Reg.SAFE_STOIN (setFld (s.reg Reg.SAFE_STOIN) 1 0 (if h then 1 else 2))).safeFault cSTOPATH 0xFF
  else s

def execStopathFault (h : Bool) (s : State) : Host.Outcome State Fault Refusal := s.goesTo (stopathFault h s)

/-- SAFE_ENRB_FAULT (R316): AXn_EN reads high 2 µs after removal. -/
def safeEnrbFault (n : Nat) (s : State) : State := if (s.axcCh n).en then s else s.safeFault cENRB 0xFF

def execSafeEnrbFault (n : BitVec 4) (s : State) : Host.Outcome State Fault Refusal := s.goesTo (safeEnrbFault n.toNat s)

/-! ### The monitoring functions (R310, R311) -/

/-- POS of a channel's own port at the latest evaluation. -/
def SafeChan.pos (c : SafeChan) : Word := c.hist.getD 0 0

/-- Δ over NV FC, read as signed; 0 while fewer positions have been taken. [DEDUCED: log 81] -/
def SafeChan.delta (c : SafeChan) (nv : Nat) : Int := (c.pos - c.hist.getD nv c.pos).toInt

/-- |Δ| ≤ limit × NV, for a limit in Q16.16 counts/FC. -/
def withinSpeed (d : Int) (lim : Word) (nv : Nat) : Bool := decide (d.natAbs * 65536 ≤ lim.toNat * nv)

/-- The speed and standstill comparisons of every monitored channel, two bits each (R303). -/
def State.safeCompare (s : State) : Nat :=
  (List.range 16).foldl (fun m n =>
    if s.safeEn n then
      let nv := s.safeNv n
      let d := (s.safeCh n).delta nv
      m + (b2n (withinSpeed d (s.safeW n 1) nv) + 2 * b2n (withinSpeed d (s.safeW n 4) nv)) * 4 ^ n
    else m) 0

/-- Does every monitored channel of a group stand still: |Δ| ≤ VSTOP × NV? -/
def State.groupStill (s : State) (g : Nat) : Bool :=
  (List.range 16).all (fun n => !(s.safeEn n && s.safeOf n == g) ||
    withinSpeed ((s.safeCh n).delta (s.safeNv n)) (s.safeW n 4) (s.safeNv n))

/-- Is a function with this activation field active in group g? -/
def State.safeActive (s : State) (g act : Nat) : Bool := act == 1 || (act == 2 && bitOf (s.reg Reg.SAFE_SEL) g)

/-- SLP (R311): POS beyond a limit, or beyond it when stopped at DEC from the present speed. -/
def slpViolated (pos : Word) (d : Int) (nv : Nat) (dec lo hi : Word) : Bool :=
  let p := pos.toInt
  let t : Int := (2 * dec.toNat * nv * nv : Nat)
  let q : Int := d * d * 65536
  decide (hi.toInt < p) || decide (p < lo.toInt) ||
    (dec != 0 && ((decide (0 < d) && decide (0 < (p - hi.toInt) * t + q)) ||
      (decide (d < 0) && decide (0 < (lo.toInt - p) * t + q))))

/-- The SS1-r envelope at evaluation k (R311), in units of 2^−19 counts/FC. -/
def envelopeViolated (d : Int) (nv v0 k : Nat) (vofs dec : Word) : Bool :=
  decide ((v0 : Int) * 65536 + 8 * ((vofs.toNat : Int) - dec.toNat * k) < (d.natAbs * (8 / nv) * 65536 : Nat))

/-- What the functions of a monitored channel find: SOS and SDI keep their references; true in the list for a reaction
STO, false for the stop-mode reaction. -/
def State.monitor (s : State) (n : Nat) : State × List Bool :=
  let w0 := s.safeW n 0
  let g := s.safeOf n
  let nv := s.safeNv n
  let c := s.safeCh n
  let pos := c.pos
  let d := c.delta nv
  let sos := if s.safeActive g (fld w0 15 14) then some (c.sos.getD pos) else none
  let vSos := match sos with
    | some p => decide ((s.safeW n 5).toNat < (pos - p).toInt.natAbs)
    | none => false
  let vSls := s.safeActive g (fld w0 13 12) && !withinSpeed d (s.safeW n 1) nv
  let sgn : Int := if bitOf w0 7 then -1 else 1
  let sdi := if s.safeActive g (fld w0 11 10) then
      (match c.sdi with
        | some r => some (if 0 < (pos - r).toInt * sgn then pos else r)
        | none => some pos)
    else none
  let vSdi := match sdi with
    | some r => decide (((s.safeW n 6).toNat : Int) < (r - pos).toInt * sgn)
    | none => false
  let vSlp := s.safeActive g (fld w0 9 8) && slpViolated pos d nv (s.safeW n 2) (s.safeW n 7) (s.safeW n 8)
  let l := (if vSos then [true] else []) ++ (if vSls then [!bitOf w0 6] else []) ++ (if vSdi then [!bitOf w0 5] else []) ++
    (if vSlp then [!bitOf w0 4] else [])
  (s.setSafeCh n { c with sos := sos, sdi := sdi }, l)

/-- The position a channel's generator gives out, in encoder coordinates (R146). -/
def State.genPos (s : State) (g : Nat) : Word :=
  let x := s.gen g
  wordOfInt (floorDiv (wrapPos x.k.p + x.hofs * oneCount) (2 ^ 32))

/-- The position of a channel is taken, and encoder plausibility (ENCPL) and FOLLOW are judged (R310, R316); the flags
report the two conditions. [DEDUCED: log 81] -/
def State.takeChannel (s : State) (n : Nat) : State × Bool × Bool :=
  let c := s.safeCh n
  let e := s.encPort n
  let w0 := s.safeW n 0
  let hist := (s.reg (Reg.ENC_P_POS n) :: c.hist).take 9
  let s := s.setEncPort n { e with acc := false }
  if !bitOf w0 0 then (s.setSafeCh n { hist := hist }, false, false)
  else
    let mode := s.encMode n
    let miss := if e.acc then 0 else c.miss + 1
    let bad := mode == 0 || c.mode.any (fun m => m != mode) || 3 ≤ miss
    let loc := bitOf w0 27
    let win := (s.safeW n 9).toNat
    let far : Bool := match c.gpos with
      | some p => decide (win < (hist.getD 0 0 - p).toInt.natAbs)
      | none => false
    let fol := if win != 0 && loc && s.axcSt n == 2 && far then c.fol + 1 else 0
    let c := { c with hist := hist, miss := miss, mode := some mode, fol := fol,
                      gpos := if loc then some (s.genPos (fld w0 26 20)) else none }
    let s := s.setSafeCh n c
    let nv := s.safeNv n
    let d := c.delta nv
    let v := floorDiv (d * 65536) nv
    let s := s.setReg (Reg.SAFE_CH_SPEED n) (if -(2 ^ 31) ≤ v ∧ v < 2 ^ 31 then wordOfInt v else Config.safeSpeed d nv)
    (s, bad, fol != 0 && decide (fld (s.safeW n 10) 15 0 ≤ fol))

/-! ### The evaluation (R304, R312, R313) -/

/-- A violation sets VIOL, counts and is recorded; while VIOL stands it is the same violation. [DEDUCED: log 79] -/
def State.violate (s : State) (g : Nat) : State :=
  if s.groupViol g then s
  else
    let s := s.setReg Reg.SAFE_GSTATE (setBit (s.reg Reg.SAFE_GSTATE) (4 * g + 2) true)
    ((s.inc Reg.SAFE_VIOL_CNT).safeEvt 2).safeHut 1 (2 ^ g)

/-- Is a demand in force on a group? -/
def State.groupDemand (s : State) (g : Nat) : Bool :=
  (s.safe.demL && bitOf (s.reg (Reg.SAFE_G_CFG g)) 31) || bitOf (s.reg Reg.SAFE_SWDEM) g

/-- v0 of the SS1-r envelope: |Δ|/NV of every monitored channel at k = 0. -/
def State.takeV0 (s : State) (g : Nat) : State :=
  (List.range 16).foldl (fun s n =>
    if s.safeEn n && s.safeOf n == g then
      s.setSafeCh n { s.safeCh n with v0 := ((s.safeCh n).delta (s.safeNv n)).natAbs * (8 / s.safeNv n) }
    else s) s

/-- Does a channel of the group leave the SS1-r envelope? -/
def State.envelope (s : State) (g k : Nat) : Bool :=
  (List.range 16).any (fun n => s.safeEn n && s.safeOf n == g &&
    envelopeViolated ((s.safeCh n).delta (s.safeNv n)) (s.safeNv n) (s.safeCh n).v0 k (s.safeW n 3) (s.safeW n 2))

/-- The end of an SS1 at evaluation k (R312). [DEDUCED: log 79] -/
def State.ss1Ends (s : State) (g k : Nat) : Bool :=
  decide (fld (s.reg (Reg.SAFE_G_CFG g)) 15 0 ≤ k) || (s.stoMode g == 2 && s.groupStill g)

/-- The transition of group g at an evaluation that found the violations vs (R313). [DEDUCED: log 79] -/
def State.evalGroup (s : State) (g : Nat) (vs : List Bool) : State :=
  let st := s.groupSt g
  let mode := s.stoMode g
  let dem := s.groupDemand g
  let x := s.safeGrp g
  let k := x.k + 1
  let env := st = 1 ∧ mode = 2 ∧ s.envelope g k = true
  let s := s.setSafeGrp g { x with vlive := !vs.isEmpty || decide env }
  let s := if vs ≠ [] ∨ env then s.violate g else s
  match st with
  | 2 =>
    if vs.any (fun v => v) || ((dem || !vs.isEmpty) && mode == 0) then s.setGroupSt g 0
    else if dem || !vs.isEmpty then
      let s := (s.setSafeGrp g { s.safeGrp g with k := 0, quick := true, belayK := 0 }).takeV0 g
      s.setGroupSt g (if s.ss1Ends g 0 then 0 else 1)
    else s
  | 1 =>
    let s := s.setSafeGrp g { s.safeGrp g with k := k }
    if vs.any (fun v => v) || decide env || s.ss1Ends g k then s.setGroupSt g 0 else s
  | 0 => if !dem && !s.groupViol g && !s.groupAck g && s.safeMode == 2 then s.setGroupSt g 2 else s
  | _ => s

/-- The quick stops that act at the next t0 (R312, R171). -/
def State.quickStops (s : State) : State :=
  (List.range 16).foldl (fun s n =>
    let g := s.safeOf n
    let gen := fld (s.safeW n 0) 26 20
    if s.safeEn n && bitOf (s.safeW n 0) 27 && (s.safeGrp g).quick && s.groupSt g ≤ 1 &&
        !s.stopReq.any (fun r => r.1 == gen && r.2.1 == 1) then
      { s with stopReq := s.stopReq ++ [(gen, 1, s.now)] }
    else s) s

/-- LIVE bits whose condition no longer holds at an evaluation: causes that are events, and CLOCK and ROPE once the
resource has been back for 1 s (R317). [DEDUCED: log 80] -/
def State.liveDecay (s : State) : State :=
  let s := s.setLive 0xFF (2 ^ cENRB + 2 ^ cOUTTEST + 2 ^ cCEVOTE) false
  let old (x : Option (Option Nat)) : Bool := match x with
    | some (some t) => decide (t + 1000000000 ≤ s.now)
    | _ => false
  let s := if old s.safe.clockBack then
      { s.setLive 0xFF (2 ^ cCLOCK) false with safe := { s.safe with clockBack := none } } else s
  if old s.safe.ropeBack then { s.setLive 0xFF (2 ^ cROPE) false with safe := { s.safe with ropeBack := none } } else s

/-- The CE has no checker (R316): DIAGRED is set. -/
def State.safeDiag (s : State) : State :=
  if s.ceChecker.isNone && !bitOf (s.reg Reg.SAFE_EVT) 8 then s.safeEvt 0x100 else s

/-- The evaluation proper. -/
def State.safeEvaluate (s : State) : State :=
  let s := s.liveDecay
  let r := (List.range 16).foldl (fun (r : State × Nat × Nat) n =>
    let q := r.1.takeChannel n
    (q.1, if q.2.1 then r.2.1 ||| 2 ^ q.1.safeOf n else r.2.1, if q.2.2 then r.2.2 ||| 2 ^ q.1.safeOf n else r.2.2)) (s, 0, 0)
  let s := if r.2.1 = 0 then r.1 else r.1.safeFault cENCPL r.2.1
  let s := if r.2.2 = 0 then s else s.safeFault cFOLLOW r.2.2
  let s := (s.setLive (255 - r.2.1) (2 ^ cENCPL) false).setLive (255 - r.2.2) (2 ^ cFOLLOW) false
  let r := (List.range 16).foldl (fun (r : State × List (Nat × Bool)) n =>
    if r.1.safeEn n then
      let q := r.1.monitor n
      (q.1, r.2 ++ q.2.map (fun v => (q.1.safeOf n, v)))
    else r) (s, [])
  let s := (List.range 8).foldl (fun s g => s.evalGroup g ((r.2.filter (fun p => p.1 == g)).map (fun p => p.2))) r.1
  let s := (if s.safeDiag.safeMode = 3 then (List.range 8).foldl (fun s g =>
    if s.groupSt g = 3 then s else s.setGroupSt g 0) s.safeDiag else s.safeDiag).safeOuts.quickStops
  { s with safe := { s.safe with word := some (s.reg Reg.SAFE_GSTATE, s.safeCompare), excuse := 0 } }

/-- SAFETY_EVALUATION (R304): once per FC, at t0 + 4.00 µs to 7.00 µs; the decision word follows. -/
def safetyEvaluation (s : State) : State :=
  if s.hasT0 && s.safeOn && !s.safe.evald then
    let s := s.atOffset 7000
    ({ s with safe := { s.safe with evald := true } }).safeEvaluate
  else s

def execSafetyEvaluation (s : State) : Host.Outcome State Fault Refusal := s.goesTo (s.alive 2 (safetyEvaluation s))

/-! ### The Belay (R303–R305, R312) -/

/-- FCs for which the Belay has seen each group in SS1; true where a group has been there beyond T1 + 1 (R312). -/
def State.belayCount (s : State) : State × Bool :=
  (List.range 8).foldl (fun (r : State × Bool) g =>
    let s := r.1
    if s.groupSt g = 1 then
      let k := (s.safeGrp g).belayK + 1
      (s.setSafeGrp g { s.safeGrp g with belayK := k }, r.2 || decide (fld (s.reg (Reg.SAFE_G_CFG g)) 15 0 + 2 ≤ k))
    else r) (s, false)

/-- BELAY_COMPARISON (R303, R304): at t0 + 7.50 µs the Belay compares the decision word with its own comparisons, which
`flip` makes differ, and forwards the gate-enable removals; a missing word is excused once where a takeover has granted
it (R305). FLT_ST_CFG.BELAY disables the comparison (R534). [DEDUCED: log 80; DEDUCED: log 82] -/
def belayComparison (flip : Nat) (s : State) : State :=
  if s.hasT0 && s.safeOn then
    let s := s.atOffset 7500
    let off := bitOf (s.reg Reg.FLT_ST_CFG) 10
    let done (s : State) : State := { s with safe := { s.safe with word := none } }
    match s.safe.word with
    | none =>
      if off then s
      else
        match s.safe.excuse with
        | 1 => { s with safe := { s.safe with excuse := 2 } }
        | 2 => ({ s with safe := { s.safe with excuse := 0 } }).safeFault cROPE 0xFF
        | _ => s.safeFault cBELAY 0xFF
    | some w =>
      let r := s.belayCount
      let bad := !off && (r.2 || w.2 != (s.safeCompare ^^^ flip))
      let s := if bad then r.1.safeFault cBELAY 0xFF else if s.safe.belayOut then r.1
        else r.1.setLive 0xFF (2 ^ cBELAY) false
      done s.gatesFollow
  else s

def execBelayComparison (flip : BitVec 32) (s : State) : Host.Outcome State Fault Refusal :=
  s.goesTo (s.alive 2 (belayComparison flip.toNat s))

/-! ### SAFE_ACK and the reset sequence (R314, R317) -/

/-- SAFE_STATE with the reset-pending bit. -/
def State.setResetPending (s : State) (p : Bool) : State := s.setState 0x25 (s.safeMode + 256 * b2n p)

/-- The groups a pending SAFE_RESET names. -/
def State.resetMask (s : State) : Nat :=
  match smFind s.busy Reg.SAFE_CMD with
  | some b => b.arg
  | none => 0

/-- A pending reset is decided at an accepted edge. [DEDUCED: log 80] -/
def State.resetAtEdge (s : State) : State :=
  let mask := s.resetMask
  let ok := (List.range 8).all (fun g => !mask.testBit g || s.reg (Reg.SAFE_G_LIVE g) == 0)
  let s :=
    if ok then
      let s := (List.range 8).foldl (fun s g =>
        if mask.testBit g && s.groupSt g == 3 then (s.setReg (Reg.SAFE_G_CAUSE g) 0).setGroupSt g 0 else s) s
      ((s.inc Reg.SAFE_RESET_CNT).safeEvt 8).safeHut 3 mask
    else ((s.inc Reg.SAFE_RESETFAIL_CNT).safeEvt 0x10)
  (s.setResetPending false).complete Reg.SAFE_CMD

/-- SAFE_ACK_EDGE (R314). [DEDUCED: log 80] -/
def safeAckEdge (s : State) : State :=
  let s := s.setReg Reg.SAFE_STOIN (setBit (s.reg Reg.SAFE_STOIN) 3 true)
  if !s.safeOn then s
  else
    let ack (g : Nat) : Bool := s.groupAck g
    let viol (g : Nat) : Bool := s.groupViol g && s.groupSt g == 0 && s.groupStill g && !(s.safeGrp g).vlive
    let used := (List.range 8).any (fun g => ack g || viol g) || s.busyWith Reg.SAFE_CMD 1
    let t := (List.range 8).foldl (fun t g =>
      let w := t.reg Reg.SAFE_GSTATE
      let w := if ack g then setBit w (4 * g + 3) false else w
      t.setReg Reg.SAFE_GSTATE (if viol g then setBit w (4 * g + 2) false else w)) s
    let t := if t.busyWith Reg.SAFE_CMD 1 then t.resetAtEdge else t
    if used then t else (t.inc Reg.SAFE_ACK_IGN_CNT).safeEvt 0x400

def execSafeAckEdge (s : State) : Host.Outcome State Fault Refusal := s.goesTo (s.alive 2 (safeAckEdge s))

/-! ### Commands and register writes (R311, R319, R322) -/

/-- A command of SAFE. -/
def safeCmd (code : Nat) (argOk busy permitted : Bool) : Cmd := ⟨Reg.SAFE_CMD, .secure, code, argOk, busy, permitted, true⟩

/-- A mask of one to eight groups. -/
def groupMaskOk (a : Sys2Proof.CmdArg) : Bool := decide (a.arg.toNat < 256) && a.arg.toNat != 0

/-- SAFE_RESET (R317): BUSY until an accepted edge or 2 s decide. -/
def safeReset (m : Sys2Proof.Master) (a : Sys2Proof.CmdArg) (s : State) : State :=
  let locked := (List.range 8).any (fun g => a.arg.toNat.testBit g && s.groupSt g == 3)
  s.command m a (safeCmd 1 (groupMaskOk a) true (s.safeMode == 2 && locked)) fun s => s.setResetPending true

def execSafeReset (m : Sys2Proof.Master) (a : Sys2Proof.CmdArg) (s : State) : Host.Outcome State Fault Refusal :=
  s.goesTo (safeReset m a s)

/-- SAFE_RESET_TIMEOUT (R317): no edge within 2 s of acceptance. -/
def safeResetTimeout (s : State) : State :=
  match smFind s.busy Reg.SAFE_CMD with
  | some b =>
    let s := s.advanceTo (b.acc + 2000000000)
    (((s.inc Reg.SAFE_RESETFAIL_CNT).safeEvt 0x20).setResetPending false).complete Reg.SAFE_CMD
  | none => s

def execSafeResetTimeout (s : State) : Host.Outcome State Fault Refusal := s.goesTo (s.alive 2 (safeResetTimeout s))

/-- CONFIG (R319): every group in STO or LOCKOUT. -/
def safeConfig (m : Sys2Proof.Master) (a : Sys2Proof.CmdArg) (s : State) : State :=
  let still := (List.range 8).all (fun g => s.groupSt g == 0 || s.groupSt g == 3)
  s.command m a (safeCmd 2 (a.arg == 0) false (s.safeMode == 2 && still)) fun s =>
    (s.setState 0x25 (setFld (s.reg Reg.SAFE_STATE) 3 0 3).toNat).safeOuts

def execSafeConfig (m : Sys2Proof.Master) (a : Sys2Proof.CmdArg) (s : State) : Host.Outcome State Fault Refusal :=
  s.goesTo (safeConfig m a s)

/-- LEAVE_CONFIG (R319): LIVE of CRC and STRAP clears where the conditions now hold. [DEDUCED: log 82] -/
def leaveConfig (m : Sys2Proof.Master) (a : Sys2Proof.CmdArg) (s : State) : State :=
  s.command m a (safeCmd 3 (a.arg == 0) false (s.safeMode == 3 && s.safeConfirmed)) fun s =>
    let s := (s.setState 0x25 (setFld (s.reg Reg.SAFE_STATE) 3 0 2).toNat).setLive 0xFF (2 ^ cCRC) false
    let w := s.reg Reg.SAFE_STRAP
    if s.strapsOk && fld w 7 4 == fld w 3 0 then s.setLive 0xFF (2 ^ cSTRAP) false else s

def execLeaveConfig (m : Sys2Proof.Master) (a : Sys2Proof.CmdArg) (s : State) : Host.Outcome State Fault Refusal :=
  s.goesTo (leaveConfig m a s)

/-- DEMAND (R309): in force from the next evaluation until RELEASE. -/
def safeDemand (m : Sys2Proof.Master) (a : Sys2Proof.CmdArg) (s : State) : State :=
  s.command m a (safeCmd 4 (groupMaskOk a) false (s.safeMode == 2)) fun s =>
    (s.orReg Reg.SAFE_SWDEM (wordOfNat a.arg.toNat)).safeEvt 1

def execSafeDemand (m : Sys2Proof.Master) (a : Sys2Proof.CmdArg) (s : State) : Host.Outcome State Fault Refusal :=
  s.goesTo (safeDemand m a s)

/-- RELEASE. -/
def safeRelease (m : Sys2Proof.Master) (a : Sys2Proof.CmdArg) (s : State) : State :=
  s.command m a (safeCmd 5 (groupMaskOk a) false (s.safeMode == 2)) fun s =>
    s.setReg Reg.SAFE_SWDEM (s.reg Reg.SAFE_SWDEM &&& ~~~wordOfNat a.arg.toNat)

def execSafeRelease (m : Sys2Proof.Master) (a : Sys2Proof.CmdArg) (s : State) : Host.Outcome State Fault Refusal :=
  s.goesTo (safeRelease m a s)

/-- CLEAR_STATS. -/
def safeClearStats (m : Sys2Proof.Master) (a : Sys2Proof.CmdArg) (s : State) : State :=
  s.command m a (safeCmd 6 (a.arg == 0) false s.safeOn) fun s =>
    s.zeroRegs [Reg.SAFE_FAULT_CNT, Reg.SAFE_VIOL_CNT, Reg.SAFE_RESET_CNT, Reg.SAFE_RESETFAIL_CNT, Reg.SAFE_ACK_IGN_CNT]

/-- ABORT (R68, R322): a pending SAFE_RESET is cancelled, nothing else. -/
def safeAbort (m : Sys2Proof.Master) (a : Sys2Proof.CmdArg) (s : State) : State :=
  s.abort m a Reg.SAFE_CMD .secure fun _ s => s.setResetPending false

def execSafeAbort (m : Sys2Proof.Master) (a : Sys2Proof.CmdArg) (s : State) : Host.Outcome State Fault Refusal :=
  s.goesTo (safeAbort m a s)

/-- SAFE_CONFIRM_WRITE (R319): in CONFIG, the value of SAFE_CRC is stored; another value fails; elsewhere the write is
ignored. -/
def safeConfirmWrite (m : Sys2Proof.Master) (x : Word) (s : State) : State :=
  s.writeGranted m Reg.SAFE_CONFIRM .secure fun s =>
    if s.safeMode ≠ 3 then s
    else if x = s.reg Reg.SAFE_CRC then
      let s := ({ s with safe := { s.safe with confirm := some x } }).setReg Reg.SAFE_CONFIRM x
      (s.safeEvt 0x40).safeHut 6 0
    else s.safeEvt 0x80

def execSafeConfirmWrite (m : Sys2Proof.Master) (x : Word) (s : State) : Host.Outcome State Fault Refusal :=
  s.goesTo (safeConfirmWrite m x s)

/-- SAFE_SEL_SET_WRITE (R311). -/
def safeSelSetWrite (m : Sys2Proof.Master) (x : Word) (s : State) : State :=
  s.writeGranted m Reg.SAFE_SEL_SET .priv fun s => s.orReg Reg.SAFE_SEL (x &&& 0xFF#32)

def execSafeSelSetWrite (m : Sys2Proof.Master) (x : Word) (s : State) : Host.Outcome State Fault Refusal :=
  s.goesTo (safeSelSetWrite m x s)

/-- SAFE_SEL_CLR_WRITE (R311). -/
def safeSelClrWrite (m : Sys2Proof.Master) (x : Word) (s : State) : State :=
  s.writeGranted m Reg.SAFE_SEL_CLR .secure fun s => s.setReg Reg.SAFE_SEL (s.reg Reg.SAFE_SEL &&& ~~~(x &&& 0xFF#32))

def execSafeSelClrWrite (m : Sys2Proof.Master) (x : Word) (s : State) : Host.Outcome State Fault Refusal :=
  s.goesTo (safeSelClrWrite m x s)

end Sys2Proof.Machine
end

