-- ==== Sys2Proof/Machine/CeChecks.lean ====
section
/-!
DEFINITION. The checker of the control engine (R99–R104, R521): checks, votes, residue errors and the retirement of
lanes.
-/
namespace Sys2Proof.Machine

/-- Local memory as a snapshot has it (R100). -/
def CeCheck.rd (c : CeCheck) (rd : Nat → Word) (a : Nat) : Word := (smFind c.words a).getD (rd a)

/-- A run repeated from its snapshot, with what a lane's fault turns over. -/
def State.ceRepeat (s : State) (c : CeCheck) (u : CeUpset) : List (Nat × Word) :=
  ceUpset u (s.ceCompute (c.rd s.ceRd) c.dir c.ins (if c.kind = 0 then 0 else 1)).ws

/-- CHECK_RUN (R100–R102): the checker repeats the oldest run to be checked and compares every word. [DESIGN CHOICE: log 44] -/
def checkRun (u : CeUpset) (s : State) : State :=
  match s.ceChecker, s.ce.checks with
  | some lane, c :: rest =>
    let r := s.ceRepeat c u
    let s := { s with ce := { s.ce with checks := rest } }
    let s := s.ceWr (ceStatusAt c.slot 12) (s.reg Reg.CYC_COUNT)
    if r = c.res then s
    else
      let s := { s with ce := { s.ce with votes := s.ce.votes ++ [{ c with chk := lane, chkRes := r }] } }
      (s.ceSetStatus c.slot 5 true).ceEvt 0x10
  | _, _ => s

def execCheckRun (u : List (BitVec 20 × BitVec 32)) (s : State) : Host.Outcome State Fault Refusal := s.goesTo (s.alive 5 (checkRun u s))

/-- A finding on a lane of weight w; its retirement acts at the lane's next stage boundary (R104). -/
def State.ceFinding (s : State) (lane w : Nat) : State := (s.finding 2 lane w 0x10 (s.reg Reg.CE_EVT)).1

/-- A charge of a vote (R102, R103): counted, with the slot and the lane, 3 for all three. -/
def State.ceCharge (s : State) (lane slot code : Nat) : State :=
  ((s.inc Reg.CE_MM_CNT).setReg Reg.CE_MM_SLOT (wordOfNat (slot + 256 * code))).ceFinding lane 1

/-- Write words of a program back, unless its directory entry names another list since (R103). -/
def State.ceReplace (s : State) (c : CeCheck) (ws : List (Nat × Word)) : State :=
  if c.dropped then s else ws.foldl (fun s p => s.ceWr p.1 p.2) s

/-- VOTE_RUN (R102, R103): the other executing lane repeats the run, and two results that agree decide. [DESIGN CHOICE: log 44; DEDUCED: log 49] -/
def voteRun (u : CeUpset) (s : State) : State :=
  match s.ce.votes with
  | [] => s
  | c :: rest =>
    let t := { s with ce := { s.ce with votes := rest } }
    let t := t.ceSetStatus c.slot 5 (t.ceVoting c.slot)
    match s.ceExec.find? (fun n => n != c.lane && n != c.chk) with
    | none => t
    | some lane =>
      let r := s.ceRepeat c u
      if r = c.chkRes then (t.ceReplace c r).ceCharge c.lane c.slot c.lane
      else if r = c.res then t.ceCharge c.chk c.slot c.chk
      else
        let t := (t.ceReplace c c.words).ceEvt 0x20
        let t := (t.faultEvent 2 0x10 0 0 (t.reg Reg.CE_EVT)).safeCeVote c.slot
        [c.lane, c.chk, lane].foldl (fun t n => t.ceCharge n c.slot 3) t

def execVoteRun (u : List (BitVec 20 × BitVec 32)) (s : State) : Host.Outcome State Fault Refusal := s.goesTo (s.alive 5 (voteRun u s))

/-- The run a lane has under way: the earliest of its runs that are still to come. -/
def State.ceCurrent (s : State) (lane : Nat) : Option CeRun :=
  s.ce.plan.foldl (fun b r =>
    if r.lane = lane ∧ r.st = 0 then
      (match b with
        | none => some r
        | some c => if r.start < c.start then some r else some c)
    else b) none

/-- RESIDUE_ERROR (R521): an executing lane's run is missed, the checker's check is dropped, and the lane is charged. [DEDUCED: log 45] -/
def residueError (lane : Nat) (s : State) : State :=
  match s.ceRole lane with
  | 0 => match s.ceCurrent lane with
    | some r => ((s.ceMiss r).ceSupervise r.slot).ceFinding lane 1
    | none => s
  | 1 => match s.ce.checks with
    | _ :: rest => ((({ s with ce := { s.ce with checks := rest } }).inc Reg.CE_CHK_SKIP).ceEvt 0x100).ceFinding lane 1
    | [] => s
  | _ => s

def execResidueError (lane : Fin 3) (s : State) : Host.Outcome State Fault Refusal := s.goesTo (s.alive 5 (residueError lane.val s))

/-- The runs of this FC that have not started are dispatched again to the executing lanes (R104). -/
def State.ceReplan (s : State) : State :=
  let waits (r : CeRun) : Bool := r.st == 0 && decide (s.now < r.start)
  let jobs := ((List.range 128).flatMap (fun n => s.ceJobs s.t0 n)).filter (fun j =>
    s.ce.plan.any (fun r => waits r && r.slot == j.slot && r.kind == j.kind))
  let keep := s.ce.plan.filter (fun r => !waits r)
  let lanes : List CeLane := s.ceExec.map (fun n =>
    { id := n, free := keep.foldl (fun t r => if r.lane = n ∧ r.st = 0 then max t r.fin else t) s.now })
  let fuel := 4 * jobs.foldl (fun n j => n + j.costs.length + 2) 4
  { s with ce := { s.ce with plan := ceDispatch fuel lanes jobs keep } }

/-- LANE_RETIREMENT (R104): a lane whose bucket has overflowed is retired; the checker takes an executing lane's place. [DEDUCED: log 45] -/
def laneRetirement (lane : Nat) (s : State) : State :=
  let role := s.ceRole lane
  if role = 2 ∨ !s.isRetired 2 lane then s
  else
    let spare := if role = 0 then s.ceChecker else none
    let cur := if role = 0 then (s.ceCurrent lane).filter (fun r => decide (r.start ≤ s.now)) else none
    let s := s.ceSetRole lane 2
    let s := match spare with
      | some c => s.ceSetRole c 0
      | none => s
    let s := if role = 1 ∨ spare.isSome then { s with ce := { s.ce with checks := [] } } else s
    let s := s.ceEvt 0x40
    let s := if s.reg Reg.CE_STATE = 0 then s else s.setState 0x10 s.ceLaneState
    let s := s.faultEvent (if spare.isSome then 1 else 2) 0x10 2 lane (s.reg Reg.CE_EVT)
    let s := match cur with
      | some r => (s.ceMiss r).ceSupervise r.slot
      | none => s
    let s := if role = 0 then s.ceReplan else s
    if s.safeOn then s.safeDiag else s

def execLaneRetirement (lane : Fin 3) (s : State) : Host.Outcome State Fault Refusal := s.goesTo (s.alive 5 (laneRetirement lane.val s))

/-- The roles of the lanes after a cold start (R97): L0 and L1 execute, L2 checks, and a lane that is recorded as
retired stays out. [DEDUCED: log 45] -/
def State.ceLanesInit (s : State) : State :=
  let left := [0, 1, 2].filter (fun n => !s.isRetired 2 n)
  [0, 1, 2].foldl (fun s n =>
    s.ceSetRole n (if !left.contains n then 2 else if n ∈ left.take 2 then 0 else 1)) s

end Sys2Proof.Machine
end

