-- ==== Sys2Proof/Machine/Fio.lean ====
section
/-!
DEFINITION. The isolated field I/O (R284–R302): couplers, supplies and groups, input filters and edge timestamps, and
the outputs with their test pulses.
-/
namespace Sys2Proof.Machine

/-! ### Channels -/

/-- What FIO holds of input n. -/
def State.fioIn (s : State) (n : Nat) : FioIn := smGet (fun _ => {}) s.fio.ins n

/-- Store it. -/
def State.setFioIn (s : State) (n : Nat) (x : FioIn) : State :=
  { s with fio := { s.fio with ins := smSet (fun _ => {}) s.fio.ins n x } }

/-- Set EVT bits of FIO. -/
def State.fioEvt (s : State) (mask : Word) : State := s.raiseEvt 0x24 Reg.FIO_EVT (some Reg.FIO_EVT_EN) mask

/-- Is a channel out of service: its coupler faulted, or the channel retired (R285, R518)? -/
def State.fioBad (s : State) (ch : Nat) : Bool := bitOf (s.reg Reg.FIO_CPL_FAULT) ch

/-- The state of group g: 0 DOWN, 1 READY, 2 ARMING, 3 RUN (R299). -/
def State.fioGroup (s : State) (g : Nat) : Nat := fld (s.reg Reg.FIO_STATE) (4 * g + 2) (4 * g)

/-- Give a group a state, published as block-state signals (R531). When group A leaves DOWN the filters wait to be
loaded (R288). -/
def State.setFioGroup (s : State) (g st : Nat) : State :=
  let s := if g = 0 ∧ st = 0 then (List.range 16).foldl (fun s n => s.setFioIn n { s.fioIn n with loaded := false }) s else s
  (s.setState 0x24 (setFld (s.reg Reg.FIO_STATE) (4 * g + 2) (4 * g) st).toNat).pubInt (bsEp 0x24 (1 + g)) (st : Int)

/-- Set a status bit of output k. -/
def State.outStat (s : State) (k b : Nat) (v : Bool) : State :=
  s.setReg (Reg.FIO_OUT_STAT k) (setBit (s.reg (Reg.FIO_OUT_STAT k)) b v)

/-- Set output k; its ball follows a change. -/
def State.setOut (s : State) (k : Nat) (v : Bool) : State :=
  if bitOf (s.reg Reg.FIO_OUT_SET) k = v then s
  else
    let s := s.setReg Reg.FIO_OUT_SET (setBit (s.reg Reg.FIO_OUT_SET) k v)
    (s.setReg Reg.FIO_OUT_RB (setBit (s.reg Reg.FIO_OUT_RB) k v)).outStat k 0 v

/-- The test pulse of an output, once it is off for another reason, ends without it going on again (R315). -/
def State.breakPulse (s : State) (k : Nat) : State :=
  match smFind s.fio.pulses k with
  | some p => { s with fio := { s.fio with pulses := smPut s.fio.pulses k { p with cancel := true } } }
  | none => s

/-- Force output k off at once (conditions 1–3 of R295); `waitz` where WAITZ follows with REQZERO = 1. -/
def State.forceOff (s : State) (k : Nat) (waitz : Bool) : State :=
  let s := if waitz && bitOf (s.reg (Reg.FIO_OUT_CFG k)) 30 then s.outStat k 5 true else s
  (s.setOut k false).breakPulse k

/-! ### Couplers (R285, R518) -/

/-- A channel is out of service: an output is driven off. [DEDUCED: log 78] -/
def State.fioFail (s : State) (ch : Nat) : State :=
  let s := s.orReg Reg.FIO_CPL_FAULT (bitMask ch)
  if ch < 16 then s else (s.outStat (ch - 16) 6 true).forceOff (ch - 16) true

/-- COUPLER_FAULT: the heartbeat has been absent for 2 µs; the channel's bucket is charged. -/
def couplerFault (ch : Nat) (s : State) : State :=
  if s.fio.absent.contains ch then s
  else
    let s := { s with fio := { s.fio with absent := s.fio.absent ++ [ch], back := s.fio.back.filter (fun c => c != ch) } }
    let s := (s.fioFail ch).fioEvt 0x200
    let r := s.finding 8 ch 1 0x24 (s.reg Reg.FIO_EVT)
    if r.2 then r.1.faultEvent 2 0x24 8 ch (s.reg Reg.FIO_EVT) else r.1

def execCouplerFault (ch : BitVec 5) (s : State) : Host.Outcome State Fault Refusal := s.goesTo (s.alive 13 (couplerFault ch.toNat s))

/-- COUPLER_HEARTBEAT_RETURN: back in service at the next t0. -/
def couplerHeartbeatReturn (ch : Nat) (s : State) : State :=
  if s.fio.absent.contains ch then
    { s with fio := { s.fio with absent := s.fio.absent.filter (fun c => c != ch), back := s.fio.back ++ [ch] } }
  else s

def execCouplerHeartbeatReturn (ch : BitVec 5) (s : State) : Host.Outcome State Fault Refusal :=
  s.goesTo (s.alive 13 (couplerHeartbeatReturn ch.toNat s))

/-- Channels whose heartbeat is back, or whose retirement has been cleared, return at t0; a retired one does not. -/
def State.couplersAtT0 (s : State) : State :=
  let s := s.fio.back.foldl (fun (s : State) ch =>
    if s.isRetired 8 ch || s.fio.absent.contains ch then s
    else
      let s := s.setReg Reg.FIO_CPL_FAULT (setBit (s.reg Reg.FIO_CPL_FAULT) ch false)
      if ch < 16 then s else s.outStat (ch - 16) 6 false) s
  { s with fio := { s.fio with back := [] } }

/-! ### Supplies (R286, R287) -/

/-- FIO_SUP shows a supply in mV. [DEDUCED: log 76] -/
def State.showSupply (s : State) (b : Bool) (mv : Nat) : State :=
  s.setReg Reg.FIO_SUP (if b then setFld (s.reg Reg.FIO_SUP) 31 16 mv else setFld (s.reg Reg.FIO_SUP) 15 0 mv)

/-- Set a live condition of a supply: 0 LOW, 2 BELOW16, 4 RECOV. -/
def State.supBit (s : State) (b : Bool) (n : Nat) (v : Bool) : State :=
  s.setReg Reg.FIO_SUP_STAT (setBit (s.reg Reg.FIO_SUP_STAT) (n + b2n b) v)

/-- A supply is below 19.2 V: LOW is set, with its event where it was not, and the 10 ms of a recovery start again. -/
def State.supplyIsLow (s : State) (b : Bool) : State :=
  let s := if bitOf (s.reg Reg.FIO_SUP_STAT) (b2n b) then s else s.fioEvt (bitMask (b2n b))
  (s.supBit b 0 true).supBit b 4 false

/-- SUPPLY_LOW. [DEDUCED: log 76] -/
def supplyLow (b : Bool) (mv : Nat) (s : State) : State :=
  if mv < 19200 then (s.showSupply b mv).supplyIsLow b else s

def execSupplyLow (b : Bool) (mv : BitVec 16) (s : State) : Host.Outcome State Fault Refusal :=
  s.goesTo (s.alive 13 (supplyLow b mv.toNat s))

/-- SUPPLY_LOW_CLEAR. -/
def supplyLowClear (b : Bool) (mv : Nat) (s : State) : State :=
  if 19600 ≤ mv then ((s.showSupply b mv).supBit b 0 false).supBit b 2 false else s

def execSupplyLowClear (b : Bool) (mv : BitVec 16) (s : State) : Host.Outcome State Fault Refusal :=
  s.goesTo (s.alive 13 (supplyLowClear b mv.toNat s))

/-- SUPPLY_DIP: the supply, now at `mv`, was below 16.0 V for less than 100 µs; outputs stay on. [DEDUCED: log 76] -/
def supplyDip (b : Bool) (mv : Nat) (s : State) : State :=
  if 16000 ≤ mv then
    let w := s.reg Reg.FIO_DIP_CNT
    let s := s.setReg Reg.FIO_DIP_CNT (if b then setFld w 31 16 (min (fld w 31 16 + 1) 0xFFFF)
      else setFld w 15 0 (min (fld w 15 0 + 1) 0xFFFF))
    ((s.showSupply b mv).supplyIsLow b).supBit b 2 false
  else s

def execSupplyDip (b : Bool) (mv : BitVec 16) (s : State) : Host.Outcome State Fault Refusal :=
  s.goesTo (s.alive 13 (supplyDip b mv.toNat s))

/-- A group goes DOWN: its outputs are off, and a pending ARM of it completes. -/
def State.fioDown (s : State) (g : Nat) : State :=
  let run := s.fioGroup g == 3
  let arming := s.fioGroup g == 2
  let s := (List.range 8).foldl (fun s i => s.forceOff (8 * g + i) run) (s.setFioGroup g 0)
  if arming && s.busyWith Reg.FIO_CMD 1 then s.complete Reg.FIO_CMD else s

/-- SUPPLY_LOST: below 16.0 V for 100 µs. [DEDUCED: log 76] -/
def supplyLost (b : Bool) (mv : Nat) (s : State) : State :=
  if mv < 16000 then
    let s := (((s.showSupply b mv).supplyIsLow b).supBit b 2 true).fioEvt (bitMask (2 + b2n b))
    if s.fioGroup (b2n b) = 0 then s else s.fioDown (b2n b)
  else s

def execSupplyLost (b : Bool) (mv : BitVec 16) (s : State) : Host.Outcome State Fault Refusal :=
  s.goesTo (s.alive 13 (supplyLost b mv.toNat s))

/-- SUPPLY_RECOVERED: at or above 19.2 V for 10 ms; a group in DOWN enters READY. -/
def supplyRecovered (b : Bool) (mv : Nat) (s : State) : State :=
  if 19200 ≤ mv then
    let s := ((s.showSupply b mv).supBit b 2 false).supBit b 4 true
    if s.fioGroup (b2n b) = 0 then s.setFioGroup (b2n b) 1 else s
  else s

def execSupplyRecovered (b : Bool) (mv : BitVec 16) (s : State) : Host.Outcome State Fault Refusal :=
  s.goesTo (s.alive 13 (supplyRecovered b mv.toNat s))

/-! ### Inputs (R290–R293) -/

/-- RAW_INPUT_EDGE (R292): the time of the latest raw edge in each direction. [DESIGN CHOICE: log 144] -/
def rawInputEdge (n : Nat) (level : Bool) (s : State) : State :=
  if bitOf (s.reg Reg.FIO_IN_RAW) n = level then s
  else
    let x := s.fioIn n
    (s.setReg Reg.FIO_IN_RAW (setBit (s.reg Reg.FIO_IN_RAW) n level)).setFioIn n
      (if level then { x with rise := s.now } else { x with fall := s.now })

def execRawInputEdge (n : BitVec 4) (level : Bool) (s : State) : Host.Outcome State Fault Refusal :=
  s.goesTo (s.alive 13 (rawInputEdge n.toNat level s))

/-- TICK in µs and THR of an input (R290, R48). [DESIGN CHOICE: log 77] -/
def State.fioTick (s : State) (n : Nat) : Nat :=
  let t := fld (s.reg (Reg.FIO_IN_CFG n)) 25 16
  if 1 ≤ t ∧ t ≤ 1000 then t else 10
def State.fioThr (s : State) (n : Nat) : Nat :=
  let t := fld (s.reg (Reg.FIO_IN_CFG n)) 7 0
  if t = 0 then 10 else t

/-- Store the timestamp FIFO with its level. -/
def State.setTsf (s : State) (l : List (Word × Word)) : State :=
  ({ s with fio := { s.fio with tsf := l } }).setReg Reg.FIO_TSF_LVL (wordOfNat l.length)

/-- An entry for a filtered change of input n to `v` (R292, R293, R300). [DESIGN CHOICE: log 77] -/
def State.tsfPush (s : State) (n : Nat) (v : Bool) : State :=
  if !bitOf (s.reg Reg.FIO_TSEN) (if v then n else 16 + n) || s.fioBad n then s
  else if 64 ≤ s.fio.tsf.length then
    ({ s.inc Reg.FIO_TSF_LOST with fio := { s.fio with lostb := true } }).fioEvt 0x100
  else
    let x := s.fioIn n
    let edge := if v then x.rise else x.fall
    let lag := min (((qq (s.now - edge : Nat) 1000).free 4).toNat) 65535
    let w := wordOfNat (0x80000000 + b2n s.fio.lostb * 0x40000000 + b2n v * 0x100000 + n * 0x10000 + lag)
    let first := !bitOf (s.reg Reg.FIO_EVT) 7
    let s := ({ s with fio := { s.fio with lostb := false } }).setTsf (s.fio.tsf ++ [(w, wordOfNat edge)])
    s.raiseEvt 0x24 Reg.FIO_EVT (if first then some Reg.FIO_EVT_EN else none) 0x80

/-- INPUT_FILTER_TICK (R288, R290). -/
def inputFilterTick (n : Nat) (s : State) : State :=
  let x := s.fioIn n
  let s := s.advanceTo x.next
  let x := { x with next := (if x.next = 0 then s.now else x.next) + s.fioTick n * 1000 }
  let raw := bitOf (s.reg Reg.FIO_IN_RAW) n
  let old := bitOf (s.reg Reg.FIO_IN_FILT) n
  let thr := s.fioThr n
  let filt (s : State) (v : Bool) : State := s.setReg Reg.FIO_IN_FILT (setBit (s.reg Reg.FIO_IN_FILT) n v)
  if s.fioGroup 0 = 0 then s.setFioIn n x
  else if !x.loaded then filt (s.setFioIn n { x with loaded := true, cnt := if raw then thr else 0 }) raw
  else
    let c := min x.cnt thr
    let c := if raw then min (c + 1) thr else c - 1
    let s := s.setFioIn n { x with cnt := c }
    let new := if c = thr then true else if c = 0 then false else old
    if new = old then s else (filt s new).tsfPush n new

def execInputFilterTick (n : BitVec 4) (s : State) : Host.Outcome State Fault Refusal := s.goesTo (s.alive 13 (inputFilterTick n.toNat s))

/-- TSF_READ (R293): the oldest entry is returned and removed, its timestamp latched for the port. -/
def tsfRead (m : Sys2Proof.Master) (s : State) : State :=
  s.access m Reg.FIO_TSF_LO fun s =>
    match s.fio.tsf with
    | (w, t) :: l => ((s.setTsf l).latch (mport m) Reg.FIO_TSF_HI t).answer (mport m) w false
    | [] => s.answer (mport m) 0 false

def execTsfRead (m : Sys2Proof.Master) (s : State) : Host.Outcome State Fault Refusal := s.goesTo (tsfRead m s)

/-! ### Outputs (R295–R298) -/

/-- Conditions 1–3 of R295, safe hold (R525) and the loss of I13 (R524). -/
def State.outForced (s : State) (k : Nat) : Bool :=
  s.flt.safeHold || s.fenced.getLsbD 13 || s.fioBad (16 + k) || s.fioGroup (k / 8) != 3
    || bitOf (s.reg Reg.FIO_OUT_LATCH) k

/-- The commanded state of an output: the SAFE block's, or the value its consumer endpoint latched (R295). -/
def State.outCommand (s : State) (k : Nat) : Bool :=
  if bitOf (s.reg (Reg.FIO_OUT_CFG k)) 28 then s.safe.outs.getLsbD k
  else let r := s.latchedCons (0x4010 + k); r.valid && r.val != 0

/-- Output k at t0: WAITZ, the commanded state, and a test pulse that falls due (R295, R298, R315). [DEDUCED: log 78] -/
def State.outAtT0 (s : State) (k : Nat) : State :=
  let cfg := s.reg (Reg.FIO_OUT_CFG k)
  let cmd := s.outCommand k
  let s := if bitOf (s.reg (Reg.FIO_OUT_STAT k)) 5 && (!cmd || !bitOf cfg 30) then s.outStat k 5 false else s
  let want := !s.outForced k && bitOf cfg 31 && !bitOf (s.reg (Reg.FIO_OUT_STAT k)) 5 && cmd
  let pulsing := match smFind s.fio.pulses k with
    | some p => decide (p.stage < 2)
    | none => false
  if pulsing then if want then s else s.breakPulse k
  else if bitOf cfg 28 && want && bitOf (s.reg Reg.FIO_OUT_SET) k && (s.reg Reg.CYC_COUNT).toNat % 1600 == 100 * k then
    let s := { s with fio := { s.fio with pulses := smPut s.fio.pulses k { stage := 0, start := s.now } } }
    s.setOut k false
  else s.setOut k want

/-- FIO at t0: couplers return, cleared latches and armed groups take effect, the outputs follow, and the filtered
inputs are published (R285, R287, R291, R295, R302). -/
def State.fioAtT0 (s : State) : State :=
  let s := s.couplersAtT0
  let s := match smFind s.busy Reg.FIO_CMD with
    | some b =>
      let s := s.complete Reg.FIO_CMD
      if b.code = 2 then
        (List.range 16).foldl (fun s k => if b.arg.testBit k then
          (s.setReg Reg.FIO_OUT_LATCH (setBit (s.reg Reg.FIO_OUT_LATCH) k false)).outStat k 1 false else s) s
      else s
    | none => s
  let s := [0, 1].foldl (fun (s : State) g =>
    if s.fioGroup g = 2 then
      (List.range 8).foldl (fun s i => if bitOf (s.reg (Reg.FIO_OUT_CFG (8 * g + i))) 30 then s.outStat (8 * g + i) 5 true else s)
        (s.setFioGroup g 3)
    else s) s
  let s := (List.range 16).foldl (fun s k => s.outAtT0 k) s
  (List.range 16).foldl (fun s n =>
    if s.fioGroup 0 ≠ 0 ∧ (s.fioIn n).loaded ∧ !s.fioBad n ∧ !s.fenced.getLsbD 13 then
      s.pubInt (0x4000 + n) (b2n (bitOf (s.reg Reg.FIO_IN_FILT) n) : Int)
    else s) s

/-- Every output is switched off: in safe hold (R525) and when I13 is lost (R524). -/
def State.fieldOff (s : State) : State := (List.range 16).foldl (fun s k => s.forceOff k true) s

/-- OUTPUT_OVERLOAD (R296): 1 ms in current limit, or thermal shutdown, of an output that is on. -/
def outputOverload (k : Nat) (s : State) : State :=
  if bitOf (s.reg Reg.FIO_OUT_SET) k then
    let s := (s.orReg Reg.FIO_OUT_LATCH (bitMask k)).outStat k 1 true
    ((s.inc Reg.FIO_OVL_CNT).fioEvt 0x10).forceOff k true
  else s

def execOutputOverload (n : BitVec 4) (s : State) : Host.Outcome State Fault Refusal := s.goesTo (s.alive 13 (outputOverload n.toNat s))

/-- A finding on a safety output reaches SAFE (R297, R315). -/
def State.toSafe (s : State) (k : Nat) : State := if bitOf (s.reg (Reg.FIO_OUT_CFG k)) 28 then s.safeOutTest k else s

/-- READBACK_MISMATCH (R297): the ball has differed from the set state for more than 100 µs. -/
def readbackMismatch (k : Nat) (s : State) : State :=
  let s := s.setReg Reg.FIO_OUT_RB (setBit (s.reg Reg.FIO_OUT_RB) k (!bitOf (s.reg Reg.FIO_OUT_SET) k))
  (((s.outStat k 3 true).inc Reg.FIO_RBERR_CNT).fioEvt 0x40).toSafe k

def execReadbackMismatch (n : BitVec 4) (s : State) : Host.Outcome State Fault Refusal :=
  s.goesTo (s.alive 13 (readbackMismatch n.toNat s))

/-- OPEN_LOAD (R297): with OPENEN = 1, an output that is on draws less than 5 mA for 10 ms. -/
def openLoad (k : Nat) (s : State) : State :=
  if bitOf (s.reg (Reg.FIO_OUT_CFG k)) 29 && bitOf (s.reg Reg.FIO_OUT_SET) k then (s.outStat k 2 true).fioEvt 0x20 else s

def execOpenLoad (n : BitVec 4) (s : State) : Host.Outcome State Fault Refusal := s.goesTo (s.alive 13 (openLoad n.toNat s))

/-- A failed check of a test pulse. -/
def State.tpFail (s : State) (k : Nat) : State := ((s.outStat k 4 true).fioEvt 0x400).toSafe k

/-- TEST_PULSE_CHECK (R298): the level of the ball 250 µs after the pulse has begun, or has ended; the second check falls
away where the output is off for another reason (R315). [DEDUCED: log 78] -/
def testPulseCheck (k : Nat) (high : Bool) (s : State) : State :=
  match smFind s.fio.pulses k with
  | some p =>
    let rb (s : State) : State := s.setReg Reg.FIO_OUT_RB (setBit (s.reg Reg.FIO_OUT_RB) k high)
    if p.stage = 0 then
      let s := s.advanceTo (p.start + 250000)
      let s := rb { s with fio := { s.fio with pulses := smPut s.fio.pulses k { p with stage := 1 } } }
      if high then s.tpFail k else s
    else if p.stage = 2 then
      let s := s.advanceTo (p.start + 550000)
      let s := { s with fio := { s.fio with pulses := smDel s.fio.pulses k } }
      if p.cancel || !bitOf (s.reg Reg.FIO_OUT_SET) k then s else if high then rb s else (rb s).tpFail k
    else s
  | none => s

def execTestPulseCheck (n : BitVec 4) (high : Bool) (s : State) : Host.Outcome State Fault Refusal :=
  s.goesTo (s.alive 13 (testPulseCheck n.toNat high s))

/-- TEST_PULSE_END (R298): 300 µs after it began, once its low check has been made. -/
def testPulseEnd (k : Nat) (s : State) : State :=
  match smFind s.fio.pulses k with
  | some p =>
    if p.stage = 1 then
      let s := s.advanceTo (p.start + 300000)
      if p.cancel then { s with fio := { s.fio with pulses := smDel s.fio.pulses k } }
      else ({ s with fio := { s.fio with pulses := smPut s.fio.pulses k { p with stage := 2 } } }).setOut k true
    else s
  | none => s

def execTestPulseEnd (n : BitVec 4) (s : State) : Host.Outcome State Fault Refusal := s.goesTo (s.alive 13 (testPulseEnd n.toNat s))

/-! ### Commands (R302) -/

/-- ARM: every group named in READY. [DEDUCED: log 78] -/
def fioArm (m : Sys2Proof.Master) (a : Sys2Proof.CmdArg) (s : State) : State :=
  let mask := a.arg.toNat
  let ready := [0, 1].all (fun g => !mask.testBit g || s.fioGroup g == 1)
  s.command m a ⟨Reg.FIO_CMD, .priv, 1, decide (mask < 4) && mask != 0, true, ready, true⟩ fun s =>
    [0, 1].foldl (fun (s : State) g => if mask.testBit g then s.setFioGroup g 2 else s) s

def execFioArm (m : Sys2Proof.Master) (a : Sys2Proof.CmdArg) (s : State) : Host.Outcome State Fault Refusal :=
  s.goesTo (fioArm m a s)

/-- CLEAR_OUT: every output named has its overload latched. -/
def fioClearOut (m : Sys2Proof.Master) (a : Sys2Proof.CmdArg) (s : State) : State :=
  let mask := a.arg.toNat
  let latched := (List.range 16).all (fun k => !mask.testBit k || bitOf (s.reg Reg.FIO_OUT_LATCH) k)
  s.command m a ⟨Reg.FIO_CMD, .priv, 2, decide (mask < 65536) && mask != 0, true, latched, true⟩ fun s => s

def execFioClearOut (m : Sys2Proof.Master) (a : Sys2Proof.CmdArg) (s : State) : Host.Outcome State Fault Refusal :=
  s.goesTo (fioClearOut m a s)

/-- FLUSH_TSF. -/
def fioFlushTsf (m : Sys2Proof.Master) (a : Sys2Proof.CmdArg) (s : State) : State :=
  s.command m a ⟨Reg.FIO_CMD, .priv, 3, a.arg == 0, false, true, true⟩ fun s => s.setTsf []

def execFioFlushTsf (m : Sys2Proof.Master) (a : Sys2Proof.CmdArg) (s : State) : Host.Outcome State Fault Refusal :=
  s.goesTo (fioFlushTsf m a s)

/-- CLEAR_STATS: the counters, and OPEN, RBERR and TPFAIL of every output. -/
def fioClearStats (m : Sys2Proof.Master) (a : Sys2Proof.CmdArg) (s : State) : State :=
  s.command m a ⟨Reg.FIO_CMD, .priv, 4, a.arg == 0, false, true, true⟩ fun s =>
    let s := s.zeroRegs [Reg.FIO_DIP_CNT, Reg.FIO_TSF_LOST, Reg.FIO_OVL_CNT, Reg.FIO_RBERR_CNT]
    (List.range 16).foldl (fun s k => ((s.outStat k 2 false).outStat k 3 false).outStat k 4 false) s

/-- ABORT (R68): a pending ARM or CLEAR_OUT is cancelled; outputs keep their states. -/
def fioAbort (m : Sys2Proof.Master) (a : Sys2Proof.CmdArg) (s : State) : State :=
  s.abort m a Reg.FIO_CMD .priv fun b s =>
    match b with
    | some b => if b.code = 1 then
        [0, 1].foldl (fun (s : State) g => if s.fioGroup g = 2 then s.setFioGroup g 1 else s) s
      else s
    | none => s

def execFioAbort (m : Sys2Proof.Master) (a : Sys2Proof.CmdArg) (s : State) : Host.Outcome State Fault Refusal :=
  s.goesTo (fioAbort m a s)

end Sys2Proof.Machine
end

