-- ==== Sys2Proof/Machine/Ilk.lean ====
section
/-!
DEFINITION. The interlock matrix (R246–R253, R256): terms, rules and their evaluation, actions, and the rule banks.
-/
namespace Sys2Proof.Machine

/-! ### Rules and banks -/

/-- Word n of a descriptor. -/
def iw (d : List Word) (n : Nat) : Word := d.getD n 0

/-- A descriptor of a bank (R252). -/
def State.ilkDesc (s : State) (bank r : Nat) : List Word := smGet (fun _ => []) s.ilk.banks (bank * 1024 + r)

/-- Write a descriptor; one of zeros is the one a bank holds after cold start. -/
def State.setIlkDesc (s : State) (bank r : Nat) (d : List Word) : State :=
  let d := if d.all (fun w => w == 0) then [] else d
  { s with ilk := { s.ilk with banks := smSet (fun _ => []) s.ilk.banks (bank * 1024 + r) d } }

/-- The active bank. -/
def State.ilkBank (s : State) : Nat := fld (s.reg Reg.ILK_BANK_ACT) 0 0

/-- A rule's counters. [DEDUCED: log 68] -/
def State.ilkRule (s : State) (r : Nat) : IlkRule := smGet (fun _ => {}) s.ilk.rules r
def State.setIlkRule (s : State) (r : Nat) (x : IlkRule) : State :=
  { s with ilk := { s.ilk with rules := smSet (fun _ => {}) s.ilk.rules r x } }

/-- Is a rule enabled, active, latched (R256)? -/
def State.ilkEn (s : State) (r : Nat) : Bool := bitOf (s.reg (Reg.ILK_EN (r / 32))) (r % 32)
def State.ilkAct (s : State) (r : Nat) : Bool := bitOf (s.reg (Reg.ILK_ACT (r / 32))) (r % 32)
def State.ilkLat (s : State) (r : Nat) : Bool := bitOf (s.reg (Reg.ILK_LATCH (r / 32))) (r % 32)
def State.setIlkAct (s : State) (r : Nat) (b : Bool) : State :=
  s.setReg (Reg.ILK_ACT (r / 32)) (setBit (s.reg (Reg.ILK_ACT (r / 32))) (r % 32) b)
def State.setIlkLat (s : State) (r : Nat) (b : Bool) : State :=
  s.setReg (Reg.ILK_LATCH (r / 32)) (setBit (s.reg (Reg.ILK_LATCH (r / 32))) (r % 32) b)

/-- Set ILK_EVT bits. -/
def State.ilkEvt (s : State) (m : Nat) : State := s.raiseEvt 0x1D Reg.ILK_EVT (some Reg.ILK_EVT_EN) (wordOfNat m)

/-- A rule releases: active and latched clear, and its count starts again (R249). -/
def State.ilkRelease (s : State) (r : Nat) : State := ((s.setIlkRule r {}).setIlkAct r false).setIlkLat r false

/-! ### Terms (R247, R248) -/

/-- A comparison by OP: 0 GT, 1 GE, 2 LT, 3 LE, 4 EQ, 5 NE; an operand without an order compares as a NaN. -/
def ilkCompare (op : Nat) (x y : Option Int) : Bool :=
  match x, y with
  | some a, some b =>
    match op with
    | 0 => decide (b < a)
    | 1 => decide (b ≤ a)
    | 2 => decide (a < b)
    | 3 => decide (a ≤ b)
    | 4 => a == b
    | _ => a != b
  | _, _ => op == 5

/-- What a term gives: `bad` for a reserved encoding, `none` inside for TYPE 0; with it the value and the status read. -/
structure IlkTerm where
  bad : Bool := false
  val : Option Bool := none
  word : Word := 0
  st : BitVec 8 := 0

/-- A term of rule r (R247); `prev` are the rules active in the previous FC. -/
def State.ilkTerm (s : State) (r : Nat) (prev : List Nat) (w0 w1 : Word) : IlkTerm :=
  let typ := fld w0 31 29
  let op := fld w0 27 25
  let neg := bitOf w0 28
  if typ = 0 then {}
  else if 4 < typ ∨ ((typ = 1 ∨ typ = 3) ∧ op = 7) then { bad := true }
  else if typ = 4 then
    let q := fld w0 9 0
    let t := if q < r then s.ilkAct q else prev.contains q
    { val := some (t != neg), word := wordOfNat (b2n t) }
  else
    let id := fld w0 12 0
    let e := s.route id
    let on := entryOn e
    let p := if on then s.present id else (0, 0)
    let k := s.readSig id
    let t : Bool :=
      if (typ = 1 ∨ typ = 3) ∧ op = 6 then !k.2 || stHas p.2 sSTALE
      else if !k.2 then !bitOf w0 24
      else if typ = 2 then k.1 != some 0
      else ilkCompare op k.1 (sigKey (eENC e) w1)
    { val := some (t != neg), word := p.1, st := p.2 }

/-- AND and OR over terms, TYPE 0 left out; nothing where none is left. -/
def ilkAll (l : List (Option Bool)) : Option Bool :=
  let v := l.filterMap (fun x => x)
  if v.isEmpty then none else some (v.all (fun b => b))
def ilkAny (l : List (Option Bool)) : Option Bool :=
  let v := l.filterMap (fun x => x)
  if v.isEmpty then none else some (v.any (fun b => b))

/-- The condition of four terms under COMB (R246, R248). -/
def ilkCond (comb : Nat) (t : List (Option Bool)) : Bool :=
  let a := t.take 2
  let b := t.drop 2
  (match comb with
    | 0 => ilkAll t
    | 1 => ilkAny t
    | 2 => ilkAny [ilkAll a, ilkAll b]
    | _ => ilkAll [ilkAny a, ilkAny b]).getD false

/-! ### Actions (R250, R251) -/

/-- The channels of a mask. -/
def maskBits (w : Word) (n : Nat) : List Nat := (List.range n).filter (fun i => bitOf w i)

/-- The generators of a trip group. -/
def State.tripGroup (s : State) (g : Nat) : List Nat :=
  (List.range 128).filter (fun n => bitOf (s.reg (Reg.ILK_TGRPW g (n / 32))) (n % 32))

/-- The actions on activation: ABORT, TRIP and HUT. [DEDUCED: log 70] -/
def State.ilkFire (s : State) (r : Nat) (d : List Word) (terms : List IlkTerm) : State :=
  let w1 := iw d 1
  let s := ((s.inc Reg.ILK_ACT_CNT).setReg Reg.ILK_LAST_RULE (wordOfNat r)).ilkEvt (if bitOf (iw d 0) 31 then 0x11 else 0x01)
  let s := if bitOf w1 28 then (maskBits w1 16).foldl (fun s c => s.seqIlkAbort c r) s else s
  let s := if bitOf w1 27 then
      (s.tripGroup (fld w1 25 22)).foldl (fun s g => { s with stopReq := s.stopReq ++ [(g, 3, s.now)] }) s
    else s
  if bitOf w1 26 then
    let sts := (terms.zipIdx.map (fun p => p.1.st.toNat * 256 ^ p.2)).foldl (fun a b => a + b) 0
    s.hutRequest 7 0x1D ([wordOfNat r] ++ terms.map (fun t => t.word) ++ [wordOfNat sts, s.reg Reg.CYC_COUNT])
  else s

/-- One rule at the evaluation (R248, R249). [DEDUCED: log 68] -/
def State.ilkEval (s : State) (prev : List Nat) (r : Nat) : State :=
  let d := s.ilkDesc s.ilkBank r
  let w0 := iw d 0
  let terms := (List.range 4).map (fun k => s.ilkTerm r prev (iw d (4 + 2 * k)) (iw d (5 + 2 * k)))
  if 3 < fld w0 30 28 ∨ terms.any (fun t => t.bad) then ((s.inc Reg.ILK_BADRULE_CNT).ilkEvt 8).ilkRelease r
  else
    let cond := ilkCond (fld w0 30 28) (terms.map (fun t => t.val))
    let cnt := if cond then min ((s.ilkRule r).cnt + 1) 256 else 0
    let s := s.setIlkRule r ⟨cnt, cond⟩
    if !s.ilkAct r && decide (fld w0 15 8 + 1 ≤ cnt) then
      ((s.setIlkAct r true).setIlkLat r (bitOf w0 31)).ilkFire r d terms
    else if s.ilkAct r && !s.ilkLat r && !cond then s.setIlkAct r false
    else s

/-- The active rules, in order. -/
def State.ilkActive (s : State) : List Nat := (List.range 1024).filter (fun r => s.ilkAct r)

/-- The actions that last while a rule is active: holds, and the pause causes (R250). -/
def State.ilkSync (s : State) : State :=
  let act := s.ilkActive.map (fun r => (r, s.ilkDesc s.ilkBank r))
  let holds := (act.filter (fun q => bitOf (iw q.2 1) 31)).map (fun q => (⟨fld (iw q.2 2) 12 0, 2, q.1, iw q.2 3⟩ : Override))
  let s := { s with sig := { s.sig with ovr := s.sig.ovr.filter (fun (o : Override) => o.rank != 2) ++ holds } }
  let confl := (holds.map (fun o => o.id)).eraseDups.filter (fun i =>
    holds.any (fun o => o.id == i && holds.any (fun p => p.id == i && p.val != o.val)))
  let s := (confl.filter (fun i => !s.ilk.confl.contains i)).foldl (fun s i =>
    ((s.inc Reg.ILK_CONFL_CNT).setReg Reg.ILK_CONFL_SIG (wordOfNat i)).ilkEvt 2) s
  let s := { s with ilk := { s.ilk with confl := confl } }
  (List.range 16).foldl (fun s c =>
    s.seqRules c ((act.filter (fun q => bitOf (iw q.2 1) 29 && bitOf (iw q.2 1) c)).map (fun q => (q.1, bitOf (iw q.2 1) 17)))) s

/-- The consumers that active rules inhibit from the next t0 on (R29, R250). [DEDUCED: log 70] -/
def State.ilkInhibits (s : State) : List (Nat × Nat) :=
  (s.ilkActive.filter (fun r => bitOf (iw (s.ilkDesc s.ilkBank r) 1) 30)).map (fun r =>
    let w2 := iw (s.ilkDesc s.ilkBank r) 2
    let id := fld w2 28 16
    let lo := [0, 16, 32, 48].getD (fld w2 30 29) 0
    (id, efld (s.route id) (lo + 15) lo))

/-- ILK_EVALUATION (R226, R249): t0 + 3.60 µs to t0 + 4.90 µs, once per FC. -/
def ilkEvaluation (s : State) : State :=
  if s.hasT0 && !s.ilk.evald then
    let s := s.atOffset 3600
    let prev := s.ilkActive
    let s := { s with ilk := { s.ilk with evald := true } }
    let s := (List.range 1024).foldl (fun s r =>
      if s.ilkEn r then s.ilkEval prev r else if s.ilkAct r then s.ilkRelease r else s) s
    let s := s.ilkSync.atOffset 4900
    (List.range 1024).foldl (fun s r => s.pubInt (0xC000 + r) (b2n (s.ilkAct r) : Nat)) s
  else s

def execIlkEvaluation (s : State) : Host.Outcome State Fault Refusal := s.goesTo (s.alive 5 (ilkEvaluation s))

/-- At t0 the inhibits of the latest evaluation act. [DEDUCED: log 70] -/
def State.ilkAtT0 (s : State) : State := { s with sig := { s.sig with inhibit := s.ilkInhibits } }

/-! ### Banks (R252, R253) -/

/-- A command of ILK. -/
def ilkCmd (code : Nat) (argOk busy permitted : Bool) : Cmd :=
  ⟨Reg.ILK_CMD, .priv, code, argOk, busy, permitted, true⟩
  
/-- SWAP: the shadow bank is frozen until the swap instant. -/
def ilkSwap (m : Sys2Proof.Master) (a : Sys2Proof.CmdArg) (s : State) : State :=
  s.command m a (ilkCmd 1 (a.arg == 0) true (s.reg Reg.ILK_STATE == 1)) fun s => s.setState 0x1D 3

def execIlkSwap (m : Sys2Proof.Master) (a : Sys2Proof.CmdArg) (s : State) : Host.Outcome State Fault Refusal :=
  s.goesTo (ilkSwap m a s)

/-- The swap instant (R50, R252): the banks are exchanged; a rule whose descriptor changes is evaluated afresh, its latch
stays. [DEDUCED: log 69] -/
def State.ilkSwapAtT0 (s : State) : State :=
  if s.swapDue Reg.ILK_CMD 1 then
    let old := s.ilkBank
    let s := s.setReg Reg.ILK_BANK_ACT (wordOfNat (1 - old))
    let s := (List.range 1024).foldl (fun s r =>
      if s.ilkDesc old r = s.ilkDesc (1 - old) r then s
      else
        let s := s.setIlkRule r { s.ilkRule r with cnt := 0 }
        if s.ilkAct r && !s.ilkLat r then s.setIlkAct r false else s) s
    (s.setState 0x1D 1).complete Reg.ILK_CMD
  else s

/-- COPY_ACTIVE. -/
def ilkCopyActive (m : Sys2Proof.Master) (a : Sys2Proof.CmdArg) (s : State) : State :=
  s.command m a (ilkCmd 2 (a.arg == 0) true (s.reg Reg.ILK_STATE == 1)) fun s => s.setState 0x1D 2

def execIlkCopyActive (m : Sys2Proof.Master) (a : Sys2Proof.CmdArg) (s : State) : Host.Outcome State Fault Refusal :=
  s.goesTo (ilkCopyActive m a s)

/-- Copy the rules that a test admits from the active bank to the shadow. [DEDUCED: log 69] -/
def State.ilkCopy (s : State) (which : Nat → Bool) : State :=
  (List.range 1024).foldl (fun s r =>
    if which r then s.setIlkDesc (1 - s.ilkBank) r (s.ilkDesc s.ilkBank r) else s) s

/-- ILK_COPY_COMPLETE: 16 µs after acceptance the copy ends. -/
def ilkCopyComplete (s : State) : State :=
  match smFind s.busy Reg.ILK_CMD with
  | some b =>
    if b.code = 2 then (((s.advanceTo (b.acc + 16000)).ilkCopy (fun _ => true)).setState 0x1D 1).complete Reg.ILK_CMD else s
  | none => s

def execIlkCopyComplete (s : State) : Host.Outcome State Fault Refusal := s.goesTo (s.alive 5 (ilkCopyComplete s))

/-- ACK (R249): rejected while the condition is true; a latched rule releases. [DEDUCED: log 68] -/
def ilkAck (m : Sys2Proof.Master) (a : Sys2Proof.CmdArg) (s : State) : State :=
  let r := a.arg.toNat
  s.command m a (ilkCmd 3 (decide (r < 1024)) false (!(s.ilkRule r).cond)) fun s =>
    if s.ilkLat r then ((s.setIlkAct r false).setIlkLat r false).ilkSync else s

def execIlkAck (m : Sys2Proof.Master) (a : Sys2Proof.CmdArg) (s : State) : Host.Outcome State Fault Refusal :=
  s.goesTo (ilkAck m a s)

/-- ABORT (R68, R253): a pending swap is cancelled; a copy stops, the shadow bank partly copied. -/
def ilkAbort (m : Sys2Proof.Master) (a : Sys2Proof.CmdArg) (s : State) : State :=
  s.abort m a Reg.ILK_CMD .priv fun b s =>
    let s := match b with
      | some b => if b.code = 2 then s.ilkCopy (Config.ilkCopied (s.now - b.acc)) else s
      | none => s
    s.setState 0x1D 1

def execIlkAbort (m : Sys2Proof.Master) (a : Sys2Proof.CmdArg) (s : State) : Host.Outcome State Fault Refusal :=
  s.goesTo (ilkAbort m a s)

/-- A write of ILK_RULE_IDX with an OP: OP reads 0, the rule number stays. -/
def State.ilkIdx (s : State) (m : Sys2Proof.Master) (r : Nat) (op : State → State) : State :=
  s.access m Reg.ILK_RULE_IDX fun s =>
    if accGranted (mclass m) .priv then (op s).setReg Reg.ILK_RULE_IDX (wordOfNat r)
    else s.noteDenied (mclassCode (mclass m)) 0x1D (Reg.ILK_RULE_IDX % 0x10000)

/-- A descriptor into D0–D15. -/
def State.ilkShow (s : State) (d : List Word) : State :=
  (List.range 16).foldl (fun s i => s.setReg (Reg.ILK_RULE_D i) (iw d i)) s

/-- OP 1. -/
def ilkRuleReadShadow (m : Sys2Proof.Master) (r : Nat) (s : State) : State :=
  s.ilkIdx m r fun s => s.ilkShow (s.ilkDesc (1 - s.ilkBank) r)

def execIlkRuleReadShadow (m : Sys2Proof.Master) (r : BitVec 10) (s : State) : Host.Outcome State Fault Refusal :=
  s.goesTo (ilkRuleReadShadow m r.toNat s)

/-- OP 2; while a swap is pending the write is discarded and LATEW is set (R51). -/
def ilkRuleWriteShadow (m : Sys2Proof.Master) (r : Nat) (s : State) : State :=
  s.ilkIdx m r fun s =>
    if s.busyWith Reg.ILK_CMD 1 then s.setReg Reg.ILK_CMDSTAT (setBit (s.reg Reg.ILK_CMDSTAT) 5 true)
    else s.setIlkDesc (1 - s.ilkBank) r ((List.range 16).map (fun i => s.reg (Reg.ILK_RULE_D i)))

def execIlkRuleWriteShadow (m : Sys2Proof.Master) (r : BitVec 10) (s : State) : Host.Outcome State Fault Refusal :=
  s.goesTo (ilkRuleWriteShadow m r.toNat s)

/-- OP 3. -/
def ilkRuleReadActive (m : Sys2Proof.Master) (r : Nat) (s : State) : State :=
  s.ilkIdx m r fun s => s.ilkShow (s.ilkDesc s.ilkBank r)

def execIlkRuleReadActive (m : Sys2Proof.Master) (r : BitVec 10) (s : State) : Host.Outcome State Fault Refusal :=
  s.goesTo (ilkRuleReadActive m r.toNat s)

end Sys2Proof.Machine
end

