-- ==== Sys2Proof/Machine/Srec.lean ====
section
/-!
DEFINITION. The signal recorder (R454–R466): frames and their compression, blocks, capture slots, the readout, and what
SREC does at t0.
-/
namespace Sys2Proof.Machine

/-- Set SREC_EVT bits (R466). -/
def State.srecEvt (s : State) (n : Nat) : State := s.raiseEvt 0x3B Reg.SREC_EVT (some Reg.SREC_EVT_EN) (bitMask n)

/-- The buffer: blocks, base, and the address of a block (R459). -/
def State.srecN (s : State) : Nat := fld (s.reg Reg.SREC_BUF_NBLK) 18 0
def State.srecBase (s : State) : Nat := fld (s.reg Reg.SREC_BUF_BASE_HI) 7 0 * 0x100000000 + (s.reg Reg.SREC_BUF_BASE_LO).toNat
def State.srecAddr (s : State) (i : Nat) : Nat := s.srecBase + 0x10000 * i

/-- A capture slot beside its registers, and its state: 0 FREE, 1 ARMED, 2 POST, 3 HELD (R462). -/
def State.srecSlot (s : State) (n : Nat) : SrecSlot := smGet (fun _ => {}) s.srec.slots n
def State.setSrecSlot (s : State) (n : Nat) (c : SrecSlot) : State :=
  { s with srec := { s.srec with slots := smSet (fun _ => {}) s.srec.slots n c } }
def State.capState (s : State) (n : Nat) : Nat := fld (s.reg (Reg.SREC_CAP_STAT n)) 1 0

/-- The slot in a state, the lowest of them. -/
def State.capFind (s : State) (st : Nat) : Option Nat := (List.range 4).find? (fun n => s.capState n == st)

/-- Is a block locked by some slot? -/
def State.srecLocked (s : State) (i : Nat) : Bool := s.srec.slots.any (fun p => p.2.locked.any (fun b => b.1 == i))

/-- SREC_LOCK_CNT and SREC_BSEQ_OLD as the blocks stand (R466). -/
def State.srecShow (s : State) : State :=
  let l := (s.srec.slots.flatMap (fun p => p.2.locked.map (fun b => b.1))).eraseDups
  let new := (s.reg Reg.SREC_BSEQ_NEW).toNat
  let old := s.srec.blocks.foldl (fun d p => max d ((new + 0x100000000 - p.2.bseq) % 0x100000000)) 0
  s.setRegs [(Reg.SREC_LOCK_CNT, wordOfNat l.length), (Reg.SREC_BSEQ_OLD, wordOfNat (new + 0x100000000 - old))]

/-- Bytes written since START (R466). -/
def State.srecCount (s : State) (n : Nat) : State :=
  let t := (s.reg Reg.SREC_BYTES_HI).toNat * 0x100000000 + (s.reg Reg.SREC_BYTES_LO).toNat + n
  s.setRegs [(Reg.SREC_BYTES_LO, wordOfNat t), (Reg.SREC_BYTES_HI, wordOfNat (t / 0x100000000))]

/-! ### Blocks and locks (R457, R459, R460, R462, R463) -/

/-- Open a block: its header word 0 is zeroed and every signal's history is empty (R458–R460). -/
def State.srecOpen (s : State) (i bseq : Nat) (fill : SrecBlock) : State :=
  let s := s.dramPut (s.srecAddr i) [0]
  let s := { s with srec := { s.srec with
    used := 64, head := none, fill := fill, gapf := false, hist := [], kinit := fld (s.reg Reg.SREC_CFG) 8 4,
    blocks := smDel s.srec.blocks i } }
  (s.setRegs [(Reg.SREC_WBLK, wordOfNat i), (Reg.SREC_BSEQ_NEW, wordOfNat bseq)]).srecShow

/-- A slot enters HELD: its registers give the locked blocks (R462, R466). [DEDUCED: log 111] -/
def State.capHold (s : State) (n : Nat) : State :=
  let l := (s.srecSlot n).locked
  let a := l.headD (0, 0)
  let b := l.getLastD (0, 0)
  let m := s.srecN
  let s := s.setRegs [(Reg.SREC_CAP_FIRST n, wordOfNat a.1), (Reg.SREC_CAP_SPAN n, wordOfNat ((b.1 + m - a.1) % m + 1)),
    (Reg.SREC_CAP_BSEQ0 n, wordOfNat a.2), (Reg.SREC_CAP_BSEQ1 n, wordOfNat b.2),
    (Reg.SREC_CAP_STAT n, setFld (s.reg (Reg.SREC_CAP_STAT n)) 1 0 3)]
  s.srecEvt 2

/-- A slot in POST as a block closes (R462, R463): a block that holds a frame of its window is locked; of blocks before the
trigger frame only the latest of their share stay; at the limit the window ends. -/
def State.capClose (s : State) (n i : Nat) (b : SrecBlock) : State :=
  let c := s.srecSlot n
  let m := s.srecN
  if s.capState n ≠ 2 ∨ b.last + c.pre < c.frame ∨ c.frame + c.post < b.first then s
  else
    let st := s.reg (Reg.SREC_CAP_STAT n)
    if b.last < c.frame then
      let l := c.locked ++ [(i, b.bseq)]
      let s := s.setSrecSlot n { c with locked := l.drop (l.length - m / 16) }
      if l.length ≤ m / 16 then s else s.setReg (Reg.SREC_CAP_STAT n) (setBit st 5 true)
    else
      let c := { c with locked := c.locked ++ [(i, b.bseq)] }
      let s := s.setSrecSlot n c
      if c.frame + c.post < s.srec.wOrd then s.capHold n
      else if m / 8 ≤ c.locked.length then
        ((s.setReg (Reg.SREC_CAP_STAT n) (setBit st 6 true)).srecEvt 3).capHold n
      else s

/-- Close the open block: the header is written last, with the CRC over what was used (R460), and slots in POST lock it. [DEDUCED: log 110] -/
def State.srecClose (s : State) : State :=
  let i := (s.reg Reg.SREC_WBLK).toNat
  let a := s.srecAddr i
  let u := s.srec.used
  let h := s.srec.head.getD (0, 0, 0)
  let crc := crc32c (wordBytes (s.words (a + 64) (u / 4 - 16)))
  let w0 := 0xB10C0100 + b2n s.srec.gapf * 2 + b2n (bitOf (s.reg Reg.SREC_CFG) 0)
  let hdr : List Word := [wordOfNat w0, s.reg Reg.SREC_BSEQ_NEW, h.1, h.2.1, h.2.2, wordOfNat u, s.reg Reg.SYS_UID_LO,
    s.reg Reg.SYS_UID_HI, 0, 0, 0, 0, 0, 0, 0, wordOfNat crc]
  let b := { s.srec.fill with bseq := (s.reg Reg.SREC_BSEQ_NEW).toNat }
  let s := (s.dramPut a hdr).srecCount 64
  let s := { s with srec := { s.srec with blocks := smPut s.srec.blocks i b } }
  let s := if s.srec.head.isSome then (List.range 4).foldl (fun (s : State) n => s.capClose n i b) s else s
  s.srecShow

/-- The next block index that is not locked (R459). -/
def State.srecNext (s : State) : Nat :=
  let i := (s.reg Reg.SREC_WBLK).toNat
  let m := s.srecN
  match (List.range m).find? (fun d => !s.srecLocked ((i + 1 + d) % m)) with
  | some d => (i + 1 + d) % m
  | none => (i + 1) % m

/-- Append a record to the open block. [DEDUCED: log 110] -/
def State.srecAppend (s : State) (r : List Word) : State :=
  let s := s.dramPut (s.srecAddr (s.reg Reg.SREC_WBLK).toNat + s.srec.used) r
  let n := 4 * r.length
  let s := { s with srec := { s.srec with used := s.srec.used + n } }
  (s.srecCount n).setReg Reg.SREC_FRAME_BYTES (wordOfNat ((s.reg Reg.SREC_FRAME_BYTES).toNat + n))

/-- Does a record of n words fit in the space left (R457)? -/
def State.srecFit (s : State) (n : Nat) : Bool := s.srec.used + 4 * n ≤ 0x10000

/-- A FRAME record (R456). -/
def State.srecFrameRec (s : State) (f : SrecFrame) (cont : Bool) : State :=
  let s := s.srecAppend [wordOfNat (0x10000000 + b2n cont * 0x8000000), f.cyc]
  let x := s.srec
  match x.head with
  | some _ => { s with srec := { x with fill := { x.fill with last := x.wOrd } } }
  | none => { s with srec := { x with head := some (f.cyc, f.ns, f.era), fill := ⟨0, x.wOrd, x.wOrd, cont⟩ } }

/-- A record does not fit: END, where a word is left, and the block closes; the frame goes on in the next (R457). -/
def State.srecRoll (s : State) (f : Option SrecFrame) : State :=
  let s := if s.srecFit 1 then s.srecAppend [0] else s
  let s := s.srecClose
  let s := s.srecOpen s.srecNext ((s.reg Reg.SREC_BSEQ_NEW).toNat + 1) {}
  match f with
  | some f => s.srecFrameRec f true
  | none => s

/-- Append a record of a frame that no signal's history bears on. -/
def State.srecPut (s : State) (f : SrecFrame) (r : List Word) : State :=
  if s.srecFit r.length then s.srecAppend r else (s.srecRoll (some f)).srecAppend r

/-! ### Coding (R456, R458) -/

/-- A signal in the open block. -/
def State.srecHist (s : State) (id : Nat) : SrecHist := smGet (fun _ => {}) s.srec.hist id
def State.setSrecHist (s : State) (id : Nat) (h : SrecHist) : State :=
  { s with srec := { s.srec with hist := smSet (fun _ => {}) s.srec.hist id h } }

/-- PRED as it acts: 3 is reserved and acts as 2 (R466, R48). -/
def State.srecPred (s : State) : Nat := let p := fld (s.reg Reg.SREC_CFG) 2 1; if p = 3 then 2 else p

/-- n low bits of a number, least significant first. -/
def lowBits (v n : Nat) : List Bool := (List.range n).map (fun i => v / 2 ^ i % 2 == 1)

/-- Words filled from bit 0 upward, the last one zero-padded. -/
def packBits (l : List Bool) : List Word :=
  (List.range ((l.length + 31) / 32)).map (fun i =>
    wordOfNat ((l.drop (32 * i)).take 32 |>.foldr (fun b v => b2n b + 2 * v) 0))

/-- The code of one sample and the k that follows (R458). -/
def srecCode (pred k : Nat) (h : SrecHist) (x : SrecSample) : List Bool × Nat :=
  let p : Word :=
    match h.x1, h.x2 with
    | some a, some b => if pred = 2 ∧ !x.bf then a + a - b else if 1 ≤ pred then a else 0
    | some a, none => if 1 ≤ pred then a else 0
    | none, _ => 0
  let r := x.x - p
  let u := (r <<< 1) ^^^ r.sshiftRight 31
  let q := u.toNat / 2 ^ k
  let code := if q < 24 then List.replicate q true ++ [false] ++ lowBits u.toNat k
    else List.replicate 24 true ++ lowBits u.toNat 32
  let k := if 2 ≤ q then min (k + 1) 31 else if q = 0 ∧ 0 < k ∧ u.toNat < 2 ^ (k - 1) then k - 1 else k
  (code, k)

/-- The runs of consecutive IDs in a set sorted by ID (R456). -/
def srecRuns : List SrecSample → List (List SrecSample)
  | [] => []
  | x :: l =>
    match srecRuns l with
    | (y :: r) :: t => if y.id = x.id + 1 then (x :: y :: r) :: t else [x] :: (y :: r) :: t
    | t => [x] :: t

/-- A RUN record. -/
def runRec (r : List SrecSample) : List Word :=
  wordOfNat (0x20000000 + (r.length - 1) * 0x2000 + (r.map (fun x => x.id)).headD 0) :: r.map (fun x => x.x)

/-- The CDATA record of a set, and k of each of its signals after it (R458). -/
def State.srecCdata (s : State) (runs : List (List SrecSample)) : List Word × List (Nat × Nat) :=
  let p := s.srecPred
  let coded := runs.map (fun r => (lowBits ((r.map (fun x => x.id)).headD 0) 13 ++ lowBits (r.length - 1) 13,
    r.map (fun x => let h := s.srecHist x.id; (x.id, srecCode p (h.k.getD s.srec.kinit) h x))))
  let bits := coded.flatMap (fun c => c.1 ++ c.2.flatMap (fun e => e.2.1))
  let ws := packBits bits
  (wordOfNat (0x30000000 + runs.length * 0x4000 + ws.length) :: ws,
    coded.flatMap (fun c => c.2.map (fun e => (e.1, e.2.2))))

/-- A list in ascending order of a key, elements of one key in their order. -/
def sortBy {α : Type} (key : α → Nat) (l : List α) : List α :=
  l.foldr (fun x t => t.takeWhile (fun y => key y < key x) ++ x :: t.dropWhile (fun y => key y < key x)) []

/-- The samples of an FC as sets: first updates, second updates and so on, each by ascending ID (R456). -/
def srecSets (fuel : Nat) (l : List SrecSample) : List (List SrecSample) :=
  match fuel with
  | 0 => []
  | fuel + 1 =>
    if l.isEmpty then []
    else
      let (firsts, rest) := l.foldl (fun (a : List SrecSample × List SrecSample) x =>
        if a.1.any (fun y => y.id == x.id) then (a.1, a.2 ++ [x]) else (a.1 ++ [x], a.2)) ([], [])
      sortBy (fun x => x.id) firsts :: srecSets fuel rest

/-- The STATUS records due: transitions into STALE, and samples whose status differs from the one last recorded in the
block, by ascending ID (R454, R456). The Bool marks a transition. [DEDUCED: log 110] -/
def State.srecStatuses (s : State) (stale : List (Nat × BitVec 8)) (samples : List SrecSample) :
    List (Nat × BitVec 8 × Bool) :=
  let all := stale.map (fun p => (p.1, p.2, true)) ++ samples.map (fun x => (x.id, x.st, false))
  let all := sortBy (fun x => x.1) all
  (all.foldl (fun (a : List (Nat × BitVec 8 × Bool) × Option (Nat × BitVec 8)) x =>
    let last := match a.2 with
      | some (i, t) => if i = x.1 then some t else (s.srecHist x.1).st
      | none => (s.srecHist x.1).st
    if x.2.2 || last != some x.2.1 then (a.1 ++ [x], some (x.1, x.2.1)) else (a.1, some (x.1, x.2.1))) ([], none)).1

/-- Samples enter their signals' histories (R458). -/
def State.srecNote (s : State) (l : List SrecSample) (ks : List (Nat × Nat)) : State :=
  let s := l.foldl (fun (s : State) x => let h := s.srecHist x.id; s.setSrecHist x.id { h with x1 := some x.x, x2 := h.x1 }) s
  ks.foldl (fun (s : State) e => s.setSrecHist e.1 { s.srecHist e.1 with k := some e.2 }) s

/-- What of a frame is still to be written between its FRAME and TRIG records: transitions, STATUS records, sets, whether the
first set has been begun with RUN records, and whether a sample has been written since the block was opened. -/
structure SrecWork where
  stale : List (Nat × BitVec 8)
  stat : List (Nat × BitVec 8 × Bool)
  sets : List (List SrecSample)
  raw : Bool := false
  prog : Bool := true

/-- The frame goes on in the next block: samples to come produce STATUS records anew (R454, R457). Where the block just left
held none of the frame's samples, the STATUS records already written stand. -/
def State.srecTurn (s : State) (f : SrecFrame) (w : SrecWork) : State × SrecWork :=
  let s := s.srecRoll (some f)
  if w.prog then (s, { w with stat := s.srecStatuses w.stale w.sets.flatten, prog := false }) else (s, w)

/-- Write STATUS records and sets, a record a turn (R456). -/
def State.srecWrite (s : State) (f : SrecFrame) : Nat → SrecWork → State
  | 0, _ => s
  | fuel + 1, w =>
    match w.stat, w.sets with
    | (id, st, tr) :: rest, _ =>
      if s.srecFit 1 then
        let s := s.srecAppend [wordOfNat (0x40000000 + st.toNat * 0x2000 + id)]
        let s := s.setSrecHist id { s.srecHist id with st := some st }
        s.srecWrite f fuel { w with stat := rest, stale := if tr then w.stale.erase (id, st) else w.stale }
      else
        let (s, w) := s.srecTurn f w
        s.srecWrite f fuel w
    | [], set :: rest =>
      let runs := srecRuns set
      let raws := runs.map runRec
      let (cd, ks) := s.srecCdata runs
      let coded := bitOf (s.reg Reg.SREC_CFG) 0 && !w.raw && cd.length < (raws.map List.length).sum
      if coded then
        if s.srecFit cd.length then
          ((s.srecAppend cd).srecNote set ks).srecWrite f fuel { w with sets := rest, prog := true }
        else
          let (s, w) := s.srecTurn f w
          s.srecWrite f fuel w
      else
        match runs, raws with
        | r :: rs, x :: _ =>
          if s.srecFit x.length then
            let s := (s.srecAppend x).srecNote r []
            s.srecWrite f fuel { w with
              sets := if rs.isEmpty then rest else rs.flatten :: rest, raw := !rs.isEmpty, prog := true }
          else
            let (s, w) := s.srecTurn f w
            s.srecWrite f fuel w
        | _, _ => s.srecWrite f fuel { w with sets := rest }
    | [], [] => s

/-- Write one frame (R456). [DEDUCED: log 110] -/
def State.srecFrame (s : State) (f : SrecFrame) : State :=
  let s := s.setReg Reg.SREC_FRAME_BYTES 0
  let s := if s.srecFit 2 then s.srecFrameRec f false
    else (s.srecRoll none).srecFrameRec f false
  let s :=
    if f.gap = 0 then s
    else
      let s := s.srecPut f [wordOfNat (0x80000000 + min f.gap 0xFFFFFF)]
      ({ s with srec := { s.srec with gapf := true } }).srecEvt 0
  let n := f.samples.length + f.stale.length
  let sets := srecSets n f.samples
  let s := s.srecWrite f ((n + 2) * (n + 4)) { stale := f.stale, stat := s.srecStatuses f.stale sets.flatten, sets := sets }
  let s := f.extra.foldl (fun (s : State) r => s.srecPut f r) s
  { s with srec := { s.srec with wOrd := s.srec.wOrd + 1 } }

/-- STOPPING ends once the present frame is written and the block closed (R465). [DEDUCED: log 111] -/
def State.srecStopped (s : State) : State :=
  if s.reg Reg.SREC_STATE = 2 ∧ s.srec.cur.isNone ∧ s.srec.frames.isEmpty then
    (s.srecClose.complete Reg.SREC_CMD).setState 0x3B 0
  else s

/-- SREC_FRAME_WRITE (R456): the frame of an FC that has ended is written. -/
def srecFrameWrite (s : State) : State :=
  let s := if s.cycRuns then s else
    { s with srec := { s.srec with frames := s.srec.frames ++ s.srec.cur.toList, cur := none } }
  if s.reg Reg.SREC_STATE = 0 then s
  else
    match s.srec.frames with
    | [] => s.srecStopped
    | f :: rest =>
      let s := { s with srec := { s.srec with frames := rest } }
      (s.srecFrame f).srecStopped

def execSrecFrameWrite (s : State) : Host.Outcome State Fault Refusal := s.goesTo (s.alive 4 (srecFrameWrite s))

/-! ### At t0 -/

/-- The frame of the FC that the latest t0 began. -/
def State.srecBegin (s : State) : State :=
  let t := s.reg Reg.CYC_T0_LAST
  let era := if s.reg Reg.TB_TIME_LO < t then s.reg Reg.TB_TIME_HI - 1 else s.reg Reg.TB_TIME_HI
  let f : SrecFrame := { cyc := s.reg Reg.CYC_COUNT, ns := t, era := era, gap := s.srec.lost }
  { s with srec := { s.srec with cur := some f, lost := 0 } }

/-- At t0 the frame of the FC that ended joins those to be written, and another begins while SREC records (R456, R465). -/
def State.recFrameAtT0 (s : State) : State :=
  match s.srec.cur with
  | some f =>
    let s := { s with srec := { s.srec with cur := none, frames := s.srec.frames ++ [f], ord := s.srec.ord + 1 } }
    if s.reg Reg.SREC_STATE = 1 then s.srecBegin else s
  | none => if s.reg Reg.SREC_STATE = 1 then s.srecBegin else s

/-- At t0, after staleness evaluation, the signals of RDEC 1–10 that are due are sampled, and up to four work items become
ANNOT records (R454, R455). -/
def State.recAtT0 (s : State) : State :=
  if s.reg Reg.SREC_STATE ≠ 1 then s
  else
    let n := (s.reg Reg.CYC_COUNT).toNat
    let s := s.sig.routes.foldl (fun (s : State) p =>
      if entryOn p.2 && eREC p.2 && eRDEC p.2 != 0 && n % 2 ^ eRDEC p.2 == 0 then
        let r := s.sigRec p.1
        s.recTake ⟨p.1, r.held, eENC p.2 == 2, r.st⟩
      else s) s
    let cfg := s.reg Reg.SREC_CFG
    let q := fld cfg 22 16
    if bitOf cfg 10 && bitOf (s.reg (Reg.QUE_Q_CFG q)) 30 then
      (List.range 4).foldl (fun (s : State) _ =>
        match s.quePop q with
        | (some x, s) => s.recExtra (0x60000000 :: x)
        | (none, s) => s) s
    else s

/-! ### Commands (R465) -/

/-- START (R459): the staged buffer takes effect, every slot is cleared, and block 0 is opened with BSEQ 0. -/
def srecStart (m : Sys2Proof.Master) (a : Sys2Proof.CmdArg) (s : State) : State :=
  let n := fld (s.reg Reg.SREC_BUF_NBLK_S) 18 0
  let base := fld (s.reg Reg.SREC_BUF_BASE_HI_S) 7 0 * 0x100000000 + (s.reg Reg.SREC_BUF_BASE_LO_S).toNat / 0x10000 * 0x10000
  let ok := 16 ≤ n && n ≤ 262144 && 0x100000000 ≤ base && base + n * 0x10000 ≤ 0x100000000 + s.dramUsable
  s.command m a ⟨Reg.SREC_CMD, .any, 1, a.arg == 0, false, s.reg Reg.SREC_STATE == 0, ok⟩ fun s =>
    let s := s.setRegs [(Reg.SREC_BUF_BASE_LO, wordOfNat base), (Reg.SREC_BUF_BASE_HI, wordOfNat (base / 0x100000000)),
      (Reg.SREC_BUF_NBLK, wordOfNat n), (Reg.SREC_BYTES_LO, 0), (Reg.SREC_BYTES_HI, 0), (Reg.SREC_FRAME_BYTES, 0)]
    let s := (List.range 4).foldl (fun (s : State) c => s.setRegs [(Reg.SREC_CAP_STAT c, 0), (Reg.SREC_CAP_FIRST c, 0),
      (Reg.SREC_CAP_SPAN c, 0), (Reg.SREC_CAP_BSEQ0 c, 0), (Reg.SREC_CAP_BSEQ1 c, 0)]) s
    let s := ({ s with srec := { rd := s.srec.rd } }).srecOpen 0 0 {}
    (if s.hasT0 then s.srecBegin else s).setState 0x3B 1

def execSrecStart (m : Sys2Proof.Master) (a : Sys2Proof.CmdArg) (s : State) : Host.Outcome State Fault Refusal :=
  s.goesTo (srecStart m a s)

/-- STOP (R465). -/
def srecStop (m : Sys2Proof.Master) (a : Sys2Proof.CmdArg) (s : State) : State :=
  s.command m a ⟨Reg.SREC_CMD, .any, 2, a.arg == 0, true, s.reg Reg.SREC_STATE == 1, true⟩ fun s =>
    (s.setState 0x3B 2).srecStopped

def execSrecStop (m : Sys2Proof.Master) (a : Sys2Proof.CmdArg) (s : State) : Host.Outcome State Fault Refusal :=
  s.goesTo (srecStop m a s)

/-- ARM (R462): the lowest FREE slot becomes ARMED. -/
def srecArm (m : Sys2Proof.Master) (a : Sys2Proof.CmdArg) (s : State) : State :=
  let free := s.capFind 0
  s.command m a ⟨Reg.SREC_CMD, .any, 3, a.arg == 0, false,
      s.reg Reg.SREC_STATE == 1 && free.isSome && (s.capFind 1).isNone, true⟩ fun s =>
    match free with
    | some n => (s.setSrecSlot n {}).setReg (Reg.SREC_CAP_STAT n) 1
    | none => s

def execSrecArm (m : Sys2Proof.Master) (a : Sys2Proof.CmdArg) (s : State) : Host.Outcome State Fault Refusal :=
  s.goesTo (srecArm m a s)

/-- The complete blocks from the latest back, as far as they follow each other without a gap. -/
def srecChain (l : List (Nat × SrecBlock)) : Nat → Nat → List (Nat × SrecBlock)
  | 0, _ => []
  | fuel + 1, bseq =>
    match l.find? (fun p => p.2.bseq == (bseq + 0xFFFFFFFF) % 0x100000000) with
    | some p => p :: srecChain l fuel p.2.bseq
    | none => []

/-- The present FC is the trigger FC of the armed slot (R462, R463): the blocks that hold frames before it are locked as far
as they stand and their share goes. -/
def State.srecFire (s : State) (n : Nat) (soft : Bool) : State :=
  let m := s.srec.ord
  let pre := fld (s.reg Reg.SREC_TRIG_PRE) 23 0
  let post := fld (s.reg Reg.SREC_TRIG_POST) 23 0
  let chain := (srecChain s.srec.blocks s.srec.blocks.length (s.reg Reg.SREC_BSEQ_NEW).toNat).filter
    (fun p => m ≤ p.2.last + pre && p.2.first < m)
  let mine := chain.take (s.srecN / 16)
  let start : Nat := match chain.getLast?, s.srec.head with
    | some p, _ => p.2.first + b2n p.2.cont
    | none, some _ => s.srec.fill.first + b2n s.srec.fill.cont
    | none, none => s.srec.wOrd
  let short := m < pre || m - pre < start || mine.length < chain.length
  let s := s.setSrecSlot n ⟨m, pre, post, mine.reverse.map (fun p => (p.1, p.2.bseq))⟩
  let s := s.setReg (Reg.SREC_CAP_STAT n) (wordOfNat (2 + b2n soft * 16 + b2n short * 32))
  let s := s.recExtra [wordOfNat (0x70000000 + b2n soft * 4 + n), s.reg Reg.TB_TIME_LO]
  s.srecShow.srecEvt 1

/-- TRIGGER (R462). -/
def srecTrigger (m : Sys2Proof.Master) (a : Sys2Proof.CmdArg) (s : State) : State :=
  let armed := s.capFind 1
  s.command m a ⟨Reg.SREC_CMD, .any, 4, a.arg == 0, false, s.reg Reg.SREC_STATE == 1 && armed.isSome, true⟩ fun s =>
    match armed with
    | some n => s.srecFire n true
    | none => s

def execSrecTrigger (m : Sys2Proof.Master) (a : Sys2Proof.CmdArg) (s : State) : Host.Outcome State Fault Refusal :=
  s.goesTo (srecTrigger m a s)

/-- SIGNAL_TRIGGER_EVALUATION (R462): at t0 + 4.90 µs, the compare of TRIG_CFG as an interlock term evaluates it (R247). -/
def signalTriggerEvaluation (s : State) : State :=
  if s.hasT0 ∧ s.phase ≤ 4900 then
    let s := s.atOffset 4900
    let cfg := s.reg Reg.SREC_TRIG_CFG
    match s.capFind 1 with
    | some n =>
      if s.reg Reg.SREC_STATE = 1 ∧ bitOf cfg 31 then
        let t := s.ilkTerm 0 [] (cfg &&& 0x0F001FFF ||| 0x20000000) (s.reg Reg.SREC_TRIG_VAL)
        if t.val = some true then s.srecFire n false else s
      else s
    | none => s
  else s

def execSignalTriggerEvaluation (s : State) : Host.Outcome State Fault Refusal := s.goesTo (s.alive 4 (signalTriggerEvaluation s))

/-- RELEASE (R462): a HELD slot becomes FREE and its blocks are unlocked. -/
def srecRelease (m : Sys2Proof.Master) (a : Sys2Proof.CmdArg) (s : State) : State :=
  let n := a.arg.toNat
  s.command m a ⟨Reg.SREC_CMD, .any, 5, n < 4, false, s.capState n == 3, true⟩ fun s =>
    ((s.setSrecSlot n {}).setReg (Reg.SREC_CAP_STAT n) 0).srecShow

def execSrecRelease (m : Sys2Proof.Master) (a : Sys2Proof.CmdArg) (s : State) : Host.Outcome State Fault Refusal :=
  s.goesTo (srecRelease m a s)

/-- SREC_CMD CLEAR_STATS (R465, R466). -/
def State.srecClearStats (s : State) : State := s.zeroRegs [Reg.SREC_SAMPLE_CNT, Reg.SREC_DROP_CNT]

/-- ABORT (R68, R465): an ARMED slot returns to FREE; recording, a STOP in progress and the readout go on. -/
def srecAbort (m : Sys2Proof.Master) (a : Sys2Proof.CmdArg) (s : State) : State :=
  s.abort m a Reg.SREC_CMD .any fun _ s =>
    match s.capFind 1 with
    | some n => (s.setSrecSlot n {}).setReg (Reg.SREC_CAP_STAT n) 0
    | none => s

def execSrecAbort (m : Sys2Proof.Master) (a : Sys2Proof.CmdArg) (s : State) : Host.Outcome State Fault Refusal :=
  s.goesTo (srecAbort m a s)

/-! ### Readout (R464) -/

/-- The readout ends: done, or failed. -/
def State.readoutEnd (s : State) (copied : Nat) (canc ue fail : Bool) : State :=
  let w := copied * 0x100 + b2n canc * 8 + b2n ue * 4 + (if fail then 3 else 2)
  (({ s with srec := { s.srec with rd := none } }).setReg Reg.SREC_RD_STAT (wordOfNat w)).srecEvt (if fail then 5 else 4)

/-- RD_NBLK as it acts: outside 1 to BUF_NBLK its reset value (R466, R48). -/
def State.readoutN (s : State) : Nat :=
  let n := fld (s.reg Reg.SREC_RD_NBLK) 18 0
  if 1 ≤ n ∧ n ≤ s.srecN then n else 1

/-- A write of RD_CTL (R464, R466): KIND is stored; GO starts the engine where it is not busy; CANCEL stops it. -/
def State.writeRdCtl (s : State) (w : Word) : State :=
  let kind := bitOf w 8
  let s := s.setReg Reg.SREC_RD_CTL (wordOfNat (b2n kind * 0x100))
  let s :=
    if bitOf w 0 && s.srec.rd.isNone then
      if s.srecN = 0 || (!kind && !bitOf (s.reg Reg.SYS_ROLE) 0) then s.readoutEnd 0 false false true
      else
        let hi := (s.reg Reg.SREC_RD_DST_HI).toNat
        let dst := (if kind then hi % 0x100 else hi) * 0x100000000 + (s.reg Reg.SREC_RD_DST_LO).toNat / 64 * 64
        ({ s with srec := { s.srec with rd := some ⟨kind, fld (s.reg Reg.SREC_RD_SRC) 17 0 % s.srecN, s.readoutN, dst, false⟩ } }
          ).setReg Reg.SREC_RD_STAT 1
    else s
  match s.srec.rd with
  | some r => if bitOf w 1 then { s with srec := { s.srec with rd := some { r with cancel := true } } } else s
  | none => s

/-- A write to RD_CTL by a master. [DEDUCED: log 111] -/
def rdCtlWrite (m : Sys2Proof.Master) (w : Word) (s : State) : State := s.access m Reg.SREC_RD_CTL fun s => s.writeRdCtl w

/-- READOUT_GO (R464). -/
def execReadoutGo (m : Sys2Proof.Master) (kind : Bool) (s : State) : Host.Outcome State Fault Refusal :=
  s.goesTo (rdCtlWrite m (wordOfNat (b2n kind * 0x100 + 1)) s)

/-- READOUT_CANCEL (R464). -/
def execReadoutCancel (m : Sys2Proof.Master) (kind : Bool) (s : State) : Host.Outcome State Fault Refusal :=
  s.goesTo (rdCtlWrite m (wordOfNat (b2n kind * 0x100 + 2)) s)

/-- Copy block k of a readout inside the chip; an uncorrectable word is copied as zero (R464). -/
def State.readoutBlock (s : State) (r : SrecRead) (k : Nat) : State :=
  let i := (r.src + k) % s.srecN
  let a := s.srecAddr i
  let d := r.dst + 0x10000 * k
  if s.reg Reg.SREC_STATE ≠ 0 ∧ s.reg Reg.SREC_WBLK = wordOfNat i then
    (s.setWords d (List.replicate 16 0)).memcWritten d 64
  else
    let l := (List.range 16384).map (fun j => if s.memcBad (a + 4 * j) then (0 : Word) else s.word (a + 4 * j))
    s.dramPut d l

/-- READOUT_COMPLETE (R464): the engine has copied all its blocks, or, cancelled or failed, n of them. [DEDUCED: log 111] -/
def readoutComplete (n : Nat) (fail : Bool) (s : State) : State :=
  match s.srec.rd with
  | none => s
  | some r =>
    let bad := r.kind && !s.inGeneral r.dst (r.n * 0x10000)
    let fail := fail || bad
    let k := if bad then 0 else if fail || r.cancel then min n r.n else r.n
    let ue := s.memc.ue.any (fun w => (List.range k).any (fun j =>
      let a := s.srecAddr ((r.src + j) % s.srecN); a ≤ 8 * w && 8 * w < a + 0x10000))
    let s := if r.kind then (List.range k).foldl (fun (s : State) j => s.readoutBlock r j) s else s
    s.readoutEnd k r.cancel ue fail

def execReadoutComplete (n : BitVec 19) (fail : Bool) (s : State) : Host.Outcome State Fault Refusal :=
  s.goesTo (s.alive 4 (readoutComplete n.toNat fail s))

end Sys2Proof.Machine
end

