-- ==== Sys2Proof/Machine/Pcie.lean ====
section
/-!
DEFINITION. The host interface (R501–R514): the link, mailboxes, queue doorbells and interrupt vectors.
-/
namespace Sys2Proof.Machine

/-- Set PCIE_EVT bits (R513). -/
def State.pcieEvt (s : State) (n : Nat) : State := s.raiseEvt 0x3C Reg.PCIE_EVT (some Reg.PCIE_EVT_EN) (bitMask n)

/-! ### The link (R501–R503, R514) -/

/-- The link goes down: a RETRAIN ends; from UP, LINKDN is set (R514). -/
def State.linkFalls (s : State) : State :=
  let up := s.reg Reg.PCIE_STATE == 2
  let s := ((s.complete Reg.PCIE_CMD).setReg Reg.PCIE_LINK (s.reg Reg.PCIE_LINK &&& ~~~0x77#32)).setState 0x3C 1
  if up then s.pcieEvt 0 else s

/-- PCIE_PERST (R502): the link, the configuration space, the MSI-X table, the doorbell staging buffers; a readout with KIND 0
fails. Mailboxes are kept. -/
def pciePerst (s : State) : State :=
  if s.reg Reg.PCIE_STATE = 0 then s
  else
    let s := s.linkFalls.setReg Reg.PCIE_LINK 0
    let s := { s with pcie := { s.pcie with msix := [], pba := 0, qdbStage := [] } }
    let s := match s.srec.rd with
      | some r => if r.kind then s else s.readoutEnd 0 r.cancel false true
      | none => s
    (s.inc Reg.PCIE_PERST_CNT).pcieEvt 2

def execPciePerst (s : State) : Host.Outcome State Fault Refusal := s.goesTo (s.alive 12 (pciePerst s))

/-- PCIE_LINK_UP (R513, R514): training ends with a speed, 1 to 4, and a width, 1, 2 or 4 lanes. -/
def pcieLinkUp (speed : Nat) (width : Nat) (s : State) : State :=
  let st := s.reg Reg.PCIE_STATE
  if st = 1 ∨ st = 3 then
    let w := (s.reg Reg.PCIE_LINK &&& ~~~0x77#32) ||| wordOfNat (speed + width * 0x10)
    (((s.complete Reg.PCIE_CMD).setReg Reg.PCIE_LINK w).setState 0x3C 2).pcieEvt 1
  else s

def execPcieLinkUp (speed : Fin 4) (width : Fin 3) (s : State) : Host.Outcome State Fault Refusal :=
  s.goesTo (s.alive 12 (pcieLinkUp (speed.val + 1) (2 ^ width.val) s))

/-- PCIE_LINK_DOWN (R514). [DEDUCED: log 124] -/
def pcieLinkDown (s : State) : State :=
  if s.reg Reg.PCIE_STATE = 2 ∨ s.reg Reg.PCIE_STATE = 3 then s.linkFalls else s

def execPcieLinkDown (s : State) : Host.Outcome State Fault Refusal := s.goesTo (s.alive 12 (pcieLinkDown s))

/-- RETRAIN (R514). -/
def pcieRetrain (m : Sys2Proof.Master) (a : Sys2Proof.CmdArg) (s : State) : State :=
  s.command m a ⟨Reg.PCIE_CMD, .priv, 1, a.arg == 0, true, s.reg Reg.PCIE_STATE == 2, true⟩ fun s => s.setState 0x3C 3

def execPcieRetrain (m : Sys2Proof.Master) (a : Sys2Proof.CmdArg) (s : State) : Host.Outcome State Fault Refusal :=
  s.goesTo (pcieRetrain m a s)

/-- ABORT (R68, R514): a RETRAIN is cancelled, and the link stays as it is. -/
def pcieAbort (m : Sys2Proof.Master) (a : Sys2Proof.CmdArg) (s : State) : State :=
  s.abort m a Reg.PCIE_CMD .priv fun b s => if b.isSome then s.setState 0x3C 2 else s

def execPcieAbort (m : Sys2Proof.Master) (a : Sys2Proof.CmdArg) (s : State) : Host.Outcome State Fault Refusal :=
  s.goesTo (pcieAbort m a s)

/-- PCIE_CMD CLEAR_STATS (R513, R514). -/
def State.pcieClearStats (s : State) : State :=
  (s.zeroRegs [Reg.PCIE_RWERR_CNT, Reg.PCIE_BEERR_CNT, Reg.PCIE_DBOVR_CNT, Reg.PCIE_AER_CNT, Reg.PCIE_PERST_CNT]).setReg
    Reg.PCIE_RDLAT (s.reg Reg.PCIE_RDLAT &&& 0xFFFF0000)

/-! ### Mailboxes (R505–R507) -/

/-- A mailbox, and its MB_STAT word. -/
def State.mailbox (s : State) (k : Nat) : Mailbox := smGet (fun _ => {}) s.pcie.mbox k
def mbStat (b : Mailbox) : Word := wordOfNat (b.st + b.ovr.toNat * 4 + b.seq * 0x100 + b.rsplen * 0x10000)

/-- Store a mailbox, and with it its bit of PCIE_MB_PEND. -/
def State.setMailbox (s : State) (k : Nat) (b : Mailbox) : State :=
  ({ s with pcie := { s.pcie with mbox := smSet (fun _ => {}) s.pcie.mbox k b } }).setReg Reg.PCIE_MB_PEND
    (setBit (s.reg Reg.PCIE_MB_PEND) k (b.st == 1))

/-- The mailbox's work item joins its queue, or waits for room; none joins while SYS_STATE is WARM (R32, R507). -/
def State.mbEnqueue (s : State) (k : Nat) (w : Word) : State :=
  let q := fld (s.reg Reg.PCIE_MB_QUE) 6 0
  let item := mkItem 1 0x3C 0 31 (s.reg Reg.TB_TIME_LO).toNat [wordOfNat k, 0, 0, s.reg Reg.PCIE_EVT, w]
  if s.warm || !s.qEn q then s
  else if s.queRoom q then s.quePut q item
  else { s with que := { s.que with evWait := s.que.evWait ++ [(0x100 + k, q, item)] } }

/-- What the host does reaches the endpoint while the link is up. -/
def State.fromHost (s : State) (go : State → State) : State := if s.reg Reg.PCIE_STATE = 2 then go s else s

/-- MB_DB_WRITE (R506): REQLEN above 2,048 reads as 2,048 (R505). [DEDUCED: log 124] -/
def mbDbWrite (k : Nat) (x : Word) (s : State) : State :=
  let b := s.mailbox k
  let w := if 2048 < fld x 11 0 then setFld x 11 0 2048 else x
  if b.st = 1 then ((s.setMailbox k { b with ovr := true }).inc Reg.PCIE_DBOVR_CNT).pcieEvt 7
  else ((s.setMailbox k { b with st := 1, ovr := false }).pcieEvt 3).mbEnqueue k w

def execMbDbWrite (k : BitVec 3) (x : BitVec 32) (s : State) : Host.Outcome State Fault Refusal :=
  s.goesTo (s.alive 12 (s.fromHost (mbDbWrite k.toNat x)))

/-- MB_ANSWER_WRITE (R506): a BUSY mailbox is DONE, and its vector is raised. -/
def mbAnswerWrite (m : Sys2Proof.Master) (x : Word) (s : State) : State :=
  s.writeGranted m Reg.PCIE_MB_ANSWER .priv fun s =>
    let k := fld x 18 16
    let b := s.mailbox k
    if b.st = 1 then
      (s.setMailbox k { b with st := 2, seq := (b.seq + 1) % 256, rsplen := min (fld x 11 0) 2040 }).msixRaise k
    else s

def execMbAnswerWrite (m : Sys2Proof.Master) (x : BitVec 32) (s : State) : Host.Outcome State Fault Refusal :=
  s.goesTo (mbAnswerWrite m x s)

/-- MB_RESET (R506, R514): each mailbox named becomes IDLE, a waiting work item is withdrawn. [DEDUCED: log 124] -/
def pcieMbReset (m : Sys2Proof.Master) (a : Sys2Proof.CmdArg) (s : State) : State :=
  let n := a.arg.toNat
  let st := s.reg Reg.PCIE_STATE
  s.command m a ⟨Reg.PCIE_CMD, .priv, 2, 1 ≤ n && n < 256, false, st == 1 || st == 2 || st == 3, true⟩ fun s =>
    (List.range 8).foldl (fun (s : State) k =>
      if n / 2 ^ k % 2 = 1 then
        ({ s with que := { s.que with evWait := s.que.evWait.filter (fun x => x.1 != 0x100 + k) } }).setMailbox k {}
      else s) s

def execPcieMbReset (m : Sys2Proof.Master) (a : Sys2Proof.CmdArg) (s : State) : Host.Outcome State Fault Refusal :=
  s.goesTo (pcieMbReset m a s)

/-! ### Queue doorbells (R508) -/

/-- Words of a descriptor are staged (R508). -/
def State.qdbStageWords (s : State) (q first : Nat) (ws : List Word) : State :=
  ws.zipIdx.foldl (fun (s : State) p =>
    { s with pcie := { s.pcie with qdbStage := smSet (fun _ => 0) s.pcie.qdbStage (q * 16 + first + p.2) p.1 } }) s

/-- The staged descriptor is committed to queue n for an external master (R428, R508): 1 OK, 2 RETRY, 3 DENIED. -/
def State.qdbDecide (s : State) (q : Nat) : State :=
  let item := mkItem 0 0xFF 3 31 (s.reg Reg.TB_TIME_LO).toNat
    ((List.range 16).map (fun i => smGet (fun _ => 0) s.pcie.qdbStage (q * 16 + i)))
  let (s, res) :=
    if !s.qEn q || !bitOf (s.reg (Reg.QUE_Q_CFG q)) 28 then (s, 3)
    else if (s.warm && !s.qOwn q) || !s.queRoom q then
      (((s.inc Reg.QUE_RETRY_CNT).queEvt 1).trace q 6 31 item s.now, 2)
    else (s.quePut q item, 1)
  let old := smGet (fun _ => 0) s.pcie.qdbRes q
  let s := { s with pcie := { s.pcie with
    qdbRes := smSet (fun _ => 0) s.pcie.qdbRes q (wordOfNat ((fld old 15 8 + 1) % 256 * 0x100 + res)) } }
  if res = 1 then s else s.pcieEvt 8

/-- QDB_COMMIT (R508): a write covers QDBn_D15 and the words before it that it carries. -/
def qdbCommit (q : Nat) (ws : List Word) (s : State) : State :=
  let ws := ws.drop (ws.length - 16)
  (s.qdbStageWords q (16 - ws.length) ws).qdbDecide q

def execQdbCommit (q : BitVec 7) (ws : List (BitVec 32)) (s : State) : Host.Outcome State Fault Refusal :=
  s.goesTo (s.alive 12 (s.fromHost (qdbCommit q.toNat ws)))

/-! ### Vectors (R509) -/

/-- MSIX_RAISE_WRITE (R509): vectors 16–63; other values are ignored. -/
def msixRaiseWrite (m : Sys2Proof.Master) (x : Word) (s : State) : State :=
  s.writeGranted m Reg.PCIE_MSIX_RAISE .priv fun s => if 16 ≤ fld x 5 0 then s.msixRaise (fld x 5 0) else s

def execMsixRaiseWrite (m : Sys2Proof.Master) (x : BitVec 32) (s : State) : Host.Outcome State Fault Refusal :=
  s.goesTo (msixRaiseWrite m x s)

/-- A word of the MSI-X table. -/
def State.msixWord (s : State) (k : Nat) : Word := smGet msixDefault s.pcie.msix k

/-- A write of a word of the table: where it unmasks a pending vector, the message is sent once (R509). [PRESUMED: log 23] -/
def State.setMsixWord (s : State) (k : Nat) (w : Word) : State :=
  let s := { s with pcie := { s.pcie with msix := smSet msixDefault s.pcie.msix k w } }
  let v := k / 4
  if k % 4 = 3 && !bitOf w 0 && s.pcie.pba.getLsbD v then
    ({ s with pcie := { s.pcie with pba := s.pcie.pba &&& ~~~(BitVec.ofNat 64 (2 ^ v)) } }).msixRaise v
  else s

/-- MSIX_UNMASK (R509). -/
def msixUnmask (v : Nat) (s : State) : State := s.setMsixWord (4 * v + 3) (setBit (s.msixWord (4 * v + 3)) 0 false)

def execMsixUnmask (v : BitVec 6) (s : State) : Host.Outcome State Fault Refusal := s.goesTo (s.alive 12 (s.fromHost (msixUnmask v.toNat)))

/-! ### The remote window (R512) -/

/-- An access through BAR4 fails (R512, R513): KIND 1 a read, 2 a write, at a BAR4 offset. [DESIGN CHOICE: log 21] -/
def State.windowError (s : State) (kind ofs : Nat) : State :=
  ((s.inc Reg.PCIE_RWERR_CNT).setReg Reg.PCIE_RWERR_ADDR (wordOfNat (kind * 0x40000000 + ofs % 0x40000000))).pcieEvt 4

/-- A BAR4 read has taken so many µs (R513). [DESIGN CHOICE: log 21] -/
def State.windowLatency (s : State) (us : Nat) : State :=
  let us := min us 0xFFFF
  let w := s.reg Reg.PCIE_RDLAT
  s.setReg Reg.PCIE_RDLAT (wordOfNat (us * 0x10000 + max us (fld w 15 0)))

end Sys2Proof.Machine
end

