-- ==== Sys2Proof/Machine/RingOps.lean ====
section
/-!
DEFINITION. The shared operations of the Ocuant rings: schedules and addresses (R328, R347, R350), frames and their CRC
word (R329–R333), what a port sends (R370), hop delays, delays from the head and the topology (R356–R360), and the
instants of the parts of a train (R361). The blocks are u = 0 OCUB and 1 OCUS, their ports p = 0 east and 1 west.
-/
namespace Sys2Proof.Machine

/-! ### Blocks and ports -/

/-- The block index. -/
def ocuBlk (u : Nat) : Nat := 0x28 + u

/-- What a port holds. -/
def State.ocuPort (s : State) (u p : Nat) : OcuPort := smGet (fun _ => {}) (s.ocuOf u).ports p

/-- Store it. -/
def State.setOcuPort (s : State) (u p : Nat) (x : OcuPort) : State :=
  s.setOcu u { s.ocuOf u with ports := smSet (fun _ => {}) (s.ocuOf u).ports p x }

/-- Set OCUx_EVT bits (R354, R376). -/
def State.ocuEvt (s : State) (u n : Nat) : State :=
  s.raiseEvt (ocuBlk u) (Reg.OCU_EVT u) (some (Reg.OCU_EVT_EN u)) (bitMask n)

/-- Bits [3:0] of OCUx_STATE: 0 STOPPED, 1 STARTING, 2 RUN, 3 MISMATCH. -/
def State.ocuSt (s : State) (u : Nat) : Nat := fld (s.reg (Reg.OCU_STATE u)) 3 0

/-- Is the block head of its ring (R334)? -/
def State.ocuHead (s : State) (u : Nat) : Bool := bitOf (s.reg (Reg.OCU_STATE u)) 8

/-- Is YIELD set (R366)? -/
def State.ocuYield (s : State) (u : Nat) : Bool := bitOf (s.reg (Reg.OCU_TIM_STAT u)) 6

/-- Is the port looped back (R370)? -/
def State.ocuLooped (s : State) (u p : Nat) : Bool := bitOf (s.reg (Reg.OCU_P_LOOP u p)) 0

/-- Has the port LINKUP (R355)? -/
def State.ocuLinkup (s : State) (u p : Nat) : Bool := bitOf (s.reg (Reg.OCU_P_STAT u p)) 1

/-- Does the chip bridge a segment (R22, R347)? -/
def State.bridges (s : State) : Bool := bitOf (s.reg Reg.SYS_ROLE) 2

/-- SYS_ROLE.TM_RANK, 4–6 as 7 (R24). -/
def State.tmRank (s : State) : Nat := let r := fld (s.reg Reg.SYS_ROLE) 10 8; if r < 4 then r else 7

/-- Store bits of OCUx_TIM_STAT. -/
def State.setTim (s : State) (u hi lo v : Nat) : State :=
  s.setReg (Reg.OCU_TIM_STAT u) (setFld (s.reg (Reg.OCU_TIM_STAT u)) hi lo v)

/-- Enter a ring state; YIELD, head and STOPREQ end in STOPPED (R351, R366). -/
def State.setOcuSt (s : State) (u st : Nat) : State :=
  let w := s.reg (Reg.OCU_STATE u)
  if st = 0 then
    let s := ((s.setTim u 6 6 0).setTim u 5 4 0).setState (ocuBlk u) 0
    s.setOcu u { s.ocuOf u with silent := 0, heard := false, stopLeft := 0, collide := none }
  else s.setState (ocuBlk u) (setFld w 3 0 st).toNat

/-- Set or clear HEAD, with CAND (R365, R375). -/
def State.setHead (s : State) (u : Nat) (on : Bool) (cand : Nat) : State :=
  (s.setState (ocuBlk u) (setBit (s.reg (Reg.OCU_STATE u)) 8 on).toNat).setTim u 5 4 cand

/-! ### Schedules and addresses (R328, R347, R350) -/

/-- P_SLOT, P_MS and T_B of the ring, in ps: the active RATE, in OCUS alone (R324, R328). -/
def State.slowRate (s : State) (u : Nat) : Bool := u == 1 && bitOf (s.reg (Reg.OCU_SCH_ID u)) 16
def State.pSlot (s : State) (u : Nat) : Nat := if s.slowRate u then 1000000 else 250000
def State.pMs (s : State) (u : Nat) : Nat := if s.slowRate u then 200000 else 50000
def State.tBlk (s : State) (u : Nat) : Nat := if s.slowRate u then 25600 else 6400

/-- The active SCHED_ID, T_S in ps, NSLOT, NMS and DYNQ (R354). -/
def State.schedId (s : State) (u : Nat) : Nat := fld (s.reg (Reg.OCU_SCH_ID u)) 15 0
def State.schTs (s : State) (u : Nat) : Nat := fld (s.reg (Reg.OCU_SCH_TS u)) 11 0 * 10000
def State.nSlot (s : State) (u : Nat) : Nat := fld (s.reg (Reg.OCU_SCH_LEN u)) 6 0
def State.nMs (s : State) (u : Nat) : Nat := fld (s.reg (Reg.OCU_SCH_LEN u)) 25 16
def State.dynQ (s : State) (u : Nat) : Nat := fld (s.reg (Reg.OCU_SCH_LEN u)) 31 28

/-- The own address, once a schedule has been loaded (R347). -/
def State.ocuAddr (s : State) (u : Nat) : Nat := fld (s.reg (Reg.OCU_SCH_NODE u)) 11 0

/-- Is this the own address? [DEDUCED: log 83] -/
def State.isOwn (s : State) (u a : Nat) : Bool := (s.ocuOf u).loaded && s.ocuAddr u == a

/-- Is the block on a segment: OCUS, or an OCUB whose address has p ≠ 0 (R347)? -/
def State.onSegment (s : State) (u : Nat) : Bool := u == 1 || s.ocuAddr u % 64 != 0

/-- The address of a ring index: p on a segment, s on the backbone (R347). -/
def State.addrOf (s : State) (u k : Nat) : Nat := if s.onSegment u then s.ocuAddr u / 64 * 64 + k else k * 64

/-- The own ring index. -/
def State.ownIndex (s : State) (u : Nat) : Nat := if s.onSegment u then s.ocuAddr u % 64 else s.ocuAddr u / 64

/-- The ring index by which a destination is reached: on a segment, another segment lies behind the bridge (R348). -/
def State.indexOf (s : State) (u dst : Nat) : Nat :=
  if s.onSegment u then (if dst / 64 = s.ocuAddr u / 64 then dst % 64 else 0) else dst / 64

/-- The owner entry of a position: USED and the ring index (R354). -/
def State.ownerOf (s : State) (u i : Nat) : Option Nat :=
  let b := fld (s.reg (Reg.OCU_SCH_OWN u (i / 4))) (8 * (i % 4) + 7) (8 * (i % 4))
  if i < s.nSlot u ∧ b ≥ 128 then some (b % 64) else none

/-- Does the node own the position? -/
def State.ownsSlot (s : State) (u i : Nat) : Bool := (s.ocuOf u).loaded && s.ownerOf u i == some (s.ownIndex u)

/-! ### Frames (R329–R333) -/

/-- The fields of H0. -/
def fType (h : Word) : Nat := fld h 31 29
def fDir (h : Word) : Nat := fld h 28 28
def fLoop (h : Word) : Bool := bitOf h 27
def fReins (h : Word) : Bool := bitOf h 26
def fSlot (h : Word) : Nat := fld h 25 20
def fSrc (h : Word) : Nat := fld h 19 8
def fCc (h : Word) : Nat := fld h 7 0

/-- H0 from its fields. -/
def mkH0 (ftype dir slot src cc : Nat) : Word :=
  wordOfNat (ftype * 0x20000000 + dir * 0x10000000 + slot * 0x100000 + src * 0x100 + cc % 256)

/-- Word k of a frame. -/
def fw (f : List Word) (k : Nat) : Word := f.getD k 0

/-- The length a frame's header gives it, in words; `none`: the header is not one of a frame (R330–R332). -/
def frameLen (f : List Word) : Option Nat :=
  match fType (fw f 0) with
  | 1 => some 8
  | 2 => some 68
  | 3 => let l := fld (fw f 1) 9 0; if l ≤ 512 ∧ l % 8 = 0 then some (6 + l / 4) else none
  | _ => none

/-- The place of a frame's CRC word. -/
def crcAt (f : List Word) : Nat := if fType (fw f 0) = 3 then f.length - 2 else f.length - 1

/-- The words the CRC covers, with LOOP, REINS and HOPS taken as zero (R333). -/
def crcWords (f : List Word) : List Word :=
  let h := fw f 0
  let b := (f.take (crcAt f)).set 0 (h &&& ~~~0x0C000000#32)
  if fType h = 1 then b.set 3 (fw f 3 &&& ~~~0xFF#32) else b

/-- The CRC word of a frame. -/
def frameCrc (f : List Word) : Word := wordOfNat (crc32c (wordBytes (crcWords f)))

/-- A frame with its CRC word computed. -/
def withCrc (f : List Word) : List Word := f.set (crcAt f) (frameCrc f)

/-- What a receiver finds of a frame (R333). -/
inductive FrameCheck where
  | good
  | stomped
  | bad
  | none
  deriving DecidableEq, Repr

/-- The check of a frame; `none`: a reserved FTYPE, which is discarded. A frame of another length than its header gives is
bad. [DEDUCED: log 83] -/
def frameCheck (f : List Word) : FrameCheck :=
  if fType (fw f 0) = 0 ∨ 4 ≤ fType (fw f 0) then .none
  else
    let c := fw f (crcAt f)
    if frameLen f != some f.length then .bad
    else if c = frameCrc f then .good else if c = ~~~(frameCrc f) then .stomped else .bad

/-- A bad frame as it is forwarded: its CRC word the complement of the computed one (R333). -/
def stompFrame (f : List Word) : List Word := f.set (crcAt f) (~~~(frameCrc f))

/-- Count a received frame for its port (R333, R354). [DEDUCED: log 83] -/
def State.countFrame (s : State) (u p : Nat) : FrameCheck → State
  | .good => s.inc (Reg.OCU_P_RXFRM_CNT u p)
  | .stomped => (s.inc (Reg.OCU_P_STOMP_CNT u p)).ocuEvt u 1
  | _ => (s.inc (Reg.OCU_P_CRC_CNT u p)).ocuEvt u 0

/-! ### Sending (R355, R370) -/

/-- The frames sent by this event. -/
def State.newEvent (s : State) (u : Nat) : State := s.setOcu u { s.ocuOf u with out := [] }

/-- Put a frame on a port: nothing with TXEN = 0 (R355), nor in safe hold (R525). [DEDUCED: log 91] -/
def State.putFrame (s : State) (u p : Nat) (f : List Word) : State :=
  if bitOf (s.reg (Reg.OCU_P_CFG u p)) 0 && !s.flt.safeHold then
    s.setOcu u { s.ocuOf u with out := (s.ocuOf u).out ++ [(p, f)] }
  else s

/-- Send a frame out of a port; out of a looped one it goes by the other, with LOOP set; with both looped, not at all
(R370). -/
def State.sendFrame (s : State) (u p : Nat) (f : List Word) : State :=
  if !s.ocuLooped u p then s.putFrame u p f
  else if !s.ocuLooped u (1 - p) then s.putFrame u (1 - p) (f.set 0 (setBit (fw f 0) 27 true))
  else s

/-! ### Time at a port -/

/-- Let dt, in 1/16 ns, pass before an event of the ring, where no t0 comes before: an event beyond the next t0 has not come
yet. [DESIGN CHOICE: log 3] -/
def State.within (s : State) (dt : Nat) (go : State → State) : State :=
  let t := s.time24 + dt * 2 ^ 20
  if !s.beforeT0 t then s
  else
    let ns := t / 2 ^ 24
    let s := s.advanceTo ns
    go (if s.time24 < t then s.moveTime t else s)

/-- An event of a ring block whose island runs, is not fenced, and can hear: a looped port's frames are discarded (R370). [DESIGN CHOICE: log 3] -/
def State.ringEvent (s : State) (u dt : Nat) (go : State → State) : State :=
  if s.gated (ocuBlk u) || s.isFenced (ocuBlk u) then s else s.within dt fun s => go (s.newEvent u)

/-- The elapsed time in ps. -/
def State.nowPs (s : State) : Nat := s.time24 * 1000 / 2 ^ 24

/-- Elapsed time of the latest t0, in ps. -/
def State.t0Ps (s : State) : Nat := s.t0 * 1000

/-! ### Delays (R356–R360) -/

/-- h_p in 1/16 ns, once 8 values have been taken (R359). -/
def OcuPort.hop (x : OcuPort) : Option Int :=
  if x.hops.length < 8 then none else some ((qq (x.hops.foldl (· + ·) 0) 16).free 7)

/-- DUP, HEAD and LIST of the latest DELAY frame of a port, not older than 2 FC (R359). -/
def State.upstream (s : State) (u p : Nat) : Option (Nat × Nat × List Nat) :=
  match (s.ocuPort u p).up with
  | some (dup, head, list, ns) => if s.now ≤ ns + 62500 then some (dup, head, list) else none
  | none => none

/-- d of a direction (0 east, 1 west) with its HEAD, where valid (R359): what arrives at the port opposite to the one the
direction leaves by. -/
def State.delayOf (s : State) (u dir : Nat) : Option (Int × Nat) :=
  let p := 1 - dir
  if s.ocuHead u then some (0, s.ocuAddr u)
  else match (s.ocuPort u p).hop, s.upstream u p with
    | some h, some (dup, head, _) => some ((dup : Int) + h + (qq (s.reg (Reg.OCU_P_ASYM u p)).toInt 2).free 8, head)
    | _, _ => none

/-- A ring index in a list of addresses, as the position it stands at. -/
def listPos (l : List Nat) (a : Nat) : Option Nat := l.findIdx? (fun x => x == a)

/-- Hops to an address going out by port p, from the list of the nodes that lie there (R359). -/
def State.hopsBy (s : State) (u p a : Nat) : Option Nat :=
  match s.upstream u p with
  | some (_, _, l) => if a = s.ocuAddr u then none else (listPos l a).map (fun i => l.length - i)
  | none => none

/-- One entry of the topology table (R359, R375). -/
def State.topoWord (s : State) (u k : Nat) : Word :=
  let a := s.addrOf u k
  let e := match s.hopsBy u 0 a with
    | some h => 0x80000000 + h % 64 * 0x10000
    | none => 0
  let w := match s.hopsBy u 1 a with
    | some h => 0x40000000 + h % 64 * 0x100
    | none => 0
  wordOfNat (e + w)

/-- OCUx_RINGPOS (R359, R375). -/
def State.ringPos (s : State) (u : Nat) : Word :=
  match s.ocuHead u, s.upstream u 1, s.upstream u 0 with
  | true, some (_, _, l), _ => wordOfNat (l.length % 128 * 256)
  | true, none, _ => 0
  | false, some (_, _, e), some (_, _, w) => wordOfNat ((e.length + w.length) % 128 * 256 + e.length % 64)
  | false, some (_, _, e), none => wordOfNat (e.length % 64)
  | false, none, _ => 0

/-- The delay registers follow what the ports have learnt (R359, R375). -/
def State.ocuDelays (s : State) (u : Nat) : State :=
  let s := [0, 1].foldl (fun (s : State) p => s.setReg (Reg.OCU_P_HOP u p) (match (s.ocuPort u p).hop with
    | some h => setBit (wordOfInt h) 31 true
    | none => setBit (s.reg (Reg.OCU_P_HOP u p)) 31 false)) s
  let one (s : State) (dir a : Nat) : State := match s.delayOf u dir with
    | some (d, _) => (s.setReg a (wordOfInt d)).setTim u dir dir 1
    | none => s.setTim u dir dir 0
  let s := one (one s 0 (Reg.OCU_D_E u)) 1 (Reg.OCU_D_W u)
  let s := s.setReg (Reg.OCU_RINGPOS u) (s.ringPos u)
  (List.range 64).foldl (fun s k => s.setReg (Reg.OCU_TOPO u k) (s.topoWord u k)) s

/-- The port by which a frame toward a destination leaves (R340, R348, R359). -/
def State.portToward (s : State) (u dst : Nat) : Nat :=
  let a := s.addrOf u (s.indexOf u dst)
  match s.hopsBy u 0 a, s.hopsBy u 1 a with
  | some e, some w => if w < e then 1 else 0
  | some _, none => 0
  | none, some _ => 1
  | none, none =>
    match s.delayOf u 0, s.delayOf u 1 with
    | some _, some _ => 0
    | some _, none => 1
    | _, _ => 0

/-! ### Trains (R361) -/

/-- A − B of two 8-bit counts, signed. -/
def ccDiff (a b : Nat) : Int := let d := (a + 256 - b % 256) % 256; if d < 128 then d else (d : Int) - 256

/-- The node's own t0 of the train with this count, in ps of elapsed time. -/
def State.trainT0 (s : State) (cc : Nat) : Int :=
  (s.t0Ps : Int) + ccDiff cc (fld (s.reg Reg.CYC_COUNT) 7 0) * 31250000

/-- The ps after t0 at which position i passes, delay excluded (R361). -/
def State.slotOfs (s : State) (u i : Nat) : Nat := s.schTs u + i * s.pSlot u

/-- The ps after t0 at which mini-slot boundary m passes, delay excluded (R361). -/
def State.msOfs (s : State) (u m : Nat) : Nat := s.schTs u + s.nSlot u * s.pSlot u + m * s.pMs u

/-- 1/16 ns in ps, to the ps below. -/
def sixteenths (d : Int) : Int := floorDiv (d * 1000) 16

end Sys2Proof.Machine
end

