-- ==== Sys2Proof/Machine/Ring.lean ====
section
/-!
DEFINITION. The Ocuant rings but for their dynamic segment: the commands (R350–R352), LINK blocks, breaks and healing
(R325–R327, R369–R374), the cairn frame and mastership (R351, R362–R368), the static slots (R334–R338, R364), and the
measurement of delays (R357–R359).
-/
namespace Sys2Proof.Machine

/-! ### Commands (R350–R352) -/

/-- OCUx_CMD START (R351, R352). -/
def ocuStart (u : Nat) (m : Sys2Proof.Master) (a : Sys2Proof.CmdArg) (s : State) : State :=
  s.command m a ⟨Reg.OCU_CMD u, .priv, 1, a.arg == 0, false, s.ocuSt u == 0 && (s.ocuOf u).loaded, true⟩ fun s =>
    let s := s.setOcu u { s.ocuOf u with same := 0, diff := 0, silent := 0, heard := true }
    let cand := u == 0 && s.reg Reg.CYC_STATE == 1 && s.tmRank ≤ 3
    (s.setOcuSt u 1).setTim u 5 4 (if cand then 1 else 0)

def execOcuStart (u : Bool) (m : Sys2Proof.Master) (a : Sys2Proof.CmdArg) (s : State) :
    Host.Outcome State Fault Refusal := s.goesTo (ocuStart (b2n u) m a s)

/-- OCUx_CMD STOP (R351, R352): the head sends STOPREQ in 8 cairn frames; another node stops at its next t0. -/
def ocuStop (u : Nat) (m : Sys2Proof.Master) (a : Sys2Proof.CmdArg) (s : State) : State :=
  s.command m a ⟨Reg.OCU_CMD u, .priv, 2, a.arg == 0, true, s.ocuSt u != 0, true⟩ fun s =>
    if s.ocuHead u then
      (s.setOcu u { s.ocuOf u with stopLeft := 8 }).setState (ocuBlk u) (setBit (s.reg (Reg.OCU_STATE u)) 9 true).toNat
    else s

def execOcuStop (u : Bool) (m : Sys2Proof.Master) (a : Sys2Proof.CmdArg) (s : State) :
    Host.Outcome State Fault Refusal := s.goesTo (ocuStop (b2n u) m a s)

/-- Does the staged schedule meet R329 and R350? [DEDUCED: log 84] -/
def State.schedOk (s : State) (u : Nat) : Bool :=
  let slow := bitOf (s.reg (Reg.OCU_SCH_ID_S u)) 16
  let ts := fld (s.reg (Reg.OCU_SCH_TS_S u)) 11 0 * 10
  let len := s.reg (Reg.OCU_SCH_LEN_S u)
  let n := fld len 6 0
  let p := fld (s.reg (Reg.OCU_SCH_NODE_S u)) 5 0
  let owners := (List.range 16).flatMap (fun k => wordBytes [s.reg (Reg.OCU_SCH_OWN_S u k)])
  let used := owners.filter (fun b => b ≥ 128)
  !(u == 0 && slow)
    && ts + n * (if slow then 1000 else 250) + fld len 25 16 * (if slow then 200 else 50) ≤ 30250
    && (if slow then 400 else 100) ≤ ts && 1 ≤ n && n ≤ 64 && fld len 31 28 != 0
    && (p == 0 || (if u == 0 && s.bridges then used.isEmpty else used.all (fun b => b % 64 != 0)))

/-- OCUx_CMD LOAD_SCHED (R350). [DEDUCED: log 84] -/
def ocuLoadSched (u : Nat) (m : Sys2Proof.Master) (a : Sys2Proof.CmdArg) (s : State) : State :=
  s.command m a ⟨Reg.OCU_CMD u, .priv, 3, a.arg == 0, false, s.ocuSt u == 0, s.schedOk u⟩ fun s =>
    let s := (List.range 20).foldl (fun (s : State) i =>
      s.setReg (Reg.OCU_SCH_ID u + 4 * i) (s.reg (Reg.OCU_SCH_ID_S u + 4 * i))) s
    s.setOcu u { s.ocuOf u with loaded := true }

def execOcuLoadSched (u : Bool) (m : Sys2Proof.Master) (a : Sys2Proof.CmdArg) (s : State) :
    Host.Outcome State Fault Refusal := s.goesTo (ocuLoadSched (b2n u) m a s)

/-- A dynamic frame of the node's own, DIR and CRC still to come (R332). -/
def State.dynFrame (s : State) (u dtype dst seq : Nat) (bcast : Bool) (w2 w3 : Word) (payload : List Word) : List Word :=
  [mkH0 3 0 dtype (s.ocuAddr u) seq, wordOfNat (dst % 4096 * 0x100000 + b2n bcast * 0x80000 + payload.length * 4), w2, w3]
    ++ payload ++ [0, 0]

/-- Queue a frame of the node's own, with its class in R340: 0 RRA_RSP, 1 RRA_REQ, 2 acknowledgements, 3 MBOX. -/
def State.queueOwn (s : State) (u prio : Nat) (f : List Word) : State :=
  s.setOcu u { s.ocuOf u with own := (s.ocuOf u).own ++ [(prio, f)] }

/-- The length in MBTX_CTL; one that is no multiple of 8, or above 512, acts as 0 (R48, R354). [DEDUCED: log 85] -/
def State.mbLen (s : State) (u : Nat) : Nat :=
  let l := fld (s.reg (Reg.OCU_MBTX_CTL u)) 25 16
  if l % 8 = 0 ∧ l ≤ 512 then l else 0

/-- OCUx_CMD MB_SEND (R345, R352). -/
def ocuMbSend (u : Nat) (m : Sys2Proof.Master) (a : Sys2Proof.CmdArg) (s : State) : State :=
  let free := !bitOf (s.reg (Reg.OCU_MBTX_STAT u)) 8
  s.command m a ⟨Reg.OCU_CMD u, .priv, 5, a.arg == 0, false, s.ocuSt u == 2 && free, true⟩ fun s =>
    let w := s.reg (Reg.OCU_MBTX_CTL u)
    let dst := fld w 11 0
    let data := (List.range (s.mbLen u / 4)).map (fun i => s.reg (Reg.OCU_MBTX_DATA u i))
    let f := s.dynFrame u 3 dst (Config.dynSeq 3 dst).toNat (bitOf w 15) (wordOfNat (fld w 14 12)) 0 data
    let s := (s.queueOwn u 3 f).setReg (Reg.OCU_MBTX_STAT u) 0x100
    s.setOcu u { s.ocuOf u with mb := some (dst, bitOf w 15, s.now) }

def execOcuMbSend (u : Bool) (m : Sys2Proof.Master) (a : Sys2Proof.CmdArg) (s : State) :
    Host.Outcome State Fault Refusal := s.goesTo (ocuMbSend (b2n u) m a s)

/-- OCUx_CMD MB_RELEASE (R345, R352). -/
def ocuMbRelease (u : Nat) (m : Sys2Proof.Master) (a : Sys2Proof.CmdArg) (s : State) : State :=
  let r := Reg.OCU_MBRX_STAT u (a.arg.toNat % 8)
  s.command m a ⟨Reg.OCU_CMD u, .priv, 6, a.arg.toNat < 8, false, bitOf (s.reg r) 31, true⟩ fun s =>
    s.setReg r (setBit (s.reg r) 31 false)

def execOcuMbRelease (u : Bool) (m : Sys2Proof.Master) (a : Sys2Proof.CmdArg) (s : State) :
    Host.Outcome State Fault Refusal := s.goesTo (ocuMbRelease (b2n u) m a s)

/-- OCUx_CMD BULK_SEND (R346, R352); a length R354 does not allow is REJ_CODE. [DEDUCED: log 85] -/
def ocuBulkSend (u : Nat) (m : Sys2Proof.Master) (a : Sys2Proof.CmdArg) (s : State) : State :=
  let len := (s.reg (Reg.OCU_BTX_LEN u)).toNat
  let free := fld (s.reg (Reg.OCU_BTX_STAT u)) 1 0 != 1
  s.command m a ⟨Reg.OCU_CMD u, .priv, 7, a.arg == 0, false, s.ocuSt u == 2 && free,
      len % 8 == 0 && 8 ≤ len && len ≤ 0x1000000⟩ fun s =>
    let d := s.reg (Reg.OCU_BTX_DST u)
    let src := fld (s.reg (Reg.OCU_BTX_SRC_HI u)) 7 0 * 2 ^ 32 + (s.reg (Reg.OCU_BTX_SRC_LO u)).toNat / 8 * 8
    let s := (s.setReg (Reg.OCU_BTX_STAT u) 1).setReg (Reg.OCU_BTX_ACKED u) 0
    s.setOcu u { s.ocuOf u with bulk := some ⟨fld d 11 0, fld d 18 16, src, len, 0, 0, 0, s.now⟩ }

def execOcuBulkSend (u : Bool) (m : Sys2Proof.Master) (a : Sys2Proof.CmdArg) (s : State) :
    Host.Outcome State Fault Refusal := s.goesTo (ocuBulkSend (b2n u) m a s)

/-- A message ends with a result (R345): 0 OK, 1 FULL, 2 NOBOX, 3 TIMEOUT. -/
def State.mbEnd (s : State) (u res : Nat) : State :=
  let s := s.setOcu u { s.ocuOf u with mb := none, own := (s.ocuOf u).own.filter (fun f => f.1 != 3) }
  (s.setReg (Reg.OCU_MBTX_STAT u) (wordOfNat res)).ocuEvt u 8

/-- A bulk transfer ends (R346): 0 done, 2 timeout, 3 by the receiver, with its STATUS. [DEDUCED: log 85] -/
def State.bulkEnd (s : State) (u st rcv : Nat) : State :=
  ((s.setOcu u { s.ocuOf u with bulk := none }).setReg (Reg.OCU_BTX_STAT u) (wordOfNat (rcv * 16 + st))).ocuEvt u 9

/-- OCUx_CMD ABORT (R68, R352). -/
def ocuAbort (u : Nat) (m : Sys2Proof.Master) (a : Sys2Proof.CmdArg) (s : State) : State :=
  s.abort m a (Reg.OCU_CMD u) .priv fun _ s =>
    let s := (s.setOcu u { s.ocuOf u with stopLeft := 0 }).setState (ocuBlk u)
      (setBit (s.reg (Reg.OCU_STATE u)) 9 false).toNat
    let s := if (s.ocuOf u).mb.isSome then s.mbEnd u 3 else s
    if (s.ocuOf u).bulk.isSome then s.bulkEnd u 2 0 else s

def execOcuAbort (u : Bool) (m : Sys2Proof.Master) (a : Sys2Proof.CmdArg) (s : State) :
    Host.Outcome State Fault Refusal := s.goesTo (ocuAbort (b2n u) m a s)

/-- OCUx_CMD CLEAR_STATS (R352, R354, R375). -/
def State.ocuClearStats (s : State) (u : Nat) : State :=
  let port (p : Nat) : List Nat := [Reg.OCU_P_CRC_CNT u p, Reg.OCU_P_STOMP_CNT u p, Reg.OCU_P_BLKERR_CNT u p,
    Reg.OCU_P_RXFRM_CNT u p, Reg.OCU_P_LOOP_CNT u p]
  s.zeroRegs ([Reg.OCU_OWNCONF_CNT u, Reg.OCU_MBDROP_CNT u, Reg.OCU_ORPHAN_CNT u, Reg.OCU_NODEST_CNT u,
    Reg.OCU_BRDROP_CNT u, Reg.OCU_DYNHELD_CNT u, Reg.OCU_RRA_REQ_CNT u, Reg.OCU_RRA_TMO_CNT u, Reg.OCU_RRA_ERR_CNT u,
    Reg.OCU_RRA_SRV_CNT u, Reg.OCU_RRA_DUP_CNT u, Reg.OCU_WINERR_CNT u, Reg.OCU_GUARD_CNT u, Reg.OCU_GUARDCOL_CNT u,
    Reg.OCU_COLL_CNT u, Reg.OCU_JUMPREF_CNT u, Reg.OCU_TAKE_CNT u] ++ port 0 ++ port 1)

/-! ### Links (R325–R327, R355) -/

/-- The seven bytes of the LINK block a port sends (R327, R370), byte 1 in [7:0]. -/
def State.linkBlock (s : State) (u p : Nat) : BitVec 56 :=
  let w := s.ocuAddr u + b2n (s.ocuLooped u p) * 0x1000 + b2n (bitOf (s.reg (Reg.OCU_P_STAT u p)) 0) * 0x2000
    + b2n (s.ocuHead u) * 0x4000 + b2n (s.ocuSt u == 2) * 0x8000
  let b := w + s.schedId u * 2 ^ 16 + fld (s.reg Reg.CYC_COUNT) 7 0 * 2 ^ 32
  BitVec.ofNat 56 (b + crc8 ((List.range 5).map (fun i => b / 2 ^ (8 * i) % 256)) * 2 ^ 40)

/-- PEERV and LINKUP as they stand (R355): the fall of LINKUP is LINKDN, and ends the run of a good link (R373). -/
def State.linkStat (s : State) (u p : Nat) : State :=
  let w := s.reg (Reg.OCU_P_STAT u p)
  let x := s.ocuPort u p
  let v := match x.link with
    | some t => decide (s.now ≤ t + 31250)
    | none => false
  let up := bitOf w 0 && v
  let s := s.setReg (Reg.OCU_P_STAT u p) (setBit (setBit w 28 v) 1 up)
  let s := if up then s else s.setOcuPort u p { x with good := none }
  if bitOf w 1 && !up then s.ocuEvt u 3 else s

/-- LINK_BLOCK_RECEIVED (R327, R355, R369, R373). [DESIGN CHOICE: log 142] -/
def linkBlockReceived (u p dt : Nat) (b : BitVec 56) (s : State) : State :=
  s.ringEvent u dt fun s =>
    let byte (i : Nat) : Nat := b.toNat / 2 ^ (8 * (i - 1)) % 256
    if !bitOf (s.reg (Reg.OCU_P_STAT u p)) 0 then s
    else if crc8 [byte 1, byte 2, byte 3, byte 4, byte 5] != byte 6 then s.inc (Reg.OCU_P_BLKERR_CNT u p)
    else
      let h := byte 1 + byte 2 * 256
      let rxok := h / 0x2000 % 2 == 1
      let w := s.reg (Reg.OCU_P_STAT u p)
      let s := s.setReg (Reg.OCU_P_STAT u p) (setBit (setFld w 27 16 (h % 4096)) 3 (h / 0x8000 % 2 == 1))
      let x := s.ocuPort u p
      let same := rxok && h % 4096 == fld (s.reg (Reg.OCU_P_LOOP u p)) 27 16
      let x := { x with link := some s.now, zero := if rxok then 0 else x.zero + 1, peerLoop := h / 0x1000 % 2 == 1,
                        good := if same then (match x.good with
                          | some t => some t
                          | none => some s.now) else none }
      (s.setOcuPort u p x).linkStat u p

def execLinkBlockReceived (u p : Bool) (dt : BitVec 32) (b : BitVec 56) (s : State) :
    Host.Outcome State Fault Refusal := s.goesTo (linkBlockReceived (b2n u) (b2n p) dt.toNat b s)

/-- BLOCK_LOCK_ACQUIRED (R325). -/
def blockLockAcquired (u p : Nat) (s : State) : State :=
  s.ringEvent u 0 fun s =>
    (s.setReg (Reg.OCU_P_STAT u p) (setBit (s.reg (Reg.OCU_P_STAT u p)) 0 true)).linkStat u p

def execBlockLockAcquired (u p : Bool) (s : State) : Host.Outcome State Fault Refusal :=
  s.goesTo (blockLockAcquired (b2n u) (b2n p) s)

/-- BLOCK_LOCK_LOST (R325, R359): 16 invalid sync headers, each a block error; h becomes invalid. -/
def blockLockLost (u p : Nat) (s : State) : State :=
  s.ringEvent u 0 fun s =>
    if !bitOf (s.reg (Reg.OCU_P_STAT u p)) 0 then s
    else
      let s := s.addSat (Reg.OCU_P_BLKERR_CNT u p) 16
      let s := s.setOcuPort u p { s.ocuPort u p with hops := [], reqs := [] }
      let s := s.setReg (Reg.OCU_P_STAT u p) (setBit (s.reg (Reg.OCU_P_STAT u p)) 0 false)
      (s.linkStat u p).ocuDelays u

def execBlockLockLost (u p : Bool) (s : State) : Host.Outcome State Fault Refusal :=
  s.goesTo (blockLockLost (b2n u) (b2n p) s)

/-! ### Breaks and healing (R369–R374) -/

/-- The condition of R369 that holds at a port: 1 to 4, 0 none. -/
def State.breakCause (s : State) (u p : Nat) : Nat :=
  let w := s.reg (Reg.OCU_P_STAT u p)
  let x := s.ocuPort u p
  if !bitOf w 0 then 1 else if !bitOf w 28 then 2 else if 2 ≤ x.zero then 3 else if x.peerLoop then 4 else 0

/-- LINK_BREAK (R369, R374): the port is looped back from the next t0; its bucket is charged, and an overflow retires it. [DEDUCED: log 86] -/
def linkBreak (u p dt : Nat) (s : State) : State :=
  s.ringEvent u dt fun s =>
    let s := s.linkStat u p
    let c := s.breakCause u p
    let x := s.ocuPort u p
    if s.ocuSt u = 0 ∨ c = 0 ∨ s.ocuLooped u p ∨ x.pend ≠ 0 then s
    else
      let l := setFld (s.reg (Reg.OCU_P_LOOP u p)) 27 16 (fld (s.reg (Reg.OCU_P_STAT u p)) 27 16)
      let s := (s.setOcuPort u p { x with pend := c, good := none }).setReg (Reg.OCU_P_LOOP u p) (setFld l 6 4 c)
      let r := s.finding 5 (2 * u + p) 1 (ocuBlk u) (s.reg (Reg.OCU_EVT u))
      let s := r.1
      if r.2 then
        (s.orReg (Reg.OCU_P_LOOP u p) 2).faultEvent 2 (ocuBlk u) 5 (2 * u + p) (s.reg (Reg.OCU_EVT u))
      else s

def execLinkBreak (u p : Bool) (dt : BitVec 32) (s : State) : Host.Outcome State Fault Refusal :=
  s.goesTo (linkBreak (b2n u) (b2n p) dt.toNat s)

/-- A port that has declared a break enters the looped state at t0 (R369, R370, R374). [DEDUCED: log 86] -/
def State.loopAtT0 (s : State) (u p : Nat) : State :=
  let x := s.ocuPort u p
  if x.pend = 0 then s
  else
    let s := ((s.setOcuPort u p { x with pend := 0, up := none }).orReg (Reg.OCU_P_LOOP u p) 1).orReg (Reg.OCU_P_STAT u p) 4
    ((s.inc (Reg.OCU_P_LOOP_CNT u p)).ocuEvt u 14).pubReg (ocuBlk u) (1 + p) (Reg.OCU_P_LOOP u p)

/-- RESTORE in FC; below 16 it acts as its reset value (R375, R48). -/
def State.restoreFc (s : State) (u : Nat) : Nat := let r := fld (s.reg (Reg.OCU_TIM_CFG u)) 15 0; if r < 16 then 0x400 else r

/-- PORT_RESTORE (R373). [DEDUCED: log 86] -/
def portRestore (u p : Nat) (s : State) : State :=
  s.ringEvent u 0 fun s =>
    let s := s.linkStat u p
    let x := s.ocuPort u p
    let l := s.reg (Reg.OCU_P_LOOP u p)
    let long := match x.good with
      | some t => decide (t + s.restoreFc u * 31250 ≤ s.now)
      | none => false
    if bitOf l 0 && !bitOf l 1 && long && s.ocuLinkup u p && s.hasT0 && fld (s.reg Reg.CYC_COUNT) 7 0 == 0 then
      let s := (s.setOcuPort u p { x with hops := [], reqs := [], up := none }).setRegs [(Reg.OCU_P_LOOP u p, setBit l 0 false),
        (Reg.OCU_P_STAT u p, setBit (s.reg (Reg.OCU_P_STAT u p)) 2 false)]
      ((s.ocuEvt u 15).pubReg (ocuBlk u) (1 + p) (Reg.OCU_P_LOOP u p)).ocuDelays u
    else s

def execPortRestore (u p : Bool) (s : State) : Host.Outcome State Fault Refusal :=
  s.goesTo (portRestore (b2n u) (b2n p) s)

/-! ### The cairn frame (R330, R351, R362, R363) -/

/-- The cairn frame the head emits in a direction, at this t0 (R330, R368). -/
def State.cairnFrame (s : State) (u dir : Nat) : List Word :=
  let rank := if u = 0 then s.tmRank else 0
  let w5 := s.schedId u * 0x10000 + rank * 0x2000 + b2n (rank != 0) * 0x1000
    + b2n (bitOf (s.reg Reg.TB_STAT) 1) * 0x800 + b2n (bitOf (s.reg (Reg.OCU_STATE u)) 9) * 0x400
  withCrc [mkH0 1 dir 0 (s.ocuAddr u) (s.reg Reg.CYC_COUNT).toNat, s.reg Reg.CYC_COUNT, s.reg Reg.TB_TIME_LO,
    s.reg Reg.TB_FRAC, s.reg Reg.TB_TIME_HI, wordOfNat w5, 0, 0]

/-- Emit the cairn frame on both ports (R334). -/
def State.emitCairn (s : State) (u : Nat) : State :=
  (s.sendFrame u 0 (s.cairnFrame u 0)).sendFrame u 1 (s.cairnFrame u 1)

/-- The block becomes head and emits; its own cairn frame carries its SCHED_ID, so STARTING ends (R351, R365). [DEDUCED: log 89] -/
def State.becomeHead (s : State) (u : Nat) : State :=
  let s := s.setHead u true 3
  let s := if s.ocuSt u = 1 then s.setOcuSt u 2 else s
  (s.emitCairn u).ocuDelays u

/-- A block yields (R366). -/
def State.ocuYields (s : State) (u : Nat) : State :=
  let s := (s.setHead u false 0).setTim u 6 6 1
  (s.ocuEvt u 17).faultEvent 2 (ocuBlk u) 0 0 (s.reg (Reg.OCU_EVT u))

/-- The time base's own reading, in 2^−24 ns. -/
def State.tb24 (s : State) : Nat := s.tbFull * 2 ^ 24 + fld (s.reg Reg.TB_FRAC) 31 8

/-- A number of 2^−24 ns as a signed difference of 56 bits. -/
def wrap56 (x : Int) : Int := let y := x % 2 ^ 56; if y < 2 ^ 55 then y else y - 2 ^ 56

/-- T0NS.T0FRAC of a cairn frame (R330). -/
def cairnT0 (f : List Word) : Nat := (fw f 2).toNat * 2 ^ 24 + fld (fw f 3) 31 8

/-- ε of a cairn frame that arrives now with delay d (R362). -/
def State.offsetOf (s : State) (f : List Word) (d : Int) : Int := wrap56 ((s.tb24 : Int) - d * 2 ^ 20 - cairnT0 f)

/-- The ns of elapsed time at which the time base will read a 32-bit instant near to now. -/
def State.elapsedOf (s : State) (ns : Word) : Nat := ((s.now : Int) + (ns - s.reg Reg.TB_TIME_LO).toInt).toNat

/-- What a node notes of the copy it takes (R362, R366, R368). [DEDUCED: log 87] -/
def State.noteCopy (s : State) (f : List Word) (dir : Nat) (eps : Int) : State :=
  let q := s.ocuOf 0
  let s := s.setOcu 0 { q with taken := some (fw f 1), eps := eps, rem0 := s.tb.remain }
  let o := satInt 32 ((qq eps (2 ^ 20)).free 9)
  let s := s.setReg (Reg.OCU_OFFSET 0) (wordOfInt o.1)
  let s := s.setReg (Reg.OCU_HEAD 0) (wordOfNat (fSrc (fw f 0) + fld (fw f 5) 15 13 * 0x1000 + fld (fw f 5) 12 12 * 0x8000))
  (((s.setTim 0 7 7 (fld (fw f 5) 11 11)).setTim 0 2 2 dir).setTim 0 3 3 1)

/-- ACQUIRE (R92, R363, R367): three successive frames with consecutive counts, at 31,250 ns steps. -/
def State.cairnAcquire (s : State) (f : List Word) (dir : Nat) (d : Int) : State :=
  let w := fw f 1
  let c := s.cyc
  let dev : Int := (s.time24 : Int) - ((s.ocuOf 0).acq : Int) - (31250 * c.seen * 2 ^ 24 : Nat)
  let inTime := decide (dev.natAbs ≤ 40 * 2 ^ 24)
  if c.seen = 0 ∨ !inTime ∨ w ≠ c.count + 1 then
    let s := if c.seen ≠ 0 ∧ !inTime then (s.inc (Reg.OCU_WINERR_CNT 0)).ocuEvt 0 22 else s
    { s.setOcu 0 { s.ocuOf 0 with acq := s.time24 } with cyc := { s.cyc with seen := 1, count := w } }
  else if c.seen = 1 then { s with cyc := { c with seen := 2, count := w } }
  else
    let t := (fw f 4).toNat * 2 ^ 56 + cairnT0 f + (d * 2 ^ 20).toNat
    let s := (s.setRemain 0).loadTime t
    let k := (t - ((fw f 4).toNat * 2 ^ 56 + cairnT0 f)) / (31250 * 2 ^ 24)
    let s := (s.noteCopy f dir 0).setReg Reg.CYC_COUNT (w + wordOfNat k)
    let next := s.elapsedOf (fw f 2 + wordOfNat (31250 * (k + 1)))
    let s := { s with cyc := { s.cyc with begun := false, next := next, seen := 0, missed := 0, lost := false } }
    s.setState 9 3

/-- The window of a cairn frame in ns, but for its bound by TB_JUMP_LIM (R363). [DEDUCED: log 88] -/
def State.cairnWindow (s : State) : Nat := if s.reg Reg.CYC_STATE = 4 then 40 + 8 * s.cyc.missed else 40

/-- A copy is taken (R92, R362, R382, R386). [DEDUCED: log 87] -/
def State.cairnTake (s : State) (f : List Word) (dir : Nat) (eps : Int) : State :=
  let delta := ccDiff (fCc (fw f 0)) (fld (s.reg Reg.CYC_COUNT) 7 0)
  let own := ((s.tbFull : Int) - s.phase + delta * 31250).toNat
  let s := ((s.servo eps).eraCheck own (fw f 2) (fw f 4)).noteCopy f dir eps
  let next := s.elapsedOf (fw f 2 + wordOfInt (31250 * (1 - delta)))
  let s := { s with cyc := { s.cyc with next := if s.now < next then next else s.cyc.next, missed := 0, lost := false } }
  if s.reg Reg.CYC_STATE = 4 then (s.setReg Reg.TB_STAT (setBit (s.reg Reg.TB_STAT) 0 false)).setState 9 3 else s

/-- A cairn copy in LOCKED or HOLDOVER (R362, R363): the first takeable copy of a train is taken; a second one whose
offset differs by more than 10 ns is a discrepancy; a copy outside its window only by its offset is a refused jump. -/
def State.cairnTrack (s : State) (f : List Word) (dir : Nat) (d : Int) : State :=
  let eps := s.offsetOf f d
  let t0 : Int := (s.t0 : Int) + ccDiff (fCc (fw f 0)) (fld (s.reg Reg.CYC_COUNT) 7 0) * 31250
  let dev : Int := (s.time24 : Int) - t0 * 2 ^ 24 - d * 2 ^ 20
  let lim := s.jumpLim * 2 ^ 24
  let wide (s : State) : State := (s.inc (Reg.OCU_WINERR_CNT 0)).ocuEvt 0 22
  if dev.natAbs > s.cairnWindow * 2 ^ 24 then wide s
  else if dev.natAbs > lim ∨ eps.natAbs > lim then
    let s := if dev.natAbs > lim then wide s else s
    ((s.inc (Reg.OCU_JUMPREF_CNT 0)).ocuEvt 0 19).tbRefuse eps
  else if (s.ocuOf 0).taken = some (fw f 1) then
    if (eps - (s.ocuOf 0).eps).natAbs > 10 * 2 ^ 24 then s.ocuEvt 0 21 else s
  else s.cairnTake f dir eps

/-- The timing a good cairn frame gives OCUB's node (R362, R367): with LOOP = 0, from the head its d refers to. [DEDUCED: log 88] -/
def State.cairnTiming (s : State) (p : Nat) (f : List Word) : State :=
  let dir := 1 - p
  let st := s.reg Reg.CYC_STATE
  match s.delayOf 0 dir with
  | some (d, head) =>
    if fLoop (fw f 0) ∨ fSrc (fw f 0) ≠ head then s
    else if st = 2 then
      let better := match s.delayOf 0 (1 - dir) with
        | some (e, _) => decide (e < d) || (decide (e = d) && dir == 1)
        | none => false
      if better then s else s.cairnAcquire f dir d
    else if (st = 3 ∨ st = 4) ∧ s.hasT0 then s.cairnTrack f dir d
    else s
  | none => s

/-- The SCHED_ID of a train is judged once (R351): three in succession with another lead to MISMATCH, three with the active
one back to RUN; STARTING ends with one while CYC is MASTER or LOCKED. [DEDUCED: log 87] -/
def State.cairnSched (s : State) (u : Nat) (f : List Word) : State :=
  let q := s.ocuOf u
  let mine := fld (fw f 5) 31 16 == s.schedId u
  let s := if q.judged = some (fw f 1) then s
    else s.setOcu u { q with judged := some (fw f 1), same := if mine then q.same + 1 else 0,
                             diff := if mine then 0 else q.diff + 1 }
  let q := s.ocuOf u
  let st := s.ocuSt u
  let cyc := s.reg Reg.CYC_STATE
  if (st = 1 ∨ st = 2) ∧ 3 ≤ q.diff then (s.setOcuSt u 3).ocuEvt u 2
  else if st = 3 ∧ 3 ≤ q.same then s.setOcuSt u 2
  else if st = 1 ∧ mine ∧ u = 0 ∧ (cyc = 1 ∨ cyc = 3) then s.setOcuSt u 2
  else s

/-- A good cairn frame at a node that is not its head (R351, R362, R365, R366). -/
def State.cairnHeard (s : State) (u p : Nat) (f : List Word) : State :=
  let q := s.ocuOf u
  let s := s.setOcu u { q with heard := true, stopAt := q.stopAt || bitOf (fw f 5) 10 }
  if s.ocuSt u = 0 then s
  else
    let lo := 8 * fDir (fw f 0)
    let info := setFld (s.reg (Reg.OCU_CAIRN_INFO u)) (lo + 7) lo (fld (fw f 3) 7 0)
    let s := s.setReg (Reg.OCU_CAIRN_INFO u) (setFld info 31 16 (fld (fw f 5) 31 16))
    let cand := fld (s.reg (Reg.OCU_TIM_STAT u)) 5 4
    let s := if cand = 1 ∨ cand = 2 then s.ocuYields u else s
    let s := if u = 0 then s.cairnTiming p f else s
    s.cairnSched u f

/-- Does the other emitter win a collision: lower RANK, at equal rank the lower address (R366)? -/
def State.otherWins (s : State) (u : Nat) (f : List Word) : Bool :=
  let r := fld (fw f 5) 15 13
  let mine := if u = 0 then s.tmRank else 0
  r < mine || (r == mine && fSrc (fw f 0) < s.ocuAddr u)

/-- A cairn frame with HOPS incremented (R330); its CRC does not cover HOPS. -/
def moreHops (f : List Word) : List Word := f.set 3 (setFld (fw f 3) 7 0 (min (fld (fw f 3) 7 0 + 1) 255))

/-- The return of the head's own cairn frame gives DLOOP (R360, R375). -/
def State.cairnReturned (s : State) (u : Nat) (f : List Word) : State :=
  let t0 : Int := (s.t0 : Int) + ccDiff (fCc (fw f 0)) (fld (s.reg Reg.CYC_COUNT) 7 0) * 31250
  let loop := floorDiv ((s.time24 : Int) - t0 * 2 ^ 24) (2 ^ 20)
  let s := s.setReg (Reg.OCU_DLOOP u) (wordOfInt loop)
  match (s.ocuPort u 1).hop, s.upstream u 1 with
  | some h, some (dup, _, _) =>
    let d := (dup : Int) + h + (qq (s.reg (Reg.OCU_P_ASYM u 1)).toInt 2).free 8
    if (loop - d).natAbs > 80 then s.ocuEvt u 21 else s
  | _, _ => s

/-- CAIRN_FRAME_RECEIVED (R330, R333, R334, R362, R366). [DESIGN CHOICE: log 142] -/
def cairnFrameReceived (u p dt : Nat) (f : List Word) (s : State) : State :=
  s.ringEvent u dt fun s =>
    if s.ocuLooped u p ∨ fType (fw f 0) ≠ 1 then s
    else
      let c := frameCheck f
      let s := s.countFrame u p c
      match c with
      | .good =>
        if s.ocuHead u then
          if s.isOwn u (fSrc (fw f 0)) then s.cairnReturned u f
          else
            let s := (s.inc (Reg.OCU_COLL_CNT u)).ocuEvt u 16
            if u = 0 then s.setOcu u { s.ocuOf u with collide := some (!s.otherWins u f) } else s
        else (s.sendFrame u (1 - p) (moreHops f)).cairnHeard u p f
      | .stomped => s.sendFrame u (1 - p) (moreHops f)
      | _ => s.sendFrame u (1 - p) (moreHops (stompFrame f))

def execCairnFrameReceived (u p : Bool) (dt : BitVec 32) (f : List (BitVec 32)) (s : State) :
    Host.Outcome State Fault Refusal := s.goesTo (cairnFrameReceived (b2n u) (b2n p) dt.toNat f s)

/-- HEAD_EMISSION_START (R365): after three silent FC and TM_RANK × 10 µs, at a t0. [DEDUCED: log 89] -/
def headEmissionStart (s : State) : State :=
  s.ringEvent 0 0 fun s =>
    let cand := fld (s.reg (Reg.OCU_TIM_STAT 0)) 5 4
    let q := s.ocuOf 0
    if (cand = 1 ∨ cand = 2) ∧ 3 ≤ q.silent ∧ !q.heard ∧ s.hasT0 ∧ s.reg Reg.CYC_STATE = 1 ∧ s.now = s.t0
        ∧ q.silentAt + s.tmRank * 10000 ≤ s.now ∧ !s.ocuYield 0 then s.becomeHead 0
    else s

def execHeadEmissionStart (s : State) : Host.Outcome State Fault Refusal := s.goesTo (headEmissionStart s)

/-- TAKEOVER (R92, R368): a backup in HOLDOVER that has heard nothing for TM_RANK + 1 FC becomes time master, at a t0. [DEDUCED: log 89] -/
def takeover (s : State) : State :=
  s.ringEvent 0 0 fun s =>
    let q := s.ocuOf 0
    let r := s.tmRank
    if 1 ≤ r ∧ r ≤ 3 ∧ s.reg Reg.CYC_STATE = 4 ∧ r + 1 ≤ q.silent ∧ !q.heard ∧ s.hasT0 ∧ s.now = s.t0 ∧ s.ocuSt 0 ≠ 0
        ∧ !s.ocuYield 0 then
      let s := (s.setReg Reg.TB_STAT (setBit (s.reg Reg.TB_STAT) 0 false)).setState 9 1
      ((s.inc (Reg.OCU_TAKE_CNT 0)).ocuEvt 0 18).becomeHead 0
    else s

def execTakeover (s : State) : Host.Outcome State Fault Refusal := s.goesTo (takeover s)

/-! ### Static slots (R334–R338, R364) -/

/-- Take a static frame (R338, R363): good, from the owner the schedule names, with a newer CC, inside its window where
LOOP = 0. [DEDUCED: log 90] -/
def State.slotTake (s : State) (u p : Nat) (f : List Word) : State :=
  let h := fw f 0
  let i := fSlot h
  let st := s.ocuSt u
  let isOwner := match s.ownerOf u i with
    | some k => s.addrOf u k == fSrc h
    | none => false
  if !(st == 1 || st == 2) ∨ !s.hasT0 ∨ !isOwner then s
  else
    let newer : Bool := match smFind (s.ocuOf u).lastCc i with
      | some c => decide (0 < ccDiff (fCc h) c)
      | none => true
    let dev : Option Int := (s.delayOf u (1 - p)).map (fun d =>
      let due := (s.t0Ps : Int) + s.slotOfs u i + sixteenths d.1
      if fReins h then (((s.nowPs : Int) - due + 15625000) % 31250000) - 15625000
      else (s.nowPs : Int) - (due + ccDiff (fCc h) (fld (s.reg Reg.CYC_COUNT) 7 0) * 31250000))
    match fLoop h, dev with
    | false, none => s
    | false, some x => if x.natAbs > 40000 then (s.inc (Reg.OCU_WINERR_CNT u)).ocuEvt u 22 else if newer then go s i h else s
    | true, _ => if newer then go s i h else s
where
  go (s : State) (i : Nat) (h : Word) : State :=
    let s := s.setOcu u { s.ocuOf u with lastCc := smPut (s.ocuOf u).lastCc i (fCc h) }
    let valid := (fw f 2).toNat * 2 ^ 32 + (fw f 1).toNat
    (List.range 64).foldl (fun s k =>
      if valid / 2 ^ k % 2 = 1 then s.publish ⟨0x6000 + 0x1000 * u + i * 64 + k, none, fw f (3 + k), false, true, none⟩ else s) s

/-- SLOT_FRAME_RECEIVED (R333–R335, R338, R371). [DEDUCED: log 90; DESIGN CHOICE: log 144] -/
def slotFrameReceived (u p dt : Nat) (f : List Word) (s : State) : State :=
  s.ringEvent u dt fun s =>
    if s.ocuLooped u p ∨ fType (fw f 0) ≠ 2 then s
    else
      let c := frameCheck f
      let s := s.countFrame u p c
      let h := fw f 0
      let i := fSlot h
      match c with
      | .good =>
        if s.isOwn u (fSrc h) then s
        else if s.ocuHead u && fReins h then
          let s := if fLoop h then s else (s.inc (Reg.OCU_ORPHAN_CNT u)).ocuEvt u 6
          s.slotTake u p f
        else if s.ownsSlot u i then (s.inc (Reg.OCU_OWNCONF_CNT u)).ocuEvt u 12
        else if s.ocuHead u then
          let from_ := s.nowPs + 34 * s.tBlk u + 100000
          let s := s.setOcu u { s.ocuOf u with hold := smPut (s.ocuOf u).hold (2 * i + (1 - p)) (f.set 0 (setBit h 26 true), from_) }
          s.slotTake u p f
        else (s.sendFrame u (1 - p) f).slotTake u p f
      | .stomped => s.sendFrame u (1 - p) f
      | _ => s.sendFrame u (1 - p) (stompFrame f)

def execSlotFrameReceived (u p : Bool) (dt : BitVec 32) (f : List (BitVec 32)) (s : State) :
    Host.Outcome State Fault Refusal := s.goesTo (slotFrameReceived (b2n u) (b2n p) dt.toNat f s)

/-- The words of a position now: VALID and payload (R336); a word without a delivery since its route was written carries 0. -/
def State.slotWords (s : State) (u i : Nat) : List Word :=
  let c (k : Nat) : ConsRec := s.consumer (0x6000 + 0x1000 * u + i * 64 + k)
  let v (lo : Nat) : Word := wordOfNat ((List.range 32).foldl (fun n k => n + b2n (c (lo + k)).valid * 2 ^ k) 0)
  v 0 :: v 32 :: (List.range 64).map (fun k => if (c k).live then (c k).val else 0)

/-- The snapshot of a position for a train, taken now where it has not been (R336): one before T_RDY of the train's FC is
LATE_FILL (R338). -/
def State.slotSnap (s : State) (u i cc : Nat) : State :=
  match smFind (s.ocuOf u).snaps i with
  | some (c, _) => if c = cc then s else go s
  | none => go s
where
  go (s : State) : State :=
    let s := s.setOcu u { s.ocuOf u with snaps := smPut (s.ocuOf u).snaps i (cc, s.slotWords u i) }
    if (s.nowPs : Int) < s.trainT0 cc + 3500000 then s.raiseEvt 9 Reg.CYC_EVT none 4 else s

/-- The offset p the node predicts, in 2^−24 ns (R364): 0 for a time master. -/
def State.predicted (s : State) : Int :=
  if s.reg Reg.CYC_STATE = 1 then 0 else (s.ocuOf 0).eps - ((s.ocuOf 0).rem0 - s.tb.remain)

/-- May the node fill (R364)? -/
def State.mayFill (s : State) (u : Nat) : Bool :=
  let st := s.reg Reg.CYC_STATE
  (st == 1 || st == 3 || (st == 4 && s.cyc.missed ≤ fld (s.reg (Reg.OCU_TIM_CFG u)) 23 16))
    && decide (s.predicted.natAbs ≤ 20 * 2 ^ 24)

/-- A position is left empty (R364). [DEDUCED: log 90] -/
def State.leaveEmpty (s : State) (u : Nat) : State :=
  let first := !bitOf (s.reg (Reg.OCU_TIM_STAT u)) 8
  let s := (s.inc (Reg.OCU_GUARD_CNT u)).setTim u 8 8 1
  if first then s.ocuEvt u 20 else s

/-- Bring the part to an instant in ps of elapsed time, if it stands before it. [DEDUCED: log 90] -/
def State.advancePs (s : State) (ps : Int) (go : State → State) : State :=
  s.within (((ps - s.nowPs) * 16 + 999) / 1000).toNat go

/-- SLOT_FILL (R336, R364): an owned position passes in a train; `late` is how long after the expected instant, in
1/16 ns, the output is still taken by a forwarded frame, and `collide` that a forwarded frame begins to arrive while the
node sends. [DEDUCED: log 91] -/
def slotFill (u i dir : Nat) (prev : Bool) (late : Nat) (collide : Bool) (s : State) : State :=
  s.ringEvent u 0 fun s =>
    let cc := (fld (s.reg Reg.CYC_COUNT) 7 0 + 256 - b2n prev) % 256
    if !s.ownsSlot u i ∨ s.ocuSt u ≠ 2 ∨ s.ocuYield u ∨ !s.hasT0 then s
    else match s.delayOf u dir with
      | none => s.leaveEmpty u
      | some (d, _) =>
        s.advancePs (s.trainT0 cc + s.slotOfs u i + sixteenths d) fun s =>
          let s := s.slotSnap u i cc
          if !s.mayFill u ∨ late > 320 then s.leaveEmpty u
          else
            let s := s.setTim u 8 8 0
            s.within late fun s =>
              if collide then s.inc (Reg.OCU_GUARDCOL_CNT u)
              else match smFind (s.ocuOf u).snaps i with
                | some (_, ws) => s.sendFrame u dir (withCrc (mkH0 2 dir i (s.ocuAddr u) cc :: ws ++ [0]))
                | none => s

def execSlotFill (u : Bool) (i : BitVec 6) (west prev : Bool) (late : BitVec 16) (collide : Bool) (s : State) :
    Host.Outcome State Fault Refusal := s.goesTo (slotFill (b2n u) i.toNat (b2n west) prev late.toNat collide s)

/-- SLOT_REINSERTION (R335): the head sends a held frame in the position's emission of this FC, if that begins at least
100 ns after the frame's last block arrived. -/
def slotReinsertion (u i p : Nat) (s : State) : State :=
  s.ringEvent u 0 fun s =>
    match smFind (s.ocuOf u).hold (2 * i + p) with
    | some (f, from_) =>
      let due := s.t0Ps + s.slotOfs u i
      if s.ocuHead u && s.hasT0 && from_ ≤ due then
        s.advancePs due fun s =>
          (s.setOcu u { s.ocuOf u with hold := smDel (s.ocuOf u).hold (2 * i + p) }).sendFrame u p f
      else s
    | none => s

def execSlotReinsertion (u : Bool) (i : BitVec 6) (p : Bool) (s : State) : Host.Outcome State Fault Refusal :=
  s.goesTo (slotReinsertion (b2n u) i.toNat (b2n p) s)

/-! ### Delay measurement (R357–R359) -/

/-- Words of 16-bit addresses, two to a word, padded to 8 bytes (R357). -/
def packList : List Nat → List Word
  | [] => []
  | [a] => [wordOfNat a, 0]
  | [a, b] => [wordOfNat (a + b * 0x10000), 0]
  | [a, b, c] => [wordOfNat (a + b * 0x10000), wordOfNat c]
  | a :: b :: c :: d :: l => wordOfNat (a + b * 0x10000) :: wordOfNat (c + d * 0x10000) :: packList l

/-- What a node sends about a direction: DVALID, DUP, HEAD and LIST (R359). -/
def State.delayInfo (s : State) (u dir : Nat) : Option (Nat × Nat × List Nat) :=
  if s.ocuHead u then some (0, s.ocuAddr u, [s.ocuAddr u])
  else match s.delayOf u dir, s.upstream u (1 - dir) with
    | some (d, head), some (_, _, l) => some (d.toNat, head, l ++ [s.ocuAddr u])
    | _, _ => none

/-- A DELAY frame that leaves by a port (R357): KIND 1 REQ, 2 RSP. -/
def State.delayFrame (s : State) (u p kind seq tta : Nat) : List Word :=
  let (v, dup, head, l) := match s.delayInfo u p with
    | some (a, b, c) => (true, a, b, c)
    | none => (false, 0, 0, [])
  let body := [wordOfNat dup, wordOfNat head] ++ packList l
  withCrc ([mkH0 3 p 8 (s.ocuAddr u) seq, wordOfNat (0xFFF00000 + 4 * body.length),
    wordOfNat (kind * 0x40000000 + b2n v * 0x20000000 + l.length), wordOfNat tta] ++ body ++ [0, 0])

/-- Mini-slots a dynamic frame occupies (R332). -/
def miniSlots (f : List Word) : Nat := (128 * (f.length / 2 + 5) + 999) / 1000

/-- Blocks on the wire to ps. -/
def State.frameTime (s : State) (u : Nat) (f : List Word) : Nat := f.length / 2 * s.tBlk u

/-- May a DELAY frame be sent by this port now (R339, R358)? -/
def State.delayMay (s : State) (u p : Nat) (arriving : Bool) (f : List Word) : Bool :=
  s.ocuSt u != 0 && s.ocuLinkup u p && !s.ocuLooped u p && 4 ≤ s.nMs u && (s.ocuPort u p).ins.isEmpty && !arriving
    && miniSlots f ≤ s.nMs u

/-- DELAY_REQ_SEND (R358): at the first mini-slot boundary; `arriving`: a frame is arriving for forwarding. -/
def delayReqSend (u p dt : Nat) (arriving : Bool) (s : State) : State :=
  s.ringEvent u dt fun s =>
    let x := s.ocuPort u p
    let f := s.delayFrame u p 1 (x.seq % 256) 0
    if s.delayMay u p arriving f && !x.asked then
      let t1 := s.tb24 / 2 ^ 20
      let reqs := (x.reqs.filter (fun r => s.now ≤ r.2.2 + 62500)) ++ [(x.seq % 256, t1, s.now)]
      let s := s.setOcuPort u p { x with seq := (x.seq + 1) % 256, asked := s.hasT0, reqs := reqs,
                                         busyTill := s.nowPs + s.frameTime u f }
      s.sendFrame u p f
    else s

def execDelayReqSend (u p : Bool) (dt : BitVec 32) (arriving : Bool) (s : State) : Host.Outcome State Fault Refusal :=
  s.goesTo (delayReqSend (b2n u) (b2n p) dt.toNat arriving s)

/-- LIST of a DELAY frame (R357). -/
def delayList (f : List Word) : List Nat :=
  ((List.range 64).map (fun i => fld (fw f (6 + i / 2)) (16 * (i % 2) + 15) (16 * (i % 2)))).take (fld (fw f 2) 6 0)

/-- A good DELAY frame with a defined KIND and a LEN that matches NLIST (R357); the KIND. -/
def delayKind (f : List Word) : Option Nat :=
  let h := fw f 0
  let n := fld (fw f 2) 6 0
  let k := fld (fw f 2) 31 30
  if fType h = 3 ∧ fSlot h = 8 ∧ frameCheck f = .good ∧ n ≤ 64 ∧ fld (fw f 1) 9 0 = 8 + 8 * ((n + 3) / 4) ∧ (k = 1 ∨ k = 2)
  then some k else none

/-- What a received DELAY frame says of the direction it travels (R359). -/
def State.delayLearn (s : State) (u p : Nat) (f : List Word) : State :=
  if bitOf (fw f 2) 29 then
    s.setOcuPort u p { s.ocuPort u p with up := some ((fw f 4).toNat, fld (fw f 5) 11 0, delayList f, s.now) }
  else s

/-- A DELAY frame received (R333, R357, R358): counted and stripped; then what its KIND asks. -/
def State.delayFrameReceived (s : State) (u p dt kind : Nat) (f : List Word) (go : State → State) : State :=
  s.ringEvent u dt fun s =>
    if s.ocuLooped u p ∨ fType (fw f 0) ≠ 3 ∨ fSlot (fw f 0) ≠ 8 then s
    else
      let s := s.countFrame u p (frameCheck f)
      if s.ocuSt u ≠ 0 ∧ delayKind f = some kind then go (s.delayLearn u p f) else s

/-- DELAY_REQ_RECEIVED (R358): answered out of the same port `turn` (1/16 ns) after its arrival, unless it cannot be sent. -/
def delayReqReceived (u p dt : Nat) (f : List Word) (turn : Nat) (arriving : Bool) (s : State) : State :=
  s.delayFrameReceived u p dt 1 f fun s =>
    (s.within turn fun s =>
      let r := s.delayFrame u p 2 (fCc (fw f 0)) turn
      if s.delayMay u p arriving r then
        (s.setOcuPort u p { s.ocuPort u p with busyTill := s.nowPs + s.frameTime u r }).sendFrame u p r
      else s).ocuDelays u

def execDelayReqReceived (u p : Bool) (dt : BitVec 32) (f : List (BitVec 32)) (turn : BitVec 24) (arriving : Bool)
    (s : State) : Host.Outcome State Fault Refusal :=
  s.goesTo (delayReqReceived (b2n u) (b2n p) dt.toNat f turn.toNat arriving s)

/-- DELAY_RSP_RECEIVED (R359): (t4 − t1) − TTA is twice a hop-delay value. -/
def delayRspReceived (u p dt : Nat) (f : List Word) (s : State) : State :=
  s.delayFrameReceived u p dt 2 f fun s =>
    let x := s.ocuPort u p
    match x.reqs.find? (fun r => r.1 == fCc (fw f 0) && decide (s.now ≤ r.2.2 + 62500)) with
    | some (n, t1, _) =>
      let v : Int := (s.tb24 / 2 ^ 20 : Nat) - (t1 : Int) - (fw f 3).toNat
      let x := { x with reqs := x.reqs.filter (fun r => r.1 != n), hops := (v :: x.hops).take 8 }
      (s.setOcuPort u p x).ocuDelays u
    | none => s.ocuDelays u

def execDelayRspReceived (u p : Bool) (dt : BitVec 32) (f : List (BitVec 32)) (s : State) :
    Host.Outcome State Fault Refusal := s.goesTo (delayRspReceived (b2n u) (b2n p) dt.toNat f s)

/-! ### The block at t0 -/

/-- Silence and candidacy at t0 (R365, R366, R368). [DEDUCED: log 89] -/
def State.ocuListenAtT0 (s : State) : State :=
  let q := s.ocuOf 0
  let n := if q.heard then 0 else q.silent + 1
  let s := s.setOcu 0 { q with heard := false, silent := n, silentAt := if n = 3 then s.now else q.silentAt, collide := none }
  let s := match q.collide with
    | some true => (s.setHead 0 false 1).setOcu 0 { s.ocuOf 0 with silent := 0 }
    | some false => s.ocuYields 0
    | none => s
  let cand := fld (s.reg (Reg.OCU_TIM_STAT 0)) 5 4
  if cand = 0 ∧ s.ocuSt 0 = 1 ∧ s.reg Reg.CYC_STATE = 1 ∧ s.tmRank ≤ 3 ∧ !s.ocuYield 0 then
    (s.setTim 0 5 4 1).setOcu 0 { s.ocuOf 0 with silent := 0 }
  else if cand = 1 ∧ 3 ≤ n ∧ q.collide.isNone ∧ s.tmRank ≠ 0 then s.setTim 0 5 4 2
  else s

/-- A stop that falls due at t0 (R351). -/
def State.ocuStopAtT0 (s : State) (u : Nat) : State :=
  let q := s.ocuOf u
  let s := s.setOcu u { q with stopAt := false }
  if s.ocuSt u ≠ 0 ∧ !s.ocuHead u ∧ (q.stopAt ∨ s.busyWith (Reg.OCU_CMD u) 2) then
    let s := s.setOcuSt u 0
    if s.busyWith (Reg.OCU_CMD u) 2 then s.complete (Reg.OCU_CMD u) else s
  else s

/-- The head's cairn frame at t0; the eighth with STOPREQ is its last (R334, R351). -/
def State.ocuEmitAtT0 (s : State) (u : Nat) : State :=
  if s.ocuHead u then
    let s := s.emitCairn u
    let n := (s.ocuOf u).stopLeft
    let s := s.setOcu u { s.ocuOf u with stopLeft := n - 1 }
    if n = 1 then (s.setOcuSt u 0).complete (Reg.OCU_CMD u) else s
  else if u = 1 ∧ s.bridges ∧ s.ocuSt 1 ≠ 0 ∧ (s.reg Reg.CYC_STATE = 1 ∨ s.reg Reg.CYC_STATE = 3) then s.becomeHead 1
  else s

/-- What a t0 is to an Ocuant block, once CYC_COUNT has been incremented. -/
def State.ocuAtT0 (s : State) (u : Nat) : State :=
  if s.gated (ocuBlk u) then s
  else
    let s := (s.newEvent u).linkStat u 0 |>.linkStat u 1
    let cc := (fld (s.reg Reg.CYC_COUNT) 7 0 + 255) % 256
    let s := if s.ocuSt u = 2 then
        (List.range 64).foldl (fun s i => if s.ownsSlot u i then s.slotSnap u i cc else s) s
      else s
    let s := (s.loopAtT0 u 0).loopAtT0 u 1
    let s := if u = 0 then s.ocuListenAtT0 else s
    let s := (s.ocuStopAtT0 u).ocuEmitAtT0 u
    let s := [0, 1].foldl (fun (s : State) p =>
      s.setOcuPort u p { s.ocuPort u p with asked := false, sentOwn := 0, heldOver := false }) s
    let s := if u = 0 ∧ (s.ocuOf 0).taken ≠ some (s.reg Reg.CYC_COUNT - 1) then s.setTim 0 3 3 0 else s
    s.ocuDelays u

end Sys2Proof.Machine
end

