-- ==== Sys2Proof/Machine/Flt.lean ====
section
/-!
DEFINITION. Fault handling (R13, R515–R536): retirement and its clearing, the Rope-team pairs, clock-island failures, safe
hold, self-tests, and the commands and readable state of FLT.
-/
namespace Sys2Proof.Machine

/-! ### The Rope-team pairs and FLT_SUMMARY (R520–R523, R532) -/

/-- The active pair, 0 A or 1 B, and whether the other is ready as standby (R534). -/
def State.ropeActive (s : State) : Nat := fld (s.reg Reg.FLT_ROPE) 0 0
def State.ropeReady (s : State) : Bool := bitOf (s.reg Reg.FLT_ROPE) 1

/-- Is the active pair halted (R523)? -/
def State.ropeHalted (s : State) : Bool := s.flt.pairReset.contains s.ropeActive

/-- FLT_ROPE for an active pair with or without a ready standby; NOSTBY is set without one (R523). -/
def State.setRope (s : State) (active : Nat) (ready : Bool) : State :=
  let over_ := fld (s.reg Reg.FLT_ROPE) 31 16
  s.setReg Reg.FLT_ROPE (wordOfNat (over_ * 0x10000 + active + 2 * b2n ready + 4 * b2n (!ready)))

/-- Does a ring meet the third condition of R532: no schedule loaded, or NMS ≥ 4 and no port looped or retired? -/
def State.ringSound (s : State) (u : Nat) : Bool :=
  !(s.ocuOf u).loaded || (4 ≤ s.nMs u && [0, 1].all (fun p => fld (s.reg (Reg.OCU_P_LOOP u p)) 1 0 == 0))

/-- Conditions 1–4 of R532, as far as the chip observes them. [DEDUCED: log 130] -/
def State.guaranteed (s : State) : Bool :=
  s.reg Reg.FLT_VMON == 0 && s.reg Reg.FLT_ST_CFG == 0x3FF && s.ringSound 0 && s.ringSound 1 && !s.unspecified
    && s.reg (Reg.FLT_BLKRET 0) == 0 && s.reg (Reg.FLT_BLKRET 1) == 0

/-- FLT_SUMMARY (R534). [DEDUCED: log 130] -/
def State.fltSummary (s : State) : Word :=
  let spares := ([0, 1].filter (fun k => s.spareRole k == 0)).length
  let diag := s.reg Reg.FLT_ST_CFG != 0x3FF || s.ceChecker.isNone
  wordOfNat (b2n (!s.ropeHalted) + b2n s.ropeReady + 4 * s.ceExec.length + 16 * spares
    + 0x100 * b2n (bitOf (s.reg Reg.FLT_ROPE) 2) + 0x200 * b2n diag + 0x8000 * b2n s.guaranteed)

/-- FLT_SUMMARY follows what it summarises, published as FLT's block-state signal 1 where it changes (R531). -/
def State.fltShow (s : State) : State :=
  let w := s.fltSummary
  if s.reg Reg.FLT_SUMMARY = w then s else (s.setReg Reg.FLT_SUMMARY w).pubReg 4 1 Reg.FLT_SUMMARY

/-! ### Safe hold and the cold reset (R467, R525) -/

/-- Base camp acts on the STO path of every channel: it removes each gate enable it now holds, and leaves the others to SAFE,
where SAFE monitors (R523, R524). -/
def State.baseGates (s : State) : State :=
  if s.baseSto then (List.range 16).foldl (fun s n => s.axcSto n) s
  else if s.safeOn then s.gatesFollow
  else (List.range 16).foldl (fun s n => s.axcStoEnd n) s

/-- Every field output is driven off by the field side (R285, R525). -/
def State.outputsOff (s : State) : State := (List.range 16).foldl (fun s k => s.forceOff k true) s

/-- A FATAL fault of an island: safe hold, and its cause into the Bivouac domain (R525, R545); the code of the cause is the
part's. [DESIGN CHOICE: log 132] -/
def State.fatal (s : State) (isl : Nat) : State :=
  let s := s.setReg Reg.BIV_FATAL (wordOfNat (0xB0010000 + isl * 0x100 + (Config.fatalCause isl).toNat))
  ({ s with flt := { s.flt with safeHold := true } }).outputsOff

/-- Registers that a cold start leaves: those BIV keeps and the calendar (R541, R545), and what MEMC has mapped (R450). [DESIGN CHOICE: log 9; DEDUCED: log 134] -/
def coldKeeps (a : Nat) : Bool :=
  a == Reg.BIV_PCC || a == Reg.BIV_OPS || a == Reg.BIV_RSTCAUSE || a == Reg.BIV_FATAL || (0x050080 ≤ a && a < 0x0500C0)
    || (0x050010 ≤ a && a ≤ 0x05001C) || a == Reg.MEMC_REMAP_USED

/-- Every island but I0 is reset (R467): MRAM with the supervisor store, OTP, flash and the Bivouac domain keep their
contents. The commands that wait stay with whoever sends them. -/
def State.coldReset (s : State) (cause : Nat) : State :=
  let z := State.reset
  { z with
    pending := s.pending
    regs := s.regs.filter (fun p => coldKeeps p.1)
    mem := s.mem.filter (fun c => decide (0x20000000 ≤ c.1) && decide (c.1 < 0x20080000))
    tb := { z.tb with ofs := s.now }
    biv := { z.biv with pcc := s.biv.pcc, ops := s.biv.ops, opsAt := s.biv.opsAt }
    flt := { z.flt with retList := s.flt.retList, buckets := s.flt.stored, stored := s.flt.stored,
                        sramRows := s.flt.sramRows.filter (fun r => s.flt.retList.any (fun p => p.2 == retWord 10 r)) }
    memc := { z.memc with rows := s.memc.rows }
    safe := { z.safe with confirm := s.safe.confirm }
    hut := { z.hut with ctr := s.hut.ctr }
    boot := { z.boot with flash := s.boot.flash, otp := s.boot.otp, inReset := true, cause := cause } }

/-- Islands I2 and I4–I13 are reset, while Base camp goes on (R481, R482, R495). [DEDUCED: log 131] -/
def State.islandsReset (s : State) : State :=
  let z := State.reset
  let base (a : Nat) : Bool := decide (blockIsland (a % 0x400000 / 0x10000) ≤ 1)
  { z with
    pending := s.pending
    regs := s.regs.filter (fun p => base p.1 || coldKeeps p.1)
    held := s.held.filter (fun p => base p.1)
    answers := s.answers
    busy := s.busy.filter (fun p => base p.1)
    shadow := s.shadow.filter (fun p => base p.1)
    mem := s.mem.filter (fun c => decide (0x20000000 ≤ c.1) && decide (c.1 < 0x20080000))
    fenced := s.fenced &&& 3
    unspecified := s.unspecified
    tb := { z.tb with ofs := s.now }
    flt := s.flt
    memc := { z.memc with rows := s.memc.rows }
    safe := { z.safe with confirm := s.safe.confirm }
    hut := { z.hut with ctr := s.hut.ctr, queue := s.hut.queue }
    clk := s.clk
    boot := s.boot
    kec := s.kec
    biv := s.biv }

/-- AUTOCOLD_RESTART (R525): in safe hold with FLT_CFG.AUTOCOLD = 1, Base camp makes a cold start after 10 ms. -/
def autocoldRestart (s : State) : State :=
  if s.flt.safeHold && bitOf (s.reg Reg.FLT_CFG) 0 then s.coldReset 3 else s

def execAutocoldRestart (s : State) : Host.Outcome State Fault Refusal := s.goesTo (autocoldRestart s)

/-! ### Clock islands (R10, R13, R524) -/

/-- Is an island's monitor armed: not gated by the role, and for I8 and I9 with a port in lock (R10)? -/
def State.monitored (s : State) (n : Nat) : Bool :=
  !bitOf (s.reg Reg.CLK_ISL_GATE) n
    && (if n = 8 ∨ n = 9 then [0, 1].any (fun p => bitOf (s.reg (Reg.OCU_P_STAT (n - 8) p)) 0) else true)

/-- Is the failure of an island FATAL (R524)? That of I2 is where no pair is left. -/
def State.islandFatal (s : State) (n : Nat) : Bool :=
  n == 1 || n == 4 || n == 5 || n == 6 || n == 11 || (n == 2 && s.ropeHalted && !s.ropeReady)

/-- Both ports of a ring block are looped from the next t0 (R370, R524). -/
def State.loopBoth (s : State) (u : Nat) : State :=
  [0, 1].foldl (fun s p => if s.ocuLooped u p then s else s.setOcuPort u p { s.ocuPort u p with pend := 1, good := none }) s

/-- The reaction of R524 to the failure of an island that does not end in a cold start. [DEDUCED: log 5] -/
def State.islandReaction (s : State) (n : Nat) : State :=
  match n with
  | 0 => s.bivXtalFail
  | 2 =>
    let s := { s with flt := { s.flt with pairReset := ([s.ropeActive, 1 - s.ropeActive].filter (fun p =>
      p == s.ropeActive || !s.isRetired 4 p)) } }
    let s := (s.setRope s.ropeActive false).safeFault cCLOCK 0xFF
    ({ s.safeFault cROPE 0xFF with safe := { s.safe with clockBack := some none, ropeBack := some none } }).baseGates
  | 3 => if s.reg Reg.SYS_STATE = 2 then s.syncWsch.wdogWarm else s.syncWsch
  | 6 => ({ s with safe := { s.safe with clockBack := some none } }).safeFault cCLOCK 0xFF
  | 7 => s.baseGates
  | 8 => s.loopBoth 0
  | 9 => s.loopBoth 1
  | 12 => s.linkFalls
  | 13 => s.outputsOff
  | _ => s

/-- An island's clock has failed (R13, R524): its bits in CLK_ISL_FAIL and CLK_ISL_RUN, the fence, the fault event, and the
reaction; I1 leads to a cold start. -/
def State.islandFail (s : State) (n : Nat) : State :=
  if s.fenced.getLsbD n || !s.monitored n then s
  else
    let fatal := s.islandFatal n
    let s := { s with fenced := s.fenced ||| BitVec.ofNat 14 (2 ^ n) }
    let s := (s.orReg Reg.CLK_ISL_FAIL (bitMask n)).setReg Reg.CLK_ISL_RUN (setBit (s.reg Reg.CLK_ISL_RUN) n false)
    let s := s.pubReg 1 1 Reg.CLK_ISL_RUN
    let s := s.faultEvent (if fatal then 3 else 2) 1 0 n (s.reg Reg.CLK_ISL_FAIL)
    let s := (s.islandReaction n).fltShow
    if fatal then
      let s := s.fatal n
      if n = 1 then s.coldReset 3 else s
    else s

/-- CLOCK_MONITOR_FAILURE (R10, R13). -/
def clockMonitorFailure (n : Nat) (s : State) : State := s.islandFail n

def execClockMonitorFailure (n : Fin 14) (s : State) : Host.Outcome State Fault Refusal := s.goesTo (clockMonitorFailure n.val s)

/-! ### Buckets that overflow (R515–R519) -/

/-- The fault event of a core's retirement (R528); the core leaves the pool by CORE_RETIREMENT (R438). [DEDUCED: log 128] -/
def State.coreFinding (s : State) (n w : Nat) : State :=
  match s.finding 3 n w 0x38 (s.reg Reg.WSCH_EVT) with
  | (t, true) => t.faultEvent 2 0x38 3 n (t.reg Reg.WSCH_EVT)
  | (t, false) => t

/-- A converter's finding (R265). -/
def State.adcFinding (s : State) (c w : Nat) : State :=
  match s.finding 1 c w 0x20 (s.reg Reg.ADC_EVT) with
  | (t, true) => t.adcOverflow c (t.reg Reg.ADC_EVT)
  | (t, false) => t

/-- A finding on a pair that is not the last one: an overflow retires it. The Bool reports that. [DEDUCED: log 128] -/
def State.pairFinding (s : State) (p w : Nat) : State × Bool :=
  match s.finding 4 p w 4 (s.reg Reg.FLT_EVT) with
  | (t, true) => (t.faultEvent (if p = s.ropeActive then 1 else 2) 4 4 p (t.reg Reg.FLT_EVT), true)
  | (t, false) => (t, false)

/-- A finding of weight 1 on the last pair: an overflow raises a LOSS fault event, and nothing is retired (R523). [DEDUCED: log 128] -/
def State.lastPairFinding (s : State) (p : Nat) : State :=
  if s.bucket 4 p + 1 ≥ (s.bucketCfg 4).1 then (s.setBucket 4 p 0).faultEvent 2 4 4 p (s.reg Reg.FLT_EVT)
  else (s.pairFinding p 1).1

/-- A failed self-test, with the weight R517 gives it. [DEDUCED: log 128] -/
def State.testFailed (s : State) (cls inst : Nat) : State :=
  match cls with
  | 1 => s.adcFinding inst 1
  | 2 => s.ceFinding inst 4
  | 3 => s.coreFinding inst 3
  | 4 =>
    if inst = s.ropeActive then s.lastPairFinding inst
    else
      let r := s.pairFinding inst 2
      if r.2 then
        ({ r.1 with flt := { r.1.flt with pairReset := r.1.flt.pairReset.filter (fun p => p != inst) } }).setRope r.1.ropeActive false
      else r.1
  | _ => s

/-- The test of R527 that a class has, by its bit in FLT_ST_CFG. [DEDUCED: log 126] -/
def testBit (cls : Nat) : Option Nat :=
  match cls with
  | 1 => some 9
  | 2 => some 0
  | 3 => some 1
  | 4 => some 2
  | 10 => some 3
  | _ => none

/-- FLT_ST_STAT after a run of test t. -/
def State.testRan (s : State) (t : Nat) (fail : Bool) : State := s.setReg Reg.FLT_ST_STAT (setBit (s.reg Reg.FLT_ST_STAT) t fail)

/-- MACHINE_CHECK (R517): an application core reports a core array or bus error. [DEDUCED: log 127] -/
def machineCheck (n : Nat) (s : State) : State := (s.coreFinding n 1).fltShow

def execMachineCheck (n : Fin 24) (s : State) : Host.Outcome State Fault Refusal := s.goesTo (machineCheck n.val s)

/-! ### Shared SRAM (R517, R518) -/

/-- The row's bucket is charged; an overflow maps the row to one of 32 spares, or sets NOSPARE. [DEDUCED: log 127] -/
def State.sramFinding (s : State) (a w : Nat) : State :=
  let row := (Config.sramRow a).toNat
  match s.finding 10 row w 4 (wordOfNat a) with
  | (t, true) =>
    if t.flt.sramRows.length < 32 then
      ({ t with flt := { t.flt with sramRows := t.flt.sramRows ++ [row] } }).faultEvent 1 4 10 row (wordOfNat a)
    else (t.raiseEvt 4 Reg.FLT_EVT (some Reg.FLT_EVT_EN) 0x20).faultEvent 2 4 10 row (wordOfNat a)
  | (t, false) => t

/-- One word of shared SRAM as an access finds it: 0 clean, 1 corrected, 2 uncorrectable, which stays until it is written. -/
def State.sramCheck (s : State) (a r : Nat) : State :=
  if r = 2 ∨ s.memcBad a then
    let s := if s.memcBad a then s else { s with memc := { s.memc with ue := s.memc.ue ++ [a / 8] } }
    s.sramFinding a 4
  else if r = 1 then s.sramFinding a 1
  else s

/-- SHARED_SRAM_READ (R15, R59, R517): a master reads the word at an address. -/
def sharedSramRead (m : Sys2Proof.Master) (a : Nat) (r : Nat) (s : State) : State :=
  let a := a / 4 * 4
  let g := regionOf s.dramUsable a
  if a < 0x800000 then
    if s.fenced.getLsbD 4 then s.answer (mport m) 0 true
    else if !regionGranted (mclass m) false g then s.answer (mport m) 0 false
    else
      let bad := r == 2 || s.memcBad a
      let s := s.sramCheck a r
      s.answer (mport m) (if bad then 0 else if g = .sramSup then s.supWord a else s.word a) bad
  else s

def execSharedSramRead (m : Sys2Proof.Master) (a : BitVec 23) (r : Fin 3) (s : State) : Host.Outcome State Fault Refusal :=
  s.goesTo (sharedSramRead m a.toNat r.val s)

/-! ### Divergence and standby (R522, R523) -/

/-- ROPE_DIVERGENCE (R305, R522, R523). A pair that is in reset or retired is not in service, and shows none. [DEDUCED: log 82; DEDUCED: log 129] -/
def ropeDivergence (p : Nat) (s : State) : State :=
  let a := s.ropeActive
  let wait (s : State) (p : Nat) : State := { s with flt := { s.flt with pairReset := s.flt.pairReset ++ [p] } }
  if s.flt.pairReset.contains p then s
  else if p ≠ a then
    if s.ropeReady then
      let r := s.pairFinding p 1
      ((if r.2 then r.1 else wait r.1 p).setRope a false).fltShow
    else s
  else if s.ropeReady then
    let r := s.pairFinding p 1
    let s := if r.2 then r.1 else wait r.1 p
    let w := s.reg Reg.FLT_ROPE
    let s := (s.setReg Reg.FLT_ROPE (setFld w 31 16 (min (fld w 31 16 + 1) 0xFFFF))).setRope (1 - p) false
    ({ s with safe := { s.safe with excuse := 1 } }).fltShow
  else
    let s := (wait (s.lastPairFinding p) p).setRope p false
    let s := { s with safe := { s.safe with ropeBack := some none } }
    ((s.safeFault cROPE 0xFF).baseGates).fltShow

def execRopeDivergence (b : Bool) (s : State) : Host.Outcome State Fault Refusal := s.goesTo (ropeDivergence (b2n b) s)

/-- STANDBY_PAIR_READY (R522, R523): a halted active pair restarts from its checkpoint; else a pair in reset ends its test, and
where it passes is loaded and made standby. [DEDUCED: log 129] -/
def standbyPairReady (fail : Bool) (s : State) : State :=
  let a := s.ropeActive
  if s.fenced.getLsbD 2 then s
  else if s.ropeHalted then
    let s := { s with flt := { s.flt with pairReset := s.flt.pairReset.filter (fun p => p != a) },
                      safe := { s.safe with ropeBack := some (some s.now) } }
    s.baseGates.fltShow
  else if s.flt.pairReset.contains (1 - a) then
    let s := s.testRan 2 fail
    if fail then (s.testFailed 4 (1 - a)).fltShow
    else (({ s with flt := { s.flt with pairReset := [] } }).setRope a true).fltShow
  else s

def execStandbyPairReady (fail : Bool) (s : State) : Host.Outcome State Fault Refusal := s.goesTo (standbyPairReady fail s)

/-! ### Self-tests (R527) -/

/-- Does a periodic self-test run: in service by FLT_ST_CFG, on a unit that is there and not retired (R527)? -/
def State.periodicRuns (s : State) (t inst : Nat) : Bool :=
  bitOf (s.reg Reg.FLT_ST_CFG) t && t != 1 && t != 3
    && (match t with
      | 0 => decide (inst < 3) && !s.isRetired 2 inst
      | 2 => inst == 1 - s.ropeActive && s.ropeReady
      | 7 => decide (inst < 14)
      | 8 => decide (inst < 12)
      | 9 => decide (inst < 34) && !s.isRetired 1 inst
      | _ => true)

/-- PERIODIC_SELF_TEST (R527): test t, in table order, runs on an instance and may fail. Tests 1 and 3 run at cold start
alone; the patrol scrubs (4 and 5) act by what they find. -/
def periodicSelfTest (t inst : Nat) (fail : Bool) (s : State) : State :=
  if !s.periodicRuns t inst then s
  else
    let s := s.testRan t fail
    if !fail then s
    else
      (match t with
      | 0 => s.testFailed 2 inst
      | 2 => s.testFailed 4 inst
      | 6 => s.safeFault cBELAY 0xFF
      | 7 => (s.faultEvent 2 1 0 inst (s.reg Reg.CLK_ISL_FAIL)).islandFail inst
      | 8 => s.faultEvent 2 4 0 inst (s.reg Reg.FLT_EVT)
      | 9 => s.testFailed 1 inst
      | _ => s).fltShow

def execPeriodicSelfTest (t : Fin 10) (inst : BitVec 6) (fail : Bool) (s : State) : Host.Outcome State Fault Refusal :=
  s.goesTo (periodicSelfTest t.val inst.toNat fail s)

/-- Is an instance of classes 1–4 in service? [DEDUCED: log 126] -/
def State.inService (s : State) (cls inst : Nat) : Bool :=
  !s.isRetired cls inst
    && (match cls with
      | 1 => decide (inst < 34)
      | 2 => decide (inst < 3)
      | 3 => decide (inst < 24)
      | 4 => decide (inst < 2) && !s.flt.pairReset.contains inst
      | _ => false)

/-- SELFTEST (R535). -/
def fltSelftest (m : Sys2Proof.Master) (a : Sys2Proof.CmdArg) (s : State) : State :=
  let x := a.arg.toNat
  s.command m a ⟨Reg.FLT_CMD, .priv, 1, true, true, s.reg Reg.FLT_STATE == 1 && s.inService (x / 0x1000) (x % 0x1000), true⟩
    fun s => s.setState 4 2

def execFltSelftest (m : Sys2Proof.Master) (a : Sys2Proof.CmdArg) (s : State) : Host.Outcome State Fault Refusal :=
  s.goesTo (fltSelftest m a s)

/-- ABORT (R68, R535): the test stops. -/
def fltAbort (m : Sys2Proof.Master) (a : Sys2Proof.CmdArg) (s : State) : State :=
  s.abort m a Reg.FLT_CMD .priv fun _ s => s.setState 4 1

def execFltAbort (m : Sys2Proof.Master) (a : Sys2Proof.CmdArg) (s : State) : Host.Outcome State Fault Refusal :=
  s.goesTo (fltAbort m a s)

/-- FLT_CMD CLEAR_STATS (R534, R535). -/
def State.fltClearStats (s : State) : State := s.zeroRegs [Reg.FLT_LOG_LOST, Reg.FLT_FAULT_CNT, Reg.FLT_DENY_CNT]

/-! ### Clearing a retirement (R519, R536) -/

/-- The retirement a CLEAR_RET names: ARG, or for rows the list entry at FLT_RET_IDX. -/
def State.clearKey (s : State) (x : Nat) : Option (Nat × Nat) :=
  let cls := x / 0x1000
  if cls = 6 ∨ cls = 10 then
    match smFind s.flt.retList (fld (s.reg Reg.FLT_RET_IDX) 7 0) with
    | some w => if fld w 27 24 = cls then some (cls, fld w 23 0) else none
    | none => none
  else if s.isRetired cls (x % 0x1000) then some (cls, x % 0x1000) else none

/-- CLEAR_RET. [DEDUCED: log 126] -/
def clearRet (m : Sys2Proof.Master) (a : Sys2Proof.CmdArg) (s : State) : State :=
  let k := s.clearKey a.arg.toNat
  s.command m a ⟨Reg.FLT_SC_CMD, .secure, 1, true, true, s.reg Reg.FLT_SC_STATE == 1, k.isSome⟩ fun s =>
    ({ s with flt := { s.flt with clear := match k with
      | some (c, i) => resKey c i
      | none => 0 } }).setReg Reg.FLT_SC_STATE 2

def execClearRet (m : Sys2Proof.Master) (a : Sys2Proof.CmdArg) (s : State) : Host.Outcome State Fault Refusal :=
  s.goesTo (clearRet m a s)

/-- A retirement is cleared: it leaves the list, its level is 0, a record is written, and the instance returns at the next
t0. [DEDUCED: log 129] -/
def State.clearRetirement (s : State) (cls inst : Nat) : State :=
  let w := retWord cls inst
  let s := { s with flt := { s.flt with retList := s.flt.retList.filter (fun p => p.2 != w),
                                        retExtra := s.flt.retExtra.filter (fun k => k != resKey cls inst),
                                        back := s.flt.back ++ [resKey cls inst] } }
  ((s.setBucket cls inst 0).hutRequest 9 4 [w]).raiseEvt 4 Reg.FLT_EVT (some Reg.FLT_EVT_EN) 0x40

/-- SELFTEST_DONE (R535, R536): a commanded test, or with `clr` the test of a CLEAR_RET, ends. -/
def selftestDone (clr fail : Bool) (s : State) : State :=
  if clr then
    if s.busyWith Reg.FLT_SC_CMD 1 then
      let cls := s.flt.clear / 0x1000000
      let inst := s.flt.clear % 0x1000000
      let t := testBit cls
      let s := s.setReg Reg.FLT_SC_STATE 1
      let s := match t with
        | some t => s.testRan t fail
        | none => s
      if fail && t.isSome then s.completeFailed Reg.FLT_SC_CMD
      else ((s.complete Reg.FLT_SC_CMD).clearRetirement cls inst).fltShow
    else s
  else
    match smFind s.busy Reg.FLT_CMD with
    | some b =>
      let cls := b.arg / 0x1000
      let s := (s.complete Reg.FLT_CMD).setState 4 1
      let s := match testBit cls with
        | some t => s.testRan t fail
        | none => s
      if fail then (s.testFailed cls (b.arg % 0x1000)).fltShow else s
    | none => s

def execSelftestDone (clr fail : Bool) (s : State) : Host.Outcome State Fault Refusal := s.goesTo (selftestDone clr fail s)

/-- A cleared instance returns to service (R104, R265, R373, R416, R519). -/
def State.backInService (s : State) (cls inst : Nat) : State :=
  match cls with
  | 1 =>
    let s := { s with adc := { s.adc with retiring := s.adc.retiring.filter (fun c => c != inst) } }
    if inst < 32 then
      let s := s.setReg Reg.ADC_RET_LO (setBit (s.reg Reg.ADC_RET_LO) inst false)
      let s := [0, 1].foldl (fun s k => if s.spareRole k = 1 ∧ s.spareIn k = inst then s.setSpare k 0 0 else s) s
      (s.setAdcConv inst inst).setReg (Reg.ADC_IN_CONV inst) (setBit ((s.setAdcConv inst inst).reg (Reg.ADC_IN_CONV inst)) 16 false)
    else (s.setReg Reg.ADC_RET_HI (setBit (s.reg Reg.ADC_RET_HI) (inst - 32) false)).setSpare (inst - 32) 0 0
  | 2 =>
    let s := s.ceSetRole inst (if s.ceExec.length < 2 then 0 else 1)
    if s.reg Reg.CE_STATE = 0 then s else s.setState 0x10 s.ceLaneState
  | 3 => if bitOf s.wsch.target inst then s.setCoreAct (setBit (s.reg Reg.SYS_CORE_ACT) inst true) else s
  | 4 => if inst ≠ s.ropeActive ∧ !s.flt.pairReset.contains inst then s.setRope s.ropeActive true else s
  | 5 =>
    let a := Reg.OCU_P_LOOP (inst / 2) (inst % 2)
    s.setReg a (setBit (s.reg a) 1 false)
  | 6 =>
    match s.memc.rows.find? (fun r => memcRowIndex r == inst) with
    | some r =>
      let ch := fld r 31 31
      let u := s.reg Reg.MEMC_REMAP_USED
      ({ s with memc := { s.memc with rows := s.memc.rows.filter (fun x => x != r) } }).setReg Reg.MEMC_REMAP_USED
        (setFld u (16 * ch + 6) (16 * ch) (fld u (16 * ch + 6) (16 * ch) - 1))
    | none => s
  | 7 => s.canUnretire (inst / 64) (inst % 64)
  | 8 => { s with fio := { s.fio with back := s.fio.back ++ [inst] } }
  | 9 => s.setReg (Reg.FLT_BLKRET (inst / 32)) (setBit (s.reg (Reg.FLT_BLKRET (inst / 32))) (inst % 32) false)
  | 10 => { s with flt := { s.flt with sramRows := s.flt.sramRows.filter (fun r => r != inst) } }
  | _ => s

/-- FLT at a t0: cleared retirements end (R519). -/
def State.fltAtT0 (s : State) : State :=
  let l := s.flt.back
  l.foldl (fun (s : State) k => s.backInService (k / 0x1000000) (k % 0x1000000)) { s with flt := { s.flt with back := [] } }

/-- What the retirement list means to the resources, after a reset of theirs (R519). [DEDUCED: log 134] -/
def State.applyRetired (s : State) (cls inst : Nat) : State :=
  match cls with
  | 1 =>
    let s := if inst < 32 then s.orReg Reg.ADC_RET_LO (bitMask inst) else s.orReg Reg.ADC_RET_HI (bitMask (inst - 32))
    { s with adc := { s.adc with retiring := s.adc.retiring ++ [inst] } }
  | 5 => s.orReg (Reg.OCU_P_LOOP (inst / 2) (inst % 2)) 3
  | 7 => (s.canStat (inst / 64) (inst % 64) 7 true).orReg (Reg.CAN_RET (inst / 64) (inst % 64 / 32)) (bitMask (inst % 32))
  | 8 => s.fioFail inst
  | 9 => s.orReg (Reg.FLT_BLKRET (inst / 32)) (bitMask (inst % 32))
  | _ => s

/-- The retirements of the listed and unlisted instances of some classes. -/
def State.reapply (s : State) (classes : List Nat) : State :=
  let l := s.flt.retList.map (fun p => (fld p.2 27 24, fld p.2 23 0)) ++ s.flt.retExtra.map (fun k => (k / 0x1000000, k % 0x1000000))
  l.foldl (fun (s : State) (x : Nat × Nat) => if classes.contains x.1 then s.applyRetired x.1 x.2 else s) s

/-! ### ISL_RESET (R13, R524, R536) -/

/-- Is the register a configuration register (R47, R49)? -/
def isConfig (a : Nat) : Bool :=
  isActive a || (match regDesc a with
    | some d => !(d.rw == 0) && !d.wo
    | none => false)

/-- The registers of a block: configuration reloaded from the image shadow, the rest at reset (R55). [DESIGN CHOICE: log 29] -/
def State.reloadBlocks (s : State) (isl : Nat) : State :=
  let mine (a : Nat) : Bool := blockIsland (a / 0x10000) == isl
  let regs := s.regs.filter (fun p => !mine p.1 || isConfig p.1)
  let s := { s with regs := regs, busy := s.busy.filter (fun p => !mine p.1) }
  let l := s.shadow.filter (fun p => mine p.1)
  l.foldl (fun (s : State) (p : Nat × Word) => s.setReg p.1 p.2) { s with shadow := s.shadow.filter (fun p => !mine p.1) }

/-- An island runs again and its blocks are reloaded; the calendar's domain and the safety functions keep their state. [DEDUCED: log 131] -/
def State.islandBack (s : State) (n : Nat) : State :=
  let s := { s with fenced := s.fenced &&& ~~~BitVec.ofNat 14 (2 ^ n) }
  let s := (s.setReg Reg.CLK_ISL_RUN (setBit (s.reg Reg.CLK_ISL_RUN) n true)).pubReg 1 1 Reg.CLK_ISL_RUN
  match n with
  | 2 => ({ s with safe := { s.safe with clockBack := some (some s.now) } }).baseGates
  | 3 => s.syncWsch
  | 7 => ((({ s.reloadBlocks 7 with adc := {}, sdm := [], dac := {} }).reapply [1]).adcSync).baseGates
  | 8 => ({ s.reloadBlocks 8 with ocu := smSet (fun _ => {}) s.ocu 0 {} }).reapply [5]
  | 9 => ({ s.reloadBlocks 9 with ocu := smSet (fun _ => {}) s.ocu 1 {} }).reapply [5]
  | 10 => ({ s.reloadBlocks 10 with eth := [], can := {} }).reapply [7]
  | 12 =>
    let x := s.reloadBlocks 12
    { x with pcie := {}, xspi := { s.xspi with op := none, users := 0, saved := none } }
  | 13 => ({ s.reloadBlocks 13 with fio := {} }).reapply [8]
  | _ => s

/-- ISL_RESET (R536): an island of severity LOSS that has failed. [DEDUCED: log 131] -/
def islReset (m : Sys2Proof.Master) (a : Sys2Proof.CmdArg) (s : State) : State :=
  let n := a.arg.toNat
  let loss := [0, 2, 3, 7, 8, 9, 10, 12, 13].contains n && !s.flt.safeHold
  s.command m a ⟨Reg.FLT_SC_CMD, .secure, 2, n < 16, true, s.reg Reg.FLT_SC_STATE == 1 && loss && s.fenced.getLsbD n, true⟩
    fun s => s.setReg Reg.FLT_SC_STATE 3

def execIslReset (m : Sys2Proof.Master) (a : Sys2Proof.CmdArg) (s : State) : Host.Outcome State Fault Refusal :=
  s.goesTo (islReset m a s)

/-- ISL_RESET_DONE. [DEDUCED: log 131] -/
def islResetDone (s : State) : State :=
  if s.reg Reg.FLT_SC_STATE = 3 then
    let isl := match smFind s.busy Reg.FLT_SC_CMD with
      | some b => b.arg
      | none => s.flt.clear
    (((s.complete Reg.FLT_SC_CMD).setReg Reg.FLT_SC_STATE 1).islandBack isl).fltShow
  else s

def execIslResetDone (s : State) : Host.Outcome State Fault Refusal := s.goesTo (islResetDone s)

/-- ABORT on FLT_SC_CMD (R68, R536): a test stops and the retirement stands; an island reset completes. -/
def fltScAbort (m : Sys2Proof.Master) (a : Sys2Proof.CmdArg) (s : State) : State :=
  s.abort m a Reg.FLT_SC_CMD .secure fun b s =>
    match b with
    | some b => if b.code = 1 then s.setReg Reg.FLT_SC_STATE 1 else { s with flt := { s.flt with clear := b.arg } }
    | none => s

def execFltScAbort (m : Sys2Proof.Master) (a : Sys2Proof.CmdArg) (s : State) : Host.Outcome State Fault Refusal :=
  s.goesTo (fltScAbort m a s)

/-! ### The log and the rails (R526, R529) -/

/-- FLT_LOG_READ (R529): the oldest entry is returned and removed, its D1–D3 latched for the port. -/
def fltLogRead (m : Sys2Proof.Master) (s : State) : State :=
  s.access m (Reg.FLT_LOG_D 0) fun s =>
    let p := mport m
    match s.flt.log with
    | e :: rest =>
      let s := ({ s with flt := { s.flt with log := rest } }).setReg Reg.FLT_LOG_LVL (wordOfNat rest.length)
      ([1, 2, 3].foldl (fun s k => s.latch p (Reg.FLT_LOG_D k) (e.getD k 0)) s).answer p (e.getD 0 0) false
    | [] => s.answer p 0 false

def execFltLogRead (m : Sys2Proof.Master) (s : State) : Host.Outcome State Fault Refusal := s.goesTo (fltLogRead m s)

/-- SUPPLY_WARNING (R526, R560): a rail moves beyond a warning threshold, or back within both. [DEDUCED: log 127] -/
def supplyWarning (r : Nat) (beyond : Bool) (s : State) : State :=
  let was := bitOf (s.reg Reg.FLT_VMON) r
  let s := s.setReg Reg.FLT_VMON (setBit (s.reg Reg.FLT_VMON) r beyond)
  (if beyond && !was then s.faultEvent 0 4 0 r (s.reg Reg.FLT_EVT) else s).fltShow

def execSupplyWarning (r : Fin 12) (beyond : Bool) (s : State) : Host.Outcome State Fault Refusal :=
  s.goesTo (supplyWarning r.val beyond s)

/-! ### Configuration parity (R54–R56) -/

/-- PARITY_SCAN (R54): the scan finds a register whose stored bits differ by `flip` from what was written: an odd number in some byte
is a mismatch. The block keeps using the register as it stands. [DESIGN CHOICE: log 29; DEDUCED: log 127] -/
def parityScan (a : Nat) (flip : Word) (s : State) : State :=
  let blk := a / 0x10000
  let odd := [0, 1, 2, 3].any (fun k => ((List.range 8).filter (fun i => bitOf flip (8 * k + i))).length % 2 == 1)
  if a % 4 ≠ 0 ∨ !isConfig a ∨ s.gated blk ∨ s.isFenced blk ∨ !odd then s
  else
    let good := (smFind s.shadow a).getD (s.reg a)
    let s := ({ s with shadow := smPut s.shadow a good }).setReg a (s.reg a ^^^ flip)
    let ofs := wordOfNat (a % 0x10000)
    match s.finding 9 blk 1 blk ofs with
    | (t, true) =>
      ((t.orReg (Reg.FLT_BLKRET (blk / 32)) (bitMask (blk % 32))).faultEvent 2 blk 9 blk ofs).fltShow
    | (t, false) => t

def execParityScan (a : BitVec 22) (flip : BitVec 32) (s : State) : Host.Outcome State Fault Refusal :=
  s.goesTo (parityScan a.toNat flip s)

/-- CONFIG_RELOAD (R56): every configuration register of the block is rewritten from the image shadow. [DESIGN CHOICE: log 29] -/
def configReload (blk : Nat) (s : State) : State :=
  if s.ropeHalted then s
  else
    let l := s.shadow.filter (fun p => p.1 / 0x10000 == blk)
    l.foldl (fun (s : State) (p : Nat × Word) => s.setReg p.1 p.2)
      { s with shadow := s.shadow.filter (fun p => p.1 / 0x10000 != blk) }

def execConfigReload (blk : BitVec 6) (s : State) : Host.Outcome State Fault Refusal := s.goesTo (configReload blk.toNat s)

/-! ### RETRY (R495) -/

/-- BOOT_CMD RETRY (R495): in RECOVERY, the islands are reset and the sequence of R481 restarts, as COLD_START shows it. [DEDUCED: log 122] -/
def bootRetry (m : Sys2Proof.Master) (a : Sys2Proof.CmdArg) (s : State) : State :=
  s.command m a ⟨Reg.BOOT_CMD, .priv, 5, a.arg == 0, false, s.reg Reg.BOOT_STATE == 6, true⟩ fun s =>
    let s := s.islandsReset.setReg Reg.BOOT_STATE (resetWord Reg.BOOT_STATE)
    { s with boot := { s.boot with inReset := true, cause := 0 } }

def execBootRetry (m : Sys2Proof.Master) (a : Sys2Proof.CmdArg) (s : State) : Host.Outcome State Fault Refusal :=
  s.goesTo (bootRetry m a s)

end Sys2Proof.Machine
end

