-- ==== Sys2Proof/Machine/Rra.lean ====
section
/-!
DEFINITION. Remote accesses as the chip that makes them sees them (R342, R344, R349, R511, R512): slots, the SEQ series,
stalls, and how an access completes.
-/
namespace Sys2Proof.Machine

/-- TMO in FC and RETRY; a TMO below 2 acts as its reset value (R48, R354). [DEDUCED: log 94] -/
def State.rraTmo (s : State) (u : Nat) : Nat := let t := fld (s.reg (Reg.OCU_RRA_CFG u)) 7 0; if t < 2 then 8 else t
def State.rraRetry (s : State) (u : Nat) : Nat := fld (s.reg (Reg.OCU_RRA_CFG u)) 9 8

/-- The block by which a destination is reached: OCUS for a node of the segment the chip bridges (R347, R348). -/
def State.rraUnit (s : State) (dst : Nat) : Nat :=
  if s.bridges && s.ocuAddr 0 % 64 == 0 && dst / 64 == s.ocuAddr 0 / 64 && dst % 64 != 0 then 1 else 0

/-- The port that no master reads: the late answer to a read that the endpoint has completed goes there (R511). [DEDUCED: log 125] -/
def noPort : Nat := 31

/-- The bytes of a word that a read of part of it asks for (R40). [DEDUCED: log 20] -/
def partOf (w : Word) (a n : Nat) : Word := wordOfNat (w.toNat / 2 ^ (8 * (a % 4)) % 2 ^ (8 * n))

/-- A remote access completes, word by word: data, and whether it ended with an error (R342–R344); what the host sees of it
(R511–R513). -/
def State.rraAnswer (s : State) (r : RraReq) (ws : List (Word × Bool)) : State :=
  if r.port = noPort then s
  else
    let host := r.port == 26
    let s := ws.zipIdx.foldl (fun (s : State) (p : (Word × Bool) × Nat) =>
      let s := s.answer r.port (if r.op = 1 then partOf p.1.1 r.ofs r.bytes else 0) p.1.2
      if host && p.1.2 then s.windowError r.op (r.chip * 0x1000000 + r.ofs / 4 * 4 + 4 * p.2) else s) s
    if host && r.op == 1 then s.windowLatency ((qq (s.now - r.born : Nat) 1000).free 10).toNat else s

/-- Every word of an access ends with an error. -/
def RraReq.failed (r : RraReq) : List (Word × Bool) := List.replicate r.count (0, true)

/-- The words a frame carries, to a multiple of 8 bytes (R332). [DEDUCED: log 94] -/
def padWords (l : List Word) : List Word := if l.length % 2 = 1 then l ++ [0] else l

/-- W2 of a request and its response (R340). -/
def rraHead (op count ofs : Nat) : Word := wordOfNat (op * 0x10000000 + (count - 1) * 0x1000000 + ofs / 4 * 4 % 0x1000000)

/-- The RRA_REQ frame of an access (R340). -/
def State.rraFrame (s : State) (u : Nat) (r : RraReq) : List Word :=
  s.dynFrame u 1 r.dst r.seq false (rraHead r.op r.count r.ofs) 0 (if r.op = 2 then padWords r.data else [])

/-- May one more request to a destination be outstanding: fewer than 16 are, and all of them left by the port that leads
there now (R342)? -/
def State.rraMay (s : State) (u : Nat) (r : RraReq) : Bool :=
  let mine := (s.ocuOf u).rra.filter (fun x => x.dst == r.dst)
  mine.length < 16 && mine.all (fun x => x.out == s.portToward u r.dst)

/-- A request takes a slot: it gets its SEQ and waits to be sent (R340, R342). [DEDUCED: log 94] -/
def State.rraStart (s : State) (u : Nat) (r : RraReq) : State :=
  let o := s.ocuOf u
  let seq := smGet (fun _ => 0) o.seqs r.dst
  let r := { r with seq := seq, out := s.portToward u r.dst, since := s.now }
  let s := s.setOcu u { o with seqs := smSet (fun _ => 0) o.seqs r.dst ((seq + 1) % 256), rra := o.rra ++ [r] }
  s.queueOwn u 1 (s.rraFrame u r)

/-- A master makes a remote access: it takes a slot, or stalls behind the earlier ones (R342). [DEDUCED: log 94] -/
def State.rraIssue (s : State) (r : RraReq) : State :=
  let u := s.rraUnit r.dst
  if s.isFenced (ocuBlk u) then s.rraAnswer r r.failed
  else if !(s.ocuOf u).stalled.any (fun x => x.dst == r.dst) && s.rraMay u r then s.rraStart u r
  else s.setOcu u { s.ocuOf u with stalled := (s.ocuOf u).stalled ++ [r] }

/-- The oldest stalled access to a destination takes the slot that is free. -/
def State.rraNext (s : State) (u dst : Nat) : State :=
  match (s.ocuOf u).stalled.find? (fun x => x.dst == dst) with
  | some r =>
    if s.rraMay u r then
      (s.setOcu u { s.ocuOf u with stalled := (s.ocuOf u).stalled.erase r }).rraStart u r
    else s
  | none => s

/-- An outstanding access completes; those that waited for its slot, or for a change of direction, follow (R342). -/
def State.rraFinish (s : State) (u : Nat) (r : RraReq) (ws : List (Word × Bool)) : State :=
  let o := s.ocuOf u
  let s := s.setOcu u { o with rra := o.rra.filter (fun x => !(x.dst == r.dst && x.seq == r.seq)) }
  let s := s.rraAnswer r ws
  (List.range 16).foldl (fun (s : State) _ => s.rraNext u r.dst) s

/-- An access to another chip's window (R17, R342, R349): op 1 reads, 2 writes; `bytes` below 4 for a read of part of a
word. -/
def State.remoteAccess (s : State) (m : Sys2Proof.Master) (chip ofs op count : Nat) (data : List Word) (bytes : Nat) : State :=
  let e := s.reg (Reg.OCUB_RCT chip)
  let r : RraReq := { port := mport m, chip := chip, dst := fld e 11 0, seq := 0, op := op, count := count, ofs := ofs,
                      data := data, bytes := bytes, out := 0, born := s.now, since := s.now }
  if bitOf e 31 then s.rraIssue r
  else (s.decodeError (mclassCode (mclass m)) (0xA00000000 + chip * 0x1000000 + ofs)).rraAnswer r r.failed

end Sys2Proof.Machine
end

