-- ==== Sys2Proof/Machine/Sdm.lean ====
section
/-!
DEFINITION. The sigma-delta channels (R270–R273, R281, R282): captures, stuck streams, and the overcurrent path.
-/
namespace Sys2Proof.Machine

/-- The hidden part of channel m. -/
def State.sdmCh (s : State) (m : Nat) : SdmChan := smGet (fun _ => {}) s.sdm m
def State.setSdmCh (s : State) (m : Nat) (x : SdmChan) : State := { s with sdm := smSet (fun _ => {}) s.sdm m x }

/-- Set SDM_EVT bits: 0 OC, 1 STUCK. -/
def State.sdmEvt (s : State) (b : Nat) : State := s.raiseEvt 0x21 Reg.SDM_EVT (some Reg.SDM_EVT_EN) (bitMask b)

/-- DIV of a clock word, D of a DEC code, and D1 of its code (R270–R273, R281, R282). -/
def sdmDiv (w : Word) : Nat := [8, 10, 20, 40].getD (fld w 1 0) 8
def sdmDec (cfg : Word) : Nat := 32 * 2 ^ fld cfg 5 4
def sdmD1 (cfg : Word) : Nat := 8 * 2 ^ fld cfg 9 8

/-- T_OC in units of 1/8 ns (R273). -/
def sdmToc (cfg clk : Word) : Nat := (sdmD1 cfg + 2) * sdmDiv clk * 25 + fld cfg 14 12 * 25 + 720

/-- 3D bits of a channel from now, in units of 1/8 ns. -/
def State.sdmWarm (s : State) (m : Nat) : Nat :=
  s.now * 8 + 3 * sdmDec (s.reg (Reg.SDM_CH_CFG m)) * sdmDiv (s.reg (Reg.SDM_CLK (m / 6))) * 25

/-- EN of a channel and of its clock. -/
def State.sdmOn (s : State) (m : Nat) : Bool := bitOf (s.reg (Reg.SDM_CH_CFG m)) 31
def State.sdmClocked (s : State) (m : Nat) : Bool := bitOf (s.reg (Reg.SDM_CLK (m / 6))) 8

/-- An overcurrent detection: it is counted and shown, and trips the axis channel (R191, R273). [DEDUCED: log 74] -/
def State.sdmTrip (s : State) (m : Nat) : State :=
  let a := if m < 32 then Reg.SDM_OC_MAP0 else Reg.SDM_OC_MAP1
  (((s.inc (Reg.SDM_CH_OC_CNT m)).orReg a (bitMask (m % 32))).sdmEvt 0).axcTrip (m / 3) 2

/-- A stream is stuck (R272). [DEDUCED: log 74] -/
def State.sdmStuck (s : State) (m : Nat) : State :=
  let a := if m < 32 then Reg.SDM_STUCK_MAP0 else Reg.SDM_STUCK_MAP1
  ((s.setSdmCh m { s.sdmCh m with stuck := true }).orReg a (bitMask (m % 32))).sdmEvt 1

/-- STUCK_STREAM (R272): 64 clocks at one level. -/
def stuckStream (m : Nat) (s : State) : State :=
  if s.sdmOn m && s.sdmClocked m && !(s.sdmCh m).stuck then s.sdmStuck m else s

def execStuckStream (n : Fin 48) (s : State) : Host.Outcome State Fault Refusal := s.goesTo (s.alive 7 (stuckStream n.val s))

/-- STUCK_STREAM_RECOVERY (R271): the channel publishes again once 3D bits have been sampled. -/
def stuckStreamRecovery (m : Nat) (s : State) : State :=
  if (s.sdmCh m).stuck && s.sdmClocked m then s.setSdmCh m ⟨false, s.sdmWarm m⟩ else s

def execStuckStreamRecovery (n : Fin 48) (s : State) : Host.Outcome State Fault Refusal :=
  s.goesTo (s.alive 7 (stuckStreamRecovery n.val s))

/-- SDM_OVERCURRENT (R273): the sum of the last D1 bits, each +1 or −1, reaches OCLIM where OCEN is set. -/
def sdmOvercurrent (m : Nat) (sum : Int) (s : State) : State :=
  let cfg := s.reg (Reg.SDM_CH_CFG m)
  let d1 := sdmD1 cfg
  if s.sdmOn m && s.sdmClocked m && bitOf cfg 0 && decide (sum.natAbs ≤ d1)
      && decide (fld (s.reg (Reg.SDM_CH_OCLIM m)) 15 0 * d1 ≤ sum.natAbs * 65536) then s.sdmTrip m
  else s

def execSdmOvercurrent (n : Fin 48) (sum : BitVec 8) (s : State) : Host.Outcome State Fault Refusal :=
  s.goesTo (s.alive 7 (sdmOvercurrent n.val sum.toInt s))

/-- y = GAIN × x + OFS rounded to binary32, x in units of 2^−24 (R271). -/
def sdmScale (gain ofs : Word) (x : Int) : Word :=
  match bf32Val gain, bf32Val ofs with
  | .fin g _, .fin o _ => bf32Ieee ((g.mul ⟨x, -24⟩).add o)
  | .nan, _ => bf32NaN
  | _, .nan => bf32NaN
  | .inf n, o =>
    if x = 0 then bf32NaN
    else
      let neg := n != decide (x < 0)
      match o with
      | .inf k => if k = neg then (if neg then 0xFF800000 else 0x7F800000) else bf32NaN
      | _ => if neg then 0xFF800000 else 0x7F800000
  | .fin _ _, .inf k => if k then 0xFF800000 else 0x7F800000

/-- A capture of channel m: its sinc3 output in units of 2^−24 (R271). -/
def State.sdmCapture (s : State) (m : Nat) (x : Int) : State :=
  let c := s.sdmCh m
  if s.sdmOn m && s.sdmClocked m && !c.stuck && decide (c.ready ≤ s.now * 8) then
    let y := sdmScale (s.reg (Reg.SDM_CH_GAIN m)) (s.reg (Reg.SDM_CH_OFS m)) (clampInt (-16777216) 16777216 x)
    (s.setReg (Reg.SDM_CH_VAL m) y).pubBf (0x2000 + m) y
  else s

/-- SWAP (R273, R281): rejected where a channel with OCEN would have T_OC above 1 µs. -/
def sdmSwap (m : Sys2Proof.Master) (a : Sys2Proof.CmdArg) (s : State) : State :=
  let ok := (List.range 48).all (fun c =>
    let cfg := s.reg (Reg.SDM_CH_CFG_S c)
    !bitOf cfg 0 || decide (sdmToc cfg (s.reg (Reg.SDM_CLK_S (c / 6))) ≤ 8000))
  s.command m a ⟨Reg.SDM_CMD, .priv, 1, a.arg == 0, true, s.reg Reg.SDM_STATE == 1, ok⟩ fun s => s.setState 0x21 2

def execSdmSwap (m : Sys2Proof.Master) (a : Sys2Proof.CmdArg) (s : State) : Host.Outcome State Fault Refusal :=
  s.goesTo (sdmSwap m a s)

/-- One channel at the swap instant: where its configuration changes it samples anew; without a clock it is treated as
stuck, and a stuck stream feeds the overcurrent path (R271, R272, R282). -/
def State.sdmRenew (s : State) (m : Nat) (changed : Bool) : State :=
  if !changed then s
  else
    let s := s.setSdmCh m ⟨false, s.sdmWarm m⟩
    if s.sdmOn m && !s.sdmClocked m then
      let s := s.sdmStuck m
      if bitOf (s.reg (Reg.SDM_CH_CFG m)) 0 then s.sdmTrip m else s
    else s

/-- The swap instant (R50, R281). [DEDUCED: log 74] -/
def State.sdmSwapAtT0 (s : State) : State :=
  if s.swapDue Reg.SDM_CMD 1 then
    let diff (c : Nat) : Bool := s.reg (Reg.SDM_CH_CFG c) != s.reg (Reg.SDM_CH_CFG_S c)
      || s.reg (Reg.SDM_CLK (c / 6)) != s.reg (Reg.SDM_CLK_S (c / 6))
    let l := (List.range 48).map diff
    let s := (List.range 8).foldl (fun s k => s.setReg (Reg.SDM_CLK k) (s.reg (Reg.SDM_CLK_S k))) s
    let s := (List.range 48).foldl (fun s c => s.setReg (Reg.SDM_CH_CFG c) (s.reg (Reg.SDM_CH_CFG_S c))) s
    let s := (List.range 48).foldl (fun s c => s.sdmRenew c (l.getD c false)) s
    (s.setState 0x21 1).complete Reg.SDM_CMD
  else s

/-- ABORT (R68): a pending filter reconfiguration is cancelled. -/
def sdmAbort (m : Sys2Proof.Master) (a : Sys2Proof.CmdArg) (s : State) : State :=
  s.abort m a Reg.SDM_CMD .priv fun _ s => s.setState 0x21 1

def execSdmAbort (m : Sys2Proof.Master) (a : Sys2Proof.CmdArg) (s : State) : Host.Outcome State Fault Refusal :=
  s.goesTo (sdmAbort m a s)

end Sys2Proof.Machine
end

