-- ==== Sys2Proof/Machine/Commands.lean ====
section
/-!
DEFINITION. CLEAR_STATS of every block (R64), and the command that each code written to each _CMD register stands for
(R60, R62).
-/
namespace Sys2Proof.Machine

/-! ### CLEAR_STATS (R64) -/

/-- The code of CLEAR_STATS in a block that has it. -/
def statsCode (b : Nat) : Option Nat :=
  match b with
  | 0x04 => some 2
  | 0x06 => some 4
  | 0x08 => some 3
  | 0x10 => some 5
  | 0x12 => some 1
  | 0x14 => some 1
  | 0x15 => some 1
  | 0x16 => some 1
  | 0x17 => some 1
  | 0x18 => some 2
  | 0x19 => some 3
  | 0x1C => some 1
  | 0x1D => some 4
  | 0x20 => some 3
  | 0x21 => some 2
  | 0x22 => some 1
  | 0x24 => some 4
  | 0x25 => some 6
  | 0x28 => some 4
  | 0x29 => some 4
  | 0x2C => some 4
  | 0x2D => some 3
  | 0x2E => some 3
  | 0x30 => some 8
  | 0x31 => some 8
  | 0x32 => some 8
  | 0x33 => some 8
  | 0x38 => some 2
  | 0x39 => some 3
  | 0x3A => some 3
  | 0x3B => some 6
  | 0x3C => some 3
  | _ => none

/-- Does the block's state permit CLEAR_STATS: SIG in IDLE (R97), PCIE with its link in use (R514); else every state. SAFE and
FIO decide for themselves (R302, R322). -/
def State.statsOk (s : State) (b : Nat) : Bool :=
  match b with
  | 0x08 => s.reg Reg.SIG_STATE == 1
  | 0x3C => s.reg Reg.PCIE_STATE != 0
  | _ => true

/-- The counters of the blocks of signals, control and axes. [DEDUCED: log 28] -/
def statsRegs (b : Nat) : List Nat :=
  let n16 := List.range 16
  match b with
  | 0x08 => [Reg.SIG_STALE_CNT, Reg.SIG_BADENT, Reg.SIG_WR_IGN, Reg.SIG_OVL_CNT]
  | 0x10 => [Reg.CE_MISS_CNT, Reg.CE_MM_CNT, Reg.CE_CHK_SKIP, Reg.CE_OVF_CNT]
  | 0x12 => [Reg.PROF_STARVE_CNT, Reg.PROF_LIM_CNT, Reg.PROF_BADTRAV_CNT]
  | 0x14 => axc 0
  | 0x15 => axc 1
  | 0x16 => axc 2
  | 0x17 => axc 3
  | 0x18 => n16.map Reg.STEP_CH_LOST_CNT
  | 0x19 => n16.map Reg.ENC_P_ERRCNT
  | 0x1C => [Reg.SEQ_CONFL_CNT, Reg.SEQ_BADACT_CNT] ++ n16.map Reg.SEQ_CH_TRANS_CNT ++ n16.map Reg.SEQ_CH_ABTIGN
  | 0x1D => [Reg.ILK_CONFL_CNT, Reg.ILK_ACT_CNT, Reg.ILK_HUT_DROP, Reg.ILK_BADRULE_CNT]
  | 0x20 => [Reg.ADC_URGDROP_CNT, Reg.ADC_QOVF_CNT, Reg.ADC_LATE_CNT, Reg.ADC_CALERR_CNT] ++ n16.map Reg.ADC_G_FIRE_CNT
  | 0x21 => (List.range 48).map Reg.SDM_CH_OC_CNT
  | 0x22 => n16.map Reg.DAC_CH_CLAMP_CNT ++ n16.map Reg.DAC_CH_BADIN_CNT ++ n16.map Reg.DAC_CH_QOVF_CNT
  | _ => []
where
  axc (k : Nat) : List Nat := (List.range 4).map (Reg.AXC_CH_TRIP_CNT k) ++ (List.range 4).map (Reg.AXC_CH_BADIN_CNT k)

/-- The effect of CLEAR_STATS on a block's counters. [DEDUCED: log 28] -/
def State.statsClear (s : State) (b : Nat) : State :=
  match b with
  | 0x04 => s.fltClearStats
  | 0x06 => s.hutClearStats
  | 0x10 => (s.zeroRegs (statsRegs 0x10)).setReg Reg.CE_LOAD (s.reg Reg.CE_LOAD &&& 0xFFFF#32)
  | 0x28 => s.ocuClearStats 0
  | 0x29 => s.ocuClearStats 1
  | 0x2C => s.tbClearStats
  | 0x2D => s.ethClearStats 0
  | 0x2E => s.ethClearStats 1
  | 0x30 => s.canClearStats 0
  | 0x31 => s.canClearStats 1
  | 0x32 => s.canClearStats 2
  | 0x33 => s.canClearStats 3
  | 0x38 => s.wschClearStats
  | 0x39 => s.queClearStats
  | 0x3A => s.memcClearStats
  | 0x3B => s.srecClearStats
  | 0x3C => s.pcieClearStats
  | _ => s.zeroRegs (statsRegs b)

/-- The access suffix of a command register: SREC's is open to every master, those of SAFE and CLK are secure. -/
def unitAcc (unit : Nat) : Priv :=
  match regDesc unit with
  | some d => d.acc
  | none => .priv

/-- CLEAR_STATS written to a block's _CMD. [DEDUCED: log 28] -/
def clearStats (b : Nat) (m : Sys2Proof.Master) (a : Sys2Proof.CmdArg) (s : State) : State :=
  match b, statsCode b with
  | 0x24, _ => fioClearStats m a s
  | 0x25, _ => safeClearStats m a s
  | _, some code =>
    s.command m a ⟨b * 0x10000, unitAcc (b * 0x10000), code, a.arg == 0, false, s.statsOk b, true⟩ fun s => s.statsClear b
  | _, none => s

def execClearStats (m : Sys2Proof.Master) (blk : BitVec 6) (a : Sys2Proof.CmdArg) (s : State) :
    Host.Outcome State Fault Refusal := s.goesTo (clearStats blk.toNat m a s)

/-! ### What a code stands for -/

/-- A command as written. -/
abbrev CmdOp := Sys2Proof.Master → Sys2Proof.CmdArg → State → State

/-- The commands of a block's _CMD register, from code 0x01 up, and its ABORT. -/
def blockCmds (b : Nat) : Option (List CmdOp × CmdOp) :=
  match b with
  | 0x00 => some ([sysApplyCoreEn, sysClearCounters], sysAbort)
  | 0x01 => some ([clkApplyPoolSel], clkAbort)
  | 0x02 => some ([bootWarm, bootVerify, bootCommit, bootAttest, bootRetry], bootAbort)
  | 0x03 => some ([kecInit, kecAbsorb, kecFinal], kecAbort)
  | 0x04 => some ([fltSelftest, clearStats 0x04], fltAbort)
  | 0x05 => some ([bivSet], bivAbort)
  | 0x06 => some ([hutReserve, hutCommit, hutCancel, clearStats 0x06], hutAbort)
  | 0x08 => some ([sigLoad, sigSwap, clearStats 0x08], sigAbort)
  | 0x09 => some ([cycStart, cycSwap], cycAbort)
  | 0x10 => some ([ceStart, ceStop, ceValidate, ceSwap, clearStats 0x10], ceAbort)
  | 0x11 => some ([ctabCopy], ctabAbort)
  | 0x12 => some ([clearStats 0x12, profStopAll], profAbort)
  | 0x14 => some ([clearStats 0x14, fun m a s => axcSwap m 0 a s], fun m a s => axcAbort m 0 a s)
  | 0x15 => some ([clearStats 0x15, fun m a s => axcSwap m 1 a s], fun m a s => axcAbort m 1 a s)
  | 0x16 => some ([clearStats 0x16, fun m a s => axcSwap m 2 a s], fun m a s => axcAbort m 2 a s)
  | 0x17 => some ([clearStats 0x17, fun m a s => axcSwap m 3 a s], fun m a s => axcAbort m 3 a s)
  | 0x18 => some ([stepReshape, clearStats 0x18], stepAbort)
  | 0x19 => some ([encConfig, encSsiRead, clearStats 0x19], encAbort)
  | 0x1C => some ([clearStats 0x1C], seqAbort)
  | 0x1D => some ([ilkSwap, ilkCopyActive, ilkAck, clearStats 0x1D], ilkAbort)
  | 0x20 => some ([adcTrigger, adcSwap, clearStats 0x20], adcAbort)
  | 0x21 => some ([sdmSwap, clearStats 0x21], sdmAbort)
  | 0x22 => some ([clearStats 0x22], dacAbort)
  | 0x24 => some ([fioArm, fioClearOut, fioFlushTsf, clearStats 0x24], fioAbort)
  | 0x25 => some ([safeReset, safeConfig, leaveConfig, safeDemand, safeRelease, clearStats 0x25], safeAbort)
  | 0x28 => some (ocu 0, ocuAbort 0)
  | 0x29 => some (ocu 1, ocuAbort 1)
  | 0x2C => some ([tbSet, tbAdj, tbSnapCal, clearStats 0x2C], tbAbort)
  | 0x2D => some ([ethStart 0, ethStop 0, clearStats 0x2D, ethMdio 0], ethAbort 0)
  | 0x2E => some ([ethStart 1, ethStop 1, clearStats 0x2E, ethMdio 1], ethAbort 1)
  | 0x30 => some (can 0, canAbort 0)
  | 0x31 => some (can 1, canAbort 1)
  | 0x32 => some (can 2, canAbort 2)
  | 0x33 => some (can 3, canAbort 3)
  | 0x38 => some ([wschApplyCfg, clearStats 0x38], wschAbort)
  | 0x39 => some ([queReset, queResize, clearStats 0x39], queAbort)
  | 0x3A => some ([memcScrubNow, memcRemap, clearStats 0x3A], memcAbort)
  | 0x3B => some ([srecStart, srecStop, srecArm, srecTrigger, srecRelease, clearStats 0x3B], srecAbort)
  | 0x3C => some ([pcieRetrain, pcieMbReset, clearStats 0x3C], pcieAbort)
  | 0x3D => some ([xspiRead, xspiProgram, xspiErase4k, xspiErase64k, xspiResume], xspiAbort)
  | _ => none
where
  ocu (u : Nat) : List CmdOp := [ocuStart u, ocuStop u, ocuLoadSched u, clearStats (0x28 + u), ocuMbSend u, ocuMbRelease u,
    ocuBulkSend u]
  can (k : Nat) : List CmdOp := [canStart k, canStop k, canSleep k, canWake k, canRecover k, canTxreq k, canTxcancel k,
    clearStats (0x30 + k)]

/-- The commands of a channel's, or a secure, command register. -/
def channelCmds (reg : Nat) : Option (List CmdOp × CmdOp) :=
  let b := reg / 0x10000
  let off := reg % 0x10000
  if reg = Reg.BOOT_SC_CMD then some ([keyProg, keyRevoke, rollfwd, svcProg, otpProg, dbgLock, dbgOpen], bootScAbort)
  else if reg = Reg.FLT_SC_CMD then some ([clearRet, islReset], fltScAbort)
  else if reg = Reg.HUT_SC_CMD then some ([hutNonce, hutClear], hutScAbort)
  else if b = 0x12 ∧ 0x800 ≤ off ∧ off < 0x3800 ∧ (off - 0x800) % 0x60 = 0 then
    let g := (off - 0x800) / 0x60
    some ([fun m a s => profEnable m g a s, fun m a s => profDisable m g a s, fun m a s => profGo m g a s,
      fun m a s => profRunQueue m g a s, fun m a s => profStop m g a s, fun m a s => profQstop m g a s,
      fun m a s => profFlush m g a s, fun m a s => profLatchArm m g a s], fun m a s => profGenAbort m g a s)
  else if 0x14 ≤ b ∧ b < 0x18 ∧ 0x100 ≤ off ∧ off < 0x300 ∧ off % 0x80 = 0 then
    let n := (b - 0x14) * 4 + (off - 0x100) / 0x80
    some ([fun m a s => axcEnable m n a s, fun m a s => axcDisable m n a s, fun m a s => axcReset m n a s],
      fun m a s => axcChannelAbort m n a s)
  else if b = 0x1C ∧ 0x100 ≤ off ∧ off < 0x500 ∧ off % 0x40 = 0 then
    let c := (off - 0x100) / 0x40
    some ([fun m a s => seqStart m c a s, fun m a s => seqPause m c a s, fun m a s => seqResume m c a s,
      fun m a s => seqRelease m c a s, fun m a s => seqReset m c a s], fun m a s => seqChannelAbort m c a s)
  else none

/-- The commands of a command register. -/
def cmdsAt (reg : Nat) : Option (List CmdOp × CmdOp) :=
  if reg % 0x10000 = 0 then blockCmds (reg / 0x10000) else channelCmds reg

/-- A word written to a command register with these commands: the one its CODE names, ABORT (0x0F), or an undefined code
(R60, R62). -/
def cmdWrite (m : Sys2Proof.Master) (reg : Nat) (cmds : List CmdOp × CmdOp) (w : Word) (s : State) : State :=
  let a : Sys2Proof.CmdArg := ⟨w.extractLsb' 24 8, w.extractLsb' 8 16⟩
  let code := fld w 7 0
  let undef : State := s.command m a ⟨reg, unitAcc reg, code, false, false, true, true⟩ fun s => s
  if code = 0x0F then cmds.2 m a s
  else if code = 0 then undef
  else match cmds.1[code - 1]? with
    | some op => op m a s
    | none => undef

end Sys2Proof.Machine
end

