-- ==== Sys2Proof/Machine/Bus.lean ====
section
/-!
DEFINITION. Accesses of a master: registers by width and alias (R40–R59), memory (R15–R17), remote windows (R18, R19, R349)
and the host's BARs (R504, R505).
-/
namespace Sys2Proof.Machine

/-! ### What a register reads as -/

/-- Registers held per master port (R95, R177, R428, R431, R437, R553). [DEDUCED: log 26] -/
def perPort (a : Nat) : Bool :=
  a == Reg.SIG_PEEK_ID || a == Reg.SIG_PEEK_VAL || a == Reg.SIG_PEEK_STAT || a == Reg.SIG_WR_ID || a == Reg.SIG_SUB_ID
    || (0x120100 ≤ a && a < 0x120140) || (0x390040 ≤ a && a < 0x390080) || a == Reg.QUE_ENQ_RES
    || (0x380050 ≤ a && a < 0x380090) || a == Reg.WSCH_CANCEL_RES || a == Reg.HUT_CURSOR || a == Reg.HUT_CURINFO

/-- The word of a register as it stands for a port, without what a read latches or clears. [DEDUCED: log 26] -/
def State.regNow (s : State) (p a : Nat) : Word :=
  if perPort a then s.preg p a
  else if a = Reg.CYC_PHASE then (if s.hasT0 then wordOfNat (min s.phase 31249) else 0)
  else if a = Reg.SIG_SUB_VAL then smGet (fun _ => 0) s.sig.subst (fld (s.preg p Reg.SIG_SUB_ID) 12 0)
  else if a = Reg.PROF_CAM_DATA then smGet (fun _ => 0) s.prof.cam (fld (s.reg Reg.PROF_CAM_ADDR) 13 0)
  else if a = Reg.STEP_TBL_DATA then
    wordOfNat (s.stepTab (fld (s.reg Reg.STEP_TBL_ADDR) 9 8) (fld (s.reg Reg.STEP_TBL_ADDR) 7 0) % 4096)
  else if a = Reg.FLT_RET_ENT then (smFind s.flt.retList (fld (s.reg Reg.FLT_RET_IDX) 7 0)).getD 0
  else if a = Reg.FLT_BKT_LVL then
    wordOfNat (min 255 (s.bucket (fld (s.reg Reg.FLT_BKT_SEL) 15 12) (fld (s.reg Reg.FLT_BKT_SEL) 11 0)))
  else if a = Reg.BOOT_OTP_DATA then s.otpData
  else if 0x060100 ≤ a ∧ a < 0x060200 then s.hutWindow p ((a - 0x060100) / 4)
  else if 0x010040 ≤ a ∧ a < 0x010078 then
    (if bitOf (s.reg Reg.CLK_ISL_RUN) ((a - 0x010040) / 4) then Config.clkMon ((a - 0x010040) / 4) s.now else s.reg a)
  else s.reg a

/-- Does a read of this register latch the register one word above it: is it the _LO of a pair (R42), or ADC_INn_RES
(R262)? -/
def latchesHi (a : Nat) : Bool :=
  let off := a % 0x10000
  [Reg.SYS_UID_LO, Reg.CTAB_SRC_LO, Reg.STEP_SRC_LO, Reg.ADC_RET_LO, Reg.OCU_BTX_SRC_LO 0, Reg.OCU_BTX_SRC_LO 1,
      Reg.TB_SNAP_CALS_LO, Reg.ETH_MAC_LO 0, Reg.ETH_MAC_LO 1, Reg.MEMC_CE_ADDR_LO, Reg.MEMC_UE_ADDR_LO,
      Reg.SREC_BUF_BASE_LO_S, Reg.SREC_BUF_BASE_LO, Reg.SREC_BYTES_LO, Reg.SREC_RD_DST_LO, Reg.BOOT_ATT_LO, Reg.KEC_SRC_LO,
      Reg.XSPI_MADDR_LO, Reg.BIV_SET_LO, Reg.HUT_AUTH_LO].contains a
    || match a / 0x10000 with
      | 0x12 => 0x800 ≤ off && off < 0x3800 && (off - 0x800) % 0x60 == 0x10
      | 0x1C => 0x100 ≤ off && off < 0x500 && off % 0x40 == 0x0C
      | 0x20 => 0x600 ≤ off && off < 0x800 && off % 0x10 == 4
      | 0x28 => 0x440 ≤ off && off < 0x4C0 && off % 0x10 == 0
      | 0x29 => 0x440 ≤ off && off < 0x4C0 && off % 0x10 == 0
      | 0x2D => 0x100 ≤ off && off < 0x300 && off % 0x20 == 0
      | 0x2E => 0x100 ≤ off && off < 0x300 && off % 0x20 == 0
      | 0x39 => 0x1000 ≤ off && off < 0x2000 && (off % 0x20 == 4 || off % 0x20 == 0x0C)
      | _ => false

/-- Result registers with a FRESH bit, which is bit 0 (R69, R181, R223, R262, R425). -/
def isResult (a : Nat) : Bool :=
  let off := a % 0x10000
  match a / 0x10000 with
  | 0x12 => 0x800 ≤ off && off < 0x3800 && (off - 0x800) % 0x60 == 0x48
  | 0x19 => 0x100 ≤ off && off < 0x500 && (off % 0x40 == 0x28 || off % 0x40 == 0x30)
  | 0x20 => 0x600 ≤ off && off < 0x800 && off % 0x10 == 4
  | 0x30 => canStat off
  | 0x31 => canStat off
  | 0x32 => canStat off
  | 0x33 => canStat off
  | _ => false
where
  canStat (off : Nat) : Bool := 0x1000 ≤ off && off < 0x2800 && (off - 0x1000) % 0x60 == 0x10

/-- A full read of the register at OFS (R41, R42, R57, R59, R69): what it returns is the port's answer. [DEDUCED: log 19] -/
def regRead (m : Sys2Proof.Master) (a : Nat) (s : State) : State :=
  if a = Reg.TB_TIME_LO then tbTimeRead m s
  else if a = Reg.BIV_CAL_LO then calendarRead m (Config.calFrac s.now).toNat s
  else if a = Reg.FIO_TSF_LO then tsfRead m s
  else if a = Reg.FLT_LOG_D 0 then fltLogRead m s
  else if a = Reg.PROF_CAM_DATA then camDataAccess m none s
  else s.access m a fun s =>
    let p := mport m
    match regDesc a with
    | none => s.answer p 0 false
    | some d =>
      if d.wo || !s.granted m a d.acc then s.answer p 0 false
      else
        let w := (smFind s.held (portKey p a)).getD (s.regNow p a)
        let s := if latchesHi a then s.latch p (a + 4) (s.regNow p (a + 4)) else s
        (if isResult a then s.setReg a (setBit (s.reg a) 0 false) else s).answer p w false

/-! ### What a write does to a register -/

/-- The command register whose pending swap freezes a shadow register (R51). -/
def State.frozenBy (s : State) (a : Nat) : Option Nat :=
  let pend (unit code : Nat) : Option Nat := if s.busyWith unit code then some unit else none
  if 0x081000 ≤ a ∧ a < 0x081800 then pend Reg.SIG_CMD 2
  else if (activeOf a).isNone then none
  else match a / 0x10000 with
    | 0x09 => pend Reg.CYC_CMD 2
    | 0x14 => pend (Reg.AXC_CMD 0) 2
    | 0x15 => pend (Reg.AXC_CMD 1) 2
    | 0x16 => pend (Reg.AXC_CMD 2) 2
    | 0x17 => pend (Reg.AXC_CMD 3) 2
    | 0x20 => pend Reg.ADC_CMD 2
    | 0x21 => pend Reg.SDM_CMD 1
    | _ => none

/-- Registers of RW access whose write is an operation of its own, with that operation on the new word. -/
def rwOp (m : Sys2Proof.Master) (a : Nat) : Option (Word → State → State) :=
  let off := a % 0x10000
  match a / 0x10000 with
  | 0x06 => if a = Reg.HUT_CURSOR then some (hutCursorWrite m) else none
  | 0x08 =>
    if a = Reg.SIG_PEEK_ID then some fun x s => sigPeek m (x.extractLsb' 0 13) s
    else if a = Reg.SIG_ENT_IDX then some fun x s =>
      if fld x 31 30 = 1 then sigEntryRead m (x.extractLsb' 0 13) s
      else if fld x 31 30 = 2 then sigEntryWrite m (x.extractLsb' 0 13) s
      else s.setReg a (x &&& 0x1FFF#32)
    else if a = Reg.SIG_SUB_VAL then some fun x s =>
      { s with sig := { s.sig with subst := smSet (fun _ => 0) s.sig.subst (fld (s.preg (mport m) Reg.SIG_SUB_ID) 12 0) x } }
    else none
  | 0x12 =>
    if a = Reg.PROF_CAM_DATA then some fun x s => camDataAccess m (some x) s
    else if 0x800 ≤ off ∧ off < 0x3800 ∧ (off - 0x800) % 0x60 = 0x2C then some fun x s => hofsWrite m ((off - 0x800) / 0x60) x s
    else none
  | 0x1D =>
    if a = Reg.ILK_RULE_IDX then some fun x s =>
      match fld x 31 30 with
      | 1 => ilkRuleReadShadow m (fld x 9 0) s
      | 2 => ilkRuleWriteShadow m (fld x 9 0) s
      | 3 => ilkRuleReadActive m (fld x 9 0) s
      | _ => s.setReg a (x &&& 0x3FF#32)
    else none
  | 0x20 => if 0x100 ≤ off ∧ off < 0x500 ∧ off % 0x40 = 0x20 then some fun x s => tbtimeWrite m ((off - 0x100) / 0x40) x s else none
  | 0x25 => if a = Reg.SAFE_CONFIRM then some fun x s => safeConfirmWrite m x s else none
  | 0x2D => tail 0 off
  | 0x2E => tail 1 off
  | 0x3B => if a = Reg.SREC_RD_CTL then some (rdCtlWrite m) else none
  | _ => none
where
  tail (k off : Nat) : Option (Word → State → State) :=
    if 0x100 ≤ off ∧ off < 0x300 ∧ off % 0x20 = 0x10 then
      some fun x s => tailWrite m k ((off - 0x100) / 0x40) (off % 0x40 == 0x10) x s
    else none

/-- What follows from the new word of a configuration or status register in its block. -/
def State.regWritten (s : State) (a : Nat) (old new : Word) : State :=
  let off := a % 0x10000
  match a / 0x10000 with
  | 0x02 =>
    if a = Reg.BOOT_WDOG ∧ bitOf new 31 ∧ !bitOf old 31 then { s with boot := { s.boot with wdogAt := s.now } } else s
  | 0x04 =>
    if a = Reg.FLT_ST_CFG then (if new = 0x3FF then s else s.safeEvt 0x100).fltShow else s
  | 0x10 =>
    if 0x50 ≤ off ∧ off < 0x60 then
      (List.range 32).foldl (fun (s : State) i =>
        if bitOf old i && !bitOf new i then s.ceSetStatus ((off - 0x50) / 4 * 32 + i) 3 false else s) s
    else s
  | 0x1D =>
    if 0x100 ≤ off ∧ off < 0x180 then
      ((List.range 32).foldl (fun (s : State) i =>
        if bitOf old i && !bitOf new i then s.ilkRelease ((off - 0x100) / 4 * 32 + i) else s) s).ilkSync
    else s
  | 0x20 =>
    if 0x600 ≤ off ∧ off < 0x800 then s.adcSync
    else if 0x800 ≤ off ∧ off < 0xC00 ∧ off % 0x10 = 0 ∧ !bitOf new 31 then
      s.setReg (a + 0xC) (setFld (s.reg (a + 0xC)) 1 0 3)
    else s
  | 0x22 => if 0x100 ≤ off ∧ off % 0x20 = 0 then s.dacCfg ((off - 0x100) / 0x20) old new else s
  | 0x2D => eth s 0 off new
  | 0x2E => eth s 1 off new
  | 0x30 => can s 0 off old new
  | 0x31 => can s 1 off old new
  | 0x32 => can s 2 off old new
  | 0x33 => can s 3 off old new
  | 0x39 => if 0x1000 ≤ off ∧ off % 0x20 = 0 then s.queCfgChanged ((off - 0x1000) / 0x20) else s
  | _ => s
where
  eth (s : State) (k off : Nat) (new : Word) : State :=
    if 0x100 ≤ off ∧ off < 0x300 ∧ off % 0x40 = 0x34 ∧ bitOf new 0 then s.setEth k { s.ethMac k with warm := false } else s
  can (s : State) (k off : Nat) (old new : Word) : State :=
    if 0x1000 ≤ off ∧ off < 0x2800 ∧ (off - 0x1000) % 0x60 = 0 then s.canCfgChanged k ((off - 0x1000) / 0x60) old new else s

/-- The bits of a register that a master's write may change: SAFE of FIO_OUTn_CFG is secure (R301); a receive buffer's data
words are the controller's (R423). [DEDUCED: log 25] -/
def State.mayChange (s : State) (m : Sys2Proof.Master) (a : Nat) (d : RegDesc) : Word :=
  let off := a % 0x10000
  let b := a / 0x10000
  if b = 0x24 ∧ 0x200 ≤ off ∧ mclass m ≠ .secure then d.rw &&& ~~~0x10000000#32
  else if 0x30 ≤ b ∧ b < 0x34 ∧ 0x1000 ≤ off ∧ off < 0x2800 ∧ 0x20 ≤ (off - 0x1000) % 0x60
      ∧ !bitOf (s.reg (a / 0x10000 * 0x10000 + 0x1000 + (off - 0x1000) / 0x60 * 0x60)) 30 then 0
  else d.rw

/-- Store a written word: RW bits as `new` gives them, W1C bits cleared where `clr` has a 1 (R43–R47). A frozen shadow
register takes nothing (R51); while SYS_STATE is BOOT the active copy takes it too (R483); a live reserved bit that
changes makes what follows unspecified (R53); and the image shadow takes the word (R55). [DEDUCED: log 15; DEDUCED: log 16; DEDUCED: log 24] -/
def State.regStore (s : State) (m : Sys2Proof.Master) (a : Nat) (d : RegDesc) (new clr : Word) : State :=
  match s.frozenBy a with
  | some unit => s.setReg (statOf unit) (s.reg (statOf unit) ||| 0x20#32)
  | none =>
    if a = Reg.SYS_ROLE ∧ bitOf (s.reg a) 15 then s.noteDenied (mclassCode (mclass m)) 0 0x20
    else match rwOp m a with
      | some op => op new s
      | none =>
        let p := mport m
        let old := s.regNow p a
        let mask := s.mayChange m a d ||| d.live
        let w := ((old &&& ~~~mask) ||| (new &&& mask)) &&& ~~~(clr &&& d.w1c)
        let s := if perPort a then s.setPreg p a w else s.setReg a w
        let s := match activeOf a with
          | some b => if s.reg Reg.SYS_STATE = 1 then s.setReg b w else s
          | none => s
        let s := { s with shadow := smDel s.shadow a }
        let s := s.regWritten a old w
        if (old ^^^ w) &&& d.live = 0 then s
        else ({ s with unspecified := true }).setReg Reg.FLT_SUMMARY (setBit (s.reg Reg.FLT_SUMMARY) 15 false)

/-- A write to a WO register that is no command register. -/
def woWrite (m : Sys2Proof.Master) (a : Nat) (w : Word) (s : State) : State :=
  if a = Reg.SIG_WR_VAL then sigWrValWrite m w s
  else if a = Reg.SAFE_SEL_SET then safeSelSetWrite m w s
  else if a = Reg.SAFE_SEL_CLR then safeSelClrWrite m w s
  else if a = Reg.WSCH_CANCEL then wschCancelWrite m w s
  else if a = Reg.WSCH_DONE then wschDoneWrite m s
  else if a = Reg.QUE_ENQ_COMMIT then queEnqCommit m w s
  else if a = Reg.BOOT_WDOG_KICK then wdogKick m s
  else if a = Reg.PCIE_MB_ANSWER then mbAnswerWrite m w s
  else if a = Reg.PCIE_MSIX_RAISE then msixRaiseWrite m w s
  else if a = Reg.HUT_WR_DATA then hutWrDataWrite m w s
  else s

/-- A write of a word to the register at OFS through an alias (R41–R47, R53, R59–R62). It completes without error, but
where the block's island fails the access. -/
def regWrite (m : Sys2Proof.Master) (a : Nat) (al : Alias) (w : Word) (s : State) : State :=
  let s := s.answer (mport m) 0 false
  match regDesc a with
  | none => s.access m a fun s => s
  | some d =>
    if d.wo then
      if al ≠ .normal then s.access m a fun s => s
      else match cmdsAt a with
        | some cmds => cmdWrite m a cmds w s
        | none => woWrite m a w s
    else s.writeGranted m a d.acc fun s =>
      if al = .normal then s.regStore m a d w w
      else if d.rw = 0 then s
      else
        let old := s.regNow (mport m) a
        s.regStore m a d ((old &&& ~~~d.rw) ||| (aliasApply al old w &&& d.rw)) 0

/-! ### Accesses by address -/

/-- The island a memory region lies in (R9). -/
def regionIsland : Region → Nat
  | .ceLocal => 5
  | .dram => 11
  | _ => 4

/-- A read of the aligned word of memory that holds an address (R13, R15, R59, R448, R517). -/
def memRead (m : Sys2Proof.Master) (a : Nat) (s : State) : State :=
  let a := a / 4 * 4
  let p := mport m
  match regionOf s.dramUsable a with
  | .dram => dramRead m a 0 s
  | .sram => sharedSramRead m a 0 s
  | g =>
    if s.fenced.getLsbD (regionIsland g) then s.answer p 0 true
    else if !regionGranted (mclass m) false g then s.answer p 0 false
    else match g with
      | .sramSup => s.answer p (if s.memcBad a then 0 else s.supWord a) (s.memcBad a)
      | .mramSup => s.answer p (s.supWord a) false
      | _ => s.answer p (s.word a) false

/-- A write of n bytes of memory: 1, 2 or 4, aligned. CE local memory takes whole words (R113). [DEDUCED: log 17] -/
def memWrite (m : Sys2Proof.Master) (a n : Nat) (w : Word) (s : State) : State :=
  let p := mport m
  let g := regionOf s.dramUsable a
  if s.fenced.getLsbD (regionIsland g) then s.answer p 0 true
  else if !regionGranted (mclass m) true g then (s.noteDenied (mclassCode (mclass m)) 0x3F (a % 0x4000)).answer p 0 false
  else if g = .ceLocal then
    if n = 4 then (s.ceLocalWrite m (a - 0x10000000) w).answer p 0 false else s.answer p 0 true
  else
    let s := if g = .dram then s.memcTouch else s
    ((s.setBytes a ((List.range n).map (fun i => w.extractLsb' (8 * i) 8))).memcWritten a n).answer p 0 false

/-- A read of n bytes at an address of the chip itself (R15–R17, R40). [DEDUCED: log 17] -/
def ownRead (m : Sys2Proof.Master) (a n : Nat) (s : State) : State :=
  let p := mport m
  match regionOf s.dramUsable a with
  | .none => (s.decodeError (mclassCode (mclass m)) a).answer p 0 true
  | .regs ofs =>
    if !blockAllocated (ofs / 0x10000) || s.gated (ofs / 0x10000) then (s.decodeError (mclassCode (mclass m)) a).answer p 0 true
    else if ofs % n ≠ 0 then s.access m ofs fun s => s.answer p 0 true
    else part p (regRead m (ofs / 0x10000 * 0x10000 + ofs % 0x4000 / 4 * 4) s)
  | _ => if a % n ≠ 0 then s.answer p 0 true else part p (memRead m a s)
where
  part (p : Nat) (s : State) : State :=
    match smFind s.answers p with
    | some x => s.answer p (partOf x.data a n) x.err
    | none => s

/-- A write of n bytes at an address of the chip itself (R15–R17, R40). [DEDUCED: log 17] -/
def ownWrite (m : Sys2Proof.Master) (a n : Nat) (w : Word) (s : State) : State :=
  let p := mport m
  match regionOf s.dramUsable a with
  | .none => (s.decodeError (mclassCode (mclass m)) a).answer p 0 true
  | .regs ofs =>
    if !blockAllocated (ofs / 0x10000) || s.gated (ofs / 0x10000) then (s.decodeError (mclassCode (mclass m)) a).answer p 0 true
    else if n ≠ 4 ∨ ofs % 4 ≠ 0 then s.access m ofs fun s => s.answer p 0 true
    else regWrite m (ofs / 0x10000 * 0x10000 + ofs % 0x4000) (aliasOf (ofs % 0x10000)) w s
  | _ => if a % n ≠ 0 then s.answer p 0 true else memWrite m a n w s

/-- The address that an offset of a chip's window decodes to on that chip (R18). -/
def windowTarget (ofs : Nat) : Option Nat :=
  if ofs < 0x400000 then some (0x40000000 + ofs) else if ofs < 0xC00000 then some (ofs - 0x400000) else none

/-- The offset of an address above that of remote chip window 0. -/
def windowOfs (a : Nat) : Nat := a - 0xA00000000

/-- An access to the chip's own window, served without crossing the ring (R19): what the host sees of it (R510–R513). [DESIGN CHOICE: log 21] -/
def State.ownWindow (s : State) (m : Sys2Proof.Master) (a op : Nat) (go : Nat → State → State) : State :=
  let p := mport m
  let s := match windowTarget (windowOfs a % 0x1000000) with
    | some b => go b s
    | none => (s.decodeError (mclassCode (mclass m)) a).answer p 0 true
  if m = .host then
    let s := if (smFind s.answers p).any (fun x => x.err) then s.windowError op (windowOfs a / 4 * 4) else s
    if op = 1 then s.windowLatency (Config.localLatency s.now).toNat else s
  else s

/-- SYS_ROLE.CHIPNO. -/
def State.chipNo (s : State) : Nat := fld (s.reg Reg.SYS_ROLE) 29 24

/-- A read of n bytes, 1, 2 or 4, by a master (R15–R19, R40, R349). [DEDUCED: log 20] -/
def busRead (m : Sys2Proof.Master) (a n : Nat) (s : State) : State :=
  match regionOf s.dramUsable a with
  | .remote chip ofs =>
    if chip = s.chipNo then s.ownWindow m a 1 fun b s => ownRead m b n s
    else if ofs % n ≠ 0 then s.answer (mport m) 0 true
    else s.remoteAccess m chip ofs 1 1 [] n
  | _ => ownRead m a n s

/-- A write of n bytes, 1, 2 or 4, by a master. An access that crosses the ring carries whole words (R340). [DEDUCED: log 20] -/
def busWrite (m : Sys2Proof.Master) (a n : Nat) (w : Word) (s : State) : State :=
  match regionOf s.dramUsable a with
  | .remote chip ofs =>
    if chip = s.chipNo then s.ownWindow m a 2 fun b s => ownWrite m b n w s
    else if n ≠ 4 ∨ ofs % 4 ≠ 0 then s.answer (mport m) 0 true
    else s.remoteAccess m chip ofs 2 1 [w] 4
  | _ => ownWrite m a n w s

/-! ### BAR2 (R505) -/

/-- The mailbox memory: a base outside the general region is reserved (R48, R513). [DEDUCED: log 22] -/
def State.mbBase (s : State) : Nat :=
  let b := (s.reg Reg.PCIE_MB_BASE).toNat
  if b + 0x8000 ≤ 0x780000 then b else 0

/-- The word at an offset of BAR2. -/
def State.bar2Word (s : State) (o : Nat) : Word :=
  let o := o / 4 * 4
  if o < 0x8000 then (if o % 0x1000 < 0xFF8 then s.word (s.mbBase + o) else 0)
  else if o < 0x8040 then (if o % 8 = 0 then mbStat (s.mailbox ((o - 0x8000) / 8)) else 0)
  else if 0x9000 ≤ o ∧ o < 0x9200 then smGet (fun _ => 0) s.pcie.qdbRes ((o - 0x9000) / 4)
  else if 0xC000 ≤ o ∧ o < 0xC400 then s.msixWord ((o - 0xC000) / 4)
  else if o = 0xD000 then s.pcie.pba.extractLsb' 0 32
  else if o = 0xD004 then s.pcie.pba.extractLsb' 32 32
  else 0

/-- A write of a word at an offset of BAR2; MSI-X message addresses are multiples of 4, and a vector's control word holds its
mask bit alone. [PRESUMED: log 23] -/
def bar2Write (o : Nat) (w : Word) (s : State) : State :=
  if o < 0x8000 then
    if o % 0x1000 < 0x800 ∧ (s.mailbox (o / 0x1000)).st ≠ 1 then (s.setWord (s.mbBase + o) w).memcWritten (s.mbBase + o) 4 else s
  else if o < 0x8040 then (if o % 8 = 4 then mbDbWrite ((o - 0x8000) / 8) w s else s)
  else if 0xA000 ≤ o ∧ o < 0xC000 then
    let q := (o - 0xA000) / 0x40
    let i := (o - 0xA000) % 0x40 / 4
    if i = 15 then qdbCommit q [w] s else s.qdbStageWords q i [w]
  else if 0xC000 ≤ o ∧ o < 0xC400 then
    let k := (o - 0xC000) / 4
    s.setMsixWord k (if k % 4 = 3 then w &&& 1 else if k % 4 = 0 then w &&& 0xFFFFFFFC else w)
  else s

/-! ### The commands of R40–R46 -/

/-- Bytes of an access. -/
def widthBytes : Sys2Proof.Width → Nat
  | .byte => 1
  | .half => 2
  | .word => 4

/-- A host access reaches the part while the link is up and I12 runs (R501, R524). [DEDUCED: log 18] -/
def State.hostMay (s : State) (m : Sys2Proof.Master) (t : State) : State :=
  if m = .host then s.alive 12 (s.fromHost fun _ => t) else t

/-- Does the host reach an internal address: through BAR0 or BAR4 (R504)? [DEDUCED: log 18] -/
def hostReaches (a : Nat) : Bool :=
  (0x40000000 ≤ a && a < 0x40400000) || (0xA00000000 ≤ a && a < 0xA40000000)

/-- A read at a place by a master; BAR2 is the host's. [DEDUCED: log 18] -/
def placeRead (m : Sys2Proof.Master) (p : Sys2Proof.Place) (n : Nat) (s : State) : State :=
  match p with
  | .bus a => if m ≠ .host ∨ hostReaches a.toNat then busRead m a.toNat n s else s
  | .bar2 o =>
    if m ≠ .host then s
    else if o.toNat % n ≠ 0 ∨ (o.toNat < 0x8000 ∧ s.fenced.getLsbD 4) then s.answer (mport m) 0 true
    else s.answer (mport m) (partOf (s.bar2Word o.toNat) o.toNat n) false

/-- A write at a place by a master; a partial write of the host is discarded (R504). [DEDUCED: log 18] -/
def placeWrite (m : Sys2Proof.Master) (p : Sys2Proof.Place) (n : Nat) (w : Word) (s : State) : State :=
  let a := match p with
    | .bus a => a.toNat
    | .bar2 o => o.toNat
  if m = .host ∧ (n ≠ 4 ∨ a % 4 ≠ 0) then ((s.inc Reg.PCIE_BEERR_CNT).pcieEvt 5).answer (mport m) 0 true
  else match p with
    | .bus _ => if m ≠ .host ∨ hostReaches a then busWrite m a n w s else s
    | .bar2 _ =>
      if m ≠ .host then s
      else if a < 0x8000 ∧ s.fenced.getLsbD 4 then s.answer (mport m) 0 true
      else (bar2Write a w s).answer (mport m) 0 false

def execRegisterWrite (m : Sys2Proof.Master) (p : Sys2Proof.Place) (wd : Sys2Proof.Width) (w : BitVec 32) (s : State) :
    Host.Outcome State Fault Refusal := s.goesTo (s.hostMay m (placeWrite m p (widthBytes wd) w s))

/-- A write through an alias to the register at an offset of register space (R43–R45). -/
def aliasWrite (m : Sys2Proof.Master) (ofs : Nat) (al : Alias) (w : Word) (s : State) : State :=
  let step : Nat := match al with
    | .normal => 0
    | .set => 0x4000
    | .clear => 0x8000
    | .toggle => 0xC000
  ownWrite m (0x40000000 + ofs / 0x10000 * 0x10000 + ofs % 0x4000 + step) 4 w s

def execSetAliasWrite (m : Sys2Proof.Master) (ofs : BitVec 22) (w : BitVec 32) (s : State) :
    Host.Outcome State Fault Refusal := s.goesTo (s.hostMay m (aliasWrite m ofs.toNat .set w s))

def execClearAliasWrite (m : Sys2Proof.Master) (ofs : BitVec 22) (w : BitVec 32) (s : State) :
    Host.Outcome State Fault Refusal := s.goesTo (s.hostMay m (aliasWrite m ofs.toNat .clear w s))

def execToggleAliasWrite (m : Sys2Proof.Master) (ofs : BitVec 22) (w : BitVec 32) (s : State) :
    Host.Outcome State Fault Refusal := s.goesTo (s.hostMay m (aliasWrite m ofs.toNat .toggle w s))

/-- A write through the normal alias to a register with W1C bits (R46). -/
def w1cWrite (m : Sys2Proof.Master) (ofs : Nat) (w : Word) (s : State) : State :=
  match regDesc (ofs / 0x10000 * 0x10000 + ofs % 0x4000) with
  | some d => if d.w1c = 0 then s else aliasWrite m ofs .normal w s
  | none => s

def execW1cWrite (m : Sys2Proof.Master) (ofs : BitVec 22) (w : BitVec 32) (s : State) :
    Host.Outcome State Fault Refusal := s.goesTo (s.hostMay m (w1cWrite m ofs.toNat w s))

def execLoRegisterRead (m : Sys2Proof.Master) (p : Sys2Proof.Place) (wd : Sys2Proof.Width) (s : State) :
    Host.Outcome State Fault Refusal := s.goesTo (s.hostMay m (placeRead m p (widthBytes wd) s))

/-- A read of a result register (R69, R70), through any alias. -/
def resultReadAt (m : Sys2Proof.Master) (ofs : Nat) (s : State) : State :=
  if isResult (ofs / 0x10000 * 0x10000 + ofs % 0x4000) then ownRead m (0x40000000 + ofs) 4 s else s

def execResultRegisterRead (m : Sys2Proof.Master) (ofs : BitVec 22) (s : State) : Host.Outcome State Fault Refusal :=
  s.goesTo (s.hostMay m (resultReadAt m ofs.toNat s))

end Sys2Proof.Machine
end

