-- ==== Sys2Proof/Machine/RingDyn.lean ====
section
/-!
DEFINITION. The dynamic segment of the Ocuant rings (R339–R348): what a node sends at a mini-slot boundary, what it does
with a dynamic frame that arrives, remote register accesses at both ends, mailboxes and bulk transfer.
-/
namespace Sys2Proof.Machine

/-! ### Fields of a dynamic frame (R332) -/

def dynDst (f : List Word) : Nat := fld (fw f 1) 31 20
def dynBcast (f : List Word) : Bool := bitOf (fw f 1) 19
def dynLen (f : List Word) : Nat := fld (fw f 1) 9 0

/-- A frame of a node's own, or one it relays, as it leaves by a port: DIR of that port's train, and the CRC word over it
(R333, R348). -/
def dynFinal (p : Nat) (f : List Word) : List Word := withCrc (f.set 0 (setBit (fw f 0) 28 (p == 1)))

/-! ### Forwarding (R334, R339) -/

/-- The ns from which a frame held at the head may go: its next dynamic segment. [DEDUCED: log 92] -/
def State.headHold (s : State) (u : Nat) : Nat :=
  let a := (s.t0Ps + s.msOfs u 0 + 999) / 1000
  if s.now < a then a else a + 31250

/-- A dynamic frame goes on: cut-through, unless the port it leaves by is sending or holds frames; at the head it waits for
the next dynamic segment (R339). -/
def State.dynPass (s : State) (u p : Nat) (f : List Word) : State :=
  let q := 1 - p
  let x := s.ocuPort u q
  if s.ocuHead u then s.setOcuPort u q { x with ins := x.ins ++ [(f, s.headHold u)] }
  else if x.ins.isEmpty && decide (x.busyTill ≤ s.nowPs) then
    (s.setOcuPort u q { x with busyTill := s.nowPs + s.frameTime u f }).sendFrame u q f
  else s.setOcuPort u q { x with ins := x.ins ++ [(f, s.now)] }

/-- A frame goes to the other ring of the bridge: 16 KiB of buffer in each direction (R348). [DEDUCED: log 91; DEDUCED: log 92] -/
def State.dynRelay (s : State) (u : Nat) (f : List Word) : State :=
  let o := s.ocuOf (1 - u)
  if 0x4000 < 4 * (o.relay.foldl (fun (n : Nat) (g : List Word) => n + g.length) 0 + f.length) then
    (s.inc (Reg.OCU_BRDROP_CNT u)).ocuEvt u 10
  else s.setOcu (1 - u) { o with relay := o.relay ++ [f] }

/-! ### Remote register access at the destination (R343) -/

/-- One word of a request: its data and whether it ended with an error response. -/
def State.rraWord (s : State) (op ofs : Nat) (w : Word) : State × Word × Bool :=
  match windowTarget ofs with
  | none => (s.decodeError (mclassCode (mclass .ring)) (0xA00000000 + s.chipNo * 0x1000000 + ofs), 0, true)
  | some a =>
    let s := if op = 1 then ownRead .ring a 4 s else ownWrite .ring a 4 w s
    match smFind s.answers (mport .ring) with
    | some x => (s, if op = 1 && !x.err then x.data else 0, x.err)
    | none => (s, 0, false)

/-- The words of a request, one after another from OFFSET upward (R343). [DEDUCED: log 93] -/
def State.rraServe (s : State) (op : Nat) : Nat → List Word → State × List (Word × Bool)
  | _, [] => (s, [])
  | ofs, w :: ws =>
    let r := s.rraWord op ofs w
    let t := r.1.rraServe op (ofs + 4) ws
    (t.1, (r.2.1, r.2.2) :: t.2)

/-- The kept responses of the 64 most recent sources, 16 to a source, with one put in front (R343). -/
def keepResponse (kept : List (Nat × List (Nat × List Word))) (src : Nat) (e : List (Nat × List Word)) :
    List (Nat × List (Nat × List Word)) :=
  ((src, e.take 16) :: kept.filter (fun k => k.1 != src)).take 64

/-- RRA_REQ (R343): executed once, answered from the kept response when it comes again. A request with a reserved OP, or
without the words it announces, is not answered. -/
def State.rraServed (s : State) (u : Nat) (f : List Word) : State :=
  let src := fSrc (fw f 0)
  let seq := fCc (fw f 0)
  let w2 := fw f 2
  let op := fld w2 31 28
  let n := fld w2 27 24 + 1
  let mine := match (s.ocuOf u).kept.find? (fun k => k.1 == src) with
    | some k => k.2
    | none => []
  match mine.find? (fun k => k.1 == seq) with
  | some k =>
    let s := s.setOcu u { s.ocuOf u with kept := keepResponse (s.ocuOf u).kept src mine }
    (s.inc (Reg.OCU_RRA_DUP_CNT u)).queueOwn u 0 k.2
  | none =>
    if (op ≠ 1 ∧ op ≠ 2) ∨ (op = 2 ∧ dynLen f < 4 * n) then s
    else
      let r := s.rraServe op (fld w2 23 0 / 4 * 4) ((List.range n).map (fun k => if op = 2 then fw f (4 + k) else 0))
      let s := r.1
      let map := r.2.zipIdx.foldl (fun (x : Nat) (p : (Word × Bool) × Nat) => x + b2n p.1.2 * 2 ^ p.2) 0
      let g := s.dynFrame u 2 src seq false w2 (wordOfNat map) (if op = 1 then padWords (r.2.map (fun x => x.1)) else [])
      let s := s.setOcu u { s.ocuOf u with kept := keepResponse (s.ocuOf u).kept src ((seq, g) :: mine) }
      (s.inc (Reg.OCU_RRA_SRV_CNT u)).queueOwn u 0 g

/-! ### Remote register access at the source (R342–R344) -/

/-- RRA_RSP: the outstanding access with that destination and SEQ completes; any other response is discarded. -/
def State.rraAnswered (s : State) (u : Nat) (f : List Word) : State :=
  match (s.ocuOf u).rra.find? (fun r => r.dst == fSrc (fw f 0) && r.seq == fCc (fw f 0)) with
  | none => s
  | some r =>
    let ws := (List.range r.count).map (fun k =>
      let e := bitOf (fw f 3) k
      (if e then 0 else fw f (4 + k), e))
    let bad := (ws.filter (fun w => w.2)).length
    let s := if bad = 0 then s
      else (s.addSat (Reg.OCU_RRA_ERR_CNT u) bad).setReg (Reg.OCU_RRA_LASTERR u) (wordOfNat (0x20000000 + r.dst))
    s.rraFinish u r ws

/-- RRA_TIMEOUT (R344): the request with that destination and SEQ has had no response for TMO FC. -/
def rraTimeout (u dst seq : Nat) (s : State) : State :=
  s.ringEvent u 0 fun s =>
    match (s.ocuOf u).rra.find? (fun r => r.dst == dst && r.seq == seq) with
    | none => s
    | some r =>
      s.advancePs ((r.since + s.rraTmo u * 31250 : Nat) * 1000) fun s =>
        let o := s.ocuOf u
        let f := s.rraFrame u r
        if r.tries < s.rraRetry u then
          let again := { r with tries := r.tries + 1, since := s.now }
          let s := s.setOcu u { o with rra := o.rra.map (fun x => if x = r then again else x) }
          if o.own.contains (1, f) then s else s.queueOwn u 1 f
        else
          let s := s.setOcu u { o with own := o.own.filter (fun x => x != (1, f)) }
          let s := (s.inc (Reg.OCU_RRA_TMO_CNT u)).setReg (Reg.OCU_RRA_LASTERR u) (wordOfNat (0x10000000 + r.dst))
          (s.ocuEvt u 4).rraFinish u r r.failed

def execRraTimeout (u : Bool) (dst : BitVec 12) (seq : BitVec 8) (s : State) : Host.Outcome State Fault Refusal :=
  s.goesTo (rraTimeout (b2n u) dst.toNat seq.toNat s)

/-- REMOTE_WINDOW_ACCESS (R342, R349): a read of words, or a write of the words given, from an offset of a chip's window
upward; at most 16. The chip's own window is served locally (R19). -/
def remoteWindowAccess (m : Sys2Proof.Master) (chip ofs count : Nat) (data : Option (List Word)) (s : State) : State :=
  let ofs := ofs / 4 * 4
  let op := if data.isSome then 2 else 1
  let ws := data.getD (List.replicate count 0)
  if ws.isEmpty ∨ 16 < ws.length then s
  else if chip = s.chipNo then
    ws.zipIdx.foldl (fun (s : State) (p : Word × Nat) =>
      s.ownWindow m (0xA00000000 + chip * 0x1000000 + ofs + 4 * p.2) op fun b s =>
        if op = 1 then ownRead m b 4 s else ownWrite m b 4 p.1 s) s
  else s.remoteAccess m chip ofs op ws.length (data.getD []) 4

def execRemoteWindowAccess (m : Sys2Proof.Master) (chip : BitVec 6) (ofs : BitVec 24) (count : BitVec 4)
    (data : Option (List (BitVec 32))) (s : State) : Host.Outcome State Fault Refusal :=
  s.goesTo (s.hostMay m (remoteWindowAccess m chip.toNat ofs.toNat (count.toNat + 1) data s))

/-- The host reads that the ring has not completed, with their blocks, earliest first. -/
def State.hostReads (s : State) : List (Nat × RraReq) :=
  let l (u : Nat) : List (Nat × RraReq) := ((s.ocuOf u).rra ++ (s.ocuOf u).stalled).map (fun r => (u, r))
  (l 0 ++ l 1).filter (fun x => x.2.port == 26 && x.2.op == 1)

/-- BAR4_READ_TIMEOUT (R511–R513): the read made first is completed 50 ms after its arrival, its words as zero; a late
response is discarded. [DEDUCED: log 125] -/
def bar4ReadTimeout (s : State) : State :=
  match s.hostReads with
  | [] => s
  | x :: l =>
    let (u, r) := l.foldl (fun (b c : Nat × RraReq) => if c.2.born < b.2.born then c else b) x
    s.advancePs ((r.born + 50000000 : Nat) * 1000) fun s =>
      let late (z : RraReq) : RraReq := if z = r then { z with port := noPort } else z
      let s := s.setOcu u { s.ocuOf u with rra := (s.ocuOf u).rra.map late, stalled := (s.ocuOf u).stalled.map late }
      s.rraAnswer r r.failed

def execBar4ReadTimeout (s : State) : Host.Outcome State Fault Refusal := s.goesTo (s.alive 12 (bar4ReadTimeout s))

/-! ### Mailboxes (R345) -/

/-- A message goes into an empty receive mailbox. -/
def State.mbStore (s : State) (u k : Nat) (f : List Word) : State :=
  let s := (List.range (dynLen f / 4)).foldl (fun (s : State) i => s.setReg (Reg.OCU_MBRX_DATA u k i) (fw f (4 + i))) s
  (s.setReg (Reg.OCU_MBRX_STAT u k) (wordOfNat (0x80000000 + dynLen f * 0x10000 + fSrc (fw f 0)))).ocuEvt u 7

/-- MBOX, addressed to this node. -/
def State.mbArrives (s : State) (u : Nat) (f : List Word) : State :=
  let k := fld (fw f 2) 2 0
  let src := fSrc (fw f 0)
  let ack (s : State) (res : Nat) : State :=
    s.queueOwn u 2 (s.dynFrame u 4 src (Config.dynSeq 4 src).toNat false (wordOfNat k) (wordOfNat res) [])
  if bitOf (s.reg (Reg.OCU_MBRX_STAT u k)) 31 then ack s 1 else ack (s.mbStore u k f) 0

/-- A broadcast MBOX, at a node that is not its source: no answer; a full mailbox drops it. -/
def State.mbBroadcast (s : State) (u : Nat) (f : List Word) : State :=
  let k := fld (fw f 2) 2 0
  if bitOf (s.reg (Reg.OCU_MBRX_STAT u k)) 31 then (s.inc (Reg.OCU_MBDROP_CNT u)).ocuEvt u 13 else s.mbStore u k f

/-- MBOX_ACK: the destination of the waiting message answers. [DEDUCED: log 95] -/
def State.mbAnswered (s : State) (u : Nat) (f : List Word) : State :=
  match (s.ocuOf u).mb with
  | some (dst, b, _) => if !b && dst == fSrc (fw f 0) then s.mbEnd u (fld (fw f 3) 1 0) else s
  | none => s

/-- MBOX_TIMEOUT: no answer within TMO FC. -/
def mboxTimeout (u : Nat) (s : State) : State :=
  s.ringEvent u 0 fun s =>
    match (s.ocuOf u).mb with
    | some (_, _, t) => s.advancePs ((t + s.rraTmo u * 31250 : Nat) * 1000) fun s => s.mbEnd u 3
    | none => s

def execMboxTimeout (u : Bool) (s : State) : Host.Outcome State Fault Refusal := s.goesTo (mboxTimeout (b2n u) s)

/-! ### Bulk transfer (R346) -/

/-- The target of a channel: its base, and whether n bytes from an offset lie in the general SRAM region or in DRAM
(R354). -/
def State.brxBase (s : State) (u c : Nat) : Nat :=
  fld (s.reg (Reg.OCU_BRX_BASE_HI u c)) 7 0 * 2 ^ 32 + (s.reg (Reg.OCU_BRX_BASE_LO u c)).toNat / 8 * 8

def State.bulkFits (s : State) (u c ofs n : Nat) : Bool :=
  let r := regionOf s.dramUsable (s.brxBase u c + ofs)
  ofs + n ≤ (s.reg (Reg.OCU_BRX_SIZE u c)).toNat && (r == .sram || r == .dram)
    && regionOf s.dramUsable (s.brxBase u c + ofs + n - 1) == r

/-- BULK_DATA, addressed to this node. [DEDUCED: log 95] -/
def State.bulkArrives (s : State) (u : Nat) (f : List Word) : State :=
  let c := fld (fw f 3) 2 0
  let src := fSrc (fw f 0)
  let ofs := (fw f 2).toNat
  let n := dynLen f
  let ack (s : State) (st : Nat) : State :=
    s.queueOwn u 2 (s.dynFrame u 6 src (Config.dynSeq 6 src).toNat false (s.reg (Reg.OCU_BRX_EXP u c))
      (wordOfNat (st * 0x100 + c)) [])
  if s.reg (Reg.OCU_BRX_SIZE u c) = 0 then ack s 1
  else
    let s := if ofs = 0 then s.setReg (Reg.OCU_BRX_EXP u c) 0 else s
    if ofs ≠ (s.reg (Reg.OCU_BRX_EXP u c)).toNat then ack s 0
    else if !s.bulkFits u c ofs n then ack s 2
    else
      let s := s.dramPut (s.brxBase u c + ofs) ((f.drop 4).take (n / 4))
      let s := s.setReg (Reg.OCU_BRX_EXP u c) (wordOfNat (ofs + n))
      let k := smGet (fun _ => 0) (s.ocuOf u).acc c + 1
      let due := k == 8 || bitOf (fw f 3) 31
      let s := s.setOcu u { s.ocuOf u with acc := smSet (fun _ => 0) (s.ocuOf u).acc c (if due then 0 else k) }
      if due then ack s 0 else s

/-- BULK_ACK: the acknowledged offset advances, or the receiver ends the transfer. -/
def State.bulkAnswered (s : State) (u : Nat) (f : List Word) : State :=
  match (s.ocuOf u).bulk with
  | none => s
  | some b =>
    let st := fld (fw f 3) 9 8
    let x := (fw f 2).toNat
    if b.dst ≠ fSrc (fw f 0) ∨ b.chan ≠ fld (fw f 3) 2 0 then s
    else if st = 1 ∨ st = 2 then s.bulkEnd u 3 st
    else if st = 0 ∧ b.acked < x ∧ x ≤ b.len then
      let s := s.setOcu u { s.ocuOf u with bulk := some { b with acked := x, next := max b.next x, tries := 0, since := s.now } }
      let s := s.setReg (Reg.OCU_BTX_ACKED u) (wordOfNat x)
      if x = b.len then s.bulkEnd u 0 0 else s
    else s

/-- BULK_TIMEOUT: the acknowledged offset has not advanced for TMO FC; RETRY + 1 such in a row end the transfer. -/
def bulkTimeout (u : Nat) (s : State) : State :=
  s.ringEvent u 0 fun s =>
    match (s.ocuOf u).bulk with
    | none => s
    | some b =>
      s.advancePs ((b.since + s.rraTmo u * 31250 : Nat) * 1000) fun s =>
        if s.rraRetry u ≤ b.tries then s.bulkEnd u 2 0
        else s.setOcu u { s.ocuOf u with bulk := some { b with next := b.acked, tries := b.tries + 1, since := s.now } }

def execBulkTimeout (u : Bool) (s : State) : Host.Outcome State Fault Refusal := s.goesTo (bulkTimeout (b2n u) s)

/-- The next BULK_DATA frame, with the transfer as it stands once it has gone: at most 16 frames lie beyond the acknowledged
offset. -/
def State.bulkNext (s : State) (u : Nat) : Option (List Word × Bulk) :=
  match (s.ocuOf u).bulk with
  | none => none
  | some b =>
    if b.len ≤ b.next ∨ b.acked + 8192 ≤ b.next then none
    else
      let n := min 512 (b.len - b.next)
      let last := b.next + n == b.len
      some (s.dynFrame u 5 b.dst (Config.dynSeq 5 b.dst).toNat false (wordOfNat b.next)
        (wordOfNat (b2n last * 0x80000000 + b.chan)) (s.words (b.src + b.next) (n / 4)), { b with next := b.next + n })

/-! ### A dynamic frame arrives (R341, R351) -/

/-- A good frame whose destination is this node: a stopped one serves remote accesses alone (R351). [DEDUCED: log 93] -/
def State.dynForMe (s : State) (u : Nat) (f : List Word) : State :=
  let t := fSlot (fw f 0)
  if t = 1 then s.rraServed u f
  else if s.ocuSt u = 0 then s
  else match t with
    | 2 => s.rraAnswered u f
    | 3 => s.mbArrives u f
    | 4 => s.mbAnswered u f
    | 5 => s.bulkArrives u f
    | 6 => s.bulkAnswered u f
    | _ => s

/-- Does the bridge take a frame off a ring for the other one (R341)? -/
def State.bridgeTakes (s : State) (u dst : Nat) : Bool :=
  s.bridges && (s.ocuOf u).loaded
    && (if u = 1 then dst / 64 != s.ocuAddr 1 / 64
        else s.ocuAddr 0 % 64 == 0 && dst / 64 == s.ocuAddr 0 / 64 && dst % 64 != 0)

/-- A good dynamic frame. -/
def State.dynGood (s : State) (u p : Nat) (f : List Word) : State :=
  let dst := dynDst f
  let mbox := fSlot (fw f 0) == 3
  if s.isOwn u (fSrc (fw f 0)) then
    if dynBcast f then
      match (s.ocuOf u).mb with
      | some (_, true, _) => if mbox then s.mbEnd u 0 else s
      | _ => s
    else (s.inc (Reg.OCU_NODEST_CNT u)).ocuEvt u 5
  else if dynBcast f then
    let s := s.dynPass u p f
    if mbox && s.ocuSt u != 0 then s.mbBroadcast u f else s
  else if s.isOwn u dst then s.dynForMe u f
  else if s.bridgeTakes u dst then s.dynRelay u f
  else s.dynPass u p f

/-- A dynamic frame arrives at a port; `want` is the DTYPE of the commands that name one. [DEDUCED: log 93] -/
def dynReceived (u p dt : Nat) (f : List Word) (want : Option Nat) (s : State) : State :=
  s.ringEvent u dt fun s =>
    let t := fSlot (fw f 0)
    if s.ocuLooped u p ∨ fType (fw f 0) ≠ 3 ∨ t = 8 ∨ want.any (fun w => w != t) then s
    else
      let c := frameCheck f
      let s := s.countFrame u p c
      match c with
      | .good => s.dynGood u p f
      | .stomped => s.dynPass u p f
      | _ => s.dynPass u p (stompFrame f)

def execDynamicFrameReceived (u p : Bool) (dt : BitVec 32) (f : List (BitVec 32)) (s : State) :
    Host.Outcome State Fault Refusal := s.goesTo (dynReceived (b2n u) (b2n p) dt.toNat f none s)

def execRraReq (u p : Bool) (dt : BitVec 32) (f : List (BitVec 32)) (s : State) :
    Host.Outcome State Fault Refusal := s.goesTo (dynReceived (b2n u) (b2n p) dt.toNat f (some 1) s)

def execRraRsp (u p : Bool) (dt : BitVec 32) (f : List (BitVec 32)) (s : State) :
    Host.Outcome State Fault Refusal := s.goesTo (dynReceived (b2n u) (b2n p) dt.toNat f (some 2) s)

def execMbox (u p : Bool) (dt : BitVec 32) (f : List (BitVec 32)) (s : State) :
    Host.Outcome State Fault Refusal := s.goesTo (dynReceived (b2n u) (b2n p) dt.toNat f (some 3) s)

def execMboxAck (u p : Bool) (dt : BitVec 32) (f : List (BitVec 32)) (s : State) :
    Host.Outcome State Fault Refusal := s.goesTo (dynReceived (b2n u) (b2n p) dt.toNat f (some 4) s)

def execBulkData (u p : Bool) (dt : BitVec 32) (f : List (BitVec 32)) (s : State) :
    Host.Outcome State Fault Refusal := s.goesTo (dynReceived (b2n u) (b2n p) dt.toNat f (some 5) s)

def execBulkAck (u p : Bool) (dt : BitVec 32) (f : List (BitVec 32)) (s : State) :
    Host.Outcome State Fault Refusal := s.goesTo (dynReceived (b2n u) (b2n p) dt.toNat f (some 6) s)

/-! ### Sending (R339, R340) -/

/-- The port a frame of the node's own leaves by: an outstanding request keeps the one it was given (R342). -/
def State.ownPort (s : State) (u : Nat) (x : Nat × List Word) : Nat :=
  match (s.ocuOf u).rra.find? (fun r => x.1 == 1 && r.dst == dynDst x.2 && r.seq == fCc (fw x.2 0)) with
  | some r => r.out
  | none => s.portToward u (dynDst x.2)

/-- The frame of the node's own that leaves next by a port: lowest class, then issue order (R340). A stopped, starting,
mismatched or yielding block sends responses alone (R351, R366). -/
def State.ownNext (s : State) (u p : Nat) : Option (Nat × List Word) :=
  let may := s.ocuSt u == 2 && !s.ocuYield u
  let l := (s.ocuOf u).own.filter (fun x => (x.1 == 0 || may) && s.ownPort u x == p)
  ([0, 1, 2, 3].filterMap (fun c => l.find? (fun x => x.1 == c))).head?

/-- The node sends a frame by a port now. [DEDUCED: log 92] -/
def State.dynSend (s : State) (u p : Nat) (f : List Word) : State :=
  (s.setOcuPort u p { s.ocuPort u p with busyTill := s.nowPs + s.frameTime u f }).sendFrame u p f

/-- A frame of the node's own leaves; a request is counted (R354). -/
def State.dynSendOwn (s : State) (u p : Nat) (f : List Word) : State :=
  let s := s.setOcuPort u p { s.ocuPort u p with sentOwn := (s.ocuPort u p).sentOwn + 1 }
  let s := if fSlot (fw f 0) = 1 then s.inc (Reg.OCU_RRA_REQ_CNT u) else s
  s.dynSend u p (dynFinal p f)

/-- What leaves by a port at mini-slot boundary m, if anything: a buffered frame, else a relayed one, else one of the node's
own. -/
def State.dynBoundary (s : State) (u p m : Nat) : State :=
  let fits (f : List Word) : Bool := m + miniSlots f ≤ s.nMs u
  let x := s.ocuPort u p
  match x.ins with
  | (f, from_) :: rest =>
    if s.now < from_ then s
    else if fits f then (s.setOcuPort u p { x with ins := rest }).dynSend u p f
    else if x.heldOver then s
    else ((s.setOcuPort u p { x with heldOver := true }).inc (Reg.OCU_DYNHELD_CNT u)).ocuEvt u 11
  | [] =>
    let o := s.ocuOf u
    match if s.ocuSt u = 2 then o.relay.find? (fun f => s.portToward u (dynDst f) == p) else none with
    | some f => if fits f then (s.setOcu u { o with relay := o.relay.erase f }).dynSend u p (dynFinal p f) else s
    | none =>
      if s.dynQ u ≤ x.sentOwn then s
      else match s.ownNext u p with
        | some y => if fits y.2 then (s.setOcu u { o with own := o.own.erase y }).dynSendOwn u p y.2 else s
        | none =>
          if s.ocuSt u ≠ 2 ∨ s.ocuYield u then s
          else match s.bulkNext u with
            | some (f, b) =>
              if fits f ∧ s.portToward u b.dst = p then (s.setOcu u { o with bulk := some b }).dynSendOwn u p f else s
            | none => s

/-- DYN_FRAME_SEND (R339, R340, R361): mini-slot boundary m passes in the train that leaves by port p; `prev`: the train of
the preceding count; `arriving`: a frame is arriving for forwarding. A node whose delay is not known takes the instant of the
event. [DEDUCED: log 92] -/
def dynFrameSend (u p m : Nat) (prev arriving : Bool) (s : State) : State :=
  s.ringEvent u 0 fun s =>
    let go (s : State) : State :=
      if s.nMs u ≤ m ∨ arriving ∨ s.nowPs < (s.ocuPort u p).busyTill then s else s.dynBoundary u p m
    let cc := (fld (s.reg Reg.CYC_COUNT) 7 0 + 256 - b2n prev) % 256
    if !s.hasT0 then s
    else match s.delayOf u p with
      | some (d, _) => s.advancePs (s.trainT0 cc + s.msOfs u m + sixteenths d) go
      | none => go s

def execDynFrameSend (u p : Bool) (m : BitVec 10) (prev arriving : Bool) (s : State) : Host.Outcome State Fault Refusal :=
  s.goesTo (dynFrameSend (b2n u) (b2n p) m.toNat prev arriving s)

end Sys2Proof.Machine
end

