-- ==== Sys2Proof/Machine/FcStart.lean ====
section
/-!
DEFINITION. The two current ticks of a fast cycle (R85–R89): t0, and t0 + 15.625 µs.
-/
namespace Sys2Proof.Machine

/-- What a block does at t0, while its island is not fenced (R13). -/
def State.blockDo (s : State) (blk : Nat) (go : State → State) : State := if s.isFenced blk then s else go s

/-- The present word of a block-state endpoint (R531); `none`: it is not one of the table. -/
def State.blockStateWord (s : State) (blk k : Nat) : Option Word :=
  if k = 0 then (if blockAllocated blk then some (s.reg (blk * 0x10000 + 8)) else none)
  else match blk with
    | 0x04 => if k = 1 then some (s.reg Reg.FLT_SUMMARY) else none
    | 0x01 => if k = 1 then some (s.reg Reg.CLK_ISL_RUN) else none
    | 0x10 => if k = 1 then some (s.reg Reg.CE_LANES) else none
    | 0x20 => if k = 1 then some (s.reg Reg.ADC_RET_LO) else none
    | 0x24 => if k ≤ 2 then some (wordOfNat (s.fioGroup (k - 1))) else none
    | 0x25 => if k ≤ 8 then some (wordOfNat (s.groupSt (k - 1))) else none
    | 0x28 | 0x29 => if k ≤ 2 then some (s.reg (Reg.OCU_P_LOOP (blk - 0x28) (k - 1))) else none
    | 0x14 | 0x15 | 0x16 | 0x17 => if k ≤ 4 then some (s.reg (Reg.AXC_CH_STATE (blk - 0x14) (k - 1))) else none
    | _ => none

/-- The block-state endpoints that an acting route names are published at t0 (R531). [DEDUCED: log 39] -/
def State.blockStatesAtT0 (s : State) : State :=
  let eps := (s.sig.routes.filterMap (fun (q : Nat × BitVec 128) =>
    if entryOn q.2 && 0xF000 ≤ ePROD q.2 then some (ePROD q.2) else none)).eraseDups
  eps.foldl (fun (s : State) ep =>
    match s.blockStateWord (ep % 0x1000 / 32) (ep % 32) with
    | some w => s.publish ⟨ep, some 0, w, false, true, none⟩
    | none => s) s

/-- A slow cycle of order k begins where CYC_COUNT is a multiple of 2^k: a work item where it is enabled (R87, R94, R429). [DEDUCED: log 38] -/
def State.slowAtT0 (s : State) : State :=
  let en := s.reg Reg.CYC_SLOW_EVT_EN
  let n := (s.reg Reg.CYC_COUNT).toNat
  if (List.range 10).any (fun i => bitOf en (i + 1) && n % 2 ^ (i + 1) == 0) then s.blockItem 9 1 Reg.CYC_EVT else s

/-- The instant of t0: the count goes on, or begins at 0 at a master's first t0 (R87, R92); the FC spent in HOLDOVER are
counted (R94). [DEDUCED: log 37] -/
def State.beginFc (s : State) : State :=
  let s := s.advanceTo s.cyc.next
  let first := s.reg Reg.CYC_STATE == 1 && !s.cyc.begun
  let s := s.setRegs [(Reg.CYC_COUNT, if first then 0 else s.reg Reg.CYC_COUNT + 1), (Reg.CYC_T0_LAST, s.reg Reg.TB_TIME_LO)]
  let hold := s.reg Reg.CYC_STATE == 4
  let s := { s with cyc := { s.cyc with begun := true, next := s.cyc.next + 31250, missed := s.cyc.missed + b2n hold } }
  let s := { s with prof := { s.prof with adv := false }, seq := { s.seq with evald := false },
                    ilk := { s.ilk with evald := false }, safe := { s.safe with evald := false } }
  if hold then s.inc Reg.CYC_HOLD_CNT else s

/-- The staged sets whose swap instant this t0 is (R50). -/
def State.swapsAtT0 (s : State) : State :=
  let s := s.blockDo 8 State.sigSwapAtT0
  let s := s.cycSwapAtT0
  let s := (List.range 4).foldl (fun (s : State) k => s.axcSwapAtT0 k) s
  let s := s.blockDo 0x1D State.ilkSwapAtT0
  let s := s.blockDo 0x20 State.adcSwapAtT0
  let s := s.blockDo 0x21 State.sdmSwapAtT0
  s.encConfigAtT0

/-- Outputs take the latched values, and the carriers and steppers follow (R88, R89). -/
def State.applyAtT0 (s : State) : State :=
  let s := s.blockDo 0x22 (fun s => s.dacSync false)
  let s := (List.range 16).foldl (fun (s : State) n => s.axcAtT0 n) s
  s.blockDo 0x24 State.fioAtT0

/-- The sensing of t0: encoder ports, SSI frames and sigma-delta channels (R89, R202, R271). -/
def State.sampleAtT0 (s : State) (ain sdm : List Int) : State :=
  let s := (List.range 16).foldl (fun (s : State) p => (s.encSample false (fun i => ain.getD i 0) p).encFrameAtT0 p) s
  let s := s.blockDo 0x21 (fun s => (List.range 48).foldl (fun (s : State) m => s.sdmCapture m (sdm.getD m 0)) s)
  s.blockDo 0x20 State.adcAtT0

/-- The rings, the buses and the time base at t0 (R351, R381, R411). -/
def State.linksAtT0 (s : State) : State :=
  let s := s.tbAtT0
  let s := s.blockDo 0x28 (fun s => s.ocuAtT0 0)
  let s := s.blockDo 0x29 (fun s => s.ocuAtT0 1)
  s.blockDo 0x30 (fun s => (s.canAtT0.ethSettle 0).ethSettle 1)

/-- Base camp's CE START at the first t0 after LOCKED (R482). -/
def State.ceStartAtT0 (s : State) : State :=
  if s.boot.ceStart then ceStart .baseCamp ⟨0, 0⟩ { s with boot := { s.boot with ceStart := false } } else s

/-- FC_START: t0, with the analog inputs in µV that SINCOS ports sample and the sinc3 outputs of the sigma-delta channels in
units of 2^−24. [DESIGN CHOICE: log 36] -/
def fcStart (ain sdm : List Int) (s : State) : State :=
  if !s.cycRuns then s
  else
    let s := (s.hutPrune true).beginFc
    let s := s.fltAtT0.swapsAtT0
    let s := s.blockDo 0x3B State.recFrameAtT0
    let s := s.blockDo 0x1C (fun s => (List.range 16).foldl (fun (s : State) c => s.seqAtT0 c) s)
    let s := s.blockDo 0x1D State.ilkAtT0
    let s := s.blockDo 8 State.signalsAtT0
    let s := s.applyAtT0.sampleAtT0 ain sdm
    let s := (s.blockDo 0x10 State.ceAtT0).ceStartAtT0
    let s := s.linksAtT0
    let s := s.blockStatesAtT0
    let s := s.blockDo 0x3B State.recAtT0
    s.slowAtT0.fltShow

def execFcStart (ain sdm : List Int) (s : State) : Host.Outcome State Fault Refusal := s.goesTo (s.alive 6 (fcStart ain sdm s))

/-- CURRENT_TICK_B: t0 + 15.625 µs (R86). -/
def currentTickB (ain sdm : List Int) (s : State) : State :=
  if s.hasT0 then
    let s := s.atOffset 15625
    let s := s.blockDo 0x22 (fun s => s.dacSync true)
    let s := (List.range 16).foldl (fun (s : State) p => s.encSample true (fun i => ain.getD i 0) p) s
    s.blockDo 0x21 (fun s => (List.range 48).foldl (fun (s : State) m => s.sdmCapture m (sdm.getD m 0)) s)
  else s

def execCurrentTickB (ain sdm : List Int) (s : State) : Host.Outcome State Fault Refusal :=
  s.goesTo (s.alive 6 (currentTickB ain sdm s))

end Sys2Proof.Machine
end

