-- ==== Sys2Proof/Machine/Start.lean ====
section
/-!
DEFINITION. Cold start and warm restart (R467–R491): what Base camp does from PORST_N to the release of the cores, how it
applies an image, and how a warm restart ends.
-/
namespace Sys2Proof.Machine

/-! ### Reset (R467) -/

def execPorstNAsserted (s : State) : Host.Outcome State Fault Refusal := .next (s.coldReset 1)

def execBrownOutReset (s : State) : Host.Outcome State Fault Refusal := .next (s.coldReset 2)

/-! ### The Bivouac domain at a cold start (R538–R545) -/

/-- A count that saturates. -/
def satCount (n : Nat) : Word := wordOfNat (min n 0xFFFFFFFF)

/-- The domain has lost its contents (R538). [DESIGN CHOICE: log 9] -/
def State.bivLost (s : State) : State :=
  let s := s.setRegs ((List.range 16).map (fun i => (0x050080 + 4 * i, (0 : Word))) ++ [(Reg.BIV_FATAL, 0),
    (Reg.BIV_PCC, s.biv.pcc), (Reg.BIV_OPS, satCount (s.biv.ops.toNat + 64))])
  ((s.setCalendar false 0 0).orReg Reg.BIV_STAT 4).bivEvt 2

/-- The counters, the cause, the calendar and the records of a cold start (R538–R540, R545, R548). [DESIGN CHOICE: log 9; DEDUCED: log 133] -/
def State.bivCold (s : State) (lost crystal : Bool) : State :=
  let s := if lost then s.bivLost else s
  let s := s.setRegs [(Reg.BIV_PCC, satCount ((s.reg Reg.BIV_PCC).toNat + 1)), (Reg.BIV_RSTCAUSE, wordOfNat s.boot.cause)]
  let s := { s with biv := { s.biv with pcc := s.reg Reg.BIV_PCC, ops := s.reg Reg.BIV_OPS, opsAt := s.now } }
  let s := if crystal then s else s.bivXtalFail
  let s := s.hutRequest 2 5 [0x01000000, s.reg Reg.BIV_CAL_LO, s.reg Reg.BIV_CAL_HI, 0, 0]
  if bitOf (s.reg Reg.BIV_FATAL) 31 then (s.hutRequest 4 5 [s.reg Reg.BIV_FATAL]).setReg Reg.BIV_FATAL 0 else s

/-! ### Start-up tests (R527) and retirements (R519) -/

/-- The instances for which a start-up test fails. -/
def failing (e : Sys2Proof.ColdEnv) (t : Nat) : List Nat :=
  (e.fails.filter (fun (x : Fin 10 × BitVec 24) => x.1.val == t)).map (fun (x : Fin 10 × BitVec 24) => x.2.toNat)

/-- The Rope-team pairs: the first that is not retired and passes is active, the other, if it passes too, standby. With none,
both stay in reset (R522, R523, R527). -/
def State.ropeCold (s : State) (bad : List Nat) : State :=
  let ok (p : Nat) : Bool := !s.isRetired 4 p && !bad.contains p
  if ok 0 ∨ ok 1 then
    let s := (bad.filter (fun p => decide (p < 2) && !s.isRetired 4 p)).foldl (fun (s : State) p => (s.pairFinding p 2).1) s
    s.setRope (if ok 0 then 0 else 1) (ok 0 && ok 1)
  else
    let s := (bad.filter (fun p => decide (p < 2))).foldl (fun (s : State) p => s.lastPairFinding p) s
    ({ s with flt := { s.flt with pairReset := [0, 1] } }).setRope 0 false

/-- The start-up tests, with what their failures bring (R527). -/
def State.selfTests (s : State) (e : Sys2Proof.ColdEnv) : State :=
  let s := [0, 1, 2, 3, 6, 7, 8, 9].foldl (fun (s : State) t => s.testRan t (!(failing e t).isEmpty)) s
  let s := s.ropeCold (failing e 2)
  let s := (failing e 0).foldl (fun (s : State) n => if n < 3 then s.testFailed 2 n else s) s
  let s := (failing e 1).foldl (fun (s : State) n => if n < 24 then s.testFailed 3 n else s) s
  let s := (failing e 9).foldl (fun (s : State) n => if n < 34 then s.testFailed 1 n else s) s
  let rows := (s.flt.sramRows ++ failing e 3).eraseDups.take 32
  let s := { s with flt := { s.flt with sramRows := rows } }
  (failing e 8).foldl (fun (s : State) n => if n < 12 then s.faultEvent 2 4 0 n (s.reg Reg.FLT_EVT) else s) s

/-- The islands start, I3 excepted, and what Base camp writes into them before an image: the straps, the confirmed value,
the devices it has found, and the retirements (R306, R319, R446, R468, R470, R503, R519). -/
def State.startIslands (s : State) (e : Sys2Proof.ColdEnv) : State :=
  let usable : Nat := if bitOf e.dram 31 then 3584 * 2 ^ fld e.dram 5 4 else 0
  let s := s.setRegs [(Reg.CLK_ISL_RUN, 0x3FF7), (Reg.SAFE_STRAP, wordOfNat (e.strap.toNat * 17)),
    (Reg.SAFE_CONFIRM, s.safe.confirm.getD 0xFFFFFFFF), (Reg.XSPI_DEV, e.xdev), (Reg.XSPI_STATE, 2),
    (Reg.MEMC_DEV, e.dram), (Reg.MEMC_USABLE, wordOfNat usable), (Reg.PCIE_STATE, 1)]
  let s := { s with xspi := { s.xspi with susp := e.susp } }
  let s := ((s.hutLoad.ceLanesInit.reapply [1, 5, 7, 8, 9]).adcSync)
  (failing e 7).foldl (fun (s : State) n =>
    if n < 14 then (s.faultEvent 2 1 0 n (s.reg Reg.CLK_ISL_FAIL)).islandFail n else s) s

/-! ### Applying an image (R478–R483) -/

/-- One entry of a write list, as the master m (R479): `none` where it fails. A WAIT looks at the register as it stands, and a
DELAY lets nothing happen. -/
def applyEntry (m : Sys2Proof.Master) (typ : Nat) (e : Word × Word × Word) (s : State) : Option State :=
  let w0 := e.1
  let ofs := fld w0 21 0
  let a := 0x40000000 + ofs
  let op := fld w0 31 30
  let acc := match regDesc (ofs / 0x10000 * 0x10000 + ofs % 0x4000) with
    | some d => s.granted m (ofs / 0x10000 * 0x10000) d.acc
    | none => true
  let bad (s : State) : Bool := (smFind s.answers (mport m)).any (fun x => x.err)
  let read (s : State) : State × Word :=
    let t := ownRead m a 4 s
    (t, match smFind t.answers (mport m) with
      | some x => x.data
      | none => 0)
  if op = 2 then some s
  else if op = 3 ∨ fld w0 29 22 ≠ 0 ∨ ofs % 4 ≠ 0 ∨ !listBlock typ ofs ∨ !acc then none
  else if op = 1 then
    let r := read s
    if bad r.1 ∨ r.2 &&& e.2.1 ≠ e.2.2 then none else some r.1
  else if e.2.1 = 0xFFFFFFFF then
    let t := ownWrite m a 4 e.2.2 s
    if bad t then none else some t
  else
    let r := read s
    if bad r.1 then none
    else
      let t := ownWrite m (0x40000000 + ofs / 0x10000 * 0x10000 + ofs % 0x4000) 4 ((r.2 &&& ~~~e.2.1) ||| (e.2.2 &&& e.2.1)) r.1
      if bad t then none else some t

/-- A write list, entry by entry; it stops at the first that fails. [DEDUCED: log 119] -/
def applyList (m : Sys2Proof.Master) (typ : Nat) : List (Word × Word × Word) → State → State × Bool
  | [], s => (s, true)
  | e :: l, s =>
    match applyEntry m typ e s with
    | some t => applyList m typ l t
    | none => (s, false)

/-- The bytes of a LOAD section reach their destination; CE local memory is written by words (R113, R478). [DEDUCED: log 120] -/
def State.loadBytes (s : State) (dest : Nat) (p : List Byte) : State :=
  if regionOf s.dramUsable dest = .ceLocal then
    let first := dest / 4
    (List.range ((dest + p.length + 3) / 4 - first)).foldl (fun (s : State) i =>
      let a := (first + i) * 4
      let b (k : Nat) : Byte := if dest ≤ a + k ∧ a + k < dest + p.length then p.getD (a + k - dest) 0 else s.byte (a + k)
      s.ceStore true (a - 0x10000000) (b 3 ++ b 2 ++ b 1 ++ b 0)) s
  else (s.setBytes dest p).memcWritten dest p.length

/-- A ROUTES section (R478): false where its count is out of range or its entries are not all there. [DEDUCED: log 120] -/
def State.applyRoutes (s : State) (p : List Byte) : State × Bool :=
  let first := fld (wordAt p 0) 12 0
  let n := (wordAt p 4).toNat
  if n < 1 ∨ 8192 < n ∨ p.length < 8 + 16 * n then (s, false)
  else
    ((List.range n).foldl (fun (s : State) i =>
      let w (k : Nat) : Word := wordAt p (8 + 16 * i + 4 * k)
      s.writeEntry ((first + i) % 8192) (w 3 ++ w 2 ++ w 1 ++ w 0)) s, true)

/-- A section is checked against its digest and applied; the code of R480, or 0. -/
def State.applySection (s : State) (m : Sys2Proof.Master) (slot : Nat) (x : Section) : State × Nat :=
  let p := s.payload slot x
  if !digestOk x p then (s, 7)
  else match x.typ with
    | 2 => let r := s.applyRoutes p; (r.1, if r.2 then 0 else 6)
    | 3 => (s.loadBytes x.dest p, 0)
    | 4 => ({ s with boot := { s.boot with
        tcm := p.zipIdx.foldl (fun (f : List Host.Cell) (b : Byte × Nat) => smSet (fun _ => 0) f (x.dest + b.2) b.1) s.boot.tcm } }, 0)
    | _ =>
      if p.length % 12 ≠ 0 then (s, 8)
      else
        let r := applyList m x.typ (listEntries p) s
        (r.1, if r.2 then 0 else 8)

/-- Sections in table order, up to the first that fails. -/
def State.applySections (s : State) (m : Sys2Proof.Master) (slot : Nat) : List Section → State × Nat
  | [] => (s, 0)
  | x :: l =>
    let r := s.applySection m slot x
    if r.2 = 0 then r.1.applySections m slot l else r

/-- A slot is verified and applied (R480–R482). -/
def State.applySlot (s : State) (slot : Nat) : State × Nat :=
  let c := s.imageCheck slot
  if c ≠ 0 then (s, c)
  else
    let man := s.slotManifest slot
    let r := s.applySections .baseCamp slot (manSections man)
    if r.2 ≠ 0 then r else (r.1, if r.1.roleIs man then 0 else 9)

/-- The slots in the order in which they are tried (R481). [DEDUCED: log 120] -/
def State.slotOrder (s : State) : Nat × Nat :=
  let h (k : Nat) : List Byte := s.flashBytes (k * s.slotSize) 128
  let ok (k : Nat) : Bool := headerOk s.slotSize (h k)
  if ok 0 && ok 1 && decide (0 < (manGen (h 1) - manGen (h 0)).toInt) then (1, 0) else (0, 1)

/-- Does a SCHED section write registers of Ocuant block u (R482)? -/
def State.schedWrites (s : State) (slot u : Nat) : Bool :=
  (manSections (s.slotManifest slot)).any (fun x => x.typ == 5 &&
    (listEntries (s.payload slot x)).any (fun e => fld e.1 31 30 == 0 && fld e.1 21 0 / 0x10000 == ocuBlk u))

/-! ### The final steps (R482) -/

/-- Role gating (R22). -/
def State.gateRoles (s : State) : State :=
  let role := s.reg Reg.SYS_ROLE
  let s := if bitOf role 2 then s
    else s.setRegs [(Reg.CLK_ISL_GATE, 0x200), (Reg.CLK_ISL_RUN, setBit (s.reg Reg.CLK_ISL_RUN) 9 false)]
  if bitOf role 0 then s else s.setState 0x3C 0

/-- SAFE starts; the Belay or the pairs that failed their start-up test leave every group in LOCKOUT (R307, R527). -/
def State.startSafe (s : State) (belayBad : Bool) : State :=
  let s := s.safeStart
  let s := if belayBad then ({ s with safe := { s.safe with belayOut := true } }).safeFault cBELAY 0xFF else s
  if s.ropeHalted then ({ s with safe := { s.safe with ropeBack := some none } }).safeFault cROPE 0xFF else s

/-- The final steps, once the image in a slot has been applied. -/
def State.finalSteps (s : State) (e : Sys2Proof.ColdEnv) (slot : Nat) (fallback : Bool) : State :=
  let man := s.slotManifest slot
  let z : Sys2Proof.CmdArg := ⟨0, 0⟩
  let s := (s.gateRoles.startSafe (!(failing e 6).isEmpty))
  let s := [0, 1].foldl (fun (s : State) u =>
    if s.schedWrites slot u then ocuStart u .baseCamp z (ocuLoadSched u .baseCamp z s) else s) s
  let s := cycStart .baseCamp z s
  let s := if s.reg Reg.CYC_STATE = 1 then ceStart .baseCamp z s else { s with boot := { s.boot with ceStart := true } }
  let w5 := manWord man 5
  let s := s.setRegs [(Reg.SYS_ROLE, setBit (s.reg Reg.SYS_ROLE) 15 true), (Reg.BOOT_GEN, manGen man),
    (Reg.BOOT_RUN, wordOfNat (slot + fld w5 7 0 * 0x100 + fld w5 9 8 * 0x10000 + b2n fallback * 0x1000000)),
    (Reg.BOOT_TIME, wordOfNat e.ms.toNat), (Reg.CLK_ISL_RUN, setBit (s.reg Reg.CLK_ISL_RUN) 3 true), (Reg.XSPI_STATE, 1)]
  let s := { s with boot := { s.boot with man := man, wdogAt := s.now }, wsch := { s.wsch with target := s.reg Reg.SYS_CORE_EN } }
  let s := ((s.setCoreAct s.coreTarget).setState 0 2).setState 2 2
  (s.hutRequest 3 2 [s.reg Reg.BOOT_RUN, s.reg Reg.BOOT_GEN, s.reg Reg.BIV_RSTCAUSE]).syncWsch.fltShow

/-- Both slots have failed (R485). [DEDUCED: log 120] -/
def State.recovery (s : State) : State := ((s.setReg Reg.XSPI_STATE 1).setState 2 6).fltShow

/-- The slots are tried in order (R481, R485). [DEDUCED: log 120] -/
def State.trySlots (s : State) (e : Sys2Proof.ColdEnv) : State :=
  let res (k : Nat) : Nat := if k = 0 then Reg.BOOT_SLOTA_RES else Reg.BOOT_SLOTB_RES
  if e.xdev = 0 then (s.setRegs [(res 0, 12), (res 1, 12)]).recovery
  else
    let (a, b) := s.slotOrder
    let r := s.applySlot a
    if r.2 = 0 then (r.1.setRegs [(res a, 0), (res b, 0xFF)]).finalSteps e a false
    else
      let s := (r.1.setReg (res a) (wordOfNat r.2)).islandsReset.startIslands e
      let s := s.bootEvt 3
      let r := s.applySlot b
      if r.2 = 0 then (r.1.setReg (res b) 0).finalSteps e b true
      else ((r.1.setReg (res b) (wordOfNat r.2)).islandsReset.startIslands e).recovery

/-- PORST_N rises, or Base camp ends a brown-out or a FATAL reset; a part that is not in reset is reset first. -/
def State.leaveReset (s : State) : State :=
  let t := if s.boot.inReset then s else s.coldReset 1
  { t with boot := { t.boot with inReset := false } }

/-- The ns that pass until the cores are released. [DEDUCED: log 119] -/
def coldTime (e : Sys2Proof.ColdEnv) : Nat := e.ms.toNat * 1000000

/-- Base camp from the end of reset on; with the sequence restarted by RETRY, no cold start is counted (R495, R539). [DEDUCED: log 119] -/
def State.baseCamp (s : State) (e : Sys2Proof.ColdEnv) : State :=
  let t := s.advanceTo (s.now + coldTime e)
  let t := if t.boot.cause = 0 then t else (t.bivCold e.lost e.crystal).selfTests e
  (t.startIslands e).trySlots e

/-- COLD_START (R467–R485). [DEDUCED: log 119; DEDUCED: log 122] -/
def coldStart (e : Sys2Proof.ColdEnv) (s : State) : State := s.leaveReset.baseCamp e

def execColdStart (e : Sys2Proof.ColdEnv) (s : State) : Host.Outcome State Fault Refusal := .next (coldStart e s)

/-! ### A warm restart ends (R487, R488) -/

/-- The blocks that deliver event items, with their EVT and EVT_EN registers (R429). -/
def evtRegs : List (Nat × Nat × Nat) :=
  [(0x02, Reg.BOOT_EVT, Reg.BOOT_EVT_EN), (0x04, Reg.FLT_EVT, Reg.FLT_EVT_EN), (0x05, Reg.BIV_EVT, Reg.BIV_EVT_EN),
    (0x06, Reg.HUT_EVT, Reg.HUT_EVT_EN), (0x09, Reg.CYC_EVT, 0), (0x10, Reg.CE_EVT, Reg.CE_EVT_EN),
    (0x12, Reg.PROF_EVT, Reg.PROF_EVT_EN), (0x14, Reg.AXC_EVT 0, Reg.AXC_EVT_EN 0), (0x15, Reg.AXC_EVT 1, Reg.AXC_EVT_EN 1),
    (0x16, Reg.AXC_EVT 2, Reg.AXC_EVT_EN 2), (0x17, Reg.AXC_EVT 3, Reg.AXC_EVT_EN 3), (0x18, Reg.STEP_EVT, Reg.STEP_EVT_EN),
    (0x19, 0x190010, Reg.ENC_EVT_EN), (0x1C, Reg.SEQ_EVT, Reg.SEQ_EVT_EN), (0x1D, Reg.ILK_EVT, Reg.ILK_EVT_EN)]
  ++ [(0x20, Reg.ADC_EVT, Reg.ADC_EVT_EN), (0x21, Reg.SDM_EVT, Reg.SDM_EVT_EN), (0x22, Reg.DAC_EVT, Reg.DAC_EVT_EN),
    (0x24, Reg.FIO_EVT, Reg.FIO_EVT_EN), (0x25, Reg.SAFE_EVT, Reg.SAFE_EVT_EN), (0x28, Reg.OCU_EVT 0, Reg.OCU_EVT_EN 0),
    (0x29, Reg.OCU_EVT 1, Reg.OCU_EVT_EN 1), (0x2C, Reg.TB_EVT, Reg.TB_EVT_EN), (0x2D, Reg.ETH_EVT 0, Reg.ETH_EVT_EN 0),
    (0x2E, Reg.ETH_EVT 1, Reg.ETH_EVT_EN 1), (0x30, Reg.CAN_EVT 0, Reg.CAN_EVT_EN 0), (0x31, Reg.CAN_EVT 1, Reg.CAN_EVT_EN 1),
    (0x32, Reg.CAN_EVT 2, Reg.CAN_EVT_EN 2), (0x33, Reg.CAN_EVT 3, Reg.CAN_EVT_EN 3)]
  ++ [(0x38, Reg.WSCH_EVT, Reg.WSCH_EVT_EN), (0x39, Reg.QUE_EVT, Reg.QUE_EVT_EN), (0x3A, Reg.MEMC_EVT, Reg.MEMC_EVT_EN),
    (0x3B, Reg.SREC_EVT, Reg.SREC_EVT_EN), (0x3C, Reg.PCIE_EVT, Reg.PCIE_EVT_EN), (0x3D, Reg.XSPI_EVT, Reg.XSPI_EVT_EN)]

/-- Each block with pending events delivers one resynchronisation item (R32, R507). [DEDUCED: log 121] -/
def State.resynchronise (s : State) : State :=
  let l := s.que.resync
  evtRegs.foldl (fun (s : State) (x : Nat × Nat × Nat) =>
    let pending := l.contains x.1 || (x.2.2 != 0 && s.reg x.2.1 &&& s.reg x.2.2 != 0)
      || (x.1 == 0x3C && s.reg Reg.PCIE_MB_PEND != 0)
    if pending then s.blockItem x.1 2 x.2.1 else s) { s with que := { s.que with resync := [] } }

/-- The application domain is released (R487, R495): after COMMIT the slot's image is the running one. [DEDUCED: log 121] -/
def State.warmRelease (s : State) (slot : Nat) (commit : Bool) (ms : Nat) : State :=
  let s := if commit then
      let man := s.slotManifest slot
      let w5 := manWord man 5
      ({ s with boot := { s.boot with man := man } }).setRegs [(Reg.BOOT_GEN, manGen man),
        (Reg.BOOT_RUN, wordOfNat (slot + fld w5 7 0 * 0x100 + fld w5 9 8 * 0x10000))]
    else s
  let s := (s.setReg Reg.BOOT_TIME (setFld (s.reg Reg.BOOT_TIME) 31 16 ms)).bootEvt 0
  let s := ((s.complete Reg.BOOT_CMD).setState 0 2).setState 2 2
  let s := { s with boot := { s.boot with warm := none, wdogAt := s.now } }
  s.bootGive.syncWsch.resynchronise

/-- A warm restart has failed (R488): a COMMIT goes back to the running image, and the application domain else stays in
reset. [DEDUCED: log 121] -/
def State.warmFails (s : State) (commit : Bool) : State :=
  if commit then { s with boot := { s.boot with warm := some (s.runSlot, false) } }
  else
    let s := ({ s with boot := { s.boot with warm := none } }).bootGive
    let s := ((s.complete Reg.BOOT_CMD).setState 2 7).bootEvt 4
    s.faultEvent 2 2 0 0 (s.reg Reg.BOOT_EVT)

/-- WARM_RESTART_COMPLETE (R487, R488): the APP sections are read and applied; `err`: a flash read error. [DEDUCED: log 121] -/
def warmRestartComplete (err : Bool) (ms : Nat) (s : State) : State :=
  match s.boot.warm with
  | none => s
  | some (slot, commit) =>
    if s.reg Reg.BOOT_STATE ≠ 4 then s
    else if err then s.warmFails commit
    else
      let man := if commit then s.slotManifest slot else s.boot.man
      let r := s.applySections .bootApp slot ((manSections man).filter (fun x => x.app))
      if r.2 = 0 then r.1.warmRelease slot commit ms else r.1.warmFails commit

def execWarmRestartComplete (err : Bool) (ms : BitVec 16) (s : State) : Host.Outcome State Fault Refusal :=
  s.goesTo (warmRestartComplete err ms.toNat s)

/-- DRAM_CHECK_BIT_INIT (R484): after release the check bits of the rest of DRAM are initialised. [DEDUCED: log 122] -/
def dramCheckBitInit (progress : Nat) (done : Bool) (s : State) : State :=
  let w := s.reg Reg.BOOT_DRAMINIT
  if s.reg Reg.SYS_STATE = 1 ∨ s.reg Reg.MEMC_USABLE = 0 ∨ bitOf w 31 ∨ (!done ∧ progress < fld w 15 0) then s
  else s.setReg Reg.BOOT_DRAMINIT (if done then 0x8000FFFF else wordOfNat progress)

def execDramCheckBitInit (progress : BitVec 16) (done : Bool) (s : State) : Host.Outcome State Fault Refusal :=
  s.goesTo (s.alive 11 (dramCheckBitInit progress.toNat done s))

end Sys2Proof.Machine
end

