-- ==== Sys2Proof/Machine/Dispatch.lean ====
section
/-!
DEFINITION. The dispatch: one arm per command, each a direct call of its meaning.
-/
namespace Sys2Proof.Machine

def exec (i : Instr) (s : State) : Host.Outcome State Fault Refusal :=
  match i with
  | .registerWrite m p wd w => Sys2Proof.Machine.execRegisterWrite m p wd w s
  | .setAliasWrite m ofs w => Sys2Proof.Machine.execSetAliasWrite m ofs w s
  | .clearAliasWrite m ofs w => Sys2Proof.Machine.execClearAliasWrite m ofs w s
  | .toggleAliasWrite m ofs w => Sys2Proof.Machine.execToggleAliasWrite m ofs w s
  | .w1cWrite m ofs w => Sys2Proof.Machine.execW1cWrite m ofs w s
  | .loRegisterRead m p wd => Sys2Proof.Machine.execLoRegisterRead m p wd s
  | .resultRegisterRead m ofs => Sys2Proof.Machine.execResultRegisterRead m ofs s
  | .clearStats m blk a => Sys2Proof.Machine.execClearStats m blk a s
  | .parityScan a flip => Sys2Proof.Machine.execParityScan a flip s
  | .configReload blk => Sys2Proof.Machine.execConfigReload blk s
  | .clockMonitorFailure n => Sys2Proof.Machine.execClockMonitorFailure n s
  | .sysApplyCoreEn m a => Sys2Proof.Machine.execSysApplyCoreEn m a s
  | .sysClearCounters m a => Sys2Proof.Machine.execSysClearCounters m a s
  | .sysAbort m a => Sys2Proof.Machine.execSysAbort m a s
  | .clkApplyPoolSel m a => Sys2Proof.Machine.execClkApplyPoolSel m a s
  | .poolClockSwitch => Sys2Proof.Machine.execPoolClockSwitch s
  | .clkAbort m a => Sys2Proof.Machine.execClkAbort m a s
  | .fcStart ain sdm => Sys2Proof.Machine.execFcStart ain sdm s
  | .currentTickB ain sdm => Sys2Proof.Machine.execCurrentTickB ain sdm s
  | .applyLatch tickB => Sys2Proof.Machine.execApplyLatch tickB s
  | .routeUpdate ep x satd valid parityOk => Sys2Proof.Machine.execRouteUpdate ep x satd valid parityOk s
  | .sigEntryRead m id => Sys2Proof.Machine.execSigEntryRead m id s
  | .sigEntryWrite m id => Sys2Proof.Machine.execSigEntryWrite m id s
  | .sigLoad m a => Sys2Proof.Machine.execSigLoad m a s
  | .sigLoadDone err => Sys2Proof.Machine.execSigLoadDone err s
  | .sigSwap m a => Sys2Proof.Machine.execSigSwap m a s
  | .sigAbort m a => Sys2Proof.Machine.execSigAbort m a s
  | .sigPeek m id => Sys2Proof.Machine.execSigPeek m id s
  | .sigWrValWrite m x => Sys2Proof.Machine.execSigWrValWrite m x s
  | .cycStart m a => Sys2Proof.Machine.execCycStart m a s
  | .cycSwap m a => Sys2Proof.Machine.execCycSwap m a s
  | .cycAbort m a => Sys2Proof.Machine.execCycAbort m a s
  | .cairnMissing => Sys2Proof.Machine.execCairnMissing s
  | .holdoverLost => Sys2Proof.Machine.execHoldoverLost s
  | .ceStart m a => Sys2Proof.Machine.execCeStart m a s
  | .ceStop m a => Sys2Proof.Machine.execCeStop m a s
  | .ceValidate m a => Sys2Proof.Machine.execCeValidate m a s
  | .ceValidateDone => Sys2Proof.Machine.execCeValidateDone s
  | .ceSwap m a => Sys2Proof.Machine.execCeSwap m a s
  | .ceAbort m a => Sys2Proof.Machine.execCeAbort m a s
  | .ceLocalMemoryWrite m ofs w => Sys2Proof.Machine.execCeLocalMemoryWrite m ofs w s
  | .ceFcRun slot u => Sys2Proof.Machine.execCeFcRun slot u s
  | .ceTickRun slot tickB u => Sys2Proof.Machine.execCeTickRun slot tickB u s
  | .runDeadlineMiss slot kind => Sys2Proof.Machine.execRunDeadlineMiss slot kind s
  | .checkRun u => Sys2Proof.Machine.execCheckRun u s
  | .voteRun u => Sys2Proof.Machine.execVoteRun u s
  | .residueError lane => Sys2Proof.Machine.execResidueError lane s
  | .laneRetirement lane => Sys2Proof.Machine.execLaneRetirement lane s
  | .ctabCopy m a => Sys2Proof.Machine.execCtabCopy m a s
  | .ctabCopyComplete => Sys2Proof.Machine.execCtabCopyComplete s
  | .ctabCopyError => Sys2Proof.Machine.execCtabCopyError s
  | .ctabAbort m a => Sys2Proof.Machine.execCtabAbort m a s
  | .profileAdvance => Sys2Proof.Machine.execProfileAdvance s
  | .traverseRefill g => Sys2Proof.Machine.execTraverseRefill g s
  | .hofsWrite m g x => Sys2Proof.Machine.execHofsWrite m g x s
  | .camDataAccess m x => Sys2Proof.Machine.execCamDataAccess m x s
  | .profEnable m g a => Sys2Proof.Machine.execProfEnable m g a s
  | .profDisable m g a => Sys2Proof.Machine.execProfDisable m g a s
  | .profGo m g a => Sys2Proof.Machine.execProfGo m g a s
  | .profRunQueue m g a => Sys2Proof.Machine.execProfRunQueue m g a s
  | .profStop m g a => Sys2Proof.Machine.execProfStop m g a s
  | .profQstop m g a => Sys2Proof.Machine.execProfQstop m g a s
  | .profFlush m g a => Sys2Proof.Machine.execProfFlush m g a s
  | .profLatchArm m g a => Sys2Proof.Machine.execProfLatchArm m g a s
  | .profGenAbort m g a => Sys2Proof.Machine.execProfGenAbort m g a s
  | .profStopAll m a => Sys2Proof.Machine.execProfStopAll m a s
  | .profAbort m a => Sys2Proof.Machine.execProfAbort m a s
  | .axcEnable m n a => Sys2Proof.Machine.execAxcEnable m n a s
  | .axcDisable m n a => Sys2Proof.Machine.execAxcDisable m n a s
  | .axcReset m n a => Sys2Proof.Machine.execAxcReset m n a s
  | .axcChannelAbort m n a => Sys2Proof.Machine.execAxcChannelAbort m n a s
  | .axcSwap m k a => Sys2Proof.Machine.execAxcSwap m k a s
  | .axcAbort m k a => Sys2Proof.Machine.execAxcAbort m k a s
  | .prechgElapsed n => Sys2Proof.Machine.execPrechgElapsed n s
  | .dutyLoad n reachA reachB => Sys2Proof.Machine.execDutyLoad n reachA reachB s
  | .axisTrip n desat enrb => Sys2Proof.Machine.execAxisTrip n desat enrb s
  | .encConfig m a => Sys2Proof.Machine.execEncConfig m a s
  | .encSsiRead m a => Sys2Proof.Machine.execEncSsiRead m a s
  | .encAbort m a => Sys2Proof.Machine.execEncAbort m a s
  | .ssiFrameComplete p data idleLow par => Sys2Proof.Machine.execSsiFrameComplete p data idleLow par s
  | .encoderCountEdge p a b => Sys2Proof.Machine.execEncoderCountEdge p a b s
  | .indexLatch p => Sys2Proof.Machine.execIndexLatch p s
  | .stepReshape m a => Sys2Proof.Machine.execStepReshape m a s
  | .stepReshapeComplete err => Sys2Proof.Machine.execStepReshapeComplete err s
  | .stepAbort m a => Sys2Proof.Machine.execStepAbort m a s
  | .loadAngleEstimate n angV angI amp => Sys2Proof.Machine.execLoadAngleEstimate n angV angI amp s
  | .stepModeSwitch n mean => Sys2Proof.Machine.execStepModeSwitch n mean s
  | .standstillTimeout n => Sys2Proof.Machine.execStandstillTimeout n s
  | .stepDirInputStep p up => Sys2Proof.Machine.execStepDirInputStep p up s
  | .ilkEvaluation => Sys2Proof.Machine.execIlkEvaluation s
  | .ilkSwap m a => Sys2Proof.Machine.execIlkSwap m a s
  | .ilkCopyActive m a => Sys2Proof.Machine.execIlkCopyActive m a s
  | .ilkCopyComplete => Sys2Proof.Machine.execIlkCopyComplete s
  | .ilkAck m a => Sys2Proof.Machine.execIlkAck m a s
  | .ilkAbort m a => Sys2Proof.Machine.execIlkAbort m a s
  | .ilkRuleReadShadow m r => Sys2Proof.Machine.execIlkRuleReadShadow m r s
  | .ilkRuleWriteShadow m r => Sys2Proof.Machine.execIlkRuleWriteShadow m r s
  | .ilkRuleReadActive m r => Sys2Proof.Machine.execIlkRuleReadActive m r s
  | .seqEvaluation => Sys2Proof.Machine.execSeqEvaluation s
  | .stepFetchComplete c err => Sys2Proof.Machine.execStepFetchComplete c err s
  | .seqStart m c a => Sys2Proof.Machine.execSeqStart m c a s
  | .seqPause m c a => Sys2Proof.Machine.execSeqPause m c a s
  | .seqResume m c a => Sys2Proof.Machine.execSeqResume m c a s
  | .seqRelease m c a => Sys2Proof.Machine.execSeqRelease m c a s
  | .seqReset m c a => Sys2Proof.Machine.execSeqReset m c a s
  | .seqChannelAbort m c a => Sys2Proof.Machine.execSeqChannelAbort m c a s
  | .seqAbort m a => Sys2Proof.Machine.execSeqAbort m a s
  | .adcTrigger m a => Sys2Proof.Machine.execAdcTrigger m a s
  | .adcSwap m a => Sys2Proof.Machine.execAdcSwap m a s
  | .adcAbort m a => Sys2Proof.Machine.execAdcAbort m a s
  | .fcPhaseTrigger phase tickB => Sys2Proof.Machine.execFcPhaseTrigger phase tickB s
  | .atrgEdge pin rising => Sys2Proof.Machine.execAtrgEdge pin rising s
  | .timeBaseTrigger g => Sys2Proof.Machine.execTimeBaseTrigger g s
  | .tbtimeWrite m g x => Sys2Proof.Machine.execTbtimeWrite m g x s
  | .conversionComplete conv uv => Sys2Proof.Machine.execConversionComplete conv uv s
  | .referenceCheck conv zero ref => Sys2Proof.Machine.execReferenceCheck conv zero ref s
  | .converterUnchecked conv => Sys2Proof.Machine.execConverterUnchecked conv s
  | .sdmSwap m a => Sys2Proof.Machine.execSdmSwap m a s
  | .sdmAbort m a => Sys2Proof.Machine.execSdmAbort m a s
  | .stuckStream n => Sys2Proof.Machine.execStuckStream n s
  | .sdmOvercurrent n sum => Sys2Proof.Machine.execSdmOvercurrent n sum s
  | .dacAbort m a => Sys2Proof.Machine.execDacAbort m a s
  | .dacImmediateUpdate c => Sys2Proof.Machine.execDacImmediateUpdate c s
  | .fioArm m a => Sys2Proof.Machine.execFioArm m a s
  | .fioClearOut m a => Sys2Proof.Machine.execFioClearOut m a s
  | .fioFlushTsf m a => Sys2Proof.Machine.execFioFlushTsf m a s
  | .fioAbort m a => Sys2Proof.Machine.execFioAbort m a s
  | .couplerFault ch => Sys2Proof.Machine.execCouplerFault ch s
  | .supplyLow b mv => Sys2Proof.Machine.execSupplyLow b mv s
  | .supplyDip b mv => Sys2Proof.Machine.execSupplyDip b mv s
  | .supplyLost b mv => Sys2Proof.Machine.execSupplyLost b mv s
  | .supplyRecovered b mv => Sys2Proof.Machine.execSupplyRecovered b mv s
  | .inputFilterTick n => Sys2Proof.Machine.execInputFilterTick n s
  | .tsfRead m => Sys2Proof.Machine.execTsfRead m s
  | .outputOverload n => Sys2Proof.Machine.execOutputOverload n s
  | .readbackMismatch n => Sys2Proof.Machine.execReadbackMismatch n s
  | .openLoad n => Sys2Proof.Machine.execOpenLoad n s
  | .testPulseCheck n high => Sys2Proof.Machine.execTestPulseCheck n high s
  | .testPulseEnd n => Sys2Proof.Machine.execTestPulseEnd n s
  | .safetyEvaluation => Sys2Proof.Machine.execSafetyEvaluation s
  | .belayComparison flip => Sys2Proof.Machine.execBelayComparison flip s
  | .stoDemand h l => Sys2Proof.Machine.execStoDemand h l s
  | .stoDemandEnd => Sys2Proof.Machine.execStoDemandEnd s
  | .stopathFault h => Sys2Proof.Machine.execStopathFault h s
  | .safeEnrbFault n => Sys2Proof.Machine.execSafeEnrbFault n s
  | .safeAckEdge => Sys2Proof.Machine.execSafeAckEdge s
  | .strapSample v => Sys2Proof.Machine.execStrapSample v s
  | .safeCrcCheck => Sys2Proof.Machine.execSafeCrcCheck s
  | .safeConfirmWrite m x => Sys2Proof.Machine.execSafeConfirmWrite m x s
  | .safeSelSetWrite m x => Sys2Proof.Machine.execSafeSelSetWrite m x s
  | .safeSelClrWrite m x => Sys2Proof.Machine.execSafeSelClrWrite m x s
  | .safeReset m a => Sys2Proof.Machine.execSafeReset m a s
  | .safeResetTimeout => Sys2Proof.Machine.execSafeResetTimeout s
  | .safeConfig m a => Sys2Proof.Machine.execSafeConfig m a s
  | .leaveConfig m a => Sys2Proof.Machine.execLeaveConfig m a s
  | .safeDemand m a => Sys2Proof.Machine.execSafeDemand m a s
  | .safeRelease m a => Sys2Proof.Machine.execSafeRelease m a s
  | .safeAbort m a => Sys2Proof.Machine.execSafeAbort m a s
  | .ocuStart u m a => Sys2Proof.Machine.execOcuStart u m a s
  | .ocuStop u m a => Sys2Proof.Machine.execOcuStop u m a s
  | .ocuLoadSched u m a => Sys2Proof.Machine.execOcuLoadSched u m a s
  | .ocuMbSend u m a => Sys2Proof.Machine.execOcuMbSend u m a s
  | .ocuMbRelease u m a => Sys2Proof.Machine.execOcuMbRelease u m a s
  | .ocuBulkSend u m a => Sys2Proof.Machine.execOcuBulkSend u m a s
  | .ocuAbort u m a => Sys2Proof.Machine.execOcuAbort u m a s
  | .linkBlockReceived u p dt b => Sys2Proof.Machine.execLinkBlockReceived u p dt b s
  | .blockLockAcquired u p => Sys2Proof.Machine.execBlockLockAcquired u p s
  | .blockLockLost u p => Sys2Proof.Machine.execBlockLockLost u p s
  | .linkBreak u p dt => Sys2Proof.Machine.execLinkBreak u p dt s
  | .portRestore u p => Sys2Proof.Machine.execPortRestore u p s
  | .cairnFrameReceived u p dt f => Sys2Proof.Machine.execCairnFrameReceived u p dt f s
  | .headEmissionStart => Sys2Proof.Machine.execHeadEmissionStart s
  | .takeover => Sys2Proof.Machine.execTakeover s
  | .slotFrameReceived u p dt f => Sys2Proof.Machine.execSlotFrameReceived u p dt f s
  | .slotFill u xi west prev late collide => Sys2Proof.Machine.execSlotFill u xi west prev late collide s
  | .slotReinsertion u xi p => Sys2Proof.Machine.execSlotReinsertion u xi p s
  | .dynFrameSend u p m prev arriving => Sys2Proof.Machine.execDynFrameSend u p m prev arriving s
  | .delayReqSend u p dt arriving => Sys2Proof.Machine.execDelayReqSend u p dt arriving s
  | .delayReqReceived u p dt f turn arriving => Sys2Proof.Machine.execDelayReqReceived u p dt f turn arriving s
  | .delayRspReceived u p dt f => Sys2Proof.Machine.execDelayRspReceived u p dt f s
  | .remoteWindowAccess m chip ofs count data => Sys2Proof.Machine.execRemoteWindowAccess m chip ofs count data s
  | .rraReq u p dt f => Sys2Proof.Machine.execRraReq u p dt f s
  | .rraRsp u p dt f => Sys2Proof.Machine.execRraRsp u p dt f s
  | .rraTimeout u dst seq => Sys2Proof.Machine.execRraTimeout u dst seq s
  | .mbox u p dt f => Sys2Proof.Machine.execMbox u p dt f s
  | .mboxAck u p dt f => Sys2Proof.Machine.execMboxAck u p dt f s
  | .mboxTimeout u => Sys2Proof.Machine.execMboxTimeout u s
  | .bulkData u p dt f => Sys2Proof.Machine.execBulkData u p dt f s
  | .bulkAck u p dt f => Sys2Proof.Machine.execBulkAck u p dt f s
  | .bulkTimeout u => Sys2Proof.Machine.execBulkTimeout u s
  | .tbSet m a => Sys2Proof.Machine.execTbSet m a s
  | .tbAdj m a => Sys2Proof.Machine.execTbAdj m a s
  | .tbSnapCal m a => Sys2Proof.Machine.execTbSnapCal m a s
  | .snapCapture => Sys2Proof.Machine.execSnapCapture s
  | .tbAbort m a => Sys2Proof.Machine.execTbAbort m a s
  | .tbWrap => Sys2Proof.Machine.execTbWrap s
  | .slewComplete => Sys2Proof.Machine.execSlewComplete s
  | .tbTimeRead m => Sys2Proof.Machine.execTbTimeRead m s
  | .ethStart k m a => Sys2Proof.Machine.execEthStart k m a s
  | .ethStop k m a => Sys2Proof.Machine.execEthStop k m a s
  | .ethMdio k m a => Sys2Proof.Machine.execEthMdio k m a s
  | .ethMdioDone k data => Sys2Proof.Machine.execEthMdioDone k data s
  | .ethAbort k m a => Sys2Proof.Machine.execEthAbort k m a s
  | .ethFrameTransmit k jit => Sys2Proof.Machine.execEthFrameTransmit k jit s
  | .launchTime k jit => Sys2Proof.Machine.execLaunchTime k jit s
  | .ethFrameReceive k f jit => Sys2Proof.Machine.execEthFrameReceive k f jit s
  | .txtailWrite m k q x => Sys2Proof.Machine.execTxtailWrite m k q x s
  | .rxtailWrite m k q x => Sys2Proof.Machine.execRxtailWrite m k q x s
  | .canStart k m a => Sys2Proof.Machine.execCanStart k m a s
  | .canStop k m a => Sys2Proof.Machine.execCanStop k m a s
  | .canSleep k m a => Sys2Proof.Machine.execCanSleep k m a s
  | .canWake k m a => Sys2Proof.Machine.execCanWake k m a s
  | .canRecover k m a => Sys2Proof.Machine.execCanRecover k m a s
  | .canTxreq k m a => Sys2Proof.Machine.execCanTxreq k m a s
  | .canTxcancel k m a => Sys2Proof.Machine.execCanTxcancel k m a s
  | .canAbort k m a => Sys2Proof.Machine.execCanAbort k m a s
  | .periodicRequest k b => Sys2Proof.Machine.execPeriodicRequest k b s
  | .canFrameReceived k f => Sys2Proof.Machine.execCanFrameReceived k f s
  | .canFrameSent k sof tdcv => Sys2Proof.Machine.execCanFrameSent k sof tdcv s
  | .arbitrationLost k => Sys2Proof.Machine.execArbitrationLost k s
  | .canBusError k kind dphase patt exc => Sys2Proof.Machine.execCanBusError k kind dphase patt exc s
  | .busIntegrationComplete k => Sys2Proof.Machine.execBusIntegrationComplete k s
  | .busoffRecoveryComplete k => Sys2Proof.Machine.execBusoffRecoveryComplete k s
  | .wakeDetected k ns f => Sys2Proof.Machine.execWakeDetected k ns f s
  | .queEnqCommit m x => Sys2Proof.Machine.execQueEnqCommit m x s
  | .commitStallTimeout port => Sys2Proof.Machine.execCommitStallTimeout port s
  | .headRefill q err => Sys2Proof.Machine.execHeadRefill q err s
  | .dispatchDecision => Sys2Proof.Machine.execDispatchDecision s
  | .wschDoneWrite m => Sys2Proof.Machine.execWschDoneWrite m s
  | .wschCancelWrite m x => Sys2Proof.Machine.execWschCancelWrite m x s
  | .wschApplyCfg m a => Sys2Proof.Machine.execWschApplyCfg m a s
  | .wschAbort m a => Sys2Proof.Machine.execWschAbort m a s
  | .coreRetirement n => Sys2Proof.Machine.execCoreRetirement n s
  | .queReset m a => Sys2Proof.Machine.execQueReset m a s
  | .queResize m a => Sys2Proof.Machine.execQueResize m a s
  | .queueResizeComplete => Sys2Proof.Machine.execQueueResizeComplete s
  | .queAbort m a => Sys2Proof.Machine.execQueAbort m a s
  | .dramRead m a r => Sys2Proof.Machine.execDramRead m a r s
  | .patrolScrub a r pos => Sys2Proof.Machine.execPatrolScrub a r pos s
  | .memcScrubNow m a => Sys2Proof.Machine.execMemcScrubNow m a s
  | .scrubPassEnd => Sys2Proof.Machine.execScrubPassEnd s
  | .memcRemap m a => Sys2Proof.Machine.execMemcRemap m a s
  | .rowRemapComplete => Sys2Proof.Machine.execRowRemapComplete s
  | .memcAbort m a => Sys2Proof.Machine.execMemcAbort m a s
  | .srecStart m a => Sys2Proof.Machine.execSrecStart m a s
  | .srecStop m a => Sys2Proof.Machine.execSrecStop m a s
  | .srecArm m a => Sys2Proof.Machine.execSrecArm m a s
  | .srecTrigger m a => Sys2Proof.Machine.execSrecTrigger m a s
  | .srecRelease m a => Sys2Proof.Machine.execSrecRelease m a s
  | .srecAbort m a => Sys2Proof.Machine.execSrecAbort m a s
  | .srecFrameWrite => Sys2Proof.Machine.execSrecFrameWrite s
  | .signalTriggerEvaluation => Sys2Proof.Machine.execSignalTriggerEvaluation s
  | .readoutGo m kind => Sys2Proof.Machine.execReadoutGo m kind s
  | .readoutCancel m kind => Sys2Proof.Machine.execReadoutCancel m kind s
  | .readoutComplete n fail => Sys2Proof.Machine.execReadoutComplete n fail s
  | .coldStart e => Sys2Proof.Machine.execColdStart e s
  | .brownOutReset => Sys2Proof.Machine.execBrownOutReset s
  | .supplyWarning r beyond => Sys2Proof.Machine.execSupplyWarning r beyond s
  | .bootWarm m a => Sys2Proof.Machine.execBootWarm m a s
  | .bootVerify m a => Sys2Proof.Machine.execBootVerify m a s
  | .verifyDone err => Sys2Proof.Machine.execVerifyDone err s
  | .bootCommit m a => Sys2Proof.Machine.execBootCommit m a s
  | .bootAttest m a => Sys2Proof.Machine.execBootAttest m a s
  | .attestDone => Sys2Proof.Machine.execAttestDone s
  | .bootRetry m a => Sys2Proof.Machine.execBootRetry m a s
  | .bootAbort m a => Sys2Proof.Machine.execBootAbort m a s
  | .warmRestartComplete err ms => Sys2Proof.Machine.execWarmRestartComplete err ms s
  | .appWatchdogExpiry => Sys2Proof.Machine.execAppWatchdogExpiry s
  | .wdogKick m => Sys2Proof.Machine.execWdogKick m s
  | .identityKeyReady => Sys2Proof.Machine.execIdentityKeyReady s
  | .keyProg m a => Sys2Proof.Machine.execKeyProg m a s
  | .keyRevoke m a => Sys2Proof.Machine.execKeyRevoke m a s
  | .rollfwd m a => Sys2Proof.Machine.execRollfwd m a s
  | .svcProg m a => Sys2Proof.Machine.execSvcProg m a s
  | .otpProg m a => Sys2Proof.Machine.execOtpProg m a s
  | .dbgLock m a => Sys2Proof.Machine.execDbgLock m a s
  | .dbgOpen m a => Sys2Proof.Machine.execDbgOpen m a s
  | .bootScAbort m a => Sys2Proof.Machine.execBootScAbort m a s
  | .otpProgramDone => Sys2Proof.Machine.execOtpProgramDone s
  | .kecInit m a => Sys2Proof.Machine.execKecInit m a s
  | .kecAbsorb m a => Sys2Proof.Machine.execKecAbsorb m a s
  | .kecAbsorbDone err => Sys2Proof.Machine.execKecAbsorbDone err s
  | .kecFinal m a => Sys2Proof.Machine.execKecFinal m a s
  | .kecAbort m a => Sys2Proof.Machine.execKecAbort m a s
  | .xspiRead m a => Sys2Proof.Machine.execXspiRead m a s
  | .xspiProgram m a => Sys2Proof.Machine.execXspiProgram m a s
  | .xspiErase4k m a => Sys2Proof.Machine.execXspiErase4k m a s
  | .xspiErase64k m a => Sys2Proof.Machine.execXspiErase64k m a s
  | .xspiResume m a => Sys2Proof.Machine.execXspiResume m a s
  | .xspiAbort m a => Sys2Proof.Machine.execXspiAbort m a s
  | .xspiOperationDone err => Sys2Proof.Machine.execXspiOperationDone err s
  | .pciePerst => Sys2Proof.Machine.execPciePerst s
  | .pcieLinkUp speed width => Sys2Proof.Machine.execPcieLinkUp speed width s
  | .pcieLinkDown => Sys2Proof.Machine.execPcieLinkDown s
  | .pcieRetrain m a => Sys2Proof.Machine.execPcieRetrain m a s
  | .pcieMbReset m a => Sys2Proof.Machine.execPcieMbReset m a s
  | .pcieAbort m a => Sys2Proof.Machine.execPcieAbort m a s
  | .mbDbWrite k x => Sys2Proof.Machine.execMbDbWrite k x s
  | .mbAnswerWrite m x => Sys2Proof.Machine.execMbAnswerWrite m x s
  | .qdbCommit q ws => Sys2Proof.Machine.execQdbCommit q ws s
  | .msixRaiseWrite m x => Sys2Proof.Machine.execMsixRaiseWrite m x s
  | .bar4ReadTimeout => Sys2Proof.Machine.execBar4ReadTimeout s
  | .fltLogRead m => Sys2Proof.Machine.execFltLogRead m s
  | .operatingSecond => Sys2Proof.Machine.execOperatingSecond s
  | .ropeDivergence b => Sys2Proof.Machine.execRopeDivergence b s
  | .standbyPairReady fail => Sys2Proof.Machine.execStandbyPairReady fail s
  | .autocoldRestart => Sys2Proof.Machine.execAutocoldRestart s
  | .periodicSelfTest t inst fail => Sys2Proof.Machine.execPeriodicSelfTest t inst fail s
  | .fltSelftest m a => Sys2Proof.Machine.execFltSelftest m a s
  | .selftestDone clr fail => Sys2Proof.Machine.execSelftestDone clr fail s
  | .fltAbort m a => Sys2Proof.Machine.execFltAbort m a s
  | .clearRet m a => Sys2Proof.Machine.execClearRet m a s
  | .islReset m a => Sys2Proof.Machine.execIslReset m a s
  | .islResetDone => Sys2Proof.Machine.execIslResetDone s
  | .fltScAbort m a => Sys2Proof.Machine.execFltScAbort m a s
  | .vbatMeasure mv => Sys2Proof.Machine.execVbatMeasure mv s
  | .vbatSwitchover => Sys2Proof.Machine.execVbatSwitchover s
  | .bivSet m a => Sys2Proof.Machine.execBivSet m a s
  | .calendarLoad => Sys2Proof.Machine.execCalendarLoad s
  | .bivAbort m a => Sys2Proof.Machine.execBivAbort m a s
  | .calendarRead m frac => Sys2Proof.Machine.execCalendarRead m frac s
  | .hutReserve m a => Sys2Proof.Machine.execHutReserve m a s
  | .hutWrDataWrite m x => Sys2Proof.Machine.execHutWrDataWrite m x s
  | .hutCommit m a => Sys2Proof.Machine.execHutCommit m a s
  | .hutCancel m a => Sys2Proof.Machine.execHutCancel m a s
  | .hutAbort m a => Sys2Proof.Machine.execHutAbort m a s
  | .reservationTimeout => Sys2Proof.Machine.execReservationTimeout s
  | .blockRecordCommit => Sys2Proof.Machine.execBlockRecordCommit s
  | .hutCursorWrite m x => Sys2Proof.Machine.execHutCursorWrite m x s
  | .hutNonce m a => Sys2Proof.Machine.execHutNonce m a s
  | .hutClear m a => Sys2Proof.Machine.execHutClear m a s
  | .hutClearVerifyDone => Sys2Proof.Machine.execHutClearVerifyDone s
  | .hutScAbort m a => Sys2Proof.Machine.execHutScAbort m a s
  | .converterFree conv => Sys2Proof.Machine.execConverterFree conv s
  | .rawInputEdge n level => Sys2Proof.Machine.execRawInputEdge n level s
  | .couplerHeartbeatReturn ch => Sys2Proof.Machine.execCouplerHeartbeatReturn ch s
  | .supplyLowClear b mv => Sys2Proof.Machine.execSupplyLowClear b mv s
  | .stuckStreamRecovery n => Sys2Proof.Machine.execStuckStreamRecovery n s
  | .calendarSecond => Sys2Proof.Machine.execCalendarSecond s
  | .porstNAsserted => Sys2Proof.Machine.execPorstNAsserted s
  | .ethLinkChange k link speed => Sys2Proof.Machine.execEthLinkChange k link speed s
  | .machineCheck n => Sys2Proof.Machine.execMachineCheck n s
  | .sharedSramRead m a r => Sys2Proof.Machine.execSharedSramRead m a r s
  | .dramCheckBitInit progress done => Sys2Proof.Machine.execDramCheckBitInit progress done s
  | .mr4RateChange ch code => Sys2Proof.Machine.execMr4RateChange ch code s
  | .dynamicFrameReceived u p dt f => Sys2Proof.Machine.execDynamicFrameReceived u p dt f s
  | .msixUnmask v => Sys2Proof.Machine.execMsixUnmask v s

end Sys2Proof.Machine
end

