-- ==== Sys2Proof/Machine/Step.lean ====
section
/-!
DEFINITION. One step of the block: the command at the front of the queue, run on the state with the queue's rest; with
no command waiting, one tick of the 400 MHz time-base clock (R377).
-/
namespace Sys2Proof.Machine

/-- The state with command i at the front of the queue. [DESIGN CHOICE: log 2] -/
def State.push (s : State) (i : Instr) : State := { s with pending := i :: s.pending }

/-- One step. [DESIGN CHOICE: log 1; DESIGN CHOICE: log 2; DEDUCED: log 4; DESIGN CHOICE: log 141] -/
def step (s : State) : Host.Outcome State Fault Refusal :=
  match s.pending with
  | [] => .next s.tick
  | i :: rest => exec i { s with pending := rest }

/-- The state with the command a word spells at the front of its queue; s itself where it spells none. [DESIGN CHOICE: log 2] -/
def State.withFetchWord (s : State) (nbits w : Nat) : State :=
  match Sys2Proof.decodeTableWord nbits w with
  | some i => s.push i
  | none => s

end Sys2Proof.Machine
end

