-- ==== Sys2Proof/Safety.lean ====
section
/-!
DEFINITION. What counts as a safe run of the part, and the terms in which the claims speak of commands: the command that a
row writes to a command register, as its chapter gives it, and when the register takes it (R57–R68).
-/
namespace Sys2Proof

/-- The invariant of plain data: memory and the register table keep their canonical form. -/
def Safe (s : Machine.State) : Prop :=
  Machine.Memory.wf s.mem = true ∧ Machine.smCanon Machine.resetWord s.regs = true

end Sys2Proof

namespace Sys2Proof.Machine

/-! ### The commands of the command registers (R60–R68) -/

/-- A command that a row writes to a command register: the state it finds (for the MACs, with the bus operations that have
become due settled), the master, the reserved bits and ARG, and what its chapter says of it. -/
structure Written where
  st : State
  m : Sys2Proof.Master
  a : Sys2Proof.CmdArg
  c : Cmd

/-- An ABORT that a row writes to a command register (R67). -/
structure AbortWritten where
  st : State
  m : Sys2Proof.Master
  a : Sys2Proof.CmdArg
  unit : Nat
  acc : Priv

/-- The programming commands of BOOT_SC_CMD (R496). -/
def scCmd (s : State) (code : Nat) (argOk ok : Bool) : Cmd :=
  ⟨Reg.BOOT_SC_CMD, .secure, code, argOk, true, s.reg Reg.BOOT_SC_STATE == 1, ok⟩

/-- The flash operations of XSPI_CMD (R500). -/
def flashCmd (s : State) (code : Nat) (a : Sys2Proof.CmdArg) : Cmd :=
  ⟨Reg.XSPI_CMD, .priv, code, a.arg == 0, true, s.reg Reg.XSPI_STATE == 1,
    s.xspiValid (s.xspiOp code) && !s.xspiProtects (s.xspiOp code)⟩

/-- The command a row writes, with the states that permit it and the operands that it asks for, as the command tables of the
chapters give them; `none` for the rows that write none. CLEAR_STATS and ABORT stand apart. -/
def commandOf : Sys2Proof.Instr → State → Option Written
  | .sysApplyCoreEn m a, s => some ⟨s, m, a, ⟨Reg.SYS_CMD, .priv, 1, a.arg == 0, true, !s.warm, true⟩⟩
  | .sysClearCounters m a, s => some ⟨s, m, a, ⟨Reg.SYS_CMD, .priv, 2, a.arg == 0, false, true, true⟩⟩
  | .clkApplyPoolSel m a, s =>
    let sel := fld (s.reg Reg.CLK_POOL_SEL) 1 0
    some ⟨s, m, a, ⟨Reg.CLK_CMD, .secure, 1, a.arg == 0, true, true, sel != 3⟩⟩
  | .sigLoad m a, s =>
    let cnt := (s.reg Reg.SIG_LOAD_CNT).toNat
    let src := (s.reg Reg.SIG_LOAD_ADDR).toNat
    let ok := 1 ≤ cnt && cnt ≤ 8192 && src + 16 * cnt ≤ 0x800000 && (src + 16 * cnt ≤ 0x780000 || mclass m = .secure)
    some ⟨s, m, a, ⟨Reg.SIG_CMD, .priv, 1, a.arg == 0, true, s.reg Reg.SIG_STATE == 1, ok⟩⟩
  | .sigSwap m a, s =>
    some ⟨s, m, a, ⟨Reg.SIG_CMD, .priv, 2, a.arg == 0, true, s.reg Reg.SIG_STATE == 1, (List.range 64).all s.stagedOk⟩⟩
  | .cycStart m a, s => some ⟨s, m, a, ⟨Reg.CYC_CMD, .priv, 1, a.arg == 0, false, s.reg Reg.CYC_STATE == 0, true⟩⟩
  | .cycSwap m a, s =>
    let t := (s.reg Reg.CYC_SETUP_S).toNat
    some ⟨s, m, a, ⟨Reg.CYC_CMD, .priv, 2, a.arg == 0, true, true, 250 ≤ t && t ≤ 2000⟩⟩
  | .ceStart m a, s =>
    some ⟨s, m, a, ⟨Reg.CE_CMD, .priv, 1, a.arg == 0, false, s.reg Reg.CE_STATE == 0 && s.cycRuns && [0, 1,
      2].any (fun n => s.ceRole n != 2), true⟩⟩
  | .ceStop m a, s => some ⟨s, m, a, ⟨Reg.CE_CMD, .priv, 2, a.arg == 0, false, s.reg Reg.CE_STATE != 0, true⟩⟩
  | .ceValidate m a, s => some ⟨s, m, a, ⟨Reg.CE_CMD, .priv, 3, a.arg == 0, true, true, true⟩⟩
  | .ceSwap m a, s => some ⟨s, m, a, ⟨Reg.CE_CMD, .priv, 4, a.arg == 0, true, bitOf (s.reg Reg.CE_VAL) 31, true⟩⟩
  | .ctabCopy m a, s =>
    let n := a.arg.toNat % 64
    let t := s.ceTable n
    some ⟨s, m, a, ⟨Reg.CTAB_CMD, .priv, 1, decide (a.arg.toNat < 64), true, s.reg Reg.CTAB_STATE == 1, t.ok &&
      t.mode != 0⟩⟩
  | .profEnable m g a, s =>
    let g := g.toNat
    some ⟨s, m, a, genCmd g a 1 false (s.genSt g == 0) true⟩
  | .profDisable m g a, s =>
    let g := g.toNat
    some ⟨s, m, a, genCmd g a 2 false (s.genSt g == 1 || s.genSt g == 5) true⟩
  | .profGo m g a, s =>
    let g := g.toNat
    let t := s.profImm (mport m)
    let st := s.genSt g
    let home : Bool := (tTYPE t == 1 || tTYPE t == 2) && insideLims (s.genLims g) (travTarget t (s.gen g).k.p)
    some ⟨s, m, a, genCmd g a 3 true (st == 1 || st == 2 || (st == 5 && home)) (s.travOk t)⟩
  | .profRunQueue m g a, s =>
    let g := g.toNat
    some ⟨s, m, a, genCmd g a 4 false ((s.genSt g == 1 || s.genSt g == 2) && bitOf (s.reg (Reg.PROF_G_CFG g)) 23) true⟩
  | .profStop m g a, s =>
    let g := g.toNat
    some ⟨s, m, a, genCmd g a 5 false (s.genSt g != 0) true⟩
  | .profQstop m g a, s =>
    let g := g.toNat
    some ⟨s, m, a, genCmd g a 6 false (s.genSt g != 0) true⟩
  | .profFlush m g a, s =>
    let g := g.toNat
    some ⟨s, m, a, genCmd g a 7 false (!(s.genSt g == 2 && s.genRunq g)) true⟩
  | .profLatchArm m g a, s =>
    let g := g.toNat
    some ⟨s, m, a, genCmd g a 8 false (s.genSt g != 0) true⟩
  | .profStopAll m a, s => some ⟨s, m, a, ⟨Reg.PROF_CMD, .priv, 2, a.arg == 0, false, true, true⟩⟩
  | .axcEnable m n a, s =>
    let n := n.toNat
    some ⟨s, m, a, chanCmd n a 1 (s.axcSt n == 0 && fld (s.reg (Reg.AXC_CH_CFG (n / 4) (n % 4))) 1 0 != 3)⟩
  | .axcDisable m n a, s =>
    let n := n.toNat
    some ⟨s, m, a, chanCmd n a 2 (s.axcSt n == 1 || s.axcSt n == 2)⟩
  | .axcReset m n a, s =>
    let n := n.toNat
    some ⟨s, m, a, chanCmd n a 3 (s.axcSt n == 3)⟩
  | .axcSwap m k a, s =>
    let k := k.toNat
    let clash := (List.range 4).any (fun c => (s.axcSt (4 * k + c) == 1 || s.axcSt (4 * k + c) == 2) &&
      fld (s.reg (Reg.AXC_CH_CFG_S k c)) 1 0 != fld (s.reg (Reg.AXC_CH_CFG k c)) 1 0)
    some ⟨s, m, a, ⟨Reg.AXC_CMD k, .priv, 2, a.arg == 0, true, !clash, s.axcStagedOk k⟩⟩
  | .encConfig m a, s =>
    let p := a.arg.toNat
    some ⟨s, m, a, ⟨Reg.ENC_CMD, .priv, 1, decide (p < 16), true, true, s.encPendOk p⟩⟩
  | .encSsiRead m a, s =>
    let p := a.arg.toNat
    some ⟨s, m, a, ⟨Reg.ENC_CMD, .priv, 2, decide (p < 16), true, s.encMode p == 4 &&
      !bitOf (s.reg (Reg.ENC_P_MODE p)) 7, true⟩⟩
  | .stepReshape m a, s =>
    some ⟨s, m, a, ⟨Reg.STEP_CMD, .priv, 1, decide (a.arg.toNat < 4), true, s.reg Reg.STEP_STATE == 1, true⟩⟩
  | .ilkSwap m a, s => some ⟨s, m, a, ilkCmd 1 (a.arg == 0) true (s.reg Reg.ILK_STATE == 1)⟩
  | .ilkCopyActive m a, s => some ⟨s, m, a, ilkCmd 2 (a.arg == 0) true (s.reg Reg.ILK_STATE == 1)⟩
  | .ilkAck m a, s =>
    let r := a.arg.toNat
    some ⟨s, m, a, ilkCmd 3 (decide (r < 1024)) false (!(s.ilkRule r).cond)⟩
  | .seqStart m c a, s =>
    let c := c.toNat
    some ⟨s, m, a, seqCmd c 1 (a.arg == 0) true (s.seqSt c == 0 || s.seqSt c == 4)⟩
  | .seqPause m c a, s =>
    let c := c.toNat
    some ⟨s, m, a, seqCmd c 2 (a.arg == 0) false (s.seqSt c == 2)⟩
  | .seqResume m c a, s =>
    let c := c.toNat
    some ⟨s, m, a, seqCmd c 3 (a.arg == 0) false (s.seqSt c == 3 && (s.seqCh c).rules.all (fun r => r.2))⟩
  | .seqRelease m c a, s =>
    let c := c.toNat
    let st := s.seqSt c
    some ⟨s, m, a, seqCmd c 4 (a.arg != 0xFFFF) false (st == 1 || st == 2 || st == 3 || st == 5)⟩
  | .seqReset m c a, s =>
    let c := c.toNat
    some ⟨s, m, a, seqCmd c 5 (a.arg == 0) false (s.seqSt c == 4 || s.seqSt c == 6)⟩
  | .adcTrigger m a, s => some ⟨s, m, a, ⟨Reg.ADC_CMD, .priv, 1, true, false, true, true⟩⟩
  | .adcSwap m a, s =>
    some ⟨s, m, a, ⟨Reg.ADC_CMD, .priv, 2, a.arg == 0, true, s.reg Reg.ADC_STATE == 1,
      (List.range 16).all (fun g => s.adcStagedOk g)⟩⟩
  | .sdmSwap m a, s =>
    let ok := (List.range 48).all (fun c =>
      let cfg := s.reg (Reg.SDM_CH_CFG_S c)
      !bitOf cfg 0 || decide (sdmToc cfg (s.reg (Reg.SDM_CLK_S (c / 6))) ≤ 8000))
    some ⟨s, m, a, ⟨Reg.SDM_CMD, .priv, 1, a.arg == 0, true, s.reg Reg.SDM_STATE == 1, ok⟩⟩
  | .fioArm m a, s =>
    let mask := a.arg.toNat
    let ready := [0, 1].all (fun g => !mask.testBit g || s.fioGroup g == 1)
    some ⟨s, m, a, ⟨Reg.FIO_CMD, .priv, 1, decide (mask < 4) && mask != 0, true, ready, true⟩⟩
  | .fioClearOut m a, s =>
    let mask := a.arg.toNat
    let latched := (List.range 16).all (fun k => !mask.testBit k || bitOf (s.reg Reg.FIO_OUT_LATCH) k)
    some ⟨s, m, a, ⟨Reg.FIO_CMD, .priv, 2, decide (mask < 65536) && mask != 0, true, latched, true⟩⟩
  | .fioFlushTsf m a, s => some ⟨s, m, a, ⟨Reg.FIO_CMD, .priv, 3, a.arg == 0, false, true, true⟩⟩
  | .safeReset m a, s =>
    let locked := (List.range 8).any (fun g => a.arg.toNat.testBit g && s.groupSt g == 3)
    some ⟨s, m, a, safeCmd 1 (groupMaskOk a) true (s.safeMode == 2 && locked)⟩
  | .safeConfig m a, s =>
    let still := (List.range 8).all (fun g => s.groupSt g == 0 || s.groupSt g == 3)
    some ⟨s, m, a, safeCmd 2 (a.arg == 0) false (s.safeMode == 2 && still)⟩
  | .leaveConfig m a, s => some ⟨s, m, a, safeCmd 3 (a.arg == 0) false (s.safeMode == 3 && s.safeConfirmed)⟩
  | .safeDemand m a, s => some ⟨s, m, a, safeCmd 4 (groupMaskOk a) false (s.safeMode == 2)⟩
  | .safeRelease m a, s => some ⟨s, m, a, safeCmd 5 (groupMaskOk a) false (s.safeMode == 2)⟩
  | .ocuStart u m a, s =>
    let u := b2n u
    some ⟨s, m, a, ⟨Reg.OCU_CMD u, .priv, 1, a.arg == 0, false, s.ocuSt u == 0 && (s.ocuOf u).loaded, true⟩⟩
  | .ocuStop u m a, s =>
    let u := b2n u
    some ⟨s, m, a, ⟨Reg.OCU_CMD u, .priv, 2, a.arg == 0, true, s.ocuSt u != 0, true⟩⟩
  | .ocuLoadSched u m a, s =>
    let u := b2n u
    some ⟨s, m, a, ⟨Reg.OCU_CMD u, .priv, 3, a.arg == 0, false, s.ocuSt u == 0, s.schedOk u⟩⟩
  | .ocuMbSend u m a, s =>
    let u := b2n u
    let free := !bitOf (s.reg (Reg.OCU_MBTX_STAT u)) 8
    some ⟨s, m, a, ⟨Reg.OCU_CMD u, .priv, 5, a.arg == 0, false, s.ocuSt u == 2 && free, true⟩⟩
  | .ocuMbRelease u m a, s =>
    let u := b2n u
    let r := Reg.OCU_MBRX_STAT u (a.arg.toNat % 8)
    some ⟨s, m, a, ⟨Reg.OCU_CMD u, .priv, 6, a.arg.toNat < 8, false, bitOf (s.reg r) 31, true⟩⟩
  | .ocuBulkSend u m a, s =>
    let u := b2n u
    let len := (s.reg (Reg.OCU_BTX_LEN u)).toNat
    let free := fld (s.reg (Reg.OCU_BTX_STAT u)) 1 0 != 1
    some ⟨s, m, a, ⟨Reg.OCU_CMD u, .priv, 7, a.arg == 0, false, s.ocuSt u == 2 && free, len % 8 == 0 && 8 ≤ len &&
      len ≤ 0x1000000⟩⟩
  | .tbSet m a, s =>
    let st := s.reg Reg.CYC_STATE
    let free := s.reg Reg.TB_STATE != 3
    some ⟨s, m, a, ⟨Reg.TB_CMD, .priv, 1, a.arg == 0, false, free && (st == 0 || st == 2), true⟩⟩
  | .tbAdj m a, s =>
    let free := s.reg Reg.TB_STATE != 3
    some ⟨s, m, a, ⟨Reg.TB_CMD, .priv, 2, a.arg == 0, false, free && fld (s.reg Reg.TB_CFG) 1 0 != 1, true⟩⟩
  | .tbSnapCal m a, s => some ⟨s, m, a, ⟨Reg.TB_CMD, .priv, 3, a.arg == 0, true, true, true⟩⟩
  | .ethStart k m a, s =>
    let k := b2n k
    let s := s.ethSettle k
    some ⟨s, m, a, ⟨Reg.ETH_CMD k, .priv, 1, a.arg == 0, false, !s.ethRuns k && fld (s.reg (Reg.ETH_CFG k)) 5 4 != 3,
      true⟩⟩
  | .ethStop k m a, s =>
    let k := b2n k
    let s := s.ethSettle k
    some ⟨s, m, a, ⟨Reg.ETH_CMD k, .priv, 2, a.arg == 0, true, s.ethRuns k, true⟩⟩
  | .ethMdio k m a, s =>
    let k := b2n k
    let s := s.ethSettle k
    some ⟨s, m, a, ⟨Reg.ETH_CMD k, .priv, 4, a.arg == 0, true, true, true⟩⟩
  | .canStart k m a, s =>
    let k := k.toNat
    some ⟨s, m, a, ⟨Reg.CAN_CMD k, .priv, 1, a.arg == 0, false, s.canSt k == 0, s.canTimingOk k⟩⟩
  | .canStop k m a, s =>
    let k := k.toNat
    some ⟨s, m, a, ⟨Reg.CAN_CMD k, .priv, 2, a.arg == 0, true, s.canSt k != 0, true⟩⟩
  | .canSleep k m a, s =>
    let k := k.toNat
    let triggers := (List.range 64).any (fun b =>
      let c := s.reg (Reg.CAN_B_CFG k b)
      bitOf c 31 && bitOf c 30 && (fld c 29 28 == 1 || fld c 29 28 == 2))
    some ⟨s, m, a, ⟨Reg.CAN_CMD k, .priv, 3, a.arg == 0, true, s.canSt k == 2 && (s.canPending k).isEmpty &&
      !triggers, true⟩⟩
  | .canWake k m a, s =>
    let k := k.toNat
    some ⟨s, m, a, ⟨Reg.CAN_CMD k, .priv, 4, a.arg == 0, false, s.canSt k == 5, true⟩⟩
  | .canRecover k m a, s =>
    let k := k.toNat
    some ⟨s, m, a, ⟨Reg.CAN_CMD k, .priv, 5, a.arg == 0, false, s.canSt k == 3 && !bitOf (s.reg (Reg.CAN_CFG k)) 4,
      true⟩⟩
  | .canTxreq k m a, s =>
    let k := k.toNat
    let b := a.arg.toNat
    some ⟨s, m, a, ⟨Reg.CAN_CMD k, .priv, 6, s.canTxArg k b, false, s.canSt k != 5 && (s.canBuf k b).req.isNone, true⟩⟩
  | .canTxcancel k m a, s =>
    let k := k.toNat
    let b := a.arg.toNat
    some ⟨s, m, a, ⟨Reg.CAN_CMD k, .priv, 7, s.canTxArg k b, true, (s.canBuf k b).req.isSome, true⟩⟩
  | .wschApplyCfg m a, s =>
    some ⟨s, m, a, ⟨Reg.WSCH_CMD, .priv, 1, a.arg == 0, true, s.reg Reg.WSCH_STATE != 2,
      fld (s.reg Reg.WSCH_CFG_PEND) 11 0 != 0⟩⟩
  | .queReset m a, s =>
    let q := a.arg.toNat
    some ⟨s, m, a, ⟨Reg.QUE_CMD, .priv, 1, q < 128, true, s.reg Reg.QUE_STATE == 1, true⟩⟩
  | .queResize m a, s =>
    let q := a.arg.toNat
    let hi := s.reg (Reg.QUE_Q_PEND_HI q)
    let sz := fld hi 20 16
    let base := fld hi 7 0 * 2 ^ 32 + (s.reg (Reg.QUE_Q_PEND_LO q)).toNat / 64 * 64
    let ok := sz == 0 || (4 ≤ sz && sz ≤ 20 && base % (2 ^ sz * 64) == 0)
    some ⟨s, m, a, ⟨Reg.QUE_CMD, .priv, 2, q < 128, true, s.reg Reg.QUE_STATE == 1, ok⟩⟩
  | .memcScrubNow m a, s => some ⟨s, m, a, ⟨Reg.MEMC_CMD, .priv, 1, a.arg == 0, true, s.reg Reg.MEMC_STATE == 1, true⟩⟩
  | .memcRemap m a, s =>
    let row := memcRow (s.reg Reg.MEMC_REMAP_ROW)
    let known := s.memc.rows.contains row || s.memc.jobs.any (fun j => j.1 == row)
    some ⟨s, m, a, ⟨Reg.MEMC_CMD, .priv, 2, a.arg == 0, true, s.reg Reg.MEMC_STATE == 1 && s.memcSpare row,
      !Config.dramRowOutside (s.reg Reg.MEMC_DEV) row && !known⟩⟩
  | .srecStart m a, s =>
    let n := fld (s.reg Reg.SREC_BUF_NBLK_S) 18 0
    let base := fld (s.reg Reg.SREC_BUF_BASE_HI_S) 7 0 * 0x100000000 + (s.reg Reg.SREC_BUF_BASE_LO_S).toNat / 0x10000 * 0x10000
    let ok := 16 ≤ n && n ≤ 262144 && 0x100000000 ≤ base && base + n * 0x10000 ≤ 0x100000000 + s.dramUsable
    some ⟨s, m, a, ⟨Reg.SREC_CMD, .any, 1, a.arg == 0, false, s.reg Reg.SREC_STATE == 0, ok⟩⟩
  | .srecStop m a, s => some ⟨s, m, a, ⟨Reg.SREC_CMD, .any, 2, a.arg == 0, true, s.reg Reg.SREC_STATE == 1, true⟩⟩
  | .srecArm m a, s =>
    let free := s.capFind 0
    some ⟨s, m, a, ⟨Reg.SREC_CMD, .any, 3, a.arg == 0, false, s.reg Reg.SREC_STATE == 1 && free.isSome &&
      (s.capFind 1).isNone, true⟩⟩
  | .srecTrigger m a, s =>
    let armed := s.capFind 1
    some ⟨s, m, a, ⟨Reg.SREC_CMD, .any, 4, a.arg == 0, false, s.reg Reg.SREC_STATE == 1 && armed.isSome, true⟩⟩
  | .srecRelease m a, s =>
    let n := a.arg.toNat
    some ⟨s, m, a, ⟨Reg.SREC_CMD, .any, 5, n < 4, false, s.capState n == 3, true⟩⟩
  | .bootWarm m a, s =>
    let st := s.reg Reg.BOOT_STATE
    some ⟨s, m, a, ⟨Reg.BOOT_CMD, .priv, 1, a.arg == 0, true, st == 2 || st == 7, true⟩⟩
  | .bootVerify m a, s =>
    some ⟨s, m, a, ⟨Reg.BOOT_CMD, .priv, 2, a.arg.toNat < 2 && a.arg.toNat != s.runSlot, true,
      s.reg Reg.BOOT_STATE == 2, true⟩⟩
  | .bootCommit m a, s =>
    let st := s.reg Reg.BOOT_STATE
    let k := a.arg.toNat
    some ⟨s, m, a, ⟨Reg.BOOT_CMD, .priv, 3, k < 2, true, (st == 2 || st == 7) && s.boot.okSlots.contains k, true⟩⟩
  | .bootAttest m a, s =>
    some ⟨s, m, a, ⟨Reg.BOOT_CMD, .priv, 4, a.arg == 0, true, s.reg Reg.BOOT_STATE == 2, s.inGeneral s.attAddr 50112⟩⟩
  | .bootRetry m a, s => some ⟨s, m, a, ⟨Reg.BOOT_CMD, .priv, 5, a.arg == 0, false, s.reg Reg.BOOT_STATE == 6, true⟩⟩
  | .rollfwd m a, s =>
    let v := a.arg.toNat
    some ⟨s, m, a, scCmd s 3 (v < 128) (v ≤ 64 && v ≤ fld (s.reg Reg.BOOT_RUN) 15 8)⟩
  | .dbgOpen m a, s =>
    some ⟨s, m, a, ⟨Reg.BOOT_SC_CMD, .secure, 7, a.arg == 0, false, s.reg Reg.BOOT_SC_STATE == 1, s.dbgLock == 1⟩⟩
  | .keyProg m a, s =>
    some ⟨s, m, a, scCmd s 1 (a.arg.toNat < 4) (!s.keyProgrammed a.arg.toNat)⟩
  | .keyRevoke m a, s =>
    some ⟨s, m, a, scCmd s 2 (a.arg.toNat < 4) ((List.range 4).any (fun k => k != a.arg.toNat && s.keyUsable k))⟩
  | .svcProg m a, s => some ⟨s, m, a, scCmd s 4 (a.arg == 0) ((s.otpBytes 0x90 32).all (fun b => b == 0))⟩
  | .otpProg m a, s => some ⟨s, m, a, scCmd s 5 (a.arg.toNat < 1024) true⟩
  | .dbgLock m a, s => some ⟨s, m, a, scCmd s 6 (a.arg == 1 || a.arg == 3) (s.dbgLock ≤ a.arg.toNat)⟩
  | .kecInit m a, s =>
    let st := s.reg Reg.KEC_STATE
    some ⟨s, m, a, ⟨Reg.KEC_CMD, .priv, 1, a.arg.toNat < 2, false, st == 1 || st == 2, true⟩⟩
  | .kecAbsorb m a, s => some ⟨s, m, a, ⟨Reg.KEC_CMD, .priv, 2, a.arg == 0, true, s.reg Reg.KEC_STATE == 2, true⟩⟩
  | .kecFinal m a, s => some ⟨s, m, a, ⟨Reg.KEC_CMD, .priv, 3, a.arg == 0, false, s.reg Reg.KEC_STATE == 2, true⟩⟩
  | .xspiRead m a, s => some ⟨s, m, a, flashCmd s 1 a⟩
  | .xspiProgram m a, s => some ⟨s, m, a, flashCmd s 2 a⟩
  | .xspiErase4k m a, s => some ⟨s, m, a, flashCmd s 3 a⟩
  | .xspiErase64k m a, s => some ⟨s, m, a, flashCmd s 4 a⟩
  | .xspiResume m a, s => some ⟨s, m, a, ⟨Reg.XSPI_CMD, .priv, 5, a.arg == 0, true, s.reg Reg.XSPI_STATE == 6, true⟩⟩
  | .pcieRetrain m a, s => some ⟨s, m, a, ⟨Reg.PCIE_CMD, .priv, 1, a.arg == 0, true, s.reg Reg.PCIE_STATE == 2, true⟩⟩
  | .pcieMbReset m a, s =>
    let n := a.arg.toNat
    let st := s.reg Reg.PCIE_STATE
    some ⟨s, m, a, ⟨Reg.PCIE_CMD, .priv, 2, 1 ≤ n && n < 256, false, st == 1 || st == 2 || st == 3, true⟩⟩
  | .fltSelftest m a, s =>
    let x := a.arg.toNat
    some ⟨s, m, a, ⟨Reg.FLT_CMD, .priv, 1, true, true, s.reg Reg.FLT_STATE == 1 &&
      s.inService (x / 0x1000) (x % 0x1000), true⟩⟩
  | .clearRet m a, s =>
    let k := s.clearKey a.arg.toNat
    some ⟨s, m, a, ⟨Reg.FLT_SC_CMD, .secure, 1, true, true, s.reg Reg.FLT_SC_STATE == 1, k.isSome⟩⟩
  | .islReset m a, s =>
    let n := a.arg.toNat
    let loss := [0, 2, 3, 7, 8, 9, 10, 12, 13].contains n && !s.flt.safeHold
    some ⟨s, m, a, ⟨Reg.FLT_SC_CMD, .secure, 2, n < 16, true, s.reg Reg.FLT_SC_STATE == 1 && loss &&
      s.fenced.getLsbD n, true⟩⟩
  | .bivSet m a, s =>
    let view := a.arg == 1
    some ⟨s, m, a, ⟨Reg.BIV_CMD, .priv, 1, a.arg.toNat < 2, true, s.reg Reg.BIV_STATE == 1 &&
      !bitOf (s.reg Reg.BIV_STAT) 3, !view || s.setViewOk⟩⟩
  | .hutReserve m a, s =>
    let typ := a.arg.toNat / 256
    let len := a.arg.toNat % 256
    some ⟨s, m, a, ⟨Reg.HUT_CMD, .priv, 1, true, false, s.reg Reg.HUT_STATE == 1, 0x80 ≤ typ && 1 ≤ len && len ≤ 64⟩⟩
  | .hutCommit m a, s => some ⟨s, m, a, ⟨Reg.HUT_CMD, .priv, 2, a.arg == 0, false, s.hutMine m, true⟩⟩
  | .hutCancel m a, s => some ⟨s, m, a, ⟨Reg.HUT_CMD, .priv, 3, a.arg == 0, false, s.hutMine m, true⟩⟩
  | .hutNonce m a, s => some ⟨s, m, a, ⟨Reg.HUT_SC_CMD, .secure, 1, a.arg == 0, false, s.reg Reg.HUT_SC_STATE == 1,
    true⟩⟩
  | .hutClear m a, s =>
    some ⟨s, m, a, ⟨Reg.HUT_SC_CMD, .secure, 2, a.arg == 0, true, s.reg Reg.HUT_SC_STATE == 1 &&
      s.reg Reg.HUT_STATE != 2, true⟩⟩
  | _, _ => none

/-- The ABORT a row writes (R67). -/
def abortOf : Sys2Proof.Instr → State → Option AbortWritten
  | .sysAbort m a, s => some ⟨s, m, a, Reg.SYS_CMD, .priv⟩
  | .clkAbort m a, s => some ⟨s, m, a, Reg.CLK_CMD, .secure⟩
  | .sigAbort m a, s => some ⟨s, m, a, Reg.SIG_CMD, .priv⟩
  | .cycAbort m a, s => some ⟨s, m, a, Reg.CYC_CMD, .priv⟩
  | .ceAbort m a, s => some ⟨s, m, a, Reg.CE_CMD, .priv⟩
  | .ctabAbort m a, s => some ⟨s, m, a, Reg.CTAB_CMD, .priv⟩
  | .profGenAbort m g a, s =>
    let g := g.toNat
    some ⟨s, m, a, Reg.PROF_G_CMD g, .priv⟩
  | .profAbort m a, s => some ⟨s, m, a, Reg.PROF_CMD, .priv⟩
  | .axcChannelAbort m n a, s =>
    let n := n.toNat
    some ⟨s, m, a, Reg.AXC_CH_CMD (n / 4) (n % 4), .priv⟩
  | .axcAbort m k a, s =>
    let k := k.toNat
    some ⟨s, m, a, Reg.AXC_CMD k, .priv⟩
  | .encAbort m a, s => some ⟨s, m, a, Reg.ENC_CMD, .priv⟩
  | .stepAbort m a, s => some ⟨s, m, a, Reg.STEP_CMD, .priv⟩
  | .ilkAbort m a, s => some ⟨s, m, a, Reg.ILK_CMD, .priv⟩
  | .seqChannelAbort m c a, s =>
    let c := c.toNat
    some ⟨s, m, a, Reg.SEQ_CH_CMD c, .any⟩
  | .seqAbort m a, s => some ⟨s, m, a, Reg.SEQ_CMD, .priv⟩
  | .adcAbort m a, s => some ⟨s, m, a, Reg.ADC_CMD, .priv⟩
  | .sdmAbort m a, s => some ⟨s, m, a, Reg.SDM_CMD, .priv⟩
  | .dacAbort m a, s => some ⟨s, m, a, Reg.DAC_CMD, .priv⟩
  | .fioAbort m a, s => some ⟨s, m, a, Reg.FIO_CMD, .priv⟩
  | .safeAbort m a, s => some ⟨s, m, a, Reg.SAFE_CMD, .secure⟩
  | .ocuAbort u m a, s =>
    let u := b2n u
    some ⟨s, m, a, Reg.OCU_CMD u, .priv⟩
  | .tbAbort m a, s => some ⟨s, m, a, Reg.TB_CMD, .priv⟩
  | .ethAbort k m a, s =>
    let k := b2n k
    some ⟨s.ethSettle k, m, a, Reg.ETH_CMD k, .priv⟩
  | .canAbort k m a, s =>
    let k := k.toNat
    some ⟨s, m, a, Reg.CAN_CMD k, .priv⟩
  | .wschAbort m a, s => some ⟨s, m, a, Reg.WSCH_CMD, .priv⟩
  | .queAbort m a, s => some ⟨s, m, a, Reg.QUE_CMD, .priv⟩
  | .memcAbort m a, s => some ⟨s, m, a, Reg.MEMC_CMD, .priv⟩
  | .srecAbort m a, s => some ⟨s, m, a, Reg.SREC_CMD, .any⟩
  | .bootAbort m a, s => some ⟨s, m, a, Reg.BOOT_CMD, .priv⟩
  | .bootScAbort m a, s => some ⟨s, m, a, Reg.BOOT_SC_CMD, .secure⟩
  | .kecAbort m a, s => some ⟨s, m, a, Reg.KEC_CMD, .priv⟩
  | .xspiAbort m a, s => some ⟨s, m, a, Reg.XSPI_CMD, .priv⟩
  | .pcieAbort m a, s => some ⟨s, m, a, Reg.PCIE_CMD, .priv⟩
  | .fltAbort m a, s => some ⟨s, m, a, Reg.FLT_CMD, .priv⟩
  | .fltScAbort m a, s => some ⟨s, m, a, Reg.FLT_SC_CMD, .secure⟩
  | .bivAbort m a, s => some ⟨s, m, a, Reg.BIV_CMD, .priv⟩
  | .hutAbort m a, s => some ⟨s, m, a, Reg.HUT_CMD, .priv⟩
  | .hutScAbort m a, s => some ⟨s, m, a, Reg.HUT_SC_CMD, .secure⟩
  | _, _ => none

/-- Does the window of a register answer: its island neither gated by the role (R17) nor fenced (R13)? -/
def State.opens (s : State) (unit : Nat) : Bool := !s.gated (unit / 0x10000) && !s.isFenced (unit / 0x10000)

/-- Is an island's clock up, with the part's behaviour specified (R13, R53)? -/
def State.up (s : State) (isl : Nat) : Bool := !s.unspecified && !s.fenced.getLsbD isl

/-- Is the command of this row accepted (R62)? -/
def Accepted (i : Sys2Proof.Instr) (s : State) : Prop :=
  ∃ w, commandOf i s = some w ∧ w.st.opens w.c.unit = true ∧ w.st.decideCommand w.m w.a w.c = .accept

/-- Is the ABORT of this row accepted (R67)? -/
def AbortAccepted (i : Sys2Proof.Instr) (s : State) : Prop :=
  ∃ w, abortOf i s = some w ∧ w.st.opens w.unit = true ∧ w.st.granted w.m w.unit w.acc = true ∧ w.a.rsv = 0 ∧ w.a.arg = 0

/-- The state in which an accepted ABORT finds its block: no command in progress, _CMDSTAT as R67 gives it. -/
def State.aborted (s : State) (unit : Nat) : State :=
  ({ s with busy := smDel s.busy unit }).setReg (statOf unit) (cmdstatAbort (s.reg (statOf unit)))

/-! ### Events of the ring blocks (R333–R370) -/

/-- Does an event of ring block u, dt (1/16 ns) after the present instant, find the block running and come before the next t0? -/
def State.ringOpens (s : State) (u dt : Nat) : Bool :=
  !s.gated (ocuBlk u) && !s.isFenced (ocuBlk u) && s.beforeT0 (s.time24 + dt * 2 ^ 20)

/-- The state in which an event of ring block u finds the block: dt (1/16 ns) have passed. -/
def State.ringAt (s : State) (u dt : Nat) : State :=
  let t := s.advanceTo ((s.time24 + dt * 2 ^ 20) / 2 ^ 24)
  (if t.time24 < s.time24 + dt * 2 ^ 20 then t.moveTime (s.time24 + dt * 2 ^ 20) else t).newEvent u

/-! ### Accesses of masters (R15–R17, R504) -/

/-- Does an access by a master to an address reach the part: the host's through BAR0 or BAR4, with the link up and I12
running (R501, R504)? -/
def State.reaches (s : State) (m : Sys2Proof.Master) (a : Nat) : Bool :=
  m != .host || (hostReaches a && s.reg Reg.PCIE_STATE == 2 && !s.fenced.getLsbD 12)

/-- One byte of the OTP array. -/
def State.otpByte (s : State) (a : Nat) : Byte := smGet (fun _ => 0) s.boot.otp a

end Sys2Proof.Machine
end

