-- ==== Sys2Proof/Certificates/Slice0/Obligations.lean ====
section
/-!
DEFINITION. The statements for the provers, one def per obligation, in the order of OBLIGATIONS.json: what every
command does to the queue and the checks of the register interface first, then one statement per family of commands that
says where each command completes, what it leaves behind and what it leaves unchanged.
-/
open Sys2Proof Sys2Proof.Machine

/-- A step with a command waiting is that command's effect on the state with the queue's rest (R65). -/
def Obligations.StepRunsFrontCommand : Prop :=
  ∀ (i : Instr) (s : State), step (s.push i) = exec i s

/-- On an empty queue the time base advances by one tick: the model's choice (log entry 1). -/
def Obligations.EmptyQueueTicks : Prop :=
  ∀ s : State, s.pending = [] → step s = .next s.tick

/-- The state after reset is in canonical form, and its queue is empty. -/
def Obligations.ResetSafe : Prop :=
  Safe State.reset ∧ State.reset.pending = [] ∧ State.reset.fenced = 0 ∧ State.reset.unspecified = false

/-- The invariant `Safe` is kept by every step, from every state that has it. -/
def Obligations.StepKeepsForms : Prop :=
  ∀ s t : State, Safe s → step s = .next t → Safe t

/-- The queue after a step is its tail: commands are taken one after the other, in the order they arrived (R65). -/
def Obligations.StepTakesOneCommand : Prop :=
  ∀ s t : State, step s = .next t → t.pending = s.pending.tail

/-- "Every OTP bit starts at 0 and can be programmed to 1 once": no bit of the array ever falls (before R472). -/
def Obligations.OtpBitsNeverFall : Prop :=
  ∀ (s t : State) (a : Nat), step s = .next t → s.otpByte a &&& t.otpByte a = s.otpByte a

/-- No command of the table, on any operand, stops the part while its behaviour is specified. -/
def Obligations.EveryCommandCompletes : Prop :=
  ∀ (i : Instr) (s : State), s.unspecified = false → ∃ t, exec i s = .next t

/-- "The behaviour that follows is not specified … until the next cold start" (R53). -/
def Obligations.UnspecifiedStops : Prop :=
  ∀ (i : Instr) (s : State), s.unspecified = true →
    (∃ e, i = .coldStart e) ∨ i = .porstNAsserted ∨ i = .brownOutReset ∨ exec i s = .fault .reservedBitChanged

/-- The checks of R62, in their order, for every command row; a rejection rewrites _CMDSTAT alone (R63), and a denied write is
recorded by FLT (R59). That contents are judged after the state is the model's choice (log entry 27). -/
def Obligations.CommandVerdicts : Prop :=
  ∀ (i : Instr) (s : State) (w : Written), s.unspecified = false → commandOf i s = some w → w.st.opens w.c.unit = true →
    let rejected (status : Nat) : State :=
      w.st.setReg (statOf w.c.unit) (cmdstatReject (w.st.reg (statOf w.c.unit)) w.c.code status)
    if w.st.granted w.m w.c.unit w.c.acc = false then
      exec i s = .next ((rejected stRejPriv).noteDenied (mclassCode (mclass w.m)) (w.c.unit / 0x10000) (w.c.unit % 0x10000))
    else if w.a.rsv ≠ 0 ∨ w.c.argOk = false then exec i s = .next (rejected stRejCode)
    else if w.st.inProgress w.c.unit = true ∧ w.c.busy = true then exec i s = .next (rejected stRejState)
    else if w.c.permitted = false then exec i s = .next (rejected stRejState)
    else if w.c.contentOk = false then
      if w.c.unit = Reg.XSPI_CMD ∧ w.st.xspiProtects (w.st.xspiOp w.c.code) = true then
        exec i s = .next ((rejected stRejCode).xspiEvt 2)
      else exec i s = .next (rejected stRejCode)
    else Accepted i s

/-- ABORT is subject to checks 1 and 2 of R62 alone (R67). -/
def Obligations.AbortVerdicts : Prop :=
  ∀ (i : Instr) (s : State) (w : AbortWritten), s.unspecified = false → abortOf i s = some w → w.st.opens w.unit = true →
    let rejected (status : Nat) : State :=
      w.st.setReg (statOf w.unit) (cmdstatReject (w.st.reg (statOf w.unit)) 0x0F status)
    if w.st.granted w.m w.unit w.acc = false then
      exec i s = .next ((rejected stRejPriv).noteDenied (mclassCode (mclass w.m)) (w.unit / 0x10000) (w.unit % 0x10000))
    else if w.a.rsv ≠ 0 ∨ w.a.arg ≠ 0 then exec i s = .next (rejected stRejCode)
    else AbortAccepted i s

/-- Commands to windows that do not answer (R13, R17). -/
def Obligations.ClosedWindows : Prop :=
  ∀ (i : Instr) (s t : State) (m : Master) (unit : Nat), s.unspecified = false →
    ((∃ w, commandOf i s = some w ∧ w.st = t ∧ w.m = m ∧ w.c.unit = unit) ∨
      (∃ w, abortOf i s = some w ∧ w.st = t ∧ w.m = m ∧ w.unit = unit)) →
    (t.gated (unit / 0x10000) = true →
      exec i s = .next ((t.decodeError (mclassCode (mclass m)) (0x40000000 + unit)).answer (mport m) 0 true)) ∧
    (t.gated (unit / 0x10000) = false → t.isFenced (unit / 0x10000) = true →
      exec i s = .next (t.answer (mport m) 0 true))

/-- CLEAR_STATS completes at acceptance in every block that has it (R64). -/
def Obligations.ClearStatsComplete : Prop :=
  ∀ (blk : BitVec 6) (m : Master) (a : CmdArg) (s : State), s.unspecified = false →
    (∀ code, statsCode blk.toNat = some code → blk ≠ 0x24 → blk ≠ 0x25 → s.opens (blk.toNat * 0x10000) = true →
      s.decideCommand m a ⟨blk.toNat * 0x10000, unitAcc (blk.toNat * 0x10000), code, a.arg == 0, false, s.statsOk blk.toNat,
        true⟩ = .accept →
      exec (.clearStats m blk a) s = .next ((s.acceptNow (blk.toNat * 0x10000) code).statsClear blk.toNat)) ∧
    (s.opens Reg.FIO_CMD = true → s.decideCommand m a ⟨Reg.FIO_CMD, .priv, 4, a.arg == 0, false, true, true⟩ = .accept →
      exec (.clearStats m 0x24 a) s = .next (
        let t := (s.acceptNow Reg.FIO_CMD 4).zeroRegs [Reg.FIO_DIP_CNT, Reg.FIO_TSF_LOST, Reg.FIO_OVL_CNT, Reg.FIO_RBERR_CNT]
        (List.range 16).foldl (fun s k => ((s.outStat k 2 false).outStat k 3 false).outStat k 4 false) t)) ∧
    (s.opens Reg.SAFE_CMD = true → s.decideCommand m a (safeCmd 6 (a.arg == 0) false s.safeOn) = .accept →
      exec (.clearStats m 0x25 a) s = .next ((s.acceptNow Reg.SAFE_CMD 6).zeroRegs [Reg.SAFE_FAULT_CNT, Reg.SAFE_VIOL_CNT,
        Reg.SAFE_RESET_CNT, Reg.SAFE_RESETFAIL_CNT, Reg.SAFE_ACK_IGN_CNT])) ∧
    (statsCode blk.toNat = none → exec (.clearStats m blk a) s = .next s)

/-- Writes of words to registers, through each alias (R43, R44, R46, R47, R59). -/
def Obligations.RegisterWritesComplete : Prop :=
  ∀ (m : Master) (a : Nat) (w : Word) (s : State) (d : RegDesc), s.unspecified = false →
    a < 0x400000 → a % 0x10000 < 0x4000 → a % 4 = 0 → regDesc a = some d →
    s.reaches m (0x40000000 + a) = true → s.opens a = true →
    let t := s.answer (mport m) 0 false
    let place := Place.bus (BitVec.ofNat 40 (0x40000000 + a))
    let ofs := BitVec.ofNat 22 a
    let old := t.regNow (mport m) a
    let stored (new : Word) : State := t.regStore m a d ((old &&& ~~~d.rw) ||| (new &&& d.rw)) 0
    let denied := t.noteDenied (mclassCode (mclass m)) (a / 0x10000) (a % 0x10000)
    (d.wo = false → s.granted m a d.acc = true →
      exec (.registerWrite m place .word w) s = .next (t.regStore m a d w w) ∧
      (d.w1c ≠ 0 → exec (.w1cWrite m ofs w) s = .next (t.regStore m a d w w)) ∧
      (d.rw ≠ 0 → exec (.setAliasWrite m ofs w) s = .next (stored (old ||| w)) ∧
        exec (.clearAliasWrite m ofs w) s = .next (stored (old &&& ~~~w)) ∧
        exec (.toggleAliasWrite m ofs w) s = .next (stored (old ^^^ w))) ∧
      (d.rw = 0 → exec (.setAliasWrite m ofs w) s = .next t ∧ exec (.clearAliasWrite m ofs w) s = .next t ∧
        exec (.toggleAliasWrite m ofs w) s = .next t)) ∧
    (d.wo = false → s.granted m a d.acc = false →
      exec (.registerWrite m place .word w) s = .next denied ∧ exec (.setAliasWrite m ofs w) s = .next denied ∧
      exec (.clearAliasWrite m ofs w) s = .next denied ∧ exec (.toggleAliasWrite m ofs w) s = .next denied) ∧
    (d.wo = true → exec (.setAliasWrite m ofs w) s = .next t ∧ exec (.clearAliasWrite m ofs w) s = .next t ∧
      exec (.toggleAliasWrite m ofs w) s = .next t ∧
      exec (.registerWrite m place .word w) s = .next (match cmdsAt a with
        | some cmds => cmdWrite m a cmds w t
        | none => woWrite m a w t))

/-- Reads of registers (R40, R42, R45, R59, R69). -/
def Obligations.RegisterReadsComplete : Prop :=
  ∀ (m : Master) (a k : Nat) (wd : Width) (s : State) (d : RegDesc), s.unspecified = false →
    a < 0x400000 → k < 4 → a % 0x10000 < 0x4000 → a % widthBytes wd = 0 → regDesc (a / 4 * 4) = some d →
    s.reaches m (0x40000000 + (a + 0x4000 * k)) = true → s.opens a = true →
    let r := a / 4 * 4
    let p := mport m
    let reads (i : Instr) (n : Nat) (u : State) (w : Word) (err : Bool) : Prop :=
      ∃ t, exec i s = .next t ∧ smFind t.answers p = some ⟨partOf w a n, err⟩ ∧ t = { u with answers := t.answers }
    let row := Instr.loRegisterRead m (.bus (BitVec.ofNat 40 (0x40000000 + (a + 0x4000 * k)))) wd
    let n := widthBytes wd
    let w := (smFind s.held (portKey p r)).getD (s.regNow p r)
    let latched := if latchesHi r then s.latch p (r + 4) (s.regNow p (r + 4)) else s
    let after := if isResult r then latched.setReg r (setBit (s.reg r) 0 false) else latched
    let acts (u : State) : Prop := ∀ x, smFind u.answers p = some x → reads row n u x.data x.err
    (r ≠ Reg.TB_TIME_LO → r ≠ Reg.BIV_CAL_LO → r ≠ Reg.FIO_TSF_LO → r ≠ Reg.FLT_LOG_D 0 → r ≠ Reg.PROF_CAM_DATA →
      (d.wo = false → s.granted m r d.acc = true → reads row n after w false) ∧
      (d.wo = true ∨ s.granted m r d.acc = false → reads row n s 0 false) ∧
      (isResult r = true → wd = .word → d.wo = false → s.granted m r d.acc = true →
        reads (.resultRegisterRead m (BitVec.ofNat 22 (a + 0x4000 * k))) 4 after w false)) ∧
    (r = Reg.TB_TIME_LO → acts (tbTimeRead m s)) ∧
    (r = Reg.BIV_CAL_LO → acts (calendarRead m (Config.calFrac s.now).toNat s)) ∧
    (r = Reg.FIO_TSF_LO → acts (tsfRead m s)) ∧
    (r = Reg.FLT_LOG_D 0 → acts (fltLogRead m s)) ∧
    (r = Reg.PROF_CAM_DATA → acts (camDataAccess m none s))

/-- R41: an access where no register stands completes without error; a read returns 0 and a write is ignored; no decode error
is counted. (What R40 says of widths and alignment holds there too.) -/
def Obligations.EmptyOffsets : Prop :=
  ∀ (m : Master) (a k : Nat) (w : Word) (wd : Width) (s : State), s.unspecified = false →
    a < 0x400000 → k < 4 → a % 0x10000 < 0x4000 → blockAllocated (a / 0x10000) = true → regDesc (a / 4 * 4) = none →
    s.reaches m (0x40000000 + (a + 0x4000 * k)) = true → s.opens a = true →
    let place := Place.bus (BitVec.ofNat 40 (0x40000000 + (a + 0x4000 * k)))
    let untouched (i : Instr) : Prop :=
      ∃ t, exec i s = .next t ∧ smFind t.answers (mport m) = some ⟨0, false⟩ ∧ t = { s with answers := t.answers }
    (a % 4 = 0 → untouched (.registerWrite m place .word w) ∧ untouched (.setAliasWrite m (BitVec.ofNat 22 a) w) ∧
      untouched (.clearAliasWrite m (BitVec.ofNat 22 a) w) ∧ untouched (.toggleAliasWrite m (BitVec.ofNat 22 a) w)) ∧
    (a % widthBytes wd = 0 → untouched (.loRegisterRead m place wd))

/-- R17: where no region decodes an address, the access ends with an error response, a read returns 0, a write is discarded, and
SYS_DECERR_CNT and SYS_DECERR_ADDR record it. -/
def Obligations.DecodeErrors : Prop :=
  ∀ (m : Master) (A : BitVec 40) (w : Word) (wd : Width) (s : State), s.unspecified = false →
    s.reaches m A.toNat = true →
    (regionOf s.dramUsable A.toNat = .none ∨ ∃ ofs, ofs < 0x400000 ∧ A.toNat = 0x40000000 + ofs ∧
      (blockAllocated (ofs / 0x10000) = false ∨ s.gated (ofs / 0x10000) = true)) →
    let failed (i : Instr) : Prop := ∃ t, exec i s = .next t ∧
      smFind t.answers (mport m) = some ⟨0, true⟩ ∧
      t.reg Reg.SYS_DECERR_CNT = (if s.reg Reg.SYS_DECERR_CNT = 0xFFFFFFFF then 0xFFFFFFFF else s.reg Reg.SYS_DECERR_CNT + 1) ∧
      t.reg Reg.SYS_DECERR_ADDR = wordOfNat (mclassCode (mclass m) * 0x40000000 + A.toNat / 1024) ∧
      (∀ a, a ≠ Reg.SYS_DECERR_CNT → a ≠ Reg.SYS_DECERR_ADDR → t.reg a = s.reg a) ∧
      t = { s with answers := t.answers, regs := t.regs }
    failed (.loRegisterRead m (.bus A) wd) ∧ (A.toNat % 4 = 0 → failed (.registerWrite m (.bus A) .word w))

/-- Reads and writes of shared SRAM, with their frame (R15). -/
def Obligations.SramWords : Prop :=
  ∀ (m : Master) (A : BitVec 40) (w : Word) (wd : Width) (s : State), s.unspecified = false →
    m ≠ .host → A.toNat < 0x780000 → A.toNat % widthBytes wd = 0 → s.fenced.getLsbD 4 = false →
    let a := A.toNat
    let n := widthBytes wd
    (∃ t, exec (.registerWrite m (.bus A) wd w) s = .next t ∧ smFind t.answers (mport m) = some ⟨0, false⟩ ∧
      (∀ i, i < n → t.byte (a + i) = w.extractLsb' (8 * i) 8) ∧
      (∀ b, b < a ∨ a + n ≤ b → t.byte b = s.byte b) ∧
      t = { s with answers := t.answers, mem := t.mem, memc := { s.memc with ue := t.memc.ue } }) ∧
    (s.memcBad (a / 4 * 4) = false → ∃ t, exec (.loRegisterRead m (.bus A) wd) s = .next t ∧
      smFind t.answers (mport m) = some ⟨partOf (s.word (a / 4 * 4)) a n, false⟩ ∧ t = { s with answers := t.answers })

/-- The bits of R43, R44 and R46, the frame of a register write, and R53. -/
def Obligations.AliasValues : Prop :=
  ∀ (m : Master) (a : Nat) (w : Word) (s : State) (d : RegDesc), s.unspecified = false →
    a < 0x400000 → a % 0x10000 < 0x4000 → a % 4 = 0 → regDesc a = some d → d.wo = false → d.rw ≠ 0 →
    d.rw &&& d.live = 0 → d.w1c &&& d.live = 0 → s.reaches m (0x40000000 + a) = true → s.opens a = true → s.granted m a d.acc = true →
    s.frozenBy a = none → a ≠ Reg.SYS_ROLE → rwOp m a = none → perPort a = false →
    (∀ x : State, x.regNow (mport m) a = x.reg a) → (∀ (x : State) o n, x.regWritten a o n = x) →
    s.mayChange m a d = d.rw → activeOf a = none ∨ s.reg Reg.SYS_STATE ≠ 1 → a ≠ Reg.SYS_STATE →
    let old := s.reg a
    let becomes (i : Instr) (new : Word) : Prop := ∃ t, exec i s = .next t ∧ t.reg a = new ∧
      smFind t.answers (mport m) = some ⟨0, false⟩ ∧ (∀ b, b ≠ a → t.reg b = s.reg b) ∧ (∀ b, t.byte b = s.byte b) ∧
      t = { s with answers := t.answers, regs := t.regs, shadow := t.shadow }
    let place := Place.bus (BitVec.ofNat 40 (0x40000000 + a))
    let ofs := BitVec.ofNat 22 a
    becomes (.setAliasWrite m ofs w) ((old &&& ~~~d.rw) ||| ((old ||| w) &&& d.rw)) ∧
    becomes (.clearAliasWrite m ofs w) ((old &&& ~~~d.rw) ||| ((old &&& ~~~w) &&& d.rw)) ∧
    becomes (.toggleAliasWrite m ofs w) ((old &&& ~~~d.rw) ||| ((old ^^^ w) &&& d.rw)) ∧
    ((old ^^^ w) &&& d.live = 0 →
      becomes (.registerWrite m place .word w) (((old &&& ~~~d.rw) ||| (w &&& d.rw)) &&& ~~~(w &&& d.w1c)) ∧
      (d.w1c ≠ 0 → becomes (.w1cWrite m ofs w) (((old &&& ~~~d.rw) ||| (w &&& d.rw)) &&& ~~~(w &&& d.w1c)))) ∧
    ((old ^^^ w) &&& d.live ≠ 0 →
      ∃ t, exec (.registerWrite m place .word w) s = .next t ∧ t.unspecified = true)

/-- Values after reset, as the register tables give them. -/
def Obligations.ResetValues : Prop :=
  State.reset.busy = [] ∧ State.reset.tbFull = 0 ∧ State.reset.reg Reg.TB_FRAC = 0 ∧
  State.reset.reg Reg.TB_INC = 0x02800000 ∧ State.reset.reg Reg.SYS_CORE_EN = 0x00FFFFFF ∧
  State.reset.reg Reg.CYC_SETUP_S = 0x1F4 ∧ State.reset.reg Reg.MEMC_SCRUB_CFG = 0x80000018 ∧
  State.reset.reg (Reg.FLT_BKT_CFG 2) = 0x01518004 ∧ State.reset.reg Reg.SYS_ID = 0x271283D1 ∧
  State.reset.reg Reg.CLK_POOL_SEL = 2 ∧ State.reset.reg Reg.KEC_CMDSTAT = 0 ∧ State.reset.reg Reg.SEQ_CMDSTAT = 0

/-- R473: which key slots are usable, and when KEY_REVOKE is rejected. -/
def Obligations.KeyRevoke : Prop :=
  ∀ (m : Master) (a : CmdArg) (s : State), s.unspecified = false →
    (∀ k, s.keyUsable k = (bitOf (s.otpWord 0x80) k && !bitOf (s.otpWord 0x80) (8 + k))) ∧
    (s.opens Reg.BOOT_SC_CMD = true → s.granted m Reg.BOOT_SC_CMD .secure = true → a.rsv = 0 → a.arg.toNat < 4 →
      s.inProgress Reg.BOOT_SC_CMD = false → s.reg Reg.BOOT_SC_STATE = 1 →
      ((∀ k, k < 4 → k ≠ a.arg.toNat → s.keyUsable k = false) →
        exec (.keyRevoke m a) s = .next (s.setReg (statOf Reg.BOOT_SC_CMD)
          (cmdstatReject (s.reg (statOf Reg.BOOT_SC_CMD)) 2 stRejCode))) ∧
      ((∃ k, k < 4 ∧ k ≠ a.arg.toNat ∧ bitOf (s.otpWord 0x80) k = true ∧ bitOf (s.otpWord 0x80) (8 + k) = false) → Accepted (.keyRevoke m a) s))

/-- The commands of SYS and CLK, and the pool clock's switch (R34, R37, R39, R68). -/
def Obligations.CorePoolCommandsComplete : Prop :=
  ∀ (m : Master) (a : CmdArg) (s : State), s.unspecified = false →
    (Accepted (.sysApplyCoreEn m a) s →
      let t := s.acceptBusy m a Reg.SYS_CMD 1
      exec (.sysApplyCoreEn m a) s =
        .next (({ t with wsch := { t.wsch with target := t.reg Reg.SYS_CORE_EN } }).applyCores false)) ∧
    (Accepted (.sysClearCounters m a) s → exec (.sysClearCounters m a) s =
      .next ((s.acceptNow Reg.SYS_CMD 2).zeroRegs [Reg.SYS_DECERR_CNT])) ∧
    (AbortAccepted (.sysAbort m a) s → exec (.sysAbort m a) s = .next (s.aborted Reg.SYS_CMD)) ∧
    (Accepted (.clkApplyPoolSel m a) s →
      let t := s.acceptBusy m a Reg.CLK_CMD 1
      exec (.clkApplyPoolSel m a) s =
        .next ((({ t with clk := { t.clk with target := fld (s.reg Reg.CLK_POOL_SEL) 1 0 } }).setState 1 2).syncWsch)) ∧
    (s.busyWith Reg.CLK_CMD 1 = true → s.wsch.running = [] → exec .poolClockSwitch s =
      .next (((({ s with clk := { s.clk with pool := s.clk.target } }).complete Reg.CLK_CMD).setState 1 1).syncWsch)) ∧
    (AbortAccepted (.clkAbort m a) s → s.inProgress Reg.CLK_CMD = true → exec (.clkAbort m a) s =
      .next (((s.aborted Reg.CLK_CMD).setState 1 1).syncWsch))

/-- The commands and events of SIG (R78–R84, R95, R96). -/
def Obligations.SignalCommandsComplete : Prop :=
  ∀ (m : Master) (a : CmdArg) (id : BitVec 13) (x : BitVec 32) (s : State), s.unspecified = false →
    (s.opens Reg.SIG_ENT_IDX = true → accGranted (mclass m) .priv = true → exec (.sigEntryRead m id) s =
      .next (((((s.setReg Reg.SIG_ENT_IDX (wordOfNat id.toNat)).setReg (Reg.SIG_ENT_D 0) (entryWord (s.route id.toNat) 0)).setReg
        (Reg.SIG_ENT_D 1) (entryWord (s.route id.toNat) 1)).setReg (Reg.SIG_ENT_D 2) (entryWord (s.route id.toNat) 2)).setReg
        (Reg.SIG_ENT_D 3) (entryWord (s.route id.toNat) 3))) ∧
    (s.opens Reg.SIG_ENT_IDX = true → accGranted (mclass m) .priv = true → exec (.sigEntryWrite m id) s =
      .next ((s.setReg Reg.SIG_ENT_IDX (wordOfNat id.toNat)).writeEntry id.toNat (s.reg (Reg.SIG_ENT_D 3) ++
        s.reg (Reg.SIG_ENT_D 2) ++ s.reg (Reg.SIG_ENT_D 1) ++ s.reg (Reg.SIG_ENT_D 0)))) ∧
    (Accepted (.sigLoad m a) s →
      let t := s.acceptBusy m a Reg.SIG_CMD 1
      exec (.sigLoad m a) s = .next (({ t with sig := { t.sig with
        load := some ⟨(s.reg Reg.SIG_LOAD_ADDR).toNat, (t.reg Reg.SIG_LOAD_FIRST).toNat, (s.reg Reg.SIG_LOAD_CNT).toNat, 0⟩ }
        }).setState 8 2)) ∧
    (∀ j b, s.fenced.getLsbD 4 = false → s.sig.load = some j → smFind s.busy Reg.SIG_CMD = some b →
      let t := (s.advanceTo (b.acc + 8 * j.cnt)).loadTo j.cnt
      exec (.sigLoadDone none) s =
        .next ((({ t with sig := { t.sig with load := none } }).complete Reg.SIG_CMD).setState 8 1)) ∧
    (∀ j b, s.fenced.getLsbD 4 = false → s.sig.load = some j → smFind s.busy Reg.SIG_CMD = some b →
      let n := min id.toNat j.cnt
      let t := (s.advanceTo (b.acc + 8 * n)).loadTo n
      exec (.sigLoadDone (some id)) s = .next (((({ t with sig := { t.sig with load := none } }).raiseEvt 8 Reg.SIG_EVT
        none 0x10).complete Reg.SIG_CMD).setState 8 1)) ∧
    (Accepted (.sigSwap m a) s → exec (.sigSwap m a) s = .next ((s.acceptBusy m a Reg.SIG_CMD 2).setState 8 3)) ∧
    (AbortAccepted (.sigAbort m a) s →
      let t := s.aborted Reg.SIG_CMD
      let u := match smFind s.busy Reg.SIG_CMD with
        | some b => if b.code = 1 then t.loadTo ((t.now - b.acc) / 8) else t
        | none => t
      exec (.sigAbort m a) s = .next (({ u with sig := { u.sig with load := none } }).setState 8 1)) ∧
    (s.opens Reg.SIG_PEEK_ID = true → exec (.sigPeek m id) s =
      .next (((s.setPreg (mport m) Reg.SIG_PEEK_ID (wordOfNat id.toNat)).setPreg (mport m) Reg.SIG_PEEK_VAL
        (s.readSignal id.toNat).1).setPreg (mport m) Reg.SIG_PEEK_STAT
        (wordOfNat ((s.readSignal id.toNat).2.2 * 0x1000 + (s.readSignal id.toNat).2.1.toNat)))) ∧
    (s.opens Reg.SIG_WR_VAL = true → exec (.sigWrValWrite m x) s =
      .next (s.writeSignal (fld (s.preg (mport m) Reg.SIG_WR_ID) 12 0) (mclass m = .external) x)) ∧
    (∀ (ep : BitVec 16) (satd valid : Bool), s.fenced.getLsbD 4 = false → prodOk ep.toNat = true → ep.toNat / 0x1000 ≠ 0 →
      ep.toNat / 0x1000 ≠ 0xE → s.busyWith Reg.SIG_CMD 1 = false → exec (.routeUpdate ep x satd valid true) s =
        .next (s.publish ⟨ep.toNat, s.prodEnc ep.toNat, x, satd, valid, none⟩))

/-- The commands and events of CYC, and the apply latch (R88, R92–R94). -/
def Obligations.CycleCommandsComplete : Prop :=
  ∀ (m : Master) (a : CmdArg) (s : State), s.unspecified = false →
    (Accepted (.cycStart m a) s →
      let t := (s.acceptNow Reg.CYC_CMD 1).setState 0x12 1
      fld (t.reg Reg.SYS_ROLE) 10 8 = 0 ∨ t.backboneInService = false →
        exec (.cycStart m a) s =
          .next (({ t with cyc := { t.cyc with begun := false, next := t.now + 31250 } }).setState 9 1)) ∧
    (Accepted (.cycStart m a) s →
      let t := (s.acceptNow Reg.CYC_CMD 1).setState 0x12 1
      fld (t.reg Reg.SYS_ROLE) 10 8 ≠ 0 → t.backboneInService = true →
        exec (.cycStart m a) s = .next (({ t with cyc := { t.cyc with begun := false, seen := 0 } }).setState 9 2)) ∧
    (Accepted (.cycSwap m a) s → exec (.cycSwap m a) s = .next (s.acceptBusy m a Reg.CYC_CMD 2)) ∧
    (AbortAccepted (.cycAbort m a) s → exec (.cycAbort m a) s = .next (s.aborted Reg.CYC_CMD)) ∧
    (s.fenced.getLsbD 6 = false → s.reg Reg.CYC_STATE = 3 → exec .cairnMissing s =
      .next (((({ s with cyc := { s.cyc with missed := 0, lost := false } }).orReg Reg.TB_STAT 1).setState 9 4).raiseEvt 9
        Reg.CYC_EVT none 1)) ∧
    (s.fenced.getLsbD 6 = false → s.reg Reg.CYC_STATE = 4 → 64 ≤ s.cyc.missed → s.cyc.lost = false →
      let t := ({ s with cyc := { s.cyc with lost := true } }).raiseEvt 9 Reg.CYC_EVT none 2
      let u := t.faultEvent 2 9 0 0 (t.reg Reg.CYC_EVT)
      let fall (x : State) (k : Nat) : State := if fld (x.reg (Reg.OCU_STATE k)) 3 0 = 2 then
        x.setState (0x28 + k) (setFld (x.reg (Reg.OCU_STATE k)) 3 0 1).toNat else x
      exec .holdoverLost s = .next (fall (fall u 0) 1)) ∧
    (s.hasT0 = true →
      let t := (s.atOffset (31250 - s.tSetup)).seqAtLatch
      exec (.applyLatch false) s = .next { t with sig := { t.sig with latched := t.sig.cons } }) ∧
    (s.hasT0 = true → exec (.applyLatch true) s = .next (((s.atOffset (15625 - s.tSetup)).axcLatchB).dacLatchB))

/-- The commands of CE (R113, R139–R141). -/
def Obligations.CeCommandsComplete : Prop :=
  ∀ (m : Master) (a : CmdArg) (ofs : BitVec 18) (w : BitVec 32) (s : State), s.unspecified = false →
    (Accepted (.ceStart m a) s →
      let t := s.acceptNow Reg.CE_CMD 1
      exec (.ceStart m a) s = .next (t.setState 0x10 t.ceLaneState)) ∧
    (Accepted (.ceStop m a) s → exec (.ceStop m a) s = .next ((s.acceptNow Reg.CE_CMD 2).setState 0x10 0)) ∧
    (Accepted (.ceValidate m a) s → exec (.ceValidate m a) s = .next (s.acceptBusy m a Reg.CE_CMD 3)) ∧
    (s.fenced.getLsbD 5 = false → s.busyWith Reg.CE_CMD 3 = true → exec .ceValidateDone s =
      .next ((s.setReg Reg.CE_VAL s.ceValResult).complete Reg.CE_CMD)) ∧
    (Accepted (.ceSwap m a) s → exec (.ceSwap m a) s = .next (s.acceptBusy m a Reg.CE_CMD 4)) ∧
    (AbortAccepted (.ceAbort m a) s → exec (.ceAbort m a) s = .next (s.aborted Reg.CE_CMD)) ∧
    (s.opens Reg.CE_CMD = true → exec (.ceLocalMemoryWrite m ofs w) s = .next (s.ceLocalWrite m (4 * ofs.toNat) w))

/-- The runs, checks and votes of CE, and the tables of CTAB (R100–R104, R128–R132, R144, R521). -/
def Obligations.CeRunsComplete : Prop :=
  ∀ s : State, s.unspecified = false →
    (∀ slot u r, s.fenced.getLsbD 5 = false → s.ceRunOf slot.toNat 0 = some r → s.ceVoting slot.toNat = false → r.fits = true →
      exec (.ceFcRun slot u) s = .next (s.ceCommit r u)) ∧
    (∀ slot u r, s.fenced.getLsbD 5 = false → s.ceRunOf slot.toNat 0 = some r → s.ceVoting slot.toNat = true →
      exec (.ceFcRun slot u) s = .next ((s.ceMiss r).ceSupervise slot.toNat)) ∧
    (∀ slot tickB u r, s.fenced.getLsbD 5 = false → s.ceRunOf slot.toNat (if tickB then 2 else 1) = some r →
      s.ceVoting slot.toNat = false → r.fits = true → exec (.ceTickRun slot tickB u) s = .next (s.ceCommit r u)) ∧
    (∀ slot kind, s.fenced.getLsbD 5 = false →
      ∀ r,
      s.ceRunOf slot.toNat kind.val = some r →
      exec (.runDeadlineMiss slot kind) s = .next (((s.advanceTo r.dl).ceMiss r).ceSupervise slot.toNat)) ∧
    (∀ u, s.fenced.getLsbD 5 = false →
      ∀ lane,
      s.ceChecker = some lane →
      ∀ c rest,
      s.ce.checks = c :: rest →
      exec (.checkRun u) s = .next (
        let r := s.ceRepeat c u
        let s := { s with ce := { s.ce with checks := rest } }
        let s := s.ceWr (ceStatusAt c.slot 12) (s.reg Reg.CYC_COUNT)
        if r = c.res then s
        else
          let s := { s with ce := { s.ce with votes := s.ce.votes ++ [{ c with chk := lane, chkRes := r }] } }
          (s.ceSetStatus c.slot 5 true).ceEvt 0x10)) ∧
    (∀ u c rest lane, s.fenced.getLsbD 5 = false → s.ce.votes = c :: rest →
      s.ceExec.find? (fun n => n != c.lane && n != c.chk) = some lane →
      let r := s.ceRepeat c u
      let t := { s with ce := { s.ce with votes := rest } }
      let t := t.ceSetStatus c.slot 5 (t.ceVoting c.slot)
      let v := (t.ceReplace c c.words).ceEvt 0x20
      let v := (v.faultEvent 2 0x10 0 0 (v.reg Reg.CE_EVT)).safeCeVote c.slot
      exec (.voteRun u) s = .next (
        if r = c.chkRes then (t.ceReplace c r).ceCharge c.lane c.slot c.lane
        else if r = c.res then t.ceCharge c.chk c.slot c.chk
        else [c.lane, c.chk, lane].foldl (fun t n => t.ceCharge n c.slot 3) v)) ∧
    (∀ lane r, s.fenced.getLsbD 5 = false → s.ceRole lane.val = 0 → s.ceCurrent lane.val = some r →
      exec (.residueError lane) s = .next (((s.ceMiss r).ceSupervise r.slot).ceFinding lane.val 1)) ∧
    (∀ lane c rest, s.fenced.getLsbD 5 = false → s.ceRole lane.val = 1 → s.ce.checks = c :: rest →
      exec (.residueError lane) s = .next (
        ((({ s with ce := { s.ce with checks := rest } }).inc Reg.CE_CHK_SKIP).ceEvt 0x100).ceFinding lane.val 1)) ∧
    (∀ lane, s.fenced.getLsbD 5 = false →
      let role := s.ceRole lane.val
      ¬ (role = 2 ∨ !s.isRetired 2 lane.val) →
      exec (.laneRetirement lane) s = .next (
        let spare := if role = 0 then s.ceChecker else none
        let cur := if role = 0 then (s.ceCurrent lane.val).filter (fun r => decide (r.start ≤ s.now)) else none
        let s := s.ceSetRole lane.val 2
        let s := match spare with
          | some c => s.ceSetRole c 0
          | none => s
        let s := if role = 1 ∨ spare.isSome then { s with ce := { s.ce with checks := [] } } else s
        let s := s.ceEvt 0x40
        let s := if s.reg Reg.CE_STATE = 0 then s else s.setState 0x10 s.ceLaneState
        let s := s.faultEvent (if spare.isSome then 1 else 2) 0x10 2 lane.val (s.reg Reg.CE_EVT)
        let s := match cur with
          | some r => (s.ceMiss r).ceSupervise r.slot
          | none => s
        let s := if role = 0 then s.ceReplan else s
        if s.safeOn then s.safeDiag else s)) ∧
    (∀ m a, Accepted (.ctabCopy m a) s →
      let n := a.arg.toNat % 64
      let t := s.ceTable n
      let u := s.acceptBusy m a Reg.CTAB_CMD 1
      exec (.ctabCopy m a) s = .next (
      let src := fld (u.reg Reg.CTAB_SRC_HI) 7 0 * 0x100000000 + (u.reg Reg.CTAB_SRC_LO).toNat
      ({ u with ctab := some ⟨n, src, if t.mode = 3 then 2 * t.len else t.len, t.base⟩ }).setState 0x11 2)) ∧
    (s.fenced.getLsbD 5 = false → ∀ j, s.ctab = some j → s.ctabReadable j = true →
      let t := (List.range j.n).foldl (fun (t : State) i =>
        t.ceWr (0xFA000 + 4 * (j.base + i)) (t.word (j.src + 4 * i) &&& 0xFFFFFF00)) s
      exec .ctabCopyComplete s = .next ((({ t with ctab := none }).complete Reg.CTAB_CMD).setState 0x11 1)) ∧
    (s.fenced.getLsbD 5 = false →
      ∀ y11,
      s.ctab = some y11 →
      exec .ctabCopyError s = .next (((({ s with ctab := none }).raiseEvt 0x11 Reg.CTAB_EVT none 1).complete Reg.CTAB_CMD).setState 0x11 1)) ∧
    (∀ m a, AbortAccepted (.ctabAbort m a) s →
      exec (.ctabAbort m a) s = .next (({ (s.aborted Reg.CTAB_CMD) with ctab := none }).setState 0x11 1))

/-- The start of a fast cycle and current tick B (R86, R89). -/
def Obligations.FastCycleComplete : Prop :=
  ∀ s : State, s.unspecified = false →
    (∀ ain sdm, s.fenced.getLsbD 6 = false →
      s.cycRuns = true →
      exec (.fcStart ain sdm) s = .next (
        let s := (s.hutPrune true).beginFc
        let s := s.fltAtT0.swapsAtT0
        let s := s.blockDo 0x3B State.recFrameAtT0
        let s := s.blockDo 0x1C (fun s => (List.range 16).foldl (fun (s : State) c => s.seqAtT0 c) s)
        let s := s.blockDo 0x1D State.ilkAtT0
        let s := s.blockDo 8 State.signalsAtT0
        let s := s.applyAtT0.sampleAtT0 ain sdm
        let s := (s.blockDo 0x10 State.ceAtT0).ceStartAtT0
        let s := s.linksAtT0
        let s := s.blockStatesAtT0
        let s := s.blockDo 0x3B State.recAtT0
        s.slowAtT0.fltShow)) ∧
    (∀ ain sdm, s.fenced.getLsbD 6 = false →
      (s.hasT0) = true →
      exec (.currentTickB ain sdm) s = .next (
        let s := s.atOffset 15625
        let s := s.blockDo 0x22 (fun s => s.dacSync true)
        let s := (List.range 16).foldl (fun (s : State) p => s.encSample true (fun i => ain.getD i 0) p) s
        s.blockDo 0x21 (fun s => (List.range 48).foldl (fun (s : State) m => s.sdmCapture m (sdm.getD m 0)) s)))

/-- The commands of PROF and of its generators (R170–R176). -/
def Obligations.ProfCommandsComplete : Prop :=
  ∀ s : State, s.unspecified = false →
    (∀ m g a, Accepted (.profEnable m g a) s →
      let t := s.acceptNow (Reg.PROF_G_CMD g.toNat) 1
      exec (.profEnable m g a) s = .next (
      let x := t.gen g.toNat
      let fb := t.genIn g.toNat 18
      let p := if fb.valid then wrapPos ((fb.val.toInt - x.hofs) * oneCount) else x.k.p
      (t.setGen g.toNat { x with k := { p := p }, j := 0, plan := none, run := .idle, outside := false }).setGenSt g.toNat
        (if insideLims (t.genLims g.toNat) p then 1 else 5))) ∧
    (∀ m g a, Accepted (.profDisable m g a) s →
      let t := s.acceptNow (Reg.PROF_G_CMD g.toNat) 2
      exec (.profDisable m g a) s = .next (
      let t := if (t.gen g.toNat).go.isSome then (t.dropGo g.toNat).acceptNow (Reg.PROF_G_CMD g.toNat) 2 else t
      (t.setGen g.toNat { t.gen g.toNat with plan := none, run := .idle, k := { p := (t.gen g.toNat).k.p }, j := 0 }).setGenSt g.toNat 0)) ∧
    (∀ m g a, Accepted (.profGo m g a) s →
      let t := s.profImm (mport m)
      let u := s.acceptBusy m a (Reg.PROF_G_CMD g.toNat) 3
      exec (.profGo m g a) s = .next (u.setGen g.toNat { u.gen g.toNat with go := some (t, mport m) })) ∧
    (∀ m g a, Accepted (.profRunQueue m g a) s →
      let t := s.acceptNow (Reg.PROF_G_CMD g.toNat) 4
      exec (.profRunQueue m g a) s = .next ((if t.genRunq g.toNat then t else t.setGen g.toNat { t.gen g.toNat with runqAt := t.now }).setRunq g.toNat true)) ∧
    (∀ m g a, Accepted (.profStop m g a) s →
      exec (.profStop m g a) s = .next ((s.acceptNow (Reg.PROF_G_CMD g.toNat) 5).askStop g.toNat 0)) ∧
    (∀ m g a, Accepted (.profQstop m g a) s →
      exec (.profQstop m g a) s = .next ((s.acceptNow (Reg.PROF_G_CMD g.toNat) 6).askStop g.toNat 1)) ∧
    (∀ m g a, Accepted (.profFlush m g a) s →
      let t := s.acceptNow (Reg.PROF_G_CMD g.toNat) 7
      exec (.profFlush m g a) s = .next (
      let t := (t.setGen g.toNat { t.gen g.toNat with queue := [] }).genDepth g.toNat
      match t.genHwq g.toNat with
      | some q => t.queClear q
      | none => t)) ∧
    (∀ m g a, Accepted (.profLatchArm m g a) s →
      exec (.profLatchArm m g a) s = .next ((s.acceptNow (Reg.PROF_G_CMD g.toNat) 8).armLatch g.toNat)) ∧
    (∀ m g a, AbortAccepted (.profGenAbort m g a) s →
      let t := s.aborted (Reg.PROF_G_CMD g.toNat)
      exec (.profGenAbort m g a) s = .next (
      let t := t.setGen g.toNat { t.gen g.toNat with go := none }
      if t.genSt g.toNat = 2 ∨ t.genSt g.toNat = 3 then t.askStop g.toNat 1 else t)) ∧
    (∀ m a, Accepted (.profStopAll m a) s →
      exec (.profStopAll m a) s = .next ((s.acceptNow Reg.PROF_CMD 2).askStopAll 0)) ∧
    (∀ m a, AbortAccepted (.profAbort m a) s →
      let t := s.aborted Reg.PROF_CMD
      exec (.profAbort m a) s = .next (((List.range 128).foldl (fun t g => (t.abortChannel (Reg.PROF_G_CMD g)).setGen g { t.gen g with go := none }) t).askStopAll 1))

/-- The advance, the queues, home offsets and the cam memory of PROF (R145, R149, R154, R177). -/
def Obligations.ProfEventsComplete : Prop :=
  ∀ s : State, s.unspecified = false →
    (s.fenced.getLsbD 6 = false →
      (s.hasT0 && !s.prof.adv) = true →
      exec .profileAdvance s = .next (
        let s := s.atOffset 600
        let s := { s with prof := { s.prof with adv := true } }
        let s := (List.range 128).foldl (fun s g => s.stepGen g) s
        let s := s.atOffset 1200
        (List.range 128).foldl (fun s g => s.pubGen g) s)) ∧
    (∀ g q tr t, s.fenced.getLsbD 6 = false → s.genHwq g.toNat = some q → (s.gen g.toNat).queue.length < 16 →
      s.quePop q = (some tr, t) →
      exec (.traverseRefill g) s = .next ((t.setGen g.toNat { t.gen g.toNat with
        queue := (t.gen g.toNat).queue ++ [(tr, t.now)] }).genDepth g.toNat)) ∧
    (∀ m g x,
      s.opens (Reg.PROF_G_HOFS g.toNat) = true → s.granted m (Reg.PROF_G_HOFS g.toNat) .priv = true →
      exec (.hofsWrite m g x) s = .next (
        let s := if s.hasT0 && !s.prof.adv && decide ((s.gen g.toNat).hofsAt ≤ s.t0) then s.applyHofs g.toNat else s
        (s.setReg (Reg.PROF_G_HOFS g.toNat) x).setGen g.toNat { s.gen g.toNat with hofsAt := s.now })) ∧
    (∀ m w, s.opens Reg.PROF_CAM_DATA = true → s.granted m Reg.PROF_CAM_DATA .priv = true →
      let i := fld (s.reg Reg.PROF_CAM_ADDR) 13 0
      let t := { s with prof := { s.prof with cam := smSet (fun _ => 0) s.prof.cam i w } }
      exec (.camDataAccess m (some w)) s = .next (
        t.setReg Reg.PROF_CAM_ADDR (setFld (t.reg Reg.PROF_CAM_ADDR) 13 0 ((i + 1) % 16384)))) ∧
    (∀ m, s.opens Reg.PROF_CAM_DATA = true → accGranted (mclass m) .priv = true →
      let i := fld (s.reg Reg.PROF_CAM_ADDR) 13 0
      exec (.camDataAccess m none) s = .next (
        (s.setReg Reg.PROF_CAM_ADDR (setFld (s.reg Reg.PROF_CAM_ADDR) 13 0 ((i + 1) % 16384))).answer (mport m)
          (smGet (fun _ => 0) s.prof.cam i) false))

/-- The commands and events of AXC (R189–R193, R217). -/
def Obligations.AxcComplete : Prop :=
  ∀ s : State, s.unspecified = false →
    (∀ m n a, Accepted (.axcEnable m n a) s →
      let t := s.acceptNow (Reg.AXC_CH_CMD (n.toNat / 4) (n.toNat % 4)) 1
      exec (.axcEnable m n a) s = .next (
      let t := (List.range 4).foldl (fun t h => t.renewCons (0xD000 + n.toNat * 256 + h)) t
      (t.setAxcCh n.toNat { t.axcCh n.toNat with en := true, enAt := t.now, sw := false, wave := [], before := [], tickB := [], duty := [] }).setAxcSt n.toNat 1)) ∧
    (∀ m n a, Accepted (.axcDisable m n a) s →
      exec (.axcDisable m n a) s = .next ((s.acceptNow (Reg.AXC_CH_CMD (n.toNat / 4) (n.toNat % 4)) 2).axcOff n.toNat)) ∧
    (∀ m n a, Accepted (.axcReset m n a) s →
      exec (.axcReset m n a) s = .next ((s.acceptNow (Reg.AXC_CH_CMD (n.toNat / 4) (n.toNat % 4)) 3).setAxcSt n.toNat 0)) ∧
    (∀ m n a, AbortAccepted (.axcChannelAbort m n a) s →
      exec (.axcChannelAbort m n a) s = .next ((s.aborted (Reg.AXC_CH_CMD (n.toNat / 4) (n.toNat % 4))).axcOff n.toNat)) ∧
    (∀ m k a, Accepted (.axcSwap m k a) s →
      exec (.axcSwap m k a) s = .next ((s.acceptBusy m a (Reg.AXC_CMD k.toNat) 2).setState (0x14 + k.toNat) 2)) ∧
    (∀ m k a, AbortAccepted (.axcAbort m k a) s →
      let t := s.aborted (Reg.AXC_CMD k.toNat)
      exec (.axcAbort m k a) s = .next (((List.range 4).foldl (fun t c => (t.abortChannel (Reg.AXC_CH_CMD k.toNat c)).axcOff (4 * k.toNat + c)) t).setState (0x14 + k.toNat) 1)) ∧
    (∀ n, s.fenced.getLsbD 6 = false →
      s.axcSt n.toNat = 1 →
      exec (.prechgElapsed n) s = .next ((s.advanceTo ((s.axcCh n.toNat).enAt + s.axcPrechg n.toNat * 1000)).setAxcSt n.toNat 2)) ∧
    (∀ n reachA reachB, s.fenced.getLsbD 6 = false →
      let k := s.axcSync n.toNat
      ¬ (k ≠ 0 ∧ !s.hasT0) →
      exec (.dutyLoad n reachA reachB) s = .next (
        let tp := (s.axcCh n.toNat).tp % s.axcTurns n.toNat
        let s := if 1 ≤ k ∧ k ≤ 6 then s.atOffset (((carrierHalves k).getD tp (0, 0)).1 * 5 / 2) else s
        let s := if s.axcSt n.toNat = 1 ∨ s.axcSt n.toNat = 2 then s.turn n.toNat tp (reachA.map (fun x => x.toNat)) (reachB.map (fun x => x.toNat)) else s
        s.setAxcCh n.toNat { s.axcCh n.toNat with tp := (tp + 1) % s.axcTurns n.toNat })) ∧
    (∀ n desat enrb, s.fenced.getLsbD 6 = false →
      let d := desat && bitOf (s.reg (Reg.AXC_CH_FLT (n.toNat / 4) (n.toNat % 4))) 8
      (d || enrb) = true →
      exec (.axisTrip n desat enrb) s = .next (s.axcTrip n.toNat (b2n d + 4 * b2n enrb)))

/-- The commands and events of ENC (R198–R205). -/
def Obligations.EncComplete : Prop :=
  ∀ s : State, s.unspecified = false →
    (∀ m a, Accepted (.encConfig m a) s →
      exec (.encConfig m a) s = .next ((s.acceptBusy m a Reg.ENC_CMD 1).setState 0x19 2)) ∧
    (∀ m a, Accepted (.encSsiRead m a) s →
      let p := a.arg.toNat
      let t := s.acceptBusy m a Reg.ENC_CMD 2
      exec (.encSsiRead m a) s = .next ((t.setEncPort p { t.encPort p with frame := true }).setState 0x19 3)) ∧
    (∀ m a, AbortAccepted (.encAbort m a) s →
      let t := s.aborted Reg.ENC_CMD
      exec (.encAbort m a) s = .next (
      let b := smFind s.busy Reg.ENC_CMD
      let t := match b with
        | some b => if b.code = 2 then t.setEncPort b.arg { t.encPort b.arg with frame := false } else t
        | none => t
      t.setState 0x19 1)) ∧
    (∀ p data idleLow par, s.fenced.getLsbD 6 = false →
      let e := s.encPort p.toNat
      let w := s.reg (Reg.ENC_P_MODE p.toNat)
      fld w 2 0 = 4 ∧ e.frame →
      exec (.ssiFrameComplete p data idleLow par) s = .next (
        let s := if bitOf w 7 then s.atOffset (ssiTime w) else s
        (s.setEncPort p.toNat { e with frame := false }).ssiEnd p.toNat data.toNat idleLow par)) ∧
    (∀ p a b, s.fenced.getLsbD 6 = false →
      let e := s.encPort p.toNat
      countStep (s.encMode p.toNat) e.a e.b a b = none →
      let t := s.setEncPort p.toNat { e with a := a, b := b }
      exec (.encoderCountEdge p a b) s = .next (if s.encMode p.toNat = 5 then t else t.encErr p.toNat eQERR)) ∧
    (∀ p a b (d : Int), s.fenced.getLsbD 6 = false →
      let e := s.encPort p.toNat
      countStep (s.encMode p.toNat) e.a e.b a b = some d → d ≠ 0 →
      exec (.encoderCountEdge p a b) s = .next (s.setEncPort p.toNat { e with
        a := a, b := b, count := e.count + wordOfInt d, edgeAt := some s.now,
        edge := match e.edgeAt with
          | some t => min (s.now - t) 0x7FFFFFFF
          | none => 0x7FFFFFFF })) ∧
    (∀ p, s.fenced.getLsbD 6 = false →
      let e := s.encPort p.toNat
      let z := fld (s.reg (Reg.ENC_P_MODE1 p.toNat)) 25 24
      let mode := s.encMode p.toNat
      (mode = 1 ∨ mode = 2 ∨ mode = 5) ∧ (z = 1 ∨ (z = 2 ∧ e.a ∧ e.b)) →
      exec (.indexLatch p) s = .next ((s.setReg (Reg.ENC_P_IDX p.toNat) e.count).setReg (Reg.ENC_P_IDXINFO p.toNat)
        (resultNew (s.reg (Reg.ENC_P_IDXINFO p.toNat)) (s.reg (Reg.ENC_P_IDXINFO p.toNat)) 15 8 0)))

/-- The commands and events of STEP (R209–R216). -/
def Obligations.StepComplete : Prop :=
  ∀ s : State, s.unspecified = false →
    (∀ m a, Accepted (.stepReshape m a) s →
      let t := s.acceptBusy m a Reg.STEP_CMD 1
      exec (.stepReshape m a) s = .next (
      let src := fld (t.reg Reg.STEP_SRC_HI) 7 0 * 0x100000000 + (t.reg Reg.STEP_SRC_LO).toNat / 2 * 2
      ({ t with step := { t.step with src := src } }).setState 0x18 2)) ∧
    (∀ err, s.fenced.getLsbD 6 = false →
      ∀ b,
      smFind s.busy Reg.STEP_CMD = some b →
      exec (.stepReshapeComplete err) s = .next (
        let l := s.stepEntries
        let s :=
          if err || !s.inMemory s.step.src 512 then s.raiseEvt 0x18 Reg.STEP_EVT (some Reg.STEP_EVT_EN) 4
          else if l.any (fun v => decide (4095 < v)) then s.raiseEvt 0x18 Reg.STEP_EVT (some Reg.STEP_EVT_EN) 2
          else
            let t := (List.range 256).foldl (fun t i => smSet stepTabDefault t (b.arg * 256 + i) (l.getD i 0)) s.step.tables
            { s with step := { s.step with tables := t } }
        (s.setState 0x18 1).complete Reg.STEP_CMD)) ∧
    (∀ m a, AbortAccepted (.stepAbort m a) s →
      exec (.stepAbort m a) s = .next ((s.aborted Reg.STEP_CMD).setState 0x18 1)) ∧
    (∀ n angV angI amp, s.fenced.getLsbD 6 = false →
      let c := s.stepCh n.toNat
      (s.stepRuns n.toNat && c.on) = true →
      exec (.loadAngleEstimate n angV angI amp) s = .next (
        let s := if s.stepStrong n.toNat then s else s.adaptKv n.toNat amp.toNat
        let w := s.reg (Reg.STEP_CH_MOT n.toNat)
        if c.speed8 * 32 < fld w 31 16 then s
        else
          let d := (BitVec.ofInt 16 ((angV.toNat : Int) - angI.toNat - Config.stepPhi0 c.speed8 (fld w 15 0))).toInt
          let s := s.setReg (Reg.STEP_CH_LOADANG n.toNat) (wordOfInt d &&& 0xFFFF#32)
          let s := if bitOf (s.reg (Reg.STEP_CH_CFG n.toNat)) 28 then s.stepAdapt n.toNat d else s
          s.pubBf (0xD000 + n.toNat * 256 + 129) (bf32Ieee ⟨d, -16⟩))) ∧
    (∀ n mean, s.fenced.getLsbD 6 = false →
      let c := s.stepCh n.toNat
      let w := s.reg (Reg.STEP_CH_VSW n.toNat)
      let v := c.speed8 * 32
      let vth := fld w 15 0
      let vhys := fld w 31 16
      (s.stepRuns n.toNat && c.on && s.stepMode n.toNat == 0) = true →
      exec (.stepModeSwitch n mean) s = .next (
        if !s.stepStrong n.toNat && decide (vth ≤ v) then s.setStrong n.toNat true
        else if s.stepStrong n.toNat && decide (v + vhys < vth) then
          let i := s.stepIset n.toNat
          let kv := if i = 0 then Config.stepKvZero (s.reg (Reg.STEP_CH_KV n.toNat))
            else wordOfNat (min ((qq (mean.toNat * 16 : Nat) i).free 2).toNat 0xFFFF)
          (s.setReg (Reg.STEP_CH_KV n.toNat) kv).setStrong n.toNat false
        else s)) ∧
    (∀ n, s.fenced.getLsbD 6 = false →
      let c := s.stepCh n.toNat
      let t := fld (s.reg (Reg.STEP_CH_STBY n.toNat)) 15 0
      (s.stepRuns n.toNat && c.on && t != 0 && decide (t ≤ c.still) && !c.standby) = true →
      exec (.standstillTimeout n) s = .next ((s.setStepCh n.toNat { c with standby := true, moving := false }).setIset n.toNat
        (s.stepScaled n.toNat (fld (s.reg (Reg.STEP_CH_CUR1 n.toNat)) 27 16)))) ∧
    (∀ p up, s.fenced.getLsbD 6 = false →
      fld (s.reg (Reg.ENC_P_MODE p.toNat)) 2 0 = 3 →
      exec (.stepDirInputStep p up) s = .next ((List.range 16).foldl (fun s n =>
        let cfg := s.reg (Reg.STEP_CH_CFG n)
        if bitOf cfg 24 && fld cfg 23 20 == p.toNat then
        s.setStepCh n { s.stepCh n with sd := (s.stepCh n).sd.step s.now (2 ^ stepExp (fld cfg 15 12)) up }
        else s) s))

/-- The commands and events of SEQ (R235–R242). -/
def Obligations.SeqComplete : Prop :=
  ∀ s : State, s.unspecified = false →
    (∀ m c a, Accepted (.seqStart m c a) s →
      let t := s.acceptBusy m a (Reg.SEQ_CH_CMD c.toNat) 1
      exec (.seqStart m c a) s = .next (
      let x := t.seqCh c.toNat
      (t.setSeqCh c.toNat { x with hdr := none, abrec := none, first := none, ready := false, cur := none, mems := [], cmdAbt := false, ilkAbt := none, startAt := t.now, fetch := some ⟨true, 0, false⟩, next := none, inc := false }).setSeqSt c.toNat 1)) ∧
    (∀ m c a, Accepted (.seqPause m c a) s →
      exec (.seqPause m c a) s = .next (((s.acceptNow (Reg.SEQ_CH_CMD c.toNat) 2).setSeqBit c.toNat 8 true).seqPauses c.toNat)) ∧
    (∀ m c a, Accepted (.seqResume m c a) s →
      let t := s.acceptNow (Reg.SEQ_CH_CMD c.toNat) 3
      exec (.seqResume m c a) s = .next (
      let x := t.seqCh c.toNat
      (((t.setSeqCh c.toNat { x with sticky := false, nonAres := false }).setSeqBit c.toNat 8 false).setSeqBit c.toNat 9 (!x.rules.isEmpty)).seqPauses c.toNat)) ∧
    (∀ m c a, Accepted (.seqRelease m c a) s →
      exec (.seqRelease m c a) s = .next ((s.acceptNow (Reg.SEQ_CH_CMD c.toNat) 4).setSeqLatch c.toNat a.arg.toNat)) ∧
    (∀ m c a, Accepted (.seqReset m c a) s →
      let t := s.acceptNow (Reg.SEQ_CH_CMD c.toNat) 5
      exec (.seqReset m c a) s = .next (
      let x := t.seqCh c.toNat
      let t := (t.setSeqCh c.toNat { x with drv := [], rank3 := false, cur := none, mems := [] }).seqApply c.toNat
      ((t.setSeqLatch c.toNat 0xFFFF).setSeqBit c.toNat 8 false).setSeqSt c.toNat 0)) ∧
    (∀ m c a, AbortAccepted (.seqChannelAbort m c a) s →
      let t := s.aborted (Reg.SEQ_CH_CMD c.toNat)
      exec (.seqChannelAbort m c a) s = .next (
      let t := t.seqAbortAsked c.toNat
      if (t.seqCh c.toNat).cmdAbt then t.seqAbortBusy m (Reg.SEQ_CH_CMD c.toNat) else t)) ∧
    (∀ m a, AbortAccepted (.seqAbort m a) s →
      let t := s.aborted Reg.SEQ_CMD
      exec (.seqAbort m a) s = .next (
      let t := (List.range 16).foldl (fun t c => t.seqAbortAsked c) t
      if (List.range 16).any (fun c => (t.seqCh c).cmdAbt) then t.seqAbortBusy m Reg.SEQ_CMD else t)) ∧
    (s.fenced.getLsbD 5 = false →
      (s.hasT0 && !s.seq.evald) = true →
      exec .seqEvaluation s = .next (
        let s := s.atOffset 5000
        let snap := s.sig.routes.foldl (fun m q => smSet (fun _ => none) m q.1 (s.readSig q.1).1) []
        let s := { s with seq := { s.seq with evald := true, snap := snap } }
        let s := (List.range 16).foldl (fun s c => s.seqEval c) s
        let s := s.seqBlockSettle.atOffset 6500
        (List.range 16).foldl (fun s c => s.seqPublish c) s)) ∧
    (∀ c err f, s.fenced.getLsbD 5 = false → (s.seqCh c.toNat).fetch = some f → f.start = true →
      exec (.stepFetchComplete c err) s = .next (if err then s.seqStartFails c.toNat 2 else s.seqStartFetched c.toNat)) ∧
    (∀ c f h r, s.fenced.getLsbD 5 = false → (s.seqCh c.toNat).fetch = some f → f.start = false →
      (s.seqCh c.toNat).hdr = some h → s.seqFetchRec h f.step = .ok r →
      exec (.stepFetchComplete c false) s = .next (s.seqEnter c.toNat f.step r false)) ∧
    (∀ c err f h e, s.fenced.getLsbD 5 = false → (s.seqCh c.toNat).fetch = some f → f.start = false →
      (s.seqCh c.toNat).hdr = some h → (if err then .error 2 else s.seqFetchRec h f.step) = .error e →
      exec (.stepFetchComplete c err) s = .next (s.seqFetchFails c.toNat e))

/-- The commands and rule windows of ILK (R249–R253). -/
def Obligations.IlkComplete : Prop :=
  ∀ s : State, s.unspecified = false →
    (s.fenced.getLsbD 5 = false →
      (s.hasT0 && !s.ilk.evald) = true →
      exec .ilkEvaluation s = .next (
        let s := s.atOffset 3600
        let prev := s.ilkActive
        let s := { s with ilk := { s.ilk with evald := true } }
        let s := (List.range 1024).foldl (fun s r =>
          if s.ilkEn r then s.ilkEval prev r else if s.ilkAct r then s.ilkRelease r else s) s
        let s := s.ilkSync.atOffset 4900
        (List.range 1024).foldl (fun s r => s.pubInt (0xC000 + r) (b2n (s.ilkAct r) : Nat)) s)) ∧
    (∀ m a, Accepted (.ilkSwap m a) s →
      exec (.ilkSwap m a) s = .next ((s.acceptBusy m a Reg.ILK_CMD 1).setState 0x1D 3)) ∧
    (∀ m a, Accepted (.ilkCopyActive m a) s →
      exec (.ilkCopyActive m a) s = .next ((s.acceptBusy m a Reg.ILK_CMD 2).setState 0x1D 2)) ∧
    (s.fenced.getLsbD 5 = false →
      ∀ b,
      smFind s.busy Reg.ILK_CMD = some b →
      b.code = 2 →
      exec .ilkCopyComplete s = .next ((((s.advanceTo (b.acc + 16000)).ilkCopy (fun _ => true)).setState 0x1D 1).complete Reg.ILK_CMD)) ∧
    (∀ m a, Accepted (.ilkAck m a) s →
      let r := a.arg.toNat
      let t := s.acceptNow Reg.ILK_CMD 3
      exec (.ilkAck m a) s = .next (if t.ilkLat r then ((t.setIlkAct r false).setIlkLat r false).ilkSync else t)) ∧
    (∀ m a, AbortAccepted (.ilkAbort m a) s →
      let t := s.aborted Reg.ILK_CMD
      exec (.ilkAbort m a) s = .next (
      let b := smFind s.busy Reg.ILK_CMD
      let t := match b with
        | some b => if b.code = 2 then t.ilkCopy (Config.ilkCopied (t.now - b.acc)) else t
        | none => t
      t.setState 0x1D 1)) ∧
    (∀ m r, s.opens Reg.ILK_RULE_IDX = true → accGranted (mclass m) .priv = true →
      exec (.ilkRuleReadShadow m r) s =
        .next ((s.ilkShow (s.ilkDesc (1 - s.ilkBank) r.toNat)).setReg Reg.ILK_RULE_IDX (wordOfNat r.toNat))) ∧
    (∀ m r, s.opens Reg.ILK_RULE_IDX = true → accGranted (mclass m) .priv = true →
      exec (.ilkRuleReadActive m r) s =
        .next ((s.ilkShow (s.ilkDesc s.ilkBank r.toNat)).setReg Reg.ILK_RULE_IDX (wordOfNat r.toNat))) ∧
    (∀ m r, s.opens Reg.ILK_RULE_IDX = true → accGranted (mclass m) .priv = true → s.busyWith Reg.ILK_CMD 1 = false →
      exec (.ilkRuleWriteShadow m r) s =
        .next ((s.setIlkDesc (1 - s.ilkBank) r.toNat ((List.range 16).map (fun i => s.reg (Reg.ILK_RULE_D i)))).setReg
          Reg.ILK_RULE_IDX (wordOfNat r.toNat))) ∧
    (∀ m r, s.opens Reg.ILK_RULE_IDX = true → accGranted (mclass m) .priv = true → s.busyWith Reg.ILK_CMD 1 = true →
      exec (.ilkRuleWriteShadow m r) s =
        .next ((s.setReg Reg.ILK_CMDSTAT (setBit (s.reg Reg.ILK_CMDSTAT) 5 true)).setReg
          Reg.ILK_RULE_IDX (wordOfNat r.toNat)))

/-- The commands, triggers and conversions of ADC (R258–R264, R276). -/
def Obligations.AdcComplete : Prop :=
  ∀ s : State, s.unspecified = false →
    (∀ m a, Accepted (.adcTrigger m a) s →
      let t := s.acceptNow Reg.ADC_CMD 1
      exec (.adcTrigger m a) s = .next (t.adcFireAll ((List.range 16).filter (fun g => a.arg.getLsbD g && t.adcOn g)))) ∧
    (∀ m a, Accepted (.adcSwap m a) s →
      exec (.adcSwap m a) s = .next ((s.acceptBusy m a Reg.ADC_CMD 2).setState 0x20 2)) ∧
    (∀ m a, AbortAccepted (.adcAbort m a) s →
      let t := s.aborted Reg.ADC_CMD
      exec (.adcAbort m a) s = .next (({ t with adc := { t.adc with queue := [], armed := [] } }).setState 0x20 1)) ∧
    (∀ phase tickB, s.fenced.getLsbD 7 = false →
      let ofs := phase.toNat + (if tickB then 15625 else 0)
      (s.hasT0 && !s.adc.fired.contains ofs && decide (ofs < 31250)) = true →
      exec (.fcPhaseTrigger phase tickB) s = .next (
        let s := s.atOffset ofs
        let s := { s with adc := { s.adc with fired := ofs :: s.adc.fired } }
        s.adcFireAll ((List.range 16).filter (fun g =>
          let c := s.reg (Reg.ADC_G_CFG g)
          s.adcOn g && s.adcSrc g == 1 && fld (s.reg (Reg.ADC_G_PHASE g)) 14 0 == phase.toNat && (!tickB || bitOf c 29)
            && (s.reg Reg.CYC_COUNT).toNat % 2 ^ (fld c 27 24) == 0)))) ∧
    (∀ pin rising, s.fenced.getLsbD 7 = false → exec (.atrgEdge pin rising) s = .next (
      s.adcFireAll ((List.range 16).filter (fun g =>
        s.adcOn g && s.adcSrc g == 2 && fld (s.reg (Reg.ADC_G_CFG g)) 10 8 == pin.toNat &&
          (fld (s.reg (Reg.ADC_G_CFG g)) 5 4 == 2 ||
            fld (s.reg (Reg.ADC_G_CFG g)) 5 4 == (if rising then 0 else 1)))))) ∧
    (∀ g, s.fenced.getLsbD 7 = false →
      ∀ t,
      smFind s.adc.armed g.toNat = some t →
      (s.adcOn g.toNat && s.adcSrc g.toNat == 3) = true →
      exec (.timeBaseTrigger g) s = .next (
        let p := (s.reg (Reg.ADC_G_PERIOD g.toNat)).toNat
        (((s.advanceTo t).adcArm g.toNat (if p = 0 then none else some (t + p)))).adcFireAll [g.toNat])) ∧
    (∀ m g x, s.opens (Reg.ADC_G_TBTIME g.toNat) = true → exec (.tbtimeWrite m g x) s = .next (
      if !accGranted (mclass m) .priv then s.noteDenied (mclassCode (mclass m)) 0x20 (Reg.ADC_G_TBTIME g.toNat % 0x10000)
      else
        let s := s.setReg (Reg.ADC_G_TBTIME g.toNat) x
        if s.adcOn g.toNat && s.adcSrc g.toNat == 3 then s.adcTarget g.toNat x else s)) ∧
    (∀ conv uv, s.fenced.getLsbD 7 = false →
      ∀ j,
      s.adc.jobs.find? (fun j => j.conv == conv.val && j.free) = some j →
      exec (.conversionComplete conv uv) s = .next (
        let s := s.advanceTo (j.hold + 400)
        let s := { s with adc := { s.adc with jobs := s.adc.jobs.erase j } }
        if s.convRetired conv.val then s
        else
          let r := adcCode uv.toInt
          let n := j.input
          let old := s.reg (Reg.ADC_IN_RES n)
          let w := wordOfNat ((wordOfInt r.1).toNat % 65536 * 0x10000 + conv.val * 4 + b2n r.2 * 2)
          let s := s.setRegs [(Reg.ADC_IN_RES n, resultNew old w 15 8 0), (Reg.ADC_IN_TS n, wordOfNat j.hold)]
          let s := s.publish ⟨0x1000 + n, some 0, wordOfInt r.1, r.2, true, none⟩
          (List.range 64).foldl (fun s w => if fld (s.reg (Reg.ADC_WIN_CFG w)) 20 16 = n then s.winJudge w r.1 r.2 else s) s)) ∧
    (∀ conv, s.fenced.getLsbD 7 = false →
      ∀ j,
      s.adc.jobs.find? (fun j => j.conv == conv.val && !j.free) = some j →
      exec (.converterFree conv) s = .next (
        let s := s.advanceTo (j.hold + 200)
        let s := { s with adc := { s.adc with jobs := s.adc.jobs.map (fun k => if k = j then { k with free := true } else k) } }
        match (List.range 32).find? (fun n => (s.adcServe n).contains conv.val && s.adcQueued n != 0) with
        | some n => (s.setAdcQueued n (s.adcQueued n - 1)).adcStart conv.val n
        | none => s)) ∧
    (∀ conv zero ref, s.fenced.getLsbD 7 = false →
      let queued := (List.range 32).any (fun n => (s.adcServe n).contains conv.val && s.adcQueued n != 0)
      ¬ ((s.convBusy conv.val || queued) = true) →
      exec (.referenceCheck conv zero ref) s = .next (
        let s := s.setUnchecked conv.val false
        let bad := [(zero.toInt, (0 : Int)), (ref.toInt, 26214)].filter (fun p => decide (32 < (p.1 - p.2).natAbs))
        let s := bad.foldl (fun (s : State) _ => (s.inc Reg.ADC_CALERR_CNT).adcEvt 4) s
        match bad with
        | [] => s
        | p :: _ =>
          let r := s.finding 1 conv.val 1 0x20 (wordOfInt p.1)
          if r.2 then r.1.adcOverflow conv.val (wordOfInt p.1) else r.1)) ∧
    (∀ conv, s.fenced.getLsbD 7 = false → exec (.converterUnchecked conv) s = .next (s.setUnchecked conv.val true))

/-- The commands and events of SDM and DAC (R271–R275, R281). -/
def Obligations.SdmDacComplete : Prop :=
  ∀ s : State, s.unspecified = false →
    (∀ m a, Accepted (.sdmSwap m a) s →
      exec (.sdmSwap m a) s = .next ((s.acceptBusy m a Reg.SDM_CMD 1).setState 0x21 2)) ∧
    (∀ m a, AbortAccepted (.sdmAbort m a) s →
      exec (.sdmAbort m a) s = .next ((s.aborted Reg.SDM_CMD).setState 0x21 1)) ∧
    (∀ n, s.fenced.getLsbD 7 = false →
      (s.sdmOn n.val && s.sdmClocked n.val && !(s.sdmCh n.val).stuck) = true →
      exec (.stuckStream n) s = .next (s.sdmStuck n.val)) ∧
    (∀ n, s.fenced.getLsbD 7 = false →
      ((s.sdmCh n.val).stuck && s.sdmClocked n.val) = true →
      exec (.stuckStreamRecovery n) s = .next (s.setSdmCh n.val ⟨false, s.sdmWarm n.val⟩)) ∧
    (∀ n sum, s.fenced.getLsbD 7 = false →
      let cfg := s.reg (Reg.SDM_CH_CFG n.val)
      let d1 := sdmD1 cfg
      s.sdmOn n.val && s.sdmClocked n.val && bitOf cfg 0 && decide (sum.toInt.natAbs ≤ d1) && decide (fld (s.reg (Reg.SDM_CH_OCLIM n.val)) 15 0 * d1 ≤ sum.toInt.natAbs * 65536) →
      exec (.sdmOvercurrent n sum) s = .next (s.sdmTrip n.val)) ∧
    (∀ m a, AbortAccepted (.dacAbort m a) s →
      let t := s.aborted Reg.DAC_CMD
      exec (.dacAbort m a) s = .next ({ t with dac := { t.dac with queue := [] } })) ∧
    (∀ c, s.fenced.getLsbD 7 = false →
      ∀ r l,
      smGet (fun _ => []) s.dac.queue c.toNat = r :: l →
      (s.dacOn c.toNat && s.dacMode c.toNat == 2) = true →
      exec (.dacImmediateUpdate c) s = .next (
        let s := match smFind s.dac.last c.toNat with
          | some t => s.advanceTo (t + 1000)
          | none => s
        let s := { s with dac := { s.dac with queue := smSet (fun _ => []) s.dac.queue c.toNat l, last := smPut s.dac.last c.toNat s.now } }
        s.dacApply c.toNat r))

/-- The commands of FIO and its field supplies (R285–R287, R302). -/
def Obligations.FioSupplyComplete : Prop :=
  ∀ s : State, s.unspecified = false →
    (∀ m a, Accepted (.fioArm m a) s →
      let mask := a.arg.toNat
      let t := s.acceptBusy m a Reg.FIO_CMD 1
      exec (.fioArm m a) s = .next ([0, 1].foldl (fun (t : State) g => if mask.testBit g then t.setFioGroup g 2 else t) t)) ∧
    (∀ m a, Accepted (.fioClearOut m a) s →
      exec (.fioClearOut m a) s = .next (s.acceptBusy m a Reg.FIO_CMD 2)) ∧
    (∀ m a, Accepted (.fioFlushTsf m a) s →
      exec (.fioFlushTsf m a) s = .next ((s.acceptNow Reg.FIO_CMD 3).setTsf [])) ∧
    (∀ m a, AbortAccepted (.fioAbort m a) s →
      let t := s.aborted Reg.FIO_CMD
      exec (.fioAbort m a) s = .next (
      let b := smFind s.busy Reg.FIO_CMD
      match b with
      | some b => if b.code = 1 then
          [0, 1].foldl (fun (t : State) g => if t.fioGroup g = 2 then t.setFioGroup g 1 else t) t
        else t
      | none => t)) ∧
    (∀ ch, s.fenced.getLsbD 13 = false →
      ¬ ((s.fio.absent.contains ch.toNat) = true) →
      exec (.couplerFault ch) s = .next (
        let s := { s with fio := { s.fio with absent := s.fio.absent ++ [ch.toNat], back := s.fio.back.filter (fun c => c != ch.toNat) } }
        let s := (s.fioFail ch.toNat).fioEvt 0x200
        let r := s.finding 8 ch.toNat 1 0x24 (s.reg Reg.FIO_EVT)
        if r.2 then r.1.faultEvent 2 0x24 8 ch.toNat (s.reg Reg.FIO_EVT) else r.1)) ∧
    (∀ ch, s.fenced.getLsbD 13 = false →
      (s.fio.absent.contains ch.toNat) = true →
      exec (.couplerHeartbeatReturn ch) s = .next ({ s with fio := { s.fio with absent := s.fio.absent.filter (fun c => c != ch.toNat), back := s.fio.back ++ [ch.toNat] } })) ∧
    (∀ b mv, s.fenced.getLsbD 13 = false →
      mv.toNat < 19200 →
      exec (.supplyLow b mv) s = .next ((s.showSupply b mv.toNat).supplyIsLow b)) ∧
    (∀ b mv, s.fenced.getLsbD 13 = false →
      19600 ≤ mv.toNat →
      exec (.supplyLowClear b mv) s = .next (((s.showSupply b mv.toNat).supBit b 0 false).supBit b 2 false)) ∧
    (∀ b mv, s.fenced.getLsbD 13 = false →
      16000 ≤ mv.toNat →
      exec (.supplyDip b mv) s = .next (
        let w := s.reg Reg.FIO_DIP_CNT
        let s := s.setReg Reg.FIO_DIP_CNT (if b then setFld w 31 16 (min (fld w 31 16 + 1) 0xFFFF)
          else setFld w 15 0 (min (fld w 15 0 + 1) 0xFFFF))
        ((s.showSupply b mv.toNat).supplyIsLow b).supBit b 2 false)) ∧
    (∀ b mv, s.fenced.getLsbD 13 = false →
      mv.toNat < 16000 →
      exec (.supplyLost b mv) s = .next (
        let s := (((s.showSupply b mv.toNat).supplyIsLow b).supBit b 2 true).fioEvt (bitMask (2 + b2n b))
        if s.fioGroup (b2n b) = 0 then s else s.fioDown (b2n b))) ∧
    (∀ b mv, s.fenced.getLsbD 13 = false →
      19200 ≤ mv.toNat →
      exec (.supplyRecovered b mv) s = .next (
        let s := ((s.showSupply b mv.toNat).supBit b 2 false).supBit b 4 true
        if s.fioGroup (b2n b) = 0 then s.setFioGroup (b2n b) 1 else s))

/-- The inputs and outputs of FIO (R290–R298). -/
def Obligations.FioPortsComplete : Prop :=
  ∀ s : State, s.unspecified = false →
    (∀ n level, s.fenced.getLsbD 13 = false →
      ¬ (bitOf (s.reg Reg.FIO_IN_RAW) n.toNat = level) →
      exec (.rawInputEdge n level) s = .next (
        let x := s.fioIn n.toNat
        (s.setReg Reg.FIO_IN_RAW (setBit (s.reg Reg.FIO_IN_RAW) n.toNat level)).setFioIn n.toNat
          (if level then { x with rise := s.now } else { x with fall := s.now }))) ∧
    (∀ n, s.fenced.getLsbD 13 = false →
      let x := s.fioIn n.toNat
      let t := s.advanceTo x.next
      let x := { x with next := (if x.next = 0 then t.now else x.next) + t.fioTick n.toNat * 1000 }
      let raw := bitOf (t.reg Reg.FIO_IN_RAW) n.toNat
      let old := bitOf (t.reg Reg.FIO_IN_FILT) n.toNat
      let thr := t.fioThr n.toNat
      let c := if raw then min (min x.cnt thr + 1) thr else min x.cnt thr - 1
      let v := t.setFioIn n.toNat { x with cnt := c }
      let new := if c = thr then true else if c = 0 then false else old
      t.fioGroup 0 ≠ 0 → x.loaded = true →
      exec (.inputFilterTick n) s = .next (if new = old then v else
        (v.setReg Reg.FIO_IN_FILT (setBit (v.reg Reg.FIO_IN_FILT) n.toNat new)).tsfPush n.toNat new)) ∧
    (∀ m, s.opens Reg.FIO_TSF_LO = true → exec (.tsfRead m) s = .next (
      match s.fio.tsf with
      | (w, t) :: l => ((s.setTsf l).latch (mport m) Reg.FIO_TSF_HI t).answer (mport m) w false
      | [] => s.answer (mport m) 0 false)) ∧
    (∀ n, s.fenced.getLsbD 13 = false →
      (bitOf (s.reg Reg.FIO_OUT_SET) n.toNat) = true →
      exec (.outputOverload n) s = .next (
        let s := (s.orReg Reg.FIO_OUT_LATCH (bitMask n.toNat)).outStat n.toNat 1 true
        ((s.inc Reg.FIO_OVL_CNT).fioEvt 0x10).forceOff n.toNat true)) ∧
    (∀ n, s.fenced.getLsbD 13 = false →
      let t := s.setReg Reg.FIO_OUT_RB (setBit (s.reg Reg.FIO_OUT_RB) n.toNat (!bitOf (s.reg Reg.FIO_OUT_SET) n.toNat))
      exec (.readbackMismatch n) s = .next ((((t.outStat n.toNat 3 true).inc Reg.FIO_RBERR_CNT).fioEvt 0x40).toSafe n.toNat)) ∧
    (∀ n, s.fenced.getLsbD 13 = false →
      (bitOf (s.reg (Reg.FIO_OUT_CFG n.toNat)) 29 && bitOf (s.reg Reg.FIO_OUT_SET) n.toNat) = true →
      exec (.openLoad n) s = .next ((s.outStat n.toNat 2 true).fioEvt 0x20)) ∧
    (∀ n high, s.fenced.getLsbD 13 = false →
      ∀ p,
      smFind s.fio.pulses n.toNat = some p →
      exec (.testPulseCheck n high) s = .next (
        let rb (s : State) : State := s.setReg Reg.FIO_OUT_RB (setBit (s.reg Reg.FIO_OUT_RB) n.toNat high)
        if p.stage = 0 then
          let s := s.advanceTo (p.start + 250000)
          let s := rb { s with fio := { s.fio with pulses := smPut s.fio.pulses n.toNat { p with stage := 1 } } }
          if high then s.tpFail n.toNat else s
        else if p.stage = 2 then
          let s := s.advanceTo (p.start + 550000)
          let s := { s with fio := { s.fio with pulses := smDel s.fio.pulses n.toNat } }
          if p.cancel || !bitOf (s.reg Reg.FIO_OUT_SET) n.toNat then s else if high then rb s else (rb s).tpFail n.toNat
        else s)) ∧
    (∀ n, s.fenced.getLsbD 13 = false →
      ∀ p,
      smFind s.fio.pulses n.toNat = some p →
      p.stage = 1 →
      exec (.testPulseEnd n) s = .next (
        let s := s.advanceTo (p.start + 300000)
        if p.cancel then { s with fio := { s.fio with pulses := smDel s.fio.pulses n.toNat } }
        else ({ s with fio := { s.fio with pulses := smPut s.fio.pulses n.toNat { p with stage := 2 } } }).setOut n.toNat true))

/-- The commands of SAFE (R309, R311, R317, R319, R322). -/
def Obligations.SafeCommandsComplete : Prop :=
  ∀ s : State, s.unspecified = false →
    (∀ m a, Accepted (.safeReset m a) s →
      exec (.safeReset m a) s = .next ((s.acceptBusy m a Reg.SAFE_CMD 1).setResetPending true)) ∧
    (s.fenced.getLsbD 2 = false →
      ∀ b,
      smFind s.busy Reg.SAFE_CMD = some b →
      exec .safeResetTimeout s = .next (
        let s := s.advanceTo (b.acc + 2000000000)
        (((s.inc Reg.SAFE_RESETFAIL_CNT).safeEvt 0x20).setResetPending false).complete Reg.SAFE_CMD)) ∧
    (∀ m a, Accepted (.safeConfig m a) s →
      let t := s.acceptNow Reg.SAFE_CMD 2
      exec (.safeConfig m a) s = .next ((t.setState 0x25 (setFld (t.reg Reg.SAFE_STATE) 3 0 3).toNat).safeOuts)) ∧
    (∀ m a, Accepted (.leaveConfig m a) s →
      let t := s.acceptNow Reg.SAFE_CMD 3
      exec (.leaveConfig m a) s = .next (
      let t := (t.setState 0x25 (setFld (t.reg Reg.SAFE_STATE) 3 0 2).toNat).setLive 0xFF (2 ^ cCRC) false
      let w := t.reg Reg.SAFE_STRAP
      if t.strapsOk && fld w 7 4 == fld w 3 0 then t.setLive 0xFF (2 ^ cSTRAP) false else t)) ∧
    (∀ m a, Accepted (.safeDemand m a) s →
      exec (.safeDemand m a) s = .next (((s.acceptNow Reg.SAFE_CMD 4).orReg Reg.SAFE_SWDEM (wordOfNat a.arg.toNat)).safeEvt 1)) ∧
    (∀ m a, Accepted (.safeRelease m a) s →
      let t := s.acceptNow Reg.SAFE_CMD 5
      exec (.safeRelease m a) s = .next (t.setReg Reg.SAFE_SWDEM (t.reg Reg.SAFE_SWDEM &&& ~~~wordOfNat a.arg.toNat))) ∧
    (∀ m a, AbortAccepted (.safeAbort m a) s →
      exec (.safeAbort m a) s = .next ((s.aborted Reg.SAFE_CMD).setResetPending false)) ∧
    (∀ m x,
      s.opens Reg.SAFE_SEL_SET = true → s.granted m Reg.SAFE_SEL_SET .priv = true →
      exec (.safeSelSetWrite m x) s = .next (s.orReg Reg.SAFE_SEL (x &&& 0xFF#32))) ∧
    (∀ m x,
      s.opens Reg.SAFE_SEL_CLR = true → s.granted m Reg.SAFE_SEL_CLR .secure = true →
      exec (.safeSelClrWrite m x) s = .next (s.setReg Reg.SAFE_SEL (s.reg Reg.SAFE_SEL &&& ~~~(x &&& 0xFF#32)))) ∧
    (∀ m x, s.opens Reg.SAFE_CONFIRM = true → s.granted m Reg.SAFE_CONFIRM .secure = true → s.safeMode = 3 →
      x = s.reg Reg.SAFE_CRC →
      let t := ({ s with safe := { s.safe with confirm := some x } }).setReg Reg.SAFE_CONFIRM x
      exec (.safeConfirmWrite m x) s = .next ((t.safeEvt 0x40).safeHut 6 0)) ∧
    (∀ m x, s.opens Reg.SAFE_CONFIRM = true → s.granted m Reg.SAFE_CONFIRM .secure = true → s.safeMode = 3 →
      x ≠ s.reg Reg.SAFE_CRC → exec (.safeConfirmWrite m x) s = .next (s.safeEvt 0x80))

/-- The events of SAFE (R303–R318). -/
def Obligations.SafeEventsComplete : Prop :=
  ∀ s : State, s.unspecified = false →
    (s.fenced.getLsbD 2 = false →
      (s.hasT0 && s.safeOn && !s.safe.evald) = true →
      exec .safetyEvaluation s = .next (
        let s := s.atOffset 7000
        ({ s with safe := { s.safe with evald := true } }).safeEvaluate)) ∧
    (∀ flip, s.fenced.getLsbD 2 = false →
      (s.hasT0 && s.safeOn) = true →
      exec (.belayComparison flip) s = .next (
        let s := s.atOffset 7500
        let off := bitOf (s.reg Reg.FLT_ST_CFG) 10
        let done (s : State) : State := { s with safe := { s.safe with word := none } }
        match s.safe.word with
        | none =>
          if off then s
          else
            match s.safe.excuse with
            | 1 => { s with safe := { s.safe with excuse := 2 } }
            | 2 => ({ s with safe := { s.safe with excuse := 0 } }).safeFault cROPE 0xFF
            | _ => s.safeFault cBELAY 0xFF
        | some w =>
          let r := s.belayCount
          let bad := !off && (r.2 || w.2 != (s.safeCompare ^^^ flip.toNat))
          let s := if bad then r.1.safeFault cBELAY 0xFF else if s.safe.belayOut then r.1
            else r.1.setLive 0xFF (2 ^ cBELAY) false
          done s.gatesFollow)) ∧
    (∀ h l,
      ¬ (s.safeMode = 0 ∨ (h = false ∧ l = false)) →
      exec (.stoDemand h l) s = .next (
        let s := s.setStoIn (s.safe.demH || h) (s.safe.demL || l)
        let s := if s.safeOn then s.safeEvt 1 else s
        if s.safeOn then s.gatesOff ((List.range 8).foldl (fun m g => if s.hardSto g then m ||| 2 ^ g else m) 0) else s)) ∧
    (
      ¬ (s.safeMode = 0) →
      exec .stoDemandEnd s = .next (s.setStoIn false false)) ∧
    (∀ h,
      (s.safeOn) = true →
      exec (.stopathFault h) s = .next ((s.setReg Reg.SAFE_STOIN (setFld (s.reg Reg.SAFE_STOIN) 1 0 (if h then 1 else 2))).safeFault cSTOPATH 0xFF)) ∧
    (∀ n,
      ¬ (((s.axcCh n.toNat).en) = true) →
      exec (.safeEnrbFault n) s = .next (s.safeFault cENRB 0xFF)) ∧
    (∀ v, s.fenced.getLsbD 2 = false →
      let t := s.setReg Reg.SAFE_STRAP (setFld (s.reg Reg.SAFE_STRAP) 7 4 v.toNat)
      exec (.strapSample v) s = .next (
        if v.toNat % 16 = fld (t.reg Reg.SAFE_STRAP) 3 0 then t else t.safeFault cSTRAP 0xFF)) ∧
    (s.fenced.getLsbD 2 = false → exec .safeCrcCheck s = .next (
      if s.safeCrc.safeMode = 2 ∧ s.safeCrc.safeConfirmed = false then s.safeCrc.safeFault cCRC 0xFF else s.safeCrc)) ∧
    (s.fenced.getLsbD 2 = false →
      let z := s.setReg Reg.SAFE_STOIN (setBit (s.reg Reg.SAFE_STOIN) 3 true)
      let ack (g : Nat) : Bool := z.groupAck g
      let viol (g : Nat) : Bool := z.groupViol g && z.groupSt g == 0 && z.groupStill g && !(z.safeGrp g).vlive
      let used := (List.range 8).any (fun g => ack g || viol g) || z.busyWith Reg.SAFE_CMD 1
      let t := (List.range 8).foldl (fun (t : State) g =>
        let w := t.reg Reg.SAFE_GSTATE
        let w := if ack g then setBit w (4 * g + 3) false else w
        t.setReg Reg.SAFE_GSTATE (if viol g then setBit w (4 * g + 2) false else w)) z
      let t := if t.busyWith Reg.SAFE_CMD 1 then t.resetAtEdge else t
      z.safeOn = true → exec .safeAckEdge s = .next (if used then t else (t.inc Reg.SAFE_ACK_IGN_CNT).safeEvt 0x400))

/-- The commands of OCU (R345–R352). -/
def Obligations.OcuCommandsComplete : Prop :=
  ∀ s : State, s.unspecified = false →
    (∀ u m a, Accepted (.ocuStart u m a) s →
      let t := s.acceptNow (Reg.OCU_CMD (b2n u)) 1
      exec (.ocuStart u m a) s = .next (
      let t := t.setOcu (b2n u) { t.ocuOf (b2n u) with same := 0, diff := 0, silent := 0, heard := true }
      let cand := (b2n u) == 0 && t.reg Reg.CYC_STATE == 1 && t.tmRank ≤ 3
      (t.setOcuSt (b2n u) 1).setTim (b2n u) 5 4 (if cand then 1 else 0))) ∧
    (∀ u m a, Accepted (.ocuStop u m a) s →
      let t := s.acceptBusy m a (Reg.OCU_CMD (b2n u)) 2
      exec (.ocuStop u m a) s = .next (
      if t.ocuHead (b2n u) then
        (t.setOcu (b2n u) { t.ocuOf (b2n u) with stopLeft := 8 }).setState (ocuBlk (b2n u)) (setBit (t.reg (Reg.OCU_STATE (b2n u))) 9 true).toNat
      else t)) ∧
    (∀ u m a, Accepted (.ocuLoadSched u m a) s →
      let t := s.acceptNow (Reg.OCU_CMD (b2n u)) 3
      exec (.ocuLoadSched u m a) s = .next (
      let t := (List.range 20).foldl (fun (t : State) i =>
        t.setReg (Reg.OCU_SCH_ID (b2n u) + 4 * i) (t.reg (Reg.OCU_SCH_ID_S (b2n u) + 4 * i))) t
      t.setOcu (b2n u) { t.ocuOf (b2n u) with loaded := true })) ∧
    (∀ u m a, Accepted (.ocuMbSend u m a) s →
      let t := s.acceptNow (Reg.OCU_CMD (b2n u)) 5
      exec (.ocuMbSend u m a) s = .next (
      let w := t.reg (Reg.OCU_MBTX_CTL (b2n u))
      let dst := fld w 11 0
      let data := (List.range (t.mbLen (b2n u) / 4)).map (fun i => t.reg (Reg.OCU_MBTX_DATA (b2n u) i))
      let f := t.dynFrame (b2n u) 3 dst (Config.dynSeq 3 dst).toNat (bitOf w 15) (wordOfNat (fld w 14 12)) 0 data
      let t := (t.queueOwn (b2n u) 3 f).setReg (Reg.OCU_MBTX_STAT (b2n u)) 0x100
      t.setOcu (b2n u) { t.ocuOf (b2n u) with mb := some (dst, bitOf w 15, t.now) })) ∧
    (∀ u m a, Accepted (.ocuMbRelease u m a) s →
      let r := Reg.OCU_MBRX_STAT (b2n u) (a.arg.toNat % 8)
      let t := s.acceptNow (Reg.OCU_CMD (b2n u)) 6
      exec (.ocuMbRelease u m a) s = .next (t.setReg r (setBit (t.reg r) 31 false))) ∧
    (∀ u m a, Accepted (.ocuBulkSend u m a) s →
      let len := (s.reg (Reg.OCU_BTX_LEN (b2n u))).toNat
      let t := s.acceptNow (Reg.OCU_CMD (b2n u)) 7
      exec (.ocuBulkSend u m a) s = .next (
      let d := t.reg (Reg.OCU_BTX_DST (b2n u))
      let src := fld (t.reg (Reg.OCU_BTX_SRC_HI (b2n u))) 7 0 * 2 ^ 32 + (t.reg (Reg.OCU_BTX_SRC_LO (b2n u))).toNat / 8 * 8
      let t := (t.setReg (Reg.OCU_BTX_STAT (b2n u)) 1).setReg (Reg.OCU_BTX_ACKED (b2n u)) 0
      t.setOcu (b2n u) { t.ocuOf (b2n u) with bulk := some ⟨fld d 11 0, fld d 18 16, src, len, 0, 0, 0, t.now⟩ })) ∧
    (∀ u m a, AbortAccepted (.ocuAbort u m a) s →
      let t := s.aborted (Reg.OCU_CMD (b2n u))
      exec (.ocuAbort u m a) s = .next (
      let t := (t.setOcu (b2n u) { t.ocuOf (b2n u) with stopLeft := 0 }).setState (ocuBlk (b2n u))
        (setBit (t.reg (Reg.OCU_STATE (b2n u))) 9 false).toNat
      let t := if (t.ocuOf (b2n u)).mb.isSome then t.mbEnd (b2n u) 3 else t
      if (t.ocuOf (b2n u)).bulk.isSome then t.bulkEnd (b2n u) 2 0 else t))

/-- Links, cairn frames and head changes of a ring (R325–R327, R362–R373). -/
def Obligations.RingLinkComplete : Prop :=
  ∀ s : State, s.unspecified = false →
    (∀ u p dt b,
      s.ringOpens (b2n u) dt.toNat = true →
      let v := s.ringAt (b2n u) dt.toNat
      let byte (i : Nat) : Nat := b.toNat / 2 ^ (8 * (i - 1)) % 256
      ¬ ((!bitOf (v.reg (Reg.OCU_P_STAT (b2n u) (b2n p))) 0) = true) →
      exec (.linkBlockReceived u p dt b) s = .next (
        if crc8 [byte 1, byte 2, byte 3, byte 4, byte 5] != byte 6 then v.inc (Reg.OCU_P_BLKERR_CNT (b2n u) (b2n p))
        else
          let h := byte 1 + byte 2 * 256
          let rxok := h / 0x2000 % 2 == 1
          let w := v.reg (Reg.OCU_P_STAT (b2n u) (b2n p))
          let v := v.setReg (Reg.OCU_P_STAT (b2n u) (b2n p)) (setBit (setFld w 27 16 (h % 4096)) 3 (h / 0x8000 % 2 == 1))
          let x := v.ocuPort (b2n u) (b2n p)
          let same := rxok && h % 4096 == fld (v.reg (Reg.OCU_P_LOOP (b2n u) (b2n p))) 27 16
          let x := { x with link := some v.now, zero := if rxok then 0 else x.zero + 1, peerLoop := h / 0x1000 % 2 == 1, good := if same then (match x.good with
                              | some t => some t
                              | none => some v.now) else none }
          (v.setOcuPort (b2n u) (b2n p) x).linkStat (b2n u) (b2n p))) ∧
    (∀ u p,
      s.ringOpens (b2n u) 0 = true →
      let t := s.ringAt (b2n u) 0
      exec (.blockLockAcquired u p) s = .next ((t.setReg (Reg.OCU_P_STAT (b2n u) (b2n p)) (setBit (t.reg (Reg.OCU_P_STAT (b2n u) (b2n p))) 0 true)).linkStat (b2n u) (b2n p))) ∧
    (∀ u p,
      s.ringOpens (b2n u) 0 = true →
      let t := s.ringAt (b2n u) 0
      ¬ ((!bitOf (t.reg (Reg.OCU_P_STAT (b2n u) (b2n p))) 0) = true) →
      exec (.blockLockLost u p) s = .next (
        let t := t.addSat (Reg.OCU_P_BLKERR_CNT (b2n u) (b2n p)) 16
        let t := t.setOcuPort (b2n u) (b2n p) { t.ocuPort (b2n u) (b2n p) with hops := [], reqs := [] }
        let t := t.setReg (Reg.OCU_P_STAT (b2n u) (b2n p)) (setBit (t.reg (Reg.OCU_P_STAT (b2n u) (b2n p))) 0 false)
        (t.linkStat (b2n u) (b2n p)).ocuDelays (b2n u))) ∧
    (∀ u p dt, s.ringOpens (b2n u) dt.toNat = true →
      let t := (s.ringAt (b2n u) dt.toNat).linkStat (b2n u) (b2n p)
      let c := t.breakCause (b2n u) (b2n p)
      let x := t.ocuPort (b2n u) (b2n p)
      let l := setFld (t.reg (Reg.OCU_P_LOOP (b2n u) (b2n p))) 27 16 (fld (t.reg (Reg.OCU_P_STAT (b2n u) (b2n p))) 27 16)
      let v := (t.setOcuPort (b2n u) (b2n p) { x with pend := c, good := none }).setReg (Reg.OCU_P_LOOP (b2n u) (b2n p))
        (setFld l 6 4 c)
      let r := v.finding 5 (2 * b2n u + b2n p) 1 (ocuBlk (b2n u)) (v.reg (Reg.OCU_EVT (b2n u)))
      ¬ (t.ocuSt (b2n u) = 0 ∨ c = 0 ∨ t.ocuLooped (b2n u) (b2n p) ∨ x.pend ≠ 0) →
      exec (.linkBreak u p dt) s = .next (if r.2 then
        (r.1.orReg (Reg.OCU_P_LOOP (b2n u) (b2n p)) 2).faultEvent 2 (ocuBlk (b2n u)) 5 (2 * b2n u + b2n p)
          (r.1.reg (Reg.OCU_EVT (b2n u)))
        else r.1)) ∧
    (∀ u p,
      s.ringOpens (b2n u) 0 = true →
      let v := s.ringAt (b2n u) 0
      let v := v.linkStat (b2n u) (b2n p)
      let x := v.ocuPort (b2n u) (b2n p)
      let l := v.reg (Reg.OCU_P_LOOP (b2n u) (b2n p))
      let long := match x.good with
        | some t => decide (t + v.restoreFc (b2n u) * 31250 ≤ v.now)
        | none => false
      (bitOf l 0 && !bitOf l 1 && long && v.ocuLinkup (b2n u) (b2n p) && v.hasT0 && fld (v.reg Reg.CYC_COUNT) 7 0 == 0) = true →
      exec (.portRestore u p) s = .next (
        let v := (v.setOcuPort (b2n u) (b2n p) { x with hops := [], reqs := [], up := none }).setRegs [(Reg.OCU_P_LOOP (b2n u) (b2n p), setBit l 0 false), (Reg.OCU_P_STAT (b2n u) (b2n p), setBit (v.reg (Reg.OCU_P_STAT (b2n u) (b2n p))) 2 false)]
        ((v.ocuEvt (b2n u) 15).pubReg (ocuBlk (b2n u)) (1 + (b2n p)) (Reg.OCU_P_LOOP (b2n u) (b2n p))).ocuDelays (b2n u))) ∧
    (∀ u p dt f,
      s.ringOpens (b2n u) dt.toNat = true →
      let t := s.ringAt (b2n u) dt.toNat
      ¬ (t.ocuLooped (b2n u) (b2n p) ∨ fType (fw f 0) ≠ 1) →
      exec (.cairnFrameReceived u p dt f) s = .next (
        let c := frameCheck f
        let t := t.countFrame (b2n u) (b2n p) c
        match c with
        | .good =>
          if t.ocuHead (b2n u) then
            if t.isOwn (b2n u) (fSrc (fw f 0)) then t.cairnReturned (b2n u) f
            else
              let t := (t.inc (Reg.OCU_COLL_CNT (b2n u))).ocuEvt (b2n u) 16
              if (b2n u) = 0 then t.setOcu (b2n u) { t.ocuOf (b2n u) with collide := some (!t.otherWins (b2n u) f) } else t
          else (t.sendFrame (b2n u) (1 - (b2n p)) (moreHops f)).cairnHeard (b2n u) (b2n p) f
        | .stomped => t.sendFrame (b2n u) (1 - (b2n p)) (moreHops f)
        | _ => t.sendFrame (b2n u) (1 - (b2n p)) (moreHops (stompFrame f)))) ∧
    (
      s.ringOpens 0 0 = true →
      let t := s.ringAt 0 0
      let cand := fld (t.reg (Reg.OCU_TIM_STAT 0)) 5 4
      let q := t.ocuOf 0
      (cand = 1 ∨ cand = 2) ∧ 3 ≤ q.silent ∧ !q.heard ∧ t.hasT0 ∧ t.reg Reg.CYC_STATE = 1 ∧ t.now = t.t0 ∧ q.silentAt + t.tmRank * 10000 ≤ t.now ∧ !t.ocuYield 0 →
      exec .headEmissionStart s = .next (t.becomeHead 0)) ∧
    (
      s.ringOpens 0 0 = true →
      let t := s.ringAt 0 0
      let q := t.ocuOf 0
      let r := t.tmRank
      1 ≤ r ∧ r ≤ 3 ∧ t.reg Reg.CYC_STATE = 4 ∧ r + 1 ≤ q.silent ∧ !q.heard ∧ t.hasT0 ∧ t.now = t.t0 ∧ t.ocuSt 0 ≠ 0 ∧ !t.ocuYield 0 →
      exec .takeover s = .next (
        let t := (t.setReg Reg.TB_STAT (setBit (t.reg Reg.TB_STAT) 0 false)).setState 9 1
        ((t.inc (Reg.OCU_TAKE_CNT 0)).ocuEvt 0 18).becomeHead 0))

/-- Slots and delay frames of a ring (R335–R338, R357–R359). -/
def Obligations.RingSlotsComplete : Prop :=
  ∀ s : State, s.unspecified = false →
    (∀ u p dt f,
      s.ringOpens (b2n u) dt.toNat = true →
      let t := s.ringAt (b2n u) dt.toNat
      ¬ (t.ocuLooped (b2n u) (b2n p) ∨ fType (fw f 0) ≠ 2) →
      exec (.slotFrameReceived u p dt f) s = .next (
        let c := frameCheck f
        let t := t.countFrame (b2n u) (b2n p) c
        let h := fw f 0
        let i := fSlot h
        match c with
        | .good =>
          if t.isOwn (b2n u) (fSrc h) then t
          else if t.ocuHead (b2n u) && fReins h then
            let t := if fLoop h then t else (t.inc (Reg.OCU_ORPHAN_CNT (b2n u))).ocuEvt (b2n u) 6
            t.slotTake (b2n u) (b2n p) f
          else if t.ownsSlot (b2n u) i then (t.inc (Reg.OCU_OWNCONF_CNT (b2n u))).ocuEvt (b2n u) 12
          else if t.ocuHead (b2n u) then
            let from_ := t.nowPs + 34 * t.tBlk (b2n u) + 100000
            let t := t.setOcu (b2n u) { t.ocuOf (b2n u) with hold := smPut (t.ocuOf (b2n u)).hold (2 * i + (1 - (b2n p))) (f.set 0 (setBit h 26 true), from_) }
            t.slotTake (b2n u) (b2n p) f
          else (t.sendFrame (b2n u) (1 - (b2n p)) f).slotTake (b2n u) (b2n p) f
        | .stomped => t.sendFrame (b2n u) (1 - (b2n p)) f
        | _ => t.sendFrame (b2n u) (1 - (b2n p)) (stompFrame f))) ∧
    (∀ u i west prev late collide, s.ringOpens (b2n u) 0 = true →
      let t := s.ringAt (b2n u) 0
      t.ownsSlot (b2n u) i.toNat = true → t.ocuSt (b2n u) = 2 → t.ocuYield (b2n u) = false → t.hasT0 = true →
      t.delayOf (b2n u) (b2n west) = none →
      exec (.slotFill u i west prev late collide) s = .next (t.leaveEmpty (b2n u))) ∧
    (∀ (u : Bool) (i : BitVec 6) (west prev : Bool) (late : BitVec 16) (collide : Bool) (d : Int) (e : Nat), s.ringOpens (b2n u) 0 = true →
      let t := s.ringAt (b2n u) 0
      let cc := (fld (t.reg Reg.CYC_COUNT) 7 0 + 256 - b2n prev) % 256
      t.ownsSlot (b2n u) i.toNat = true → t.ocuSt (b2n u) = 2 → t.ocuYield (b2n u) = false → t.hasT0 = true →
      t.delayOf (b2n u) (b2n west) = some (d, e) →
      exec (.slotFill u i west prev late collide) s = .next (
        t.advancePs (t.trainT0 cc + t.slotOfs (b2n u) i.toNat + sixteenths d) fun t =>
          let v := t.slotSnap (b2n u) i.toNat cc
          if !v.mayFill (b2n u) ∨ late.toNat > 320 then v.leaveEmpty (b2n u)
          else (v.setTim (b2n u) 8 8 0).within late.toNat fun x =>
            if collide then x.inc (Reg.OCU_GUARDCOL_CNT (b2n u))
            else match smFind (x.ocuOf (b2n u)).snaps i.toNat with
              | some (_, ws) => x.sendFrame (b2n u) (b2n west)
                  (withCrc (mkH0 2 (b2n west) i.toNat (x.ocuAddr (b2n u)) cc :: ws ++ [0]))
              | none => x)) ∧
    (∀ u i p,
      s.ringOpens (b2n u) 0 = true →
      let t := s.ringAt (b2n u) 0
      ∀ f from_,
      smFind (t.ocuOf (b2n u)).hold (2 * i.toNat + (b2n p)) = some (f, from_) →
      let due := t.t0Ps + t.slotOfs (b2n u) i.toNat
      t.ocuHead (b2n u) && t.hasT0 && from_ ≤ due →
      exec (.slotReinsertion u i p) s = .next (
        t.advancePs due fun t =>
        (t.setOcu (b2n u) { t.ocuOf (b2n u) with hold := smDel (t.ocuOf (b2n u)).hold (2 * i.toNat + (b2n p)) }).sendFrame (b2n u) (b2n p) f)) ∧
    (∀ u p dt arriving,
      s.ringOpens (b2n u) dt.toNat = true →
      let t := s.ringAt (b2n u) dt.toNat
      let x := t.ocuPort (b2n u) (b2n p)
      let f := t.delayFrame (b2n u) (b2n p) 1 (x.seq % 256) 0
      (t.delayMay (b2n u) (b2n p) arriving f && !x.asked) = true →
      exec (.delayReqSend u p dt arriving) s = .next (
        let t1 := t.tb24 / 2 ^ 20
        let reqs := (x.reqs.filter (fun r => t.now ≤ r.2.2 + 62500)) ++ [(x.seq % 256, t1, t.now)]
        let t := t.setOcuPort (b2n u) (b2n p) { x with seq := (x.seq + 1) % 256, asked := t.hasT0, reqs := reqs, busyTill := t.nowPs + t.frameTime (b2n u) f }
        t.sendFrame (b2n u) (b2n p) f)) ∧
    (∀ (u p : Bool) dt f (turn : BitVec 24) arriving, s.ringOpens (b2n u) dt.toNat = true →
      let t := s.ringAt (b2n u) dt.toNat
      let v := t.countFrame (b2n u) (b2n p) (frameCheck f)
      ¬ t.ocuLooped (b2n u) (b2n p) → fType (fw f 0) = 3 → fSlot (fw f 0) = 8 → v.ocuSt (b2n u) ≠ 0 →
      delayKind f = some 1 →
      exec (.delayReqReceived u p dt f turn arriving) s = .next (
        ((v.delayLearn (b2n u) (b2n p) f).within turn.toNat fun x =>
          let r := x.delayFrame (b2n u) (b2n p) 2 (fCc (fw f 0)) turn.toNat
          if x.delayMay (b2n u) (b2n p) arriving r then
            (x.setOcuPort (b2n u) (b2n p) { x.ocuPort (b2n u) (b2n p) with
              busyTill := x.nowPs + x.frameTime (b2n u) r }).sendFrame (b2n u) (b2n p) r
          else x).ocuDelays (b2n u))) ∧
    (∀ (u p : Bool) dt f n t1 since, s.ringOpens (b2n u) dt.toNat = true →
      let t := s.ringAt (b2n u) dt.toNat
      let v := (t.countFrame (b2n u) (b2n p) (frameCheck f)).delayLearn (b2n u) (b2n p) f
      ¬ t.ocuLooped (b2n u) (b2n p) → fType (fw f 0) = 3 → fSlot (fw f 0) = 8 →
      (t.countFrame (b2n u) (b2n p) (frameCheck f)).ocuSt (b2n u) ≠ 0 → delayKind f = some 2 →
      (v.ocuPort (b2n u) (b2n p)).reqs.find? (fun r => r.1 == fCc (fw f 0) && decide (v.now ≤ r.2.2 + 62500)) =
        some (n, t1, since) →
      let d : Int := (v.tb24 / 2 ^ 20 : Nat) - (t1 : Int) - (fw f 3).toNat
      exec (.delayRspReceived u p dt f) s = .next (
        (v.setOcuPort (b2n u) (b2n p) { v.ocuPort (b2n u) (b2n p) with
          reqs := (v.ocuPort (b2n u) (b2n p)).reqs.filter (fun r => r.1 != n),
          hops := (d :: (v.ocuPort (b2n u) (b2n p)).hops).take 8 }).ocuDelays (b2n u)))

/-- Dynamic frames, timeouts and the remote window (R339–R346). -/
def Obligations.RingDynComplete : Prop :=
  ∀ s : State, s.unspecified = false →
    let dynRead (u p : Nat) (f : List Word) (t : State) : State :=
      let v := t.countFrame u p (frameCheck f)
      match frameCheck f with
      | .good => v.dynGood u p f
      | .stomped => v.dynPass u p f
      | _ => v.dynPass u p (stompFrame f)
    (∀ (u p : Bool) (m : BitVec 10) (prev arriving : Bool),
      s.ringOpens (b2n u) 0 = true →
      let t := s.ringAt (b2n u) 0
      let go (t : State) : State :=
        if t.nMs (b2n u) ≤ m.toNat ∨ arriving ∨ t.nowPs < (t.ocuPort (b2n u) (b2n p)).busyTill then t else t.dynBoundary (b2n u) (b2n p) m.toNat
      let cc := (fld (t.reg Reg.CYC_COUNT) 7 0 + 256 - b2n prev) % 256
      t.hasT0 = true →
      exec (.dynFrameSend u p m prev arriving) s = .next (
        match t.delayOf (b2n u) (b2n p) with
        | some (d, _) => t.advancePs (t.trainT0 cc + t.msOfs (b2n u) m.toNat + sixteenths d) go
        | none => go t)) ∧
    (∀ (u p : Bool) dt f, s.ringOpens (b2n u) dt.toNat = true →
      let t := s.ringAt (b2n u) dt.toNat
      ¬ t.ocuLooped (b2n u) (b2n p) → fType (fw f 0) = 3 → fSlot (fw f 0) = 1 →
      exec (.rraReq u p dt f) s = .next (dynRead (b2n u) (b2n p) f t)) ∧
    (∀ (u p : Bool) dt f, s.ringOpens (b2n u) dt.toNat = true →
      let t := s.ringAt (b2n u) dt.toNat
      ¬ t.ocuLooped (b2n u) (b2n p) → fType (fw f 0) = 3 → fSlot (fw f 0) = 2 →
      exec (.rraRsp u p dt f) s = .next (dynRead (b2n u) (b2n p) f t)) ∧
    (∀ (u p : Bool) dt f, s.ringOpens (b2n u) dt.toNat = true →
      let t := s.ringAt (b2n u) dt.toNat
      ¬ t.ocuLooped (b2n u) (b2n p) → fType (fw f 0) = 3 → fSlot (fw f 0) = 3 →
      exec (.mbox u p dt f) s = .next (dynRead (b2n u) (b2n p) f t)) ∧
    (∀ (u p : Bool) dt f, s.ringOpens (b2n u) dt.toNat = true →
      let t := s.ringAt (b2n u) dt.toNat
      ¬ t.ocuLooped (b2n u) (b2n p) → fType (fw f 0) = 3 → fSlot (fw f 0) = 4 →
      exec (.mboxAck u p dt f) s = .next (dynRead (b2n u) (b2n p) f t)) ∧
    (∀ (u p : Bool) dt f, s.ringOpens (b2n u) dt.toNat = true →
      let t := s.ringAt (b2n u) dt.toNat
      ¬ t.ocuLooped (b2n u) (b2n p) → fType (fw f 0) = 3 → fSlot (fw f 0) = 5 →
      exec (.bulkData u p dt f) s = .next (dynRead (b2n u) (b2n p) f t)) ∧
    (∀ (u p : Bool) dt f, s.ringOpens (b2n u) dt.toNat = true →
      let t := s.ringAt (b2n u) dt.toNat
      ¬ t.ocuLooped (b2n u) (b2n p) → fType (fw f 0) = 3 → fSlot (fw f 0) = 6 →
      exec (.bulkAck u p dt f) s = .next (dynRead (b2n u) (b2n p) f t)) ∧
    (∀ (u p : Bool) dt f, s.ringOpens (b2n u) dt.toNat = true →
      let t := s.ringAt (b2n u) dt.toNat
      ¬ t.ocuLooped (b2n u) (b2n p) → fType (fw f 0) = 3 → fSlot (fw f 0) ≠ 8 →
      exec (.dynamicFrameReceived u p dt f) s = .next (dynRead (b2n u) (b2n p) f t)) ∧
    (∀ (u : Bool) dst seq r, s.ringOpens (b2n u) 0 = true →
      let t := s.ringAt (b2n u) 0
      (t.ocuOf (b2n u)).rra.find? (fun r => r.dst == dst.toNat && r.seq == seq.toNat) = some r →
      exec (.rraTimeout u dst seq) s = .next (
        t.advancePs ((r.since + t.rraTmo (b2n u) * 31250 : Nat) * 1000) fun v =>
          let o := v.ocuOf (b2n u)
          let f := v.rraFrame (b2n u) r
          if r.tries < v.rraRetry (b2n u) then
            let again := { r with tries := r.tries + 1, since := v.now }
            let x := v.setOcu (b2n u) { o with rra := o.rra.map (fun x => if x = r then again else x) }
            if o.own.contains (1, f) then x else x.queueOwn (b2n u) 1 f
          else
            let x := v.setOcu (b2n u) { o with own := o.own.filter (fun x => x != (1, f)) }
            let x := (x.inc (Reg.OCU_RRA_TMO_CNT (b2n u))).setReg (Reg.OCU_RRA_LASTERR (b2n u))
              (wordOfNat (0x10000000 + r.dst))
            (x.ocuEvt (b2n u) 4).rraFinish (b2n u) r r.failed)) ∧
    (∀ (u : Bool) (f : Nat) (n : Bool) (t0 : Nat), s.ringOpens (b2n u) 0 = true →
      let t := s.ringAt (b2n u) 0
      (t.ocuOf (b2n u)).mb = some (f, n, t0) →
      exec (.mboxTimeout u) s = .next (
        t.advancePs ((t0 + t.rraTmo (b2n u) * 31250 : Nat) * 1000) fun v => v.mbEnd (b2n u) 3)) ∧
    (∀ u,
      s.ringOpens (b2n u) 0 = true →
      let t := s.ringAt (b2n u) 0
      ∀ b,
      (t.ocuOf (b2n u)).bulk = some b →
      exec (.bulkTimeout u) s = .next (
        t.advancePs ((b.since + t.rraTmo (b2n u) * 31250 : Nat) * 1000) fun t =>
        if t.rraRetry (b2n u) ≤ b.tries then t.bulkEnd (b2n u) 2 0
        else t.setOcu (b2n u) { t.ocuOf (b2n u) with bulk := some { b with next := b.acked, tries := b.tries + 1, since := t.now } })) ∧
    (∀ m (chip : BitVec 6) ofs count data, m ≠ .host → chip.toNat ≠ s.chipNo →
      let ws := data.getD (List.replicate (count.toNat + 1) 0)
      ¬ (ws.isEmpty ∨ 16 < ws.length) →
      exec (.remoteWindowAccess m chip ofs count data) s = .next (
        s.remoteAccess m chip.toNat (ofs.toNat / 4 * 4) (if data.isSome then 2 else 1) ws.length (data.getD []) 4))

/-- The commands and events of TB (R377–R389). -/
def Obligations.TbComplete : Prop :=
  ∀ s : State, s.unspecified = false →
    (∀ m a, Accepted (.tbSet m a) s →
      let t := s.acceptNow Reg.TB_CMD 1
      exec (.tbSet m a) s = .next (
      let ns := (t.reg Reg.TB_SET_ERA).toNat * 2 ^ 32 + (t.reg Reg.TB_SET_NS).toNat
      ((t.setRemain 0).loadTime (ns * 2 ^ 24 + fld (t.reg Reg.TB_SET_FRAC) 31 8)).tbEvt 8)) ∧
    (∀ m a, Accepted (.tbAdj m a) s →
      let t := s.acceptNow Reg.TB_CMD 2
      exec (.tbAdj m a) s = .next (
      let x := (t.reg Reg.TB_ADJ_VAL).toInt * 2 ^ 24
      if x.natAbs + t.tb.remain.natAbs > t.jumpLim * 2 ^ 24 then t.tbRefuse x else t.setRemain (t.tb.remain + x))) ∧
    (∀ m a, Accepted (.tbSnapCal m a) s →
      exec (.tbSnapCal m a) s = .next ((s.acceptBusy m a Reg.TB_CMD 3).setState 0x2C 3)) ∧
    (s.fenced.getLsbD 6 = false →
      (s.busyWith Reg.TB_CMD 3) = true →
      exec .snapCapture s = .next (
        let s := s.setRegs [(Reg.TB_SNAP_NS, s.reg Reg.TB_TIME_LO), (Reg.TB_SNAP_ERA, s.reg Reg.TB_TIME_HI), (Reg.TB_SNAP_CALS_LO, s.reg Reg.BIV_CAL_LO), (Reg.TB_SNAP_CALS_HI, setBit (s.reg Reg.BIV_CAL_HI) 31 false)]
        ((s.complete Reg.TB_CMD).tbIdle).tbEvt 0x10)) ∧
    (∀ m a, AbortAccepted (.tbAbort m a) s →
      exec (.tbAbort m a) s = .next (((s.aborted Reg.TB_CMD).setRemain 0).tbIdle)) ∧
    (s.fenced.getLsbD 6 = false →
      let t := (((s.reg Reg.TB_TIME_HI).toNat + 1) * 2 ^ 32 + s.tb.ofs).toNat
      (s.beforeT0 (t * 2 ^ 24)) = true →
      exec .tbWrap s = .next (s.advanceTo t)) ∧
    (s.fenced.getLsbD 6 = false →
      let r := s.tb.remain
      let ticks := (r.natAbs + s.tbSlew - 1) / s.tbSlew
      let t := ((s.time24 : Int) + ticks * s.tbInc + r).toNat
      r ≠ 0 ∧ s.beforeT0 t →
      exec .slewComplete s = .next ((s.moveTime t).setRemain 0)) ∧
    (∀ m, s.opens Reg.TB_TIME_LO = true → exec (.tbTimeRead m) s = .next (
      let p := mport m
      ((s.latch p Reg.TB_TIME_HI (s.reg Reg.TB_TIME_HI)).latch p Reg.TB_FRAC (s.reg Reg.TB_FRAC)).answer p
        (s.reg Reg.TB_TIME_LO) false))

/-- The commands, rings and frames of ETH (R394–R402). -/
def Obligations.EthComplete : Prop :=
  ∀ s : State, s.unspecified = false →
    (∀ k m a, Accepted (.ethStart k m a) s →
      exec (.ethStart k m a) s = .next (((s.ethSettle (b2n k)).acceptNow (Reg.ETH_CMD (b2n k)) 1).setEthSt (b2n k) 1)) ∧
    (∀ k m a, Accepted (.ethStop k m a) s →
      exec (.ethStop k m a) s =
        .next (((s.ethSettle (b2n k)).acceptBusy m a (Reg.ETH_CMD (b2n k)) 2).ethSettle (b2n k))) ∧
    (∀ k m a, Accepted (.ethMdio k m a) s →
      exec (.ethMdio k m a) s = .next ((s.ethSettle (b2n k)).acceptBusy m a (Reg.ETH_CMD (b2n k)) 4)) ∧
    (∀ k data, s.fenced.getLsbD 10 = false →
      (s.busyWith (Reg.ETH_CMD (b2n k)) 4) = true →
      exec (.ethMdioDone k data) s = .next (
        let s := if fld (s.reg (Reg.ETH_MDIO_CTL (b2n k))) 29 28 = 2 then s.setReg (Reg.ETH_MDIO_DATA (b2n k)) (wordOfNat data.toNat) else s
        (s.complete (Reg.ETH_CMD (b2n k))).ethEvt (b2n k) 6)) ∧
    (∀ k m a, AbortAccepted (.ethAbort k m a) s →
      exec (.ethAbort k m a) s = .next ((List.range 8).foldl (fun (t : State) q =>
        let r := ethRing (b2n k) q true
        ethFlush (b2n k) r (t.ringCnt r) (t.setReg (r + 0x14) (setBit (t.reg (r + 0x14)) 0 false)))
        ((s.ethSettle (b2n k)).aborted (Reg.ETH_CMD (b2n k))))) ∧
    (∀ k jit q, s.fenced.getLsbD 10 = false →
      let t := (s.ethSettle (b2n k)).ethStopQueues (b2n k) true
      t.txPick (b2n k) = some q →
      t.wireFree (b2n k) = true →
      exec (.ethFrameTransmit k jit) s = .next (t.txSend (b2n k) (ethRing (b2n k) q true) false jit.toInt)) ∧
    (∀ k jit q, s.fenced.getLsbD 10 = false →
      let t := (s.ethSettle (b2n k)).ethStopQueues (b2n k) true
      let r := ethRing (b2n k) q true
      let due := t.launchDue (b2n k) r
      let x := t.ethMac (b2n k)
      let start := max (max (max due 0).toNat t.now) (max x.wireTill x.pauseTill)
      let late := (start : Int) - due
      let v := t.advanceTo start
      t.launchPick (b2n k) = some q → ¬ (!t.ethRuns (b2n k) ∨ t.busyWith (Reg.ETH_CMD (b2n k)) 2 ∨ !t.beforeT0 (start * 2 ^ 24)) →
      exec (.launchTime k jit) s = .next (
        if late ≤ 0 then v.txSend (b2n k) r false jit.toInt
        else if late ≤ (v.reg (Reg.ETH_LT_TOL (b2n k))).toNat then v.txSend (b2n k) r true jit.toInt
        else ((v.inc (Reg.ETH_LATE_CNT (b2n k))).ethEvt (b2n k) 2).txDone (b2n k) r 3)) ∧
    (∀ k f jit, s.fenced.getLsbD 10 = false →
      let t := s.ethSettle (b2n k)
      let n := f.length - 4
      let fcs := (List.range 4).foldl (fun x i => x + fb f (n + i) * 2 ^ (8 * i)) 0
      let v := t.ethStopQueues (b2n k) false
      let c := v.reg (Reg.ETH_CFG (b2n k))
      let tag := vlanTagged f
      let pcp := fb f 14 / 32
      let q := if isPtp f then fld c 18 16 else if bitOf c 19 ∧ tag then pcp else 0
      let r := ethRing (b2n k) q false
      t.ethRuns (b2n k) = true → 64 ≤ f.length → f.length ≤ 2004 →
      crc32 ((f.take n).map (fun b => b.toNat)) = fcs →
      ¬ (t.isPause (b2n k) f ∧ bitOf (t.reg (Reg.ETH_CFG (b2n k))) 11) → t.ethAccepts (b2n k) f = true →
      (t.ethMac (b2n k)).warm = false → v.ringReady r = true → (v.ethMac (b2n k)).rxStop.contains q = false →
      let d := v.ringDesc r
      let z := if v.inMemory (v.descBuf d) n then v.setBytes (v.descBuf d) (f.take n) else v
      let w2 := n + b2n tag * 0x10000 + (if tag then pcp * 0x20000 else 0) + b2n (isPtp f) * 0x100000
      let ts := z.reg Reg.TB_TIME_LO + wordOfInt (jit.toInt - fld (z.reg (Reg.ETH_RXLAT (b2n k))) 15 0)
      let z := ((z.setWord (d + 8) (wordOfNat w2)).setWord (d + 12) ts).ringPass r
      exec (.ethFrameReceive k f jit) s = .next ((z.inc (Reg.ETH_RXFRM_CNT (b2n k))).ethEvt (b2n k) 1)) ∧
    (∀ m k q x, s.opens (ethRing (b2n k) q.toNat true + 0x10) = true →
      let t := s.setReg (ethRing (b2n k) q.toNat true + 0x10) x
      exec (.txtailWrite m k q x) s = .next (t.setEth (b2n k) { s.ethMac (b2n k) with
        txStop := (s.ethMac (b2n k)).txStop.filter (fun i => i != q.toNat) })) ∧
    (∀ m k q x, s.opens (ethRing (b2n k) q.toNat false + 0x10) = true →
      let t := s.setReg (ethRing (b2n k) q.toNat false + 0x10) x
      exec (.rxtailWrite m k q x) s = .next (t.setEth (b2n k) { s.ethMac (b2n k) with
        rxStop := (s.ethMac (b2n k)).rxStop.filter (fun i => i != q.toNat) })) ∧
    (∀ k link speed, s.fenced.getLsbD 10 = false →
      let w := s.reg (Reg.ETH_STATE (b2n k))
      let w' := setFld (setBit w 8 link) 10 9 speed.toNat
      ¬ (w = w') →
      exec (.ethLinkChange k link speed) s = .next ((s.setState (ethBlk (b2n k)) w'.toNat).ethEvt (b2n k) 4))

/-- The commands of CAN (R410–R420). -/
def Obligations.CanCommandsComplete : Prop :=
  ∀ s : State, s.unspecified = false →
    (∀ k m a, Accepted (.canStart k m a) s →
      exec (.canStart k m a) s = .next ((s.acceptNow (Reg.CAN_CMD k.toNat) 1).canIntegrate k.toNat)) ∧
    (∀ k m a, Accepted (.canStop k m a) s →
      exec (.canStop k m a) s = .next ((s.acceptBusy m a (Reg.CAN_CMD k.toNat) 2).canSettle k.toNat)) ∧
    (∀ k m a, Accepted (.canSleep k m a) s →
      exec (.canSleep k m a) s = .next ((s.acceptBusy m a (Reg.CAN_CMD k.toNat) 3).canSettle k.toNat)) ∧
    (∀ k m a, Accepted (.canWake k m a) s →
      exec (.canWake k m a) s = .next ((s.acceptNow (Reg.CAN_CMD k.toNat) 4).canWakes k.toNat)) ∧
    (∀ k m a, Accepted (.canRecover k m a) s →
      exec (.canRecover k m a) s = .next ((s.acceptNow (Reg.CAN_CMD k.toNat) 5).setState (canBlk k.toNat) 4)) ∧
    (∀ k m a, Accepted (.canTxreq k m a) s →
      let b := a.arg.toNat
      exec (.canTxreq k m a) s = .next ((s.acceptNow (Reg.CAN_CMD k.toNat) 6).canRequest k.toNat b)) ∧
    (∀ k m a, Accepted (.canTxcancel k m a) s →
      let b := a.arg.toNat
      let t := s.acceptBusy m a (Reg.CAN_CMD k.toNat) 7
      exec (.canTxcancel k m a) s = .next (
      if t.canOnBus k.toNat == some b then t.setCanBuf k.toNat b { t.canBuf k.toNat b with cancel := true }
      else (t.canWithdraw k.toNat b 3).complete (Reg.CAN_CMD k.toNat))) ∧
    (∀ k m a, AbortAccepted (.canAbort k m a) s →
      let t := s.aborted (Reg.CAN_CMD k.toNat)
      exec (.canAbort k m a) s = .next ((t.canPending k.toNat).foldl (fun t p =>
      if t.canOnBus k.toNat == some p.1 then t.setCanBuf k.toNat p.1 { t.canBuf k.toNat p.1 with cancel := true }
      else t.canWithdraw k.toNat p.1 3) t))

/-- The frames and events of CAN (R408–R419). -/
def Obligations.CanEventsComplete : Prop :=
  ∀ s : State, s.unspecified = false →
    (∀ k b, s.fenced.getLsbD 10 = false →
      let c := s.reg (Reg.CAN_B_CFG k.toNat b.toNat)
      let e := if fld c 24 20 ≤ 16 then fld c 24 20 else 0
      let ph := if fld c 15 0 < 2 ^ e then fld c 15 0 else 0
      let r := s.canBuf k.toNat b.toNat
      (s.hasT0 && bitOf c 31 && bitOf c 30 && fld c 29 28 == 1 && !r.fcReq && !s.canRetired k.toNat b.toNat && (s.reg Reg.CYC_COUNT).toNat % 2 ^ e == ph) = true →
      exec (.periodicRequest k b) s = .next (((s.atOffset 1000).setCanBuf k.toNat b.toNat { r with fcReq := true }).canRequest k.toNat b.toNat)) ∧
    (∀ k f, s.fenced.getLsbD 10 = false →
      s.canSt k.toNat = 2 →
      exec (.canFrameReceived k f) s = .next (
        let r := s.canRec k.toNat
        let r := if 127 < r then 119 + (Config.canRecDrop r).val else r - 1
        ((s.setCanErr k.toNat (s.canTec k.toNat) r).canStore k.toNat f).canFrameEnd k.toNat)) ∧
    (∀ k sof tdcv, s.fenced.getLsbD 10 = false →
      ∀ b,
      s.canOnBus k.toNat = some b →
      exec (.canFrameSent k sof tdcv) s = .next (
        match (s.canBuf k.toNat b).req with
        | none => s.canFrameEnd k.toNat
        | some x =>
          let esi := fld (s.reg (Reg.CAN_ERR k.toNat)) 17 16 == 1
          let f := snapFrame x esi sof
          let s := s.canTdc k.toNat f.brs tdcv.toNat
          let s := s.setReg (Reg.CAN_B_STAT k.toNat b) (setFld (setBit (s.reg (Reg.CAN_B_STAT k.toNat b)) 1 true) 31 24 (canFrameBits f))
          let s := s.setReg (Reg.CAN_B_TS k.toNat b) sof
          let s := s.setCanBuf k.toNat b { s.canBuf k.toNat b with req := none, patt := 0, cancel := false }
          let s := (s.setCanErr k.toNat (s.canTec k.toNat - 1) (s.canRec k.toNat)).inc (Reg.CAN_TXOK_CNT k.toNat)
          let s := s.canEvt k.toNat 1
          let s := if s.canMode k.toNat = 3 then s.canStore k.toNat f else s
          s.canFrameEnd k.toNat)) ∧
    (∀ k, s.fenced.getLsbD 10 = false →
      ∀ b,
      s.canOnBus k.toNat = some b →
      exec (.arbitrationLost k) s = .next (
        let s := s.canFails k.toNat b
        let s := if s.busyWith (Reg.CAN_CMD k.toNat) 7 ∧ (s.canBuf k.toNat b).req.isNone then s.complete (Reg.CAN_CMD k.toNat) else s
        { s with can := { s.can with onBus := smDel s.can.onBus k.toNat, wait := (s.can.wait.filter (fun i => i != k.toNat)) ++ [k.toNat] } })) ∧
    (∀ k kind dphase patt exc, s.fenced.getLsbD 10 = false →
      ¬ (s.canSt k.toNat ≠ 2 ∨ kind.toNat = 0) →
      exec (.canBusError k kind dphase patt exc) s = .next (
        if kind.toNat = 7 ∧ bitOf (s.reg (Reg.CAN_CFG k.toNat)) 5 then
          (({ s with can := { s.can with onBus := smDel s.can.onBus k.toNat, wait := s.can.wait.filter (fun i => i != k.toNat) } }).canIntegrate k.toNat)
        else
          let lec := if kind.toNat = 7 then 2 else kind.toNat
          let s := s.setReg (Reg.CAN_ERR k.toNat) (setBit (setFld (s.reg (Reg.CAN_ERR k.toNat)) 22 20 lec) 23 dphase)
          let s := match s.canOnBus k.toNat with
            | some b =>
              let s := s.setCanErr k.toNat (s.canTec k.toNat + (if exc then 0 else 8)) (s.canRec k.toNat)
              let s := s.canFails k.toNat b
              if patt then s.canPattern k.toNat b else s
            | none => s.setCanErr k.toNat (s.canTec k.toNat) (min (s.canRec k.toNat + (if exc then 8 else 1)) 135)
          if 255 < s.canTec k.toNat then
            let s := ((s.inc (Reg.CAN_BUSOFF_CNT k.toNat)).setState (canBlk k.toNat) 3).canEvt k.toNat 3
            let s := s.canFrameEnd k.toNat
            if bitOf (s.reg (Reg.CAN_CFG k.toNat)) 4 ∧ s.canSt k.toNat = 3 then s.setState (canBlk k.toNat) 4 else s
          else s.canFrameEnd k.toNat)) ∧
    (∀ k, s.fenced.getLsbD 10 = false →
      s.canSt k.toNat = 1 →
      exec (.busIntegrationComplete k) s = .next ((s.setState (canBlk k.toNat) 2).canOffer k.toNat)) ∧
    (∀ k, s.fenced.getLsbD 10 = false →
      s.canSt k.toNat = 4 →
      exec (.busoffRecoveryComplete k) s = .next ((((s.setCanErr k.toNat 0 0).canIntegrate k.toNat).setState (canBlk k.toNat) 2).canOffer k.toNat)) ∧
    (∀ k ns f, s.fenced.getLsbD 10 = false →
      s.canSt k.toNat = 5 →
      exec (.wakeDetected k ns f) s = .next (
        if bitOf (s.reg (Reg.CAN_CFG k.toNat)) 9 then
          match f with
          | some x => if s.canWakeMatch k.toNat x then (s.canWakes k.toNat).canStore k.toNat x else s
          | none => s
        else if s.canWkfilt k.toNat ≤ ns.toNat then s.canWakes k.toNat else s))

/-- The queues and the work scheduler (R427–R441). -/
def Obligations.QueComplete : Prop :=
  ∀ s : State, s.unspecified = false →
    (∀ m x, s.opens Reg.QUE_ENQ_COMMIT = true → exec (.queEnqCommit m x) s = .next (
      let p := mport m
      let q := fld x 6 0
      let ext := mclass m == .external
      let c := mclassCode (mclass m)
      let item := mkItem 0 0xFF c (srcCore m) (s.reg Reg.TB_TIME_LO).toNat
        ((List.range 16).map (fun i => s.preg p (Reg.QUE_ENQ_D i)))
      if !s.qEn q || (ext && !bitOf (s.reg (Reg.QUE_Q_CFG q)) 28) then s.enqRes p q 3
      else if ext && s.warm && !s.qOwn q then s.enqRetry p q item
      else if s.queRoom q then (s.quePut q item).enqRes p q 1
      else if ext then s.enqRetry p q item
      else
        let s := { s with que := { s.que with stalls := s.que.stalls ++ [({ port := p, cls := c, queue := q, item := item, since := s.now } : Stall)] } }
        (s.inc Reg.QUE_STALL_CNT).queEvt 0)) ∧
    (∀ port,
      ∀ x,
      s.que.stalls.find? (fun x => x.port == port.toNat) = some x →
      let t := x.since + 100000
      (s.beforeT0 (t * 2 ^ 24)) = true →
      exec (.commitStallTimeout port) s = .next (
        let s := s.advanceTo t
        ({ s with que := { s.que with stalls := s.que.stalls.erase x } }).enqRetry x.port x.queue x.item)) ∧
    (∀ q err, s.fenced.getLsbD 4 = false →
      let r := s.queue q.toNat
      r.rd < r.wr ∧ r.head.length < 16 →
      exec (.headRefill q err) s = .next (
        let a := s.queSlot q.toNat r.rd
        let err := err || (List.range 8).any (fun i => s.memc.ue.contains (a / 8 + i))
        if err then
          let s := ((s.inc (Reg.QUE_Q_DEQ_CNT q.toNat)).setQueue q.toNat { r with rd := r.rd + 1 }).inc Reg.QUE_MEMERR_CNT
          let s := s.queEvt 2
          (s.faultEvent 2 0x39 0 0 (s.reg Reg.QUE_EVT)).queServe q.toNat
        else s.setQueue q.toNat { r with head := r.head ++ [(s.words a 16, s.now)], rd := r.rd + 1 })) ∧
    (s.fenced.getLsbD 4 = false →
      let t := s.applyCores true
      let v := if t.busyWith Reg.WSCH_CMD 1 then
        ((t.setReg Reg.WSCH_CFG (t.reg Reg.WSCH_CFG_PEND)).complete Reg.WSCH_CMD).syncWsch else t
      v.reg Reg.WSCH_STATE ≠ 3 →
      exec .dispatchDecision s = .next (if bitOf (v.reg Reg.WSCH_CONF) 0 then v.decideSmall else v.decideLarge)) ∧
    (∀ m, s.opens Reg.WSCH_DONE = true → exec (.wschDoneWrite m) s = .next (
      match m with
      | .core n _ =>
        if s.coreBusy n.val then
          let s := { s with wsch := { s.wsch with running := smDel s.wsch.running n.val } }
          (s.setReg Reg.WSCH_CORE_BUSY (setBit (s.reg Reg.WSCH_CORE_BUSY) n.val false)).applyCores false
        else s
      | _ => s)) ∧
    (∀ m x, s.opens Reg.WSCH_CANCEL = true → exec (.wschCancelWrite m x) s = .next (
      let q := fld x 22 16
      let tok := fld x 15 0
      let res (s : State) (v : Nat) : State := s.setPreg (mport m) Reg.WSCH_CANCEL_RES (wordOfNat (q * 0x10000 + v))
      let r := s.queue q
      match r.head.findIdx? (fun p => itemToken p.1 == tok) with
      | some i =>
        let it := r.head.getD i ([], 0)
        let h := r.head.eraseIdx i
        let h := if i = 0 then (match h with
          | (y, _) :: l => (y, s.now) :: l
          | [] => []) else h
        let s := ((s.inc (Reg.QUE_Q_DEQ_CNT q)).setQueue q { r with head := h }).queServe q
        res ((s.inc Reg.WSCH_CANCEL_CNT).trace q 4 31 it.1 it.2) 1
      | none => if r.recent.contains tok then res s 2 else res s 3)) ∧
    (∀ m a, Accepted (.wschApplyCfg m a) s →
      exec (.wschApplyCfg m a) s = .next ((s.acceptBusy m a Reg.WSCH_CMD 1).syncWsch)) ∧
    (∀ m a, AbortAccepted (.wschAbort m a) s →
      exec (.wschAbort m a) s = .next ((s.aborted Reg.WSCH_CMD).syncWsch)) ∧
    (∀ n, s.fenced.getLsbD 4 = false →
      (s.isRetired 3 n.val && bitOf (s.reg Reg.SYS_CORE_ACT) n.val) = true →
      exec (.coreRetirement n) s = .next (
        let s := s.setCoreAct (setBit (s.reg Reg.SYS_CORE_ACT) n.val false)
        let s := (List.range 256).foldl (fun (s : State) c => if s.affinity c == some n.val then s.setAffinity c 0 else s) s
        let s := match smFind s.wsch.running n.val with
          | some r =>
            let s := { s with wsch := { s.wsch with running := smDel s.wsch.running n.val } }
            let s := s.setReg Reg.WSCH_CORE_BUSY (setBit (s.reg Reg.WSCH_CORE_BUSY) n.val false)
            let s := s.setReg Reg.WSCH_LOST (wordOfNat (n.val * 0x1000000 + r.queue * 0x10000 + itemToken r.item))
            ((s.inc Reg.WSCH_LOST_CNT).raiseEvt 0x38 Reg.WSCH_EVT (some Reg.WSCH_EVT_EN) 1).trace r.queue 5 n.val r.item s.now
          | none => s
        s.applyCores false)) ∧
    (∀ m a, Accepted (.queReset m a) s →
      let q := a.arg.toNat
      let t := s.acceptBusy m a Reg.QUE_CMD 1
      exec (.queReset m a) s = .next (
      let t := t.queUnstall q
      let r := t.queue q
      (((t.addSat (Reg.QUE_Q_DEQ_CNT q) r.held).setQueue q { r with head := [], rd := 0, wr := 0 }).complete Reg.QUE_CMD).queServe q)) ∧
    (∀ m a, Accepted (.queResize m a) s →
      let q := a.arg.toNat
      exec (.queResize m a) s = .next (((s.acceptBusy m a Reg.QUE_CMD 2).setState 0x39 3).orReg (Reg.QUE_FULL_MAP (q / 32)) (bitMask (q % 32)))) ∧
    (s.fenced.getLsbD 4 = false →
      ∀ b,
      smFind s.busy Reg.QUE_CMD = some b →
      let q := b.arg % 128
      let r := s.queue q
      b.code = 2 ∧ r.held = 0 →
      exec .queueResizeComplete s = .next (
        let hi := s.reg (Reg.QUE_Q_PEND_HI q)
        let s := s.setRegs [(Reg.QUE_Q_BASE_LO q, s.reg (Reg.QUE_Q_PEND_LO q) &&& ~~~0x3F#32), (Reg.QUE_Q_BASE_HI q, wordOfNat (fld hi 20 16 * 0x10000 + fld hi 7 0))]
        (((s.complete Reg.QUE_CMD).setState 0x39 1).setQueue q { r with rd := 0, wr := 0 }).queServe q)) ∧
    (∀ m a, AbortAccepted (.queAbort m a) s →
      let t := s.aborted Reg.QUE_CMD
      exec (.queAbort m a) s = .next (
      let b := smFind s.busy Reg.QUE_CMD
      let t := t.setState 0x39 1
      match b with
      | some b => (t.setQueue (b.arg % 128) (t.queue (b.arg % 128))).queServe (b.arg % 128)
      | none => t))

/-- DRAM, the shared SRAM and MEMC (R446–R453, R484, R517). -/
def Obligations.MemoryComplete : Prop :=
  ∀ s : State, s.unspecified = false →
    (∀ m a r,
      let w := a.toNat / 4 * 4
      let bad := r.val == 2 || s.memcBad w
      regionOf s.dramUsable w = .dram → s.isFenced 0x3A = false →
      exec (.dramRead m a r) s = .next (
        (s.memcTouch.memcCheck w (r.val == 1) bad).answer (mport m) (if bad then 0 else s.word w) bad)) ∧
    (∀ m a r,
      let w := a.toNat / 4 * 4
      let bad := r.val == 2 || s.memcBad w
      w < 0x800000 → s.fenced.getLsbD 4 = false → regionGranted (mclass m) false (regionOf s.dramUsable w) = true →
      exec (.sharedSramRead m a r) s = .next (
        let t := s.sramCheck w r.val
        t.answer (mport m) (if bad then 0 else if regionOf s.dramUsable w = .sramSup then t.supWord w else t.word w) bad)) ∧
    (∀ a r pos, s.fenced.getLsbD 11 = false →
      let run := bitOf (s.reg Reg.MEMC_SCRUB_CFG) 31
      let extra := s.busyWith Reg.MEMC_CMD 1
      ¬ ((!(run || extra) || regionOf s.dramUsable a.toNat != .dram) = true) →
      exec (.patrolScrub a r pos) s = .next (
        let s := s.memcCheck a.toNat (r.val == 1) (r.val == 2 || s.memcBad a.toNat)
        if pos.toNat = 0 && !extra then s.scrubPassed
        else s.setReg Reg.MEMC_SCRUB_POS (setFld (s.reg Reg.MEMC_SCRUB_POS) 15 0 pos.toNat))) ∧
    (∀ m a, Accepted (.memcScrubNow m a) s →
      exec (.memcScrubNow m a) s = .next ((s.acceptBusy m a Reg.MEMC_CMD 1).setState 0x3A 2)) ∧
    (s.fenced.getLsbD 11 = false →
      (s.busyWith Reg.MEMC_CMD 1) = true →
      exec .scrubPassEnd s = .next ((((s.complete Reg.MEMC_CMD).setState 0x3A 1).scrubPassed).memcEvt 4)) ∧
    (∀ m a, Accepted (.memcRemap m a) s →
      let row := memcRow (s.reg Reg.MEMC_REMAP_ROW)
      let t := s.acceptBusy m a Reg.MEMC_CMD 2
      exec (.memcRemap m a) s = .next (({ t with memc := { t.memc with jobs := t.memc.jobs ++ [(row, true)] } }).setState 0x3A 3)) ∧
    (s.fenced.getLsbD 11 = false →
      ∀ row cmd rest,
      s.memc.jobs = (row, cmd) :: rest →
      exec .rowRemapComplete s = .next (
        let ch := fld row 31 31
        let u := s.reg Reg.MEMC_REMAP_USED
        let s := { s with memc := { s.memc with jobs := rest, rows := s.memc.rows ++ [row] } }
        let s := s.setReg Reg.MEMC_REMAP_USED (setFld u (16 * ch + 6) (16 * ch) (fld u (16 * ch + 6) (16 * ch) + 1))
        let s := if s.isRetired 6 (memcRowIndex row) then s else s.retire 6 (memcRowIndex row)
        let s := if cmd then (s.complete Reg.MEMC_CMD).setState 0x3A 1 else s
        s.memcEvt 2)) ∧
    (∀ m a, AbortAccepted (.memcAbort m a) s →
      let t := s.aborted Reg.MEMC_CMD
      exec (.memcAbort m a) s = .next (
      let b := smFind s.busy Reg.MEMC_CMD
      match b with
      | some c => if c.code = 1 then t.setState 0x3A 1 else t
      | none => t)) ∧
    (∀ ch code, s.fenced.getLsbD 11 = false →
      let lo := 8 * b2n ch
      let w := s.reg Reg.MEMC_TEMP
      ¬ (fld w (lo + 2) lo = code.toNat) →
      exec (.mr4RateChange ch code) s = .next ((s.setReg Reg.MEMC_TEMP (setFld w (lo + 2) lo code.toNat)).memcEvt 5)) ∧
    (∀ progress done, s.fenced.getLsbD 11 = false →
      let w := s.reg Reg.BOOT_DRAMINIT
      ¬ (s.reg Reg.SYS_STATE = 1 ∨ s.reg Reg.MEMC_USABLE = 0 ∨ bitOf w 31 ∨ (!done ∧ progress.toNat < fld w 15 0)) →
      exec (.dramCheckBitInit progress done) s = .next (s.setReg Reg.BOOT_DRAMINIT (if done then 0x8000FFFF else wordOfNat progress.toNat)))

/-- The commands, frames and read-outs of SREC (R456–R465). -/
def Obligations.SrecComplete : Prop :=
  ∀ s : State, s.unspecified = false →
    (∀ m a, Accepted (.srecStart m a) s →
      let n := fld (s.reg Reg.SREC_BUF_NBLK_S) 18 0
      let base := fld (s.reg Reg.SREC_BUF_BASE_HI_S) 7 0 * 0x100000000 + (s.reg Reg.SREC_BUF_BASE_LO_S).toNat / 0x10000 * 0x10000
      let t := s.acceptNow Reg.SREC_CMD 1
      exec (.srecStart m a) s = .next (
      let t := t.setRegs [(Reg.SREC_BUF_BASE_LO, wordOfNat base), (Reg.SREC_BUF_BASE_HI, wordOfNat (base / 0x100000000)), (Reg.SREC_BUF_NBLK, wordOfNat n), (Reg.SREC_BYTES_LO, 0), (Reg.SREC_BYTES_HI, 0), (Reg.SREC_FRAME_BYTES, 0)]
      let t := (List.range 4).foldl (fun (t : State) c => t.setRegs [(Reg.SREC_CAP_STAT c, 0), (Reg.SREC_CAP_FIRST c, 0), (Reg.SREC_CAP_SPAN c, 0), (Reg.SREC_CAP_BSEQ0 c, 0), (Reg.SREC_CAP_BSEQ1 c, 0)]) t
      let t := ({ t with srec := { rd := t.srec.rd } }).srecOpen 0 0 {}
      (if t.hasT0 then t.srecBegin else t).setState 0x3B 1)) ∧
    (∀ m a, Accepted (.srecStop m a) s →
      exec (.srecStop m a) s = .next (((s.acceptBusy m a Reg.SREC_CMD 2).setState 0x3B 2).srecStopped)) ∧
    (∀ m a, Accepted (.srecArm m a) s →
      let free := s.capFind 0
      let t := s.acceptNow Reg.SREC_CMD 3
      exec (.srecArm m a) s = .next (
      match free with
      | some n => (t.setSrecSlot n {}).setReg (Reg.SREC_CAP_STAT n) 1
      | none => t)) ∧
    (∀ m a, Accepted (.srecTrigger m a) s →
      let armed := s.capFind 1
      let t := s.acceptNow Reg.SREC_CMD 4
      exec (.srecTrigger m a) s = .next (
      match armed with
      | some n => t.srecFire n true
      | none => t)) ∧
    (∀ m a, Accepted (.srecRelease m a) s →
      let n := a.arg.toNat
      exec (.srecRelease m a) s = .next ((((s.acceptNow Reg.SREC_CMD 5).setSrecSlot n {}).setReg (Reg.SREC_CAP_STAT n) 0).srecShow)) ∧
    (∀ m a, AbortAccepted (.srecAbort m a) s →
      let t := s.aborted Reg.SREC_CMD
      exec (.srecAbort m a) s = .next (
      match t.capFind 1 with
      | some n => (t.setSrecSlot n {}).setReg (Reg.SREC_CAP_STAT n) 0
      | none => t)) ∧
    (s.fenced.getLsbD 4 = false →
      let t := if s.cycRuns then s else
        { s with srec := { s.srec with frames := s.srec.frames ++ s.srec.cur.toList, cur := none } }
      ∀ f rest, t.reg Reg.SREC_STATE ≠ 0 → t.srec.frames = f :: rest →
      exec .srecFrameWrite s = .next (({ t with srec := { t.srec with frames := rest } }).srecFrame f).srecStopped) ∧
    (s.fenced.getLsbD 4 = false →
      s.hasT0 ∧ s.phase ≤ 4900 →
      exec .signalTriggerEvaluation s = .next (
        let s := s.atOffset 4900
        let cfg := s.reg Reg.SREC_TRIG_CFG
        match s.capFind 1 with
        | some n =>
          if s.reg Reg.SREC_STATE = 1 ∧ bitOf cfg 31 then
            let t := s.ilkTerm 0 [] (cfg &&& 0x0F001FFF ||| 0x20000000) (s.reg Reg.SREC_TRIG_VAL)
            if t.val = some true then s.srecFire n false else s
          else s
        | none => s)) ∧
    (∀ m kind, s.opens Reg.SREC_RD_CTL = true →
      exec (.readoutGo m kind) s = .next (s.writeRdCtl (wordOfNat (b2n kind * 0x100 + 1)))) ∧
    (∀ m kind, s.opens Reg.SREC_RD_CTL = true →
      exec (.readoutCancel m kind) s = .next (s.writeRdCtl (wordOfNat (b2n kind * 0x100 + 2)))) ∧
    (∀ n fail, s.fenced.getLsbD 4 = false →
      ∀ r,
      s.srec.rd = some r →
      exec (.readoutComplete n fail) s = .next (
        let bad := r.kind && !s.inGeneral r.dst (r.n * 0x10000)
        let fail := fail || bad
        let k := if bad then 0 else if fail || r.cancel then min n.toNat r.n else r.n
        let ue := s.memc.ue.any (fun w => (List.range k).any (fun j =>
          let a := s.srecAddr ((r.src + j) % s.srecN); a ≤ 8 * w && 8 * w < a + 0x10000))
        let s := if r.kind then (List.range k).foldl (fun (s : State) j => s.readoutBlock r j) s else s
        s.readoutEnd k r.cancel ue fail))

/-- The commands of BOOT (R487–R495). -/
def Obligations.BootComplete : Prop :=
  ∀ s : State, s.unspecified = false →
    (∀ m a, Accepted (.bootWarm m a) s →
      let t := s.acceptBusy m a Reg.BOOT_CMD 1
      exec (.bootWarm m a) s = .next (t.warmBegin 1 t.runSlot)) ∧
    (∀ m a, Accepted (.bootVerify m a) s →
      exec (.bootVerify m a) s = .next (((s.acceptBusy m a Reg.BOOT_CMD 2).setState 2 3).bootTake)) ∧
    (∀ err,
      ∀ b,
      smFind s.busy Reg.BOOT_CMD = some b →
      b.code = 2 →
      exec (.verifyDone err) s = .next (((s.complete Reg.BOOT_CMD).setState 2 2).verifyEnd (b.arg % 2) (s.verifyCode (b.arg % 2) err))) ∧
    (∀ m a, Accepted (.bootCommit m a) s →
      let k := a.arg.toNat
      exec (.bootCommit m a) s = .next ((s.acceptBusy m a Reg.BOOT_CMD 3).warmBegin 2 k)) ∧
    (∀ m a, Accepted (.bootAttest m a) s →
      let t := s.acceptBusy m a Reg.BOOT_CMD 4
      exec (.bootAttest m a) s = .next (
      let t := (t.setState 2 5).kecTake
      if t.reg Reg.BOOT_IDSTAT = 1 then t.attBegin else t)) ∧
    (
      (s.busyWith Reg.BOOT_CMD 4 && s.reg Reg.BOOT_IDSTAT == 1) = true →
      exec .attestDone s = .next (
        let a := s.attAddr
        let head := s.attHead
        let seed := s.otpBytes 0x100 96
        let ctx : List Byte := [0x57, 0x52, 0x47, 0x37, 0x31, 0x32, 0x38, 0x2D, 0x41, 0x54, 0x54]
        let sig := (List.range 49856).map (fun i => Config.idSign seed ctx head i)
        let s := ((s.setBytes a head).setBytes (a + 256) sig).memcWritten a 50112
        (((s.complete Reg.BOOT_CMD).setState 2 2).kecGive).bootEvt 2)) ∧
    (∀ m a, Accepted (.bootRetry m a) s →
      let t := s.acceptNow Reg.BOOT_CMD 5
      exec (.bootRetry m a) s = .next (
      let t := t.islandsReset.setReg Reg.BOOT_STATE (resetWord Reg.BOOT_STATE)
      { t with boot := { t.boot with inReset := true, cause := 0 } })) ∧
    (∀ m a, AbortAccepted (.bootAbort m a) s →
      let st := s.reg Reg.BOOT_STATE
      let t := s.aborted Reg.BOOT_CMD
      exec (.bootAbort m a) s = .next (
      let b := smFind s.busy Reg.BOOT_CMD
      match b with
      | some b =>
        if st = 3 then (t.setState 2 2).verifyEnd (b.arg % 2) 13
        else if st = 5 then (t.setState 2 2).kecGive
        else t
      | none => t)) ∧
    (
      let w := s.reg Reg.BOOT_WDOG
      let st := s.reg Reg.BOOT_STATE
      let t := s.boot.wdogAt + fld w 15 0 * 1000000
      (bitOf w 31 && fld w 15 0 != 0 && (st == 2 || st == 3 || st == 5) && s.beforeT0 (t * 2 ^ 24)) = true →
      exec .appWatchdogExpiry s = .next ((s.advanceTo t).wdogWarm)) ∧
    (∀ m,
      s.opens Reg.BOOT_WDOG_KICK = true → s.granted m Reg.BOOT_WDOG_KICK .priv = true →
      exec (.wdogKick m) s = .next ({ s with boot := { s.boot with wdogAt := s.now } })) ∧
    (
      let st := s.reg Reg.BOOT_STATE
      ¬ (s.reg Reg.BOOT_IDSTAT = 1 ∨ st = 1 ∨ st = 6) →
      exec .identityKeyReady s = .next (
        let seed := s.otpBytes 0x100 96
        let s := s.setRegs ((List.range 16).map (fun i => (Reg.BOOT_IDPUB i, Config.idKey seed i)) ++ [(Reg.BOOT_IDSTAT, 1)])
        if st = 5 then s.attBegin else s))

/-- The secure commands of BOOT (R472, R496). -/
def Obligations.BootScComplete : Prop :=
  ∀ s : State, s.unspecified = false →
    (∀ m a, Accepted (.rollfwd m a) s →
      let t := s.acceptBusy m a Reg.BOOT_SC_CMD 3
      exec (.rollfwd m a) s = .next (if a.arg.toNat ≤ t.rollV then t.complete Reg.BOOT_SC_CMD
        else t.setReg Reg.BOOT_SC_STATE 2)) ∧
    (∀ m a, Accepted (.dbgOpen m a) s →
      let t := s.acceptNow Reg.BOOT_SC_CMD 7
      exec (.dbgOpen m a) s = .next ({ t with boot := { t.boot with opened := true } })) ∧
    (∀ m a, AbortAccepted (.bootScAbort m a) s →
      let t := s.aborted Reg.BOOT_SC_CMD
      exec (.bootScAbort m a) s = .next (
      let b := smFind s.busy Reg.BOOT_SC_CMD
      match b with
      | some b =>
        let t := ((t.otpPlan b).take (1 + Config.otpWords (t.now - b.acc))).foldl (fun (t : State) p => t.otpOr p.1 p.2) t
        t.setReg Reg.BOOT_SC_STATE 1
      | none => t)) ∧
    (
      ∀ b,
      smFind s.busy Reg.BOOT_SC_CMD = some b →
      exec .otpProgramDone s = .next (
        let s := (s.otpPlan b).foldl (fun (s : State) p => s.otpOr p.1 p.2) s
        ((s.complete Reg.BOOT_SC_CMD).setReg Reg.BOOT_SC_STATE 1).bootEvt 5)) ∧
    (∀ m a, Accepted (.keyProg m a) s →
      exec (.keyProg m a) s = .next ((s.acceptBusy m a Reg.BOOT_SC_CMD 1).setReg Reg.BOOT_SC_STATE 2)) ∧
    (∀ m a, Accepted (.keyRevoke m a) s →
      exec (.keyRevoke m a) s = .next ((s.acceptBusy m a Reg.BOOT_SC_CMD 2).setReg Reg.BOOT_SC_STATE 2)) ∧
    (∀ m a, Accepted (.svcProg m a) s →
      exec (.svcProg m a) s = .next ((s.acceptBusy m a Reg.BOOT_SC_CMD 4).setReg Reg.BOOT_SC_STATE 2)) ∧
    (∀ m a, Accepted (.otpProg m a) s →
      exec (.otpProg m a) s = .next ((s.acceptBusy m a Reg.BOOT_SC_CMD 5).setReg Reg.BOOT_SC_STATE 2)) ∧
    (∀ m a, Accepted (.dbgLock m a) s →
      exec (.dbgLock m a) s = .next ((s.acceptBusy m a Reg.BOOT_SC_CMD 6).setReg Reg.BOOT_SC_STATE 2))

/-- The commands of KEC (R498). -/
def Obligations.KecComplete : Prop :=
  ∀ s : State, s.unspecified = false →
    (∀ m a, Accepted (.kecInit m a) s →
      let t := s.acceptNow Reg.KEC_CMD 1
      exec (.kecInit m a) s = .next (({ t with kec := { t.kec with sha3 := a.arg == 1, msg := [] } }).setState 3 2)) ∧
    (∀ m a, Accepted (.kecAbsorb m a) s →
      exec (.kecAbsorb m a) s = .next ((s.acceptBusy m a Reg.KEC_CMD 2).setState 3 3)) ∧
    (∀ err,
      (s.busyWith Reg.KEC_CMD 2) = true →
      exec (.kecAbsorbDone err) s = .next (
        let (a, n) := s.kecSource
        let s :=
          if err || !s.inMemory a n || s.memcBadIn a n then s.completeFailed Reg.KEC_CMD
          else ({ s with kec := { s.kec with msg := s.kec.msg ++ s.bytes a n } }).complete Reg.KEC_CMD
        if s.kec.users = 0 then s.setState 3 2
        else ({ s with kec := { s.kec with saved := some 2 } }).setState 3 4)) ∧
    (∀ m a, Accepted (.kecFinal m a) s →
      let t := s.acceptNow Reg.KEC_CMD 3
      exec (.kecFinal m a) s = .next (
      let n := (t.reg Reg.KEC_OUTLEN).toNat
      let n := if t.kec.sha3 then 32 else if 1 ≤ n ∧ n ≤ 64 then n else 64
      let out := if t.kec.sha3 then sha3_256 t.kec.msg else shake256 t.kec.msg n
      let old := bytesOf ((List.range 16).map (fun i => t.reg (Reg.KEC_OUT i)))
      let all := out ++ old.drop n
      let t := t.setRegs ((List.range 16).map (fun i => (Reg.KEC_OUT i, wordAt all (4 * i))))
      ({ t with kec := { t.kec with msg := [] } }).setState 3 1)) ∧
    (∀ m a, AbortAccepted (.kecAbort m a) s →
      let t := s.aborted Reg.KEC_CMD
      exec (.kecAbort m a) s = .next (if t.reg Reg.KEC_STATE = 4 then t
    else
      let t := { t with kec := { t.kec with msg := [] } }
      if t.kec.users = 0 then t.setState 3 1
      else ({ t with kec := { t.kec with saved := some 1 } }).setState 3 4))

/-- The commands of XSPI (R491, R500). -/
def Obligations.XspiComplete : Prop :=
  ∀ s : State, s.unspecified = false →
    let started (code : Nat) (t : State) : State :=
      let o := s.xspiOp code
      let hit (k : Nat) : Bool := code != 1 && k * t.slotSize < o.faddr + o.len && o.faddr < (k + 1) * t.slotSize
      ({ t with
        xspi := { t.xspi with op := some o },
        boot := { t.boot with okSlots := t.boot.okSlots.filter (fun k => !hit k) } }).setState 0x3D
        (if code = 1 then 3 else if code = 2 then 4 else 5)
    (∀ m a, Accepted (.xspiResume m a) s →
      let t := s.acceptBusy m a Reg.XSPI_CMD 5
      exec (.xspiResume m a) s = .next (
      match t.xspi.op with
      | some o => t.setState 0x3D (xspiRunState o.code)
      | none => t)) ∧
    (∀ m a, AbortAccepted (.xspiAbort m a) s →
      let t := s.aborted Reg.XSPI_CMD
      exec (.xspiAbort m a) s = .next (
      match t.xspi.op with
      | none => t
      | some o =>
        let st := t.reg Reg.XSPI_STATE
        if st = 3 then
          let n := min o.len (Config.xspiRead (t.now - o.since))
          (if t.inMemory o.maddr o.len then t.xspiCopy o n else t).xspiFree
        else if (st = 4 && t.xspi.susp.getLsbD 0) || (st = 5 && t.xspi.susp.getLsbD 1) then t.setState 0x3D 6
        else t)) ∧
    (∀ err, s.fenced.getLsbD 12 = false →
      ∀ o,
      s.xspi.op = some o →
      s.reg Reg.XSPI_STATE = wordOfNat (xspiRunState o.code) →
      exec (.xspiOperationDone err) s = .next (
        let bad := err || (o.code ≤ 2 && !s.inMemory o.maddr o.len) || (o.code == 2 && s.memcBadIn o.maddr o.len)
        let s :=
          if bad then s
          else if o.code = 1 then s.xspiCopy o o.len
          else if o.code = 2 then
            s.setFlash o.faddr ((s.flashBytes o.faddr o.len).zipWith (fun x y => x &&& y) (s.bytes o.maddr o.len))
          else s.setFlash o.faddr (List.replicate o.len 0xFF)
        let s := (s.complete Reg.XSPI_CMD).xspiFree
        if bad then (s.inc Reg.XSPI_ERR_CNT).xspiEvt 1 else s.xspiEvt 0)) ∧
    (∀ m a, Accepted (.xspiRead m a) s →
      exec (.xspiRead m a) s = .next (started 1 (s.acceptBusy m a Reg.XSPI_CMD 1))) ∧
    (∀ m a, Accepted (.xspiProgram m a) s →
      exec (.xspiProgram m a) s = .next (started 2 (s.acceptBusy m a Reg.XSPI_CMD 2))) ∧
    (∀ m a, Accepted (.xspiErase4k m a) s →
      exec (.xspiErase4k m a) s = .next (started 3 (s.acceptBusy m a Reg.XSPI_CMD 3))) ∧
    (∀ m a, Accepted (.xspiErase64k m a) s →
      exec (.xspiErase64k m a) s = .next (started 4 (s.acceptBusy m a Reg.XSPI_CMD 4)))

/-- The host interface (R502–R514). -/
def Obligations.PcieComplete : Prop :=
  ∀ s : State, s.unspecified = false →
    (s.fenced.getLsbD 12 = false →
      ¬ (s.reg Reg.PCIE_STATE = 0) →
      exec .pciePerst s = .next (
        let s := s.linkFalls.setReg Reg.PCIE_LINK 0
        let s := { s with pcie := { s.pcie with msix := [], pba := 0, qdbStage := [] } }
        let s := match s.srec.rd with
          | some r => if r.kind then s else s.readoutEnd 0 r.cancel false true
          | none => s
        (s.inc Reg.PCIE_PERST_CNT).pcieEvt 2)) ∧
    (∀ speed width, s.fenced.getLsbD 12 = false →
      let st := s.reg Reg.PCIE_STATE
      st = 1 ∨ st = 3 →
      exec (.pcieLinkUp speed width) s = .next (
        let w := (s.reg Reg.PCIE_LINK &&& ~~~0x77#32) ||| wordOfNat ((speed.val + 1) + (2 ^ width.val) * 0x10)
        (((s.complete Reg.PCIE_CMD).setReg Reg.PCIE_LINK w).setState 0x3C 2).pcieEvt 1)) ∧
    (s.fenced.getLsbD 12 = false →
      s.reg Reg.PCIE_STATE = 2 ∨ s.reg Reg.PCIE_STATE = 3 →
      exec .pcieLinkDown s = .next (s.linkFalls)) ∧
    (∀ m a, Accepted (.pcieRetrain m a) s →
      exec (.pcieRetrain m a) s = .next ((s.acceptBusy m a Reg.PCIE_CMD 1).setState 0x3C 3)) ∧
    (∀ m a, Accepted (.pcieMbReset m a) s →
      let n := a.arg.toNat
      let t := s.acceptNow Reg.PCIE_CMD 2
      exec (.pcieMbReset m a) s = .next (
      (List.range 8).foldl (fun (t : State) k =>
      if n / 2 ^ k % 2 = 1 then
        ({ t with que := { t.que with evWait := t.que.evWait.filter (fun x => x.1 != 0x100 + k) } }).setMailbox k {}
      else t) t)) ∧
    (∀ m a, AbortAccepted (.pcieAbort m a) s →
      let t := s.aborted Reg.PCIE_CMD
      exec (.pcieAbort m a) s = .next (
      let b := smFind s.busy Reg.PCIE_CMD
      if b.isSome then t.setState 0x3C 2 else t)) ∧
    (∀ m x,
      s.opens Reg.PCIE_MB_ANSWER = true → s.granted m Reg.PCIE_MB_ANSWER .priv = true →
      let k := fld x 18 16
      let b := s.mailbox k
      b.st = 1 →
      exec (.mbAnswerWrite m x) s = .next ((s.setMailbox k { b with st := 2, seq := (b.seq + 1) % 256, rsplen := min (fld x 11 0) 2040 }).msixRaise k)) ∧
    (∀ m x,
      s.opens Reg.PCIE_MSIX_RAISE = true → s.granted m Reg.PCIE_MSIX_RAISE .priv = true →
      16 ≤ fld x 5 0 →
      exec (.msixRaiseWrite m x) s = .next (s.msixRaise (fld x 5 0))) ∧
    (s.fenced.getLsbD 12 = false →
      ∀ x l,
      s.hostReads = x :: l →
      exec .bar4ReadTimeout s = .next (
        let (u, r) := l.foldl (fun (b c : Nat × RraReq) => if c.2.born < b.2.born then c else b) x
        s.advancePs ((r.born + 50000000 : Nat) * 1000) fun s =>
          let late (z : RraReq) : RraReq := if z = r then { z with port := noPort } else z
          let s := s.setOcu u { s.ocuOf u with rra := (s.ocuOf u).rra.map late, stalled := (s.ocuOf u).stalled.map late }
          s.rraAnswer r r.failed)) ∧
    (∀ k x, s.fenced.getLsbD 12 = false → s.reg Reg.PCIE_STATE = 2 → (s.mailbox k.toNat).st = 1 →
      exec (.mbDbWrite k x) s = .next (
        ((s.setMailbox k.toNat { s.mailbox k.toNat with ovr := true }).inc Reg.PCIE_DBOVR_CNT).pcieEvt 7)) ∧
    (∀ k x, s.fenced.getLsbD 12 = false → s.reg Reg.PCIE_STATE = 2 → (s.mailbox k.toNat).st ≠ 1 →
      exec (.mbDbWrite k x) s = .next (
        ((s.setMailbox k.toNat { s.mailbox k.toNat with st := 1, ovr := false }).pcieEvt 3).mbEnqueue k.toNat
          (if 2048 < fld x 11 0 then setFld x 11 0 2048 else x))) ∧
    (∀ q ws, s.fenced.getLsbD 12 = false → s.reg Reg.PCIE_STATE = 2 →
      let l := ws.drop (ws.length - 16)
      exec (.qdbCommit q ws) s = .next ((s.qdbStageWords q.toNat (16 - l.length) l).qdbDecide q.toNat)) ∧
    (∀ v, s.fenced.getLsbD 12 = false → s.reg Reg.PCIE_STATE = 2 → exec (.msixUnmask v) s = .next (msixUnmask v.toNat s))

/-- The commands and self-tests of FLT (R519, R527, R529, R535, R536). -/
def Obligations.FltCommandsComplete : Prop :=
  ∀ s : State, s.unspecified = false →
    (∀ m a, Accepted (.fltSelftest m a) s →
      exec (.fltSelftest m a) s = .next ((s.acceptBusy m a Reg.FLT_CMD 1).setState 4 2)) ∧
    (∀ m a, AbortAccepted (.fltAbort m a) s →
      exec (.fltAbort m a) s = .next ((s.aborted Reg.FLT_CMD).setState 4 1)) ∧
    (∀ m a, Accepted (.clearRet m a) s →
      let k := s.clearKey a.arg.toNat
      let t := s.acceptBusy m a Reg.FLT_SC_CMD 1
      exec (.clearRet m a) s = .next (
      ({ t with flt := { t.flt with clear := match k with | some (c, i) => resKey c i | none => 0 } }).setReg Reg.FLT_SC_STATE 2)) ∧
    (∀ m a, Accepted (.islReset m a) s →
      exec (.islReset m a) s = .next ((s.acceptBusy m a Reg.FLT_SC_CMD 2).setReg Reg.FLT_SC_STATE 3)) ∧
    (
      s.reg Reg.FLT_SC_STATE = 3 →
      exec .islResetDone s = .next (
        let isl := match smFind s.busy Reg.FLT_SC_CMD with
          | some b => b.arg
          | none => s.flt.clear
        (((s.complete Reg.FLT_SC_CMD).setReg Reg.FLT_SC_STATE 1).islandBack isl).fltShow)) ∧
    (∀ m a, AbortAccepted (.fltScAbort m a) s →
      let t := s.aborted Reg.FLT_SC_CMD
      exec (.fltScAbort m a) s = .next (
      let b := smFind s.busy Reg.FLT_SC_CMD
      match b with
      | some b => if b.code = 1 then t.setReg Reg.FLT_SC_STATE 1 else { t with flt := { t.flt with clear := b.arg } }
      | none => t)) ∧
    (∀ t inst fail,
      ¬ ((!s.periodicRuns t.val inst.toNat) = true) →
      exec (.periodicSelfTest t inst fail) s = .next (
        let s := s.testRan t.val fail
        if !fail then s
        else
          (match t.val with
          | 0 => s.testFailed 2 inst.toNat
          | 2 => s.testFailed 4 inst.toNat
          | 6 => s.safeFault cBELAY 0xFF
          | 7 => (s.faultEvent 2 1 0 inst.toNat (s.reg Reg.CLK_ISL_FAIL)).islandFail inst.toNat
          | 8 => s.faultEvent 2 4 0 inst.toNat (s.reg Reg.FLT_EVT)
          | 9 => s.testFailed 1 inst.toNat
          | _ => s).fltShow)) ∧
    (∀ m, s.opens (Reg.FLT_LOG_D 0) = true → exec (.fltLogRead m) s = .next (
      let p := mport m
      match s.flt.log with
      | e :: rest =>
        let s := ({ s with flt := { s.flt with log := rest } }).setReg Reg.FLT_LOG_LVL (wordOfNat rest.length)
        ([1, 2, 3].foldl (fun s k => s.latch p (Reg.FLT_LOG_D k) (e.getD k 0)) s).answer p (e.getD 0 0) false
      | [] => s.answer p 0 false)) ∧
    (∀ fail b, smFind s.busy Reg.FLT_CMD = some b →
      let t := (s.complete Reg.FLT_CMD).setState 4 1
      let v := match testBit (b.arg / 0x1000) with
        | some k => t.testRan k fail
        | none => t
      exec (.selftestDone false fail) s =
        .next (if fail then (v.testFailed (b.arg / 0x1000) (b.arg % 0x1000)).fltShow else v)) ∧
    (∀ fail, s.busyWith Reg.FLT_SC_CMD 1 = true →
      let t := s.setReg Reg.FLT_SC_STATE 1
      let v := match testBit (s.flt.clear / 0x1000000) with
        | some k => t.testRan k fail
        | none => t
      exec (.selftestDone true fail) s = .next (
        if fail && (testBit (s.flt.clear / 0x1000000)).isSome then v.completeFailed Reg.FLT_SC_CMD
        else ((v.complete Reg.FLT_SC_CMD).clearRetirement (s.flt.clear / 0x1000000) (s.flt.clear % 0x1000000)).fltShow))

/-- The fault events (R13, R54, R56, R517, R522–R526). -/
def Obligations.FltEventsComplete : Prop :=
  ∀ s : State, s.unspecified = false →
    (∀ a flip,
      let blk := a.toNat / 0x10000
      let odd := [0, 1, 2, 3].any (fun k => ((List.range 8).filter (fun i => bitOf flip (8 * k + i))).length % 2 == 1)
      ¬ (a.toNat % 4 ≠ 0 ∨ !isConfig a.toNat ∨ s.gated blk ∨ s.isFenced blk ∨ !odd) →
      exec (.parityScan a flip) s = .next (
        let good := (smFind s.shadow a.toNat).getD (s.reg a.toNat)
        let s := ({ s with shadow := smPut s.shadow a.toNat good }).setReg a.toNat (s.reg a.toNat ^^^ flip)
        let ofs := wordOfNat (a.toNat % 0x10000)
        match s.finding 9 blk 1 blk ofs with
        | (t, true) =>
          ((t.orReg (Reg.FLT_BLKRET (blk / 32)) (bitMask (blk % 32))).faultEvent 2 blk 9 blk ofs).fltShow
        | (t, false) => t)) ∧
    (∀ blk,
      ¬ ((s.ropeHalted) = true) →
      exec (.configReload blk) s = .next (
        let l := s.shadow.filter (fun p => p.1 / 0x10000 == blk.toNat)
        l.foldl (fun (s : State) (p : Nat × Word) => s.setReg p.1 p.2)
          { s with shadow := s.shadow.filter (fun p => p.1 / 0x10000 != blk.toNat) })) ∧
    (∀ n, exec (.clockMonitorFailure n) s = .next (s.islandFail n.val)) ∧
    (∀ n, exec (.machineCheck n) s = .next (s.coreFinding n.val 1).fltShow) ∧
    (∀ r beyond,
      let t := s.setReg Reg.FLT_VMON (setBit (s.reg Reg.FLT_VMON) r.val beyond)
      exec (.supplyWarning r beyond) s = .next (
        if beyond && !bitOf (s.reg Reg.FLT_VMON) r.val then (t.faultEvent 0 4 0 r.val (t.reg Reg.FLT_EVT)).fltShow
        else t.fltShow)) ∧
    (∀ b,
      let a := s.ropeActive
      let r := s.pairFinding (b2n b) 1
      let wait (x : State) : State := { x with flt := { x.flt with pairReset := x.flt.pairReset ++ [b2n b] } }
      s.flt.pairReset.contains (b2n b) = false → b2n b ≠ a → s.ropeReady = true →
      exec (.ropeDivergence b) s = .next (((if r.2 then r.1 else wait r.1).setRope a false).fltShow)) ∧
    (∀ b,
      let r := s.pairFinding (b2n b) 1
      let wait (x : State) : State := { x with flt := { x.flt with pairReset := x.flt.pairReset ++ [b2n b] } }
      let t := if r.2 then r.1 else wait r.1
      let w := t.reg Reg.FLT_ROPE
      let v := (t.setReg Reg.FLT_ROPE (setFld w 31 16 (min (fld w 31 16 + 1) 0xFFFF))).setRope (1 - b2n b) false
      s.flt.pairReset.contains (b2n b) = false → b2n b = s.ropeActive → s.ropeReady = true →
      exec (.ropeDivergence b) s = .next ({ v with safe := { v.safe with excuse := 1 } }).fltShow) ∧
    (∀ b,
      let wait (x : State) : State := { x with flt := { x.flt with pairReset := x.flt.pairReset ++ [b2n b] } }
      let t := (wait (s.lastPairFinding (b2n b))).setRope (b2n b) false
      let t := { t with safe := { t.safe with ropeBack := some none } }
      s.flt.pairReset.contains (b2n b) = false → b2n b = s.ropeActive → s.ropeReady = false →
      exec (.ropeDivergence b) s = .next ((t.safeFault cROPE 0xFF).baseGates).fltShow) ∧
    (∀ fail, s.fenced.getLsbD 2 = false → s.ropeHalted = true →
      let t := { s with
        flt := { s.flt with pairReset := s.flt.pairReset.filter (fun p => p != s.ropeActive) },
        safe := { s.safe with ropeBack := some (some s.now) } }
      exec (.standbyPairReady fail) s = .next t.baseGates.fltShow) ∧
    (∀ fail, s.fenced.getLsbD 2 = false → s.ropeHalted = false → s.flt.pairReset.contains (1 - s.ropeActive) = true →
      let t := s.testRan 2 fail
      exec (.standbyPairReady fail) s = .next (
        if fail then (t.testFailed 4 (1 - s.ropeActive)).fltShow
        else (({ t with flt := { t.flt with pairReset := [] } }).setRope s.ropeActive true).fltShow)) ∧
    (
      (s.flt.safeHold && bitOf (s.reg Reg.FLT_CFG) 0) = true →
      exec .autocoldRestart s = .next (s.coldReset 3))

/-- The backup domain (R537–R544). -/
def Obligations.BivComplete : Prop :=
  ∀ s : State, s.unspecified = false →
    (∀ m a, Accepted (.bivSet m a) s →
      let view := a.arg == 1
      let u := s.acceptBusy m a Reg.BIV_CMD 1
      exec (.bivSet m a) s = .next (
      let d := u.reg Reg.BIV_SET_DATE
      let t := u.reg Reg.BIV_SET_TIME
      let hi := u.reg Reg.BIV_SET_HI
      let x := if view then (daysFromDate (fld d 31 16) (fld d 11 8) (fld d 4 0) * 86400 + fld t 20 16 * 3600 + fld t 13 8 * 60 + fld t 5 0, 0)
        else (fld hi 15 0 * 0x100000000 + (u.reg Reg.BIV_SET_LO).toNat, fld hi 30 16)
      ({ u with biv := { u.biv with load := some x } }).setState 5 2)) ∧
    (
      ∀ sec frac,
      s.biv.load = some (sec, frac) →
      exec .calendarLoad s = .next (
        let lo := s.reg Reg.BIV_CAL_LO
        let hi := s.reg Reg.BIV_CAL_HI
        let s := (({ s with biv := { s.biv with load := none } }).setCalendar true sec frac).complete Reg.BIV_CMD
        let s := (s.setState 5 1).bivEvt 0
        s.hutRequest 2 5 [wordOfNat (0x2000000 + b2n (bitOf hi 31)), s.reg Reg.BIV_CAL_LO, s.reg Reg.BIV_CAL_HI, lo, hi])) ∧
    (∀ m a, AbortAccepted (.bivAbort m a) s →
      let t := s.aborted Reg.BIV_CMD
      exec (.bivAbort m a) s = .next (({ t with biv := { t.biv with load := none } }).setState 5 1)) ∧
    (∀ m frac, s.opens Reg.BIV_CAL_LO = true → exec (.calendarRead m frac) s = .next (
      let s := if bitOf (s.reg Reg.BIV_STAT) 3 then s else s.setReg Reg.BIV_CAL_HI (setFld (s.reg Reg.BIV_CAL_HI) 30 16 frac.toNat)
      let p := mport m
      let s := ((s.latch p Reg.BIV_CAL_HI (s.reg Reg.BIV_CAL_HI)).latch p Reg.BIV_VIEW_DATE (s.reg Reg.BIV_VIEW_DATE)).latch p
        Reg.BIV_VIEW_TIME (s.reg Reg.BIV_VIEW_TIME)
      s.answer p (s.reg Reg.BIV_CAL_LO) false)) ∧
    (∀ mv : BitVec 16, 2200 ≤ mv.toNat → exec (.vbatMeasure mv) s = .next (s.setReg Reg.BIV_VBAT (wordOfNat mv.toNat))) ∧
    (∀ mv : BitVec 16, mv.toNat < 2200 →
      let t := ((s.setReg Reg.BIV_VBAT (wordOfNat mv.toNat)).orReg Reg.BIV_STAT 2).bivEvt 1
      exec (.vbatMeasure mv) s = .next (
        if t.biv.lowRec then t
        else ({ t with biv := { t.biv with lowRec := true } }).hutRequest 10 5 [wordOfNat mv.toNat])) ∧
    (exec .vbatSwitchover s = .next s) ∧
    (
      let t := s.inc Reg.BIV_OPS
      let ops := (t.reg Reg.BIV_OPS).toNat
      let fall (x : Nat × Nat) : Option (Nat × Nat) :=
        let c := t.bucketCfg (x.1 / 0x1000000)
        let v := if ops % max 1 (c.2 / c.1) = 0 then x.2 - 1 else x.2
        if v = 0 then none else some (x.1, v)
      let v := { t with
        flt := { t.flt with buckets := t.flt.buckets.filterMap fall }
        biv := { t.biv with opsAt := t.now } }
      exec .operatingSecond s = .next (if ops % 64 = 0 then
        { v with biv := { v.biv with pcc := v.reg Reg.BIV_PCC, ops := v.reg Reg.BIV_OPS } } else v)) ∧
    (
      ¬ ((bitOf (s.reg Reg.BIV_STAT) 3) = true) →
      exec .calendarSecond s = .next (s.setCalendar (bitOf (s.reg Reg.BIV_CAL_HI) 31) ((s.calSec + 1) % 2 ^ 48) 0))

/-- The hut book (R549–R558). -/
def Obligations.HutComplete : Prop :=
  ∀ s : State, s.unspecified = false →
    (∀ m a, Accepted (.hutReserve m a) s →
      let typ := a.arg.toNat / 256
      let len := a.arg.toNat % 256
      let t := s.acceptNow Reg.HUT_CMD 1
      exec (.hutReserve m a) s = .next (
      match t.hutReserve typ len with
      | (t, some o) =>
        let t := { t with hut := { t.hut with opened := some ⟨mport m, mclassCode (mclass m), o, len, t.now⟩ } }
        (t.setRegs [(Reg.HUT_WR_OFS, wordOfNat o), (Reg.HUT_WR_IDX, 0)]).setState 6 2
      | (t, none) => t)) ∧
    (∀ m x,
      s.opens Reg.HUT_WR_DATA = true → s.granted m Reg.HUT_WR_DATA .priv = true →
      ∀ r,
      s.hut.opened = some r →
      let i := (s.reg Reg.HUT_WR_IDX).toNat
      r.port = mport m ∧ i < 4 * r.len - 4 →
      exec (.hutWrDataWrite m x) s = .next ((s.setHutWords (r.ofs + 12 + 4 * i) [x]).setReg Reg.HUT_WR_IDX (wordOfNat (i + 1)))) ∧
    (∀ m a, Accepted (.hutCommit m a) s →
      let t := s.acceptNow Reg.HUT_CMD 2
      exec (.hutCommit m a) s = .next (
      match t.hut.opened with
      | some r =>
        let n := (t.reg Reg.HUT_WR_IDX).toNat
        (t.hutCommitAt r.ofs r.len ((List.range n).map (fun i => t.hutWord (r.ofs + 12 + 4 * i)))).hutClose
      | none => t)) ∧
    (∀ m a, Accepted (.hutCancel m a) s →
      exec (.hutCancel m a) s = .next ((s.acceptNow Reg.HUT_CMD 3).hutAbandon)) ∧
    (∀ m a, AbortAccepted (.hutAbort m a) s →
      exec (.hutAbort m a) s = .next ((s.aborted Reg.HUT_CMD).hutAbandon)) ∧
    (s.fenced.getLsbD 4 = false →
      ∀ r,
      s.hut.opened = some r →
      let t := r.since + 1000000
      (s.beforeT0 (t * 2 ^ 24)) = true →
      exec .reservationTimeout s = .next ((s.advanceTo t).hutAbandon)) ∧
    (s.fenced.getLsbD 4 = false →
      ∀ r rest,
      s.hut.queue = r :: rest →
      exec .blockRecordCommit s = .next (
        let s := { s with hut := { s.hut with queue := rest } }
        match s.hutReserve r.typ (hutTypeLen r.typ) with
        | (s, some o) => s.hutCommitAt o (hutTypeLen r.typ) r.payload
        | (s, none) => s)) ∧
    (∀ m x, s.opens Reg.HUT_CURSOR = true → exec (.hutCursorWrite m x) s = .next (
      let p := mport m
      let o := fld x 18 4 * 16
      let w := s.hutWord o
      let typ := fld w 31 24
      let next := s.hutAfter o
      let info := 0x80000000 + b2n (s.hutGood o) * 0x40000000 + b2n (s.hut.gone.contains p) * 0x20000000 + typ / 8 * 0x80000
        + (Config.hutCurinfo typ next).toNat * 0x10000 + next % 0x10000
      let s := (s.setPreg p Reg.HUT_CURSOR (wordOfNat o)).setPreg p Reg.HUT_CURINFO (wordOfNat info)
      { s with hut := { s.hut with gone := s.hut.gone.filter (fun q => q != p) } })) ∧
    (∀ m a, Accepted (.hutNonce m a) s →
      let t := s.acceptNow Reg.HUT_SC_CMD 1
      exec (.hutNonce m a) s = .next (
      let c := t.hut.ctr
      let seed := t.otpBytes 0x100 96
      let t := { t with hut := { t.hut with ctr := c + 1, nonceValid := true } }
      t.setRegs ((List.range 8).map (fun i => (Reg.HUT_NONCE i, Config.hutNonce seed c i))))) ∧
    (∀ m a, Accepted (.hutClear m a) s →
      let t := s.acceptBusy m a Reg.HUT_SC_CMD 2
      exec (.hutClear m a) s = .next ((({ t with hut := { t.hut with clr := t.hut.nonceValid, nonceValid := false } }).setReg Reg.HUT_SC_STATE 2).kecTake)) ∧
    (s.fenced.getLsbD 4 = false →
      (s.busyWith Reg.HUT_SC_CMD 2) = true →
      exec .hutClearVerifyDone s = .next (
        let c := s.hutAuth
        let s := (s.setReg Reg.HUT_CLRRES (wordOfNat c)).kecGive
        let s := (s.complete Reg.HUT_SC_CMD).setReg Reg.HUT_SC_STATE 1
        if c = 0 then s.hutCleared
        else (s.hutRequest 11 6 [wordOfNat c, s.reg (Reg.HUT_NONCE 0), s.reg (Reg.HUT_NONCE 1)]).hutEvt 5)) ∧
    (∀ m a, AbortAccepted (.hutScAbort m a) s →
      let t := s.aborted Reg.HUT_SC_CMD
      exec (.hutScAbort m a) s = .next (
      let b := smFind s.busy Reg.HUT_SC_CMD
      match b with
      | some _ => (t.setReg Reg.HUT_SC_STATE 1).kecGive
      | none => t))

/-- The resets and the start (R467, R468, R487). -/
def Obligations.StartComplete : Prop :=
  ∀ s : State,
    (∀ e, exec (.coldStart e) s = .next (s.leaveReset.baseCamp e)) ∧
    (exec .brownOutReset s = .next (s.coldReset 2)) ∧
    (exec .porstNAsserted s = .next (s.coldReset 1)) ∧
    (∀ err ms slot commit, s.unspecified = false → s.boot.warm = some (slot, commit) → s.reg Reg.BOOT_STATE = 4 →
      let r := s.applySections .bootApp slot
        ((manSections (if commit then s.slotManifest slot else s.boot.man)).filter (fun x => x.app))
      exec (.warmRestartComplete err ms) s = .next (
        if err then s.warmFails commit
        else if r.2 = 0 then r.1.warmRelease slot commit ms.toNat else r.1.warmFails commit))
end

