-- ==== Sys2Proof/Laws/Commands.lean ====
section
/-!
SUPPORT. The tables by row: what `exec` calls for each command, what `commandOf` and `abortOf` give, and that a row's meaning
is the shared operation on what it writes.
-/
namespace Sys2Proof.Machine

theorem exec_registerWrite {s : State} {m} {p} {wd} {w} : exec (.registerWrite m p wd w) s = execRegisterWrite m p wd w s := rfl
theorem exec_setAliasWrite {s : State} {m} {ofs} {w} : exec (.setAliasWrite m ofs w) s = execSetAliasWrite m ofs w s := rfl
theorem exec_clearAliasWrite {s : State} {m} {ofs} {w} : exec (.clearAliasWrite m ofs w) s = execClearAliasWrite m ofs w s := rfl
theorem exec_toggleAliasWrite {s : State} {m} {ofs} {w} : exec (.toggleAliasWrite m ofs w) s = execToggleAliasWrite m ofs w s := rfl
theorem exec_w1cWrite {s : State} {m} {ofs} {w} : exec (.w1cWrite m ofs w) s = execW1cWrite m ofs w s := rfl
theorem exec_loRegisterRead {s : State} {m} {p} {wd} : exec (.loRegisterRead m p wd) s = execLoRegisterRead m p wd s := rfl
theorem exec_resultRegisterRead {s : State} {m} {ofs} : exec (.resultRegisterRead m ofs) s = execResultRegisterRead m ofs s := rfl
theorem exec_clearStats {s : State} {m} {blk} {a} : exec (.clearStats m blk a) s = execClearStats m blk a s := rfl
theorem exec_parityScan {s : State} {a} {flip} : exec (.parityScan a flip) s = execParityScan a flip s := rfl
theorem exec_configReload {s : State} {blk} : exec (.configReload blk) s = execConfigReload blk s := rfl
theorem exec_clockMonitorFailure {s : State} {n} : exec (.clockMonitorFailure n) s = execClockMonitorFailure n s := rfl
theorem exec_sysApplyCoreEn {s : State} {m} {a} : exec (.sysApplyCoreEn m a) s = execSysApplyCoreEn m a s := rfl
theorem exec_sysClearCounters {s : State} {m} {a} : exec (.sysClearCounters m a) s = execSysClearCounters m a s := rfl
theorem exec_sysAbort {s : State} {m} {a} : exec (.sysAbort m a) s = execSysAbort m a s := rfl
theorem exec_clkApplyPoolSel {s : State} {m} {a} : exec (.clkApplyPoolSel m a) s = execClkApplyPoolSel m a s := rfl
theorem exec_poolClockSwitch {s : State} : exec .poolClockSwitch s = execPoolClockSwitch s := rfl
theorem exec_clkAbort {s : State} {m} {a} : exec (.clkAbort m a) s = execClkAbort m a s := rfl
theorem exec_fcStart {s : State} {ain} {sdm} : exec (.fcStart ain sdm) s = execFcStart ain sdm s := rfl
theorem exec_currentTickB {s : State} {ain} {sdm} : exec (.currentTickB ain sdm) s = execCurrentTickB ain sdm s := rfl
theorem exec_applyLatch {s : State} {tickB} : exec (.applyLatch tickB) s = execApplyLatch tickB s := rfl
theorem exec_routeUpdate {s : State} {ep} {x} {satd} {valid} {parityOk} : exec (.routeUpdate ep x satd valid parityOk) s = execRouteUpdate ep x satd valid parityOk s := rfl
theorem exec_sigEntryRead {s : State} {m} {id} : exec (.sigEntryRead m id) s = execSigEntryRead m id s := rfl
theorem exec_sigEntryWrite {s : State} {m} {id} : exec (.sigEntryWrite m id) s = execSigEntryWrite m id s := rfl
theorem exec_sigLoad {s : State} {m} {a} : exec (.sigLoad m a) s = execSigLoad m a s := rfl
theorem exec_sigLoadDone {s : State} {err} : exec (.sigLoadDone err) s = execSigLoadDone err s := rfl
theorem exec_sigSwap {s : State} {m} {a} : exec (.sigSwap m a) s = execSigSwap m a s := rfl
theorem exec_sigAbort {s : State} {m} {a} : exec (.sigAbort m a) s = execSigAbort m a s := rfl
theorem exec_sigPeek {s : State} {m} {id} : exec (.sigPeek m id) s = execSigPeek m id s := rfl
theorem exec_sigWrValWrite {s : State} {m} {x} : exec (.sigWrValWrite m x) s = execSigWrValWrite m x s := rfl
theorem exec_cycStart {s : State} {m} {a} : exec (.cycStart m a) s = execCycStart m a s := rfl
theorem exec_cycSwap {s : State} {m} {a} : exec (.cycSwap m a) s = execCycSwap m a s := rfl
theorem exec_cycAbort {s : State} {m} {a} : exec (.cycAbort m a) s = execCycAbort m a s := rfl
theorem exec_cairnMissing {s : State} : exec .cairnMissing s = execCairnMissing s := rfl
theorem exec_holdoverLost {s : State} : exec .holdoverLost s = execHoldoverLost s := rfl
theorem exec_ceStart {s : State} {m} {a} : exec (.ceStart m a) s = execCeStart m a s := rfl
theorem exec_ceStop {s : State} {m} {a} : exec (.ceStop m a) s = execCeStop m a s := rfl
theorem exec_ceValidate {s : State} {m} {a} : exec (.ceValidate m a) s = execCeValidate m a s := rfl
theorem exec_ceValidateDone {s : State} : exec .ceValidateDone s = execCeValidateDone s := rfl
theorem exec_ceSwap {s : State} {m} {a} : exec (.ceSwap m a) s = execCeSwap m a s := rfl
theorem exec_ceAbort {s : State} {m} {a} : exec (.ceAbort m a) s = execCeAbort m a s := rfl
theorem exec_ceLocalMemoryWrite {s : State} {m} {ofs} {w} : exec (.ceLocalMemoryWrite m ofs w) s = execCeLocalMemoryWrite m ofs w s := rfl
theorem exec_ceFcRun {s : State} {slot} {u} : exec (.ceFcRun slot u) s = execCeFcRun slot u s := rfl
theorem exec_ceTickRun {s : State} {slot} {tickB} {u} : exec (.ceTickRun slot tickB u) s = execCeTickRun slot tickB u s := rfl
theorem exec_runDeadlineMiss {s : State} {slot} {kind} : exec (.runDeadlineMiss slot kind) s = execRunDeadlineMiss slot kind s := rfl
theorem exec_checkRun {s : State} {u} : exec (.checkRun u) s = execCheckRun u s := rfl
theorem exec_voteRun {s : State} {u} : exec (.voteRun u) s = execVoteRun u s := rfl
theorem exec_residueError {s : State} {lane} : exec (.residueError lane) s = execResidueError lane s := rfl
theorem exec_laneRetirement {s : State} {lane} : exec (.laneRetirement lane) s = execLaneRetirement lane s := rfl
theorem exec_ctabCopy {s : State} {m} {a} : exec (.ctabCopy m a) s = execCtabCopy m a s := rfl
theorem exec_ctabCopyComplete {s : State} : exec .ctabCopyComplete s = execCtabCopyComplete s := rfl
theorem exec_ctabCopyError {s : State} : exec .ctabCopyError s = execCtabCopyError s := rfl
theorem exec_ctabAbort {s : State} {m} {a} : exec (.ctabAbort m a) s = execCtabAbort m a s := rfl
theorem exec_profileAdvance {s : State} : exec .profileAdvance s = execProfileAdvance s := rfl
theorem exec_traverseRefill {s : State} {g} : exec (.traverseRefill g) s = execTraverseRefill g s := rfl
theorem exec_hofsWrite {s : State} {m} {g} {x} : exec (.hofsWrite m g x) s = execHofsWrite m g x s := rfl
theorem exec_camDataAccess {s : State} {m} {x} : exec (.camDataAccess m x) s = execCamDataAccess m x s := rfl
theorem exec_profEnable {s : State} {m} {g} {a} : exec (.profEnable m g a) s = execProfEnable m g a s := rfl
theorem exec_profDisable {s : State} {m} {g} {a} : exec (.profDisable m g a) s = execProfDisable m g a s := rfl
theorem exec_profGo {s : State} {m} {g} {a} : exec (.profGo m g a) s = execProfGo m g a s := rfl
theorem exec_profRunQueue {s : State} {m} {g} {a} : exec (.profRunQueue m g a) s = execProfRunQueue m g a s := rfl
theorem exec_profStop {s : State} {m} {g} {a} : exec (.profStop m g a) s = execProfStop m g a s := rfl
theorem exec_profQstop {s : State} {m} {g} {a} : exec (.profQstop m g a) s = execProfQstop m g a s := rfl
theorem exec_profFlush {s : State} {m} {g} {a} : exec (.profFlush m g a) s = execProfFlush m g a s := rfl
theorem exec_profLatchArm {s : State} {m} {g} {a} : exec (.profLatchArm m g a) s = execProfLatchArm m g a s := rfl
theorem exec_profGenAbort {s : State} {m} {g} {a} : exec (.profGenAbort m g a) s = execProfGenAbort m g a s := rfl
theorem exec_profStopAll {s : State} {m} {a} : exec (.profStopAll m a) s = execProfStopAll m a s := rfl
theorem exec_profAbort {s : State} {m} {a} : exec (.profAbort m a) s = execProfAbort m a s := rfl
theorem exec_axcEnable {s : State} {m} {n} {a} : exec (.axcEnable m n a) s = execAxcEnable m n a s := rfl
theorem exec_axcDisable {s : State} {m} {n} {a} : exec (.axcDisable m n a) s = execAxcDisable m n a s := rfl
theorem exec_axcReset {s : State} {m} {n} {a} : exec (.axcReset m n a) s = execAxcReset m n a s := rfl
theorem exec_axcChannelAbort {s : State} {m} {n} {a} : exec (.axcChannelAbort m n a) s = execAxcChannelAbort m n a s := rfl
theorem exec_axcSwap {s : State} {m} {k} {a} : exec (.axcSwap m k a) s = execAxcSwap m k a s := rfl
theorem exec_axcAbort {s : State} {m} {k} {a} : exec (.axcAbort m k a) s = execAxcAbort m k a s := rfl
theorem exec_prechgElapsed {s : State} {n} : exec (.prechgElapsed n) s = execPrechgElapsed n s := rfl
theorem exec_dutyLoad {s : State} {n} {reachA} {reachB} : exec (.dutyLoad n reachA reachB) s = execDutyLoad n reachA reachB s := rfl
theorem exec_axisTrip {s : State} {n} {desat} {enrb} : exec (.axisTrip n desat enrb) s = execAxisTrip n desat enrb s := rfl
theorem exec_encConfig {s : State} {m} {a} : exec (.encConfig m a) s = execEncConfig m a s := rfl
theorem exec_encSsiRead {s : State} {m} {a} : exec (.encSsiRead m a) s = execEncSsiRead m a s := rfl
theorem exec_encAbort {s : State} {m} {a} : exec (.encAbort m a) s = execEncAbort m a s := rfl
theorem exec_ssiFrameComplete {s : State} {p} {data} {idleLow} {par} : exec (.ssiFrameComplete p data idleLow par) s = execSsiFrameComplete p data idleLow par s := rfl
theorem exec_encoderCountEdge {s : State} {p} {a} {b} : exec (.encoderCountEdge p a b) s = execEncoderCountEdge p a b s := rfl
theorem exec_indexLatch {s : State} {p} : exec (.indexLatch p) s = execIndexLatch p s := rfl
theorem exec_stepReshape {s : State} {m} {a} : exec (.stepReshape m a) s = execStepReshape m a s := rfl
theorem exec_stepReshapeComplete {s : State} {err} : exec (.stepReshapeComplete err) s = execStepReshapeComplete err s := rfl
theorem exec_stepAbort {s : State} {m} {a} : exec (.stepAbort m a) s = execStepAbort m a s := rfl
theorem exec_loadAngleEstimate {s : State} {n} {angV} {angI} {amp} : exec (.loadAngleEstimate n angV angI amp) s = execLoadAngleEstimate n angV angI amp s := rfl
theorem exec_stepModeSwitch {s : State} {n} {mean} : exec (.stepModeSwitch n mean) s = execStepModeSwitch n mean s := rfl
theorem exec_standstillTimeout {s : State} {n} : exec (.standstillTimeout n) s = execStandstillTimeout n s := rfl
theorem exec_stepDirInputStep {s : State} {p} {up} : exec (.stepDirInputStep p up) s = execStepDirInputStep p up s := rfl
theorem exec_ilkEvaluation {s : State} : exec .ilkEvaluation s = execIlkEvaluation s := rfl
theorem exec_ilkSwap {s : State} {m} {a} : exec (.ilkSwap m a) s = execIlkSwap m a s := rfl
theorem exec_ilkCopyActive {s : State} {m} {a} : exec (.ilkCopyActive m a) s = execIlkCopyActive m a s := rfl
theorem exec_ilkCopyComplete {s : State} : exec .ilkCopyComplete s = execIlkCopyComplete s := rfl
theorem exec_ilkAck {s : State} {m} {a} : exec (.ilkAck m a) s = execIlkAck m a s := rfl
theorem exec_ilkAbort {s : State} {m} {a} : exec (.ilkAbort m a) s = execIlkAbort m a s := rfl
theorem exec_ilkRuleReadShadow {s : State} {m} {r} : exec (.ilkRuleReadShadow m r) s = execIlkRuleReadShadow m r s := rfl
theorem exec_ilkRuleWriteShadow {s : State} {m} {r} : exec (.ilkRuleWriteShadow m r) s = execIlkRuleWriteShadow m r s := rfl
theorem exec_ilkRuleReadActive {s : State} {m} {r} : exec (.ilkRuleReadActive m r) s = execIlkRuleReadActive m r s := rfl
theorem exec_seqEvaluation {s : State} : exec .seqEvaluation s = execSeqEvaluation s := rfl
theorem exec_stepFetchComplete {s : State} {c} {err} : exec (.stepFetchComplete c err) s = execStepFetchComplete c err s := rfl
theorem exec_seqStart {s : State} {m} {c} {a} : exec (.seqStart m c a) s = execSeqStart m c a s := rfl
theorem exec_seqPause {s : State} {m} {c} {a} : exec (.seqPause m c a) s = execSeqPause m c a s := rfl
theorem exec_seqResume {s : State} {m} {c} {a} : exec (.seqResume m c a) s = execSeqResume m c a s := rfl
theorem exec_seqRelease {s : State} {m} {c} {a} : exec (.seqRelease m c a) s = execSeqRelease m c a s := rfl
theorem exec_seqReset {s : State} {m} {c} {a} : exec (.seqReset m c a) s = execSeqReset m c a s := rfl
theorem exec_seqChannelAbort {s : State} {m} {c} {a} : exec (.seqChannelAbort m c a) s = execSeqChannelAbort m c a s := rfl
theorem exec_seqAbort {s : State} {m} {a} : exec (.seqAbort m a) s = execSeqAbort m a s := rfl
theorem exec_adcTrigger {s : State} {m} {a} : exec (.adcTrigger m a) s = execAdcTrigger m a s := rfl
theorem exec_adcSwap {s : State} {m} {a} : exec (.adcSwap m a) s = execAdcSwap m a s := rfl
theorem exec_adcAbort {s : State} {m} {a} : exec (.adcAbort m a) s = execAdcAbort m a s := rfl
theorem exec_fcPhaseTrigger {s : State} {phase} {tickB} : exec (.fcPhaseTrigger phase tickB) s = execFcPhaseTrigger phase tickB s := rfl
theorem exec_atrgEdge {s : State} {pin} {rising} : exec (.atrgEdge pin rising) s = execAtrgEdge pin rising s := rfl
theorem exec_timeBaseTrigger {s : State} {g} : exec (.timeBaseTrigger g) s = execTimeBaseTrigger g s := rfl
theorem exec_tbtimeWrite {s : State} {m} {g} {x} : exec (.tbtimeWrite m g x) s = execTbtimeWrite m g x s := rfl
theorem exec_conversionComplete {s : State} {conv} {uv} : exec (.conversionComplete conv uv) s = execConversionComplete conv uv s := rfl
theorem exec_referenceCheck {s : State} {conv} {zero} {ref} : exec (.referenceCheck conv zero ref) s = execReferenceCheck conv zero ref s := rfl
theorem exec_converterUnchecked {s : State} {conv} : exec (.converterUnchecked conv) s = execConverterUnchecked conv s := rfl
theorem exec_sdmSwap {s : State} {m} {a} : exec (.sdmSwap m a) s = execSdmSwap m a s := rfl
theorem exec_sdmAbort {s : State} {m} {a} : exec (.sdmAbort m a) s = execSdmAbort m a s := rfl
theorem exec_stuckStream {s : State} {n} : exec (.stuckStream n) s = execStuckStream n s := rfl
theorem exec_sdmOvercurrent {s : State} {n} {sum} : exec (.sdmOvercurrent n sum) s = execSdmOvercurrent n sum s := rfl
theorem exec_dacAbort {s : State} {m} {a} : exec (.dacAbort m a) s = execDacAbort m a s := rfl
theorem exec_dacImmediateUpdate {s : State} {c} : exec (.dacImmediateUpdate c) s = execDacImmediateUpdate c s := rfl
theorem exec_fioArm {s : State} {m} {a} : exec (.fioArm m a) s = execFioArm m a s := rfl
theorem exec_fioClearOut {s : State} {m} {a} : exec (.fioClearOut m a) s = execFioClearOut m a s := rfl
theorem exec_fioFlushTsf {s : State} {m} {a} : exec (.fioFlushTsf m a) s = execFioFlushTsf m a s := rfl
theorem exec_fioAbort {s : State} {m} {a} : exec (.fioAbort m a) s = execFioAbort m a s := rfl
theorem exec_couplerFault {s : State} {ch} : exec (.couplerFault ch) s = execCouplerFault ch s := rfl
theorem exec_supplyLow {s : State} {b} {mv} : exec (.supplyLow b mv) s = execSupplyLow b mv s := rfl
theorem exec_supplyDip {s : State} {b} {mv} : exec (.supplyDip b mv) s = execSupplyDip b mv s := rfl
theorem exec_supplyLost {s : State} {b} {mv} : exec (.supplyLost b mv) s = execSupplyLost b mv s := rfl
theorem exec_supplyRecovered {s : State} {b} {mv} : exec (.supplyRecovered b mv) s = execSupplyRecovered b mv s := rfl
theorem exec_inputFilterTick {s : State} {n} : exec (.inputFilterTick n) s = execInputFilterTick n s := rfl
theorem exec_tsfRead {s : State} {m} : exec (.tsfRead m) s = execTsfRead m s := rfl
theorem exec_outputOverload {s : State} {n} : exec (.outputOverload n) s = execOutputOverload n s := rfl
theorem exec_readbackMismatch {s : State} {n} : exec (.readbackMismatch n) s = execReadbackMismatch n s := rfl
theorem exec_openLoad {s : State} {n} : exec (.openLoad n) s = execOpenLoad n s := rfl
theorem exec_testPulseCheck {s : State} {n} {high} : exec (.testPulseCheck n high) s = execTestPulseCheck n high s := rfl
theorem exec_testPulseEnd {s : State} {n} : exec (.testPulseEnd n) s = execTestPulseEnd n s := rfl
theorem exec_safetyEvaluation {s : State} : exec .safetyEvaluation s = execSafetyEvaluation s := rfl
theorem exec_belayComparison {s : State} {flip} : exec (.belayComparison flip) s = execBelayComparison flip s := rfl
theorem exec_stoDemand {s : State} {h} {l} : exec (.stoDemand h l) s = execStoDemand h l s := rfl
theorem exec_stoDemandEnd {s : State} : exec .stoDemandEnd s = execStoDemandEnd s := rfl
theorem exec_stopathFault {s : State} {h} : exec (.stopathFault h) s = execStopathFault h s := rfl
theorem exec_safeEnrbFault {s : State} {n} : exec (.safeEnrbFault n) s = execSafeEnrbFault n s := rfl
theorem exec_safeAckEdge {s : State} : exec .safeAckEdge s = execSafeAckEdge s := rfl
theorem exec_strapSample {s : State} {v} : exec (.strapSample v) s = execStrapSample v s := rfl
theorem exec_safeCrcCheck {s : State} : exec .safeCrcCheck s = execSafeCrcCheck s := rfl
theorem exec_safeConfirmWrite {s : State} {m} {x} : exec (.safeConfirmWrite m x) s = execSafeConfirmWrite m x s := rfl
theorem exec_safeSelSetWrite {s : State} {m} {x} : exec (.safeSelSetWrite m x) s = execSafeSelSetWrite m x s := rfl
theorem exec_safeSelClrWrite {s : State} {m} {x} : exec (.safeSelClrWrite m x) s = execSafeSelClrWrite m x s := rfl
theorem exec_safeReset {s : State} {m} {a} : exec (.safeReset m a) s = execSafeReset m a s := rfl
theorem exec_safeResetTimeout {s : State} : exec .safeResetTimeout s = execSafeResetTimeout s := rfl
theorem exec_safeConfig {s : State} {m} {a} : exec (.safeConfig m a) s = execSafeConfig m a s := rfl
theorem exec_leaveConfig {s : State} {m} {a} : exec (.leaveConfig m a) s = execLeaveConfig m a s := rfl
theorem exec_safeDemand {s : State} {m} {a} : exec (.safeDemand m a) s = execSafeDemand m a s := rfl
theorem exec_safeRelease {s : State} {m} {a} : exec (.safeRelease m a) s = execSafeRelease m a s := rfl
theorem exec_safeAbort {s : State} {m} {a} : exec (.safeAbort m a) s = execSafeAbort m a s := rfl
theorem exec_ocuStart {s : State} {u} {m} {a} : exec (.ocuStart u m a) s = execOcuStart u m a s := rfl
theorem exec_ocuStop {s : State} {u} {m} {a} : exec (.ocuStop u m a) s = execOcuStop u m a s := rfl
theorem exec_ocuLoadSched {s : State} {u} {m} {a} : exec (.ocuLoadSched u m a) s = execOcuLoadSched u m a s := rfl
theorem exec_ocuMbSend {s : State} {u} {m} {a} : exec (.ocuMbSend u m a) s = execOcuMbSend u m a s := rfl
theorem exec_ocuMbRelease {s : State} {u} {m} {a} : exec (.ocuMbRelease u m a) s = execOcuMbRelease u m a s := rfl
theorem exec_ocuBulkSend {s : State} {u} {m} {a} : exec (.ocuBulkSend u m a) s = execOcuBulkSend u m a s := rfl
theorem exec_ocuAbort {s : State} {u} {m} {a} : exec (.ocuAbort u m a) s = execOcuAbort u m a s := rfl
theorem exec_linkBlockReceived {s : State} {u} {p} {dt} {b} : exec (.linkBlockReceived u p dt b) s = execLinkBlockReceived u p dt b s := rfl
theorem exec_blockLockAcquired {s : State} {u} {p} : exec (.blockLockAcquired u p) s = execBlockLockAcquired u p s := rfl
theorem exec_blockLockLost {s : State} {u} {p} : exec (.blockLockLost u p) s = execBlockLockLost u p s := rfl
theorem exec_linkBreak {s : State} {u} {p} {dt} : exec (.linkBreak u p dt) s = execLinkBreak u p dt s := rfl
theorem exec_portRestore {s : State} {u} {p} : exec (.portRestore u p) s = execPortRestore u p s := rfl
theorem exec_cairnFrameReceived {s : State} {u} {p} {dt} {f} : exec (.cairnFrameReceived u p dt f) s = execCairnFrameReceived u p dt f s := rfl
theorem exec_headEmissionStart {s : State} : exec .headEmissionStart s = execHeadEmissionStart s := rfl
theorem exec_takeover {s : State} : exec .takeover s = execTakeover s := rfl
theorem exec_slotFrameReceived {s : State} {u} {p} {dt} {f} : exec (.slotFrameReceived u p dt f) s = execSlotFrameReceived u p dt f s := rfl
theorem exec_slotFill {s : State} {u} {xi} {west} {prev} {late} {collide} : exec (.slotFill u xi west prev late collide) s = execSlotFill u xi west prev late collide s := rfl
theorem exec_slotReinsertion {s : State} {u} {xi} {p} : exec (.slotReinsertion u xi p) s = execSlotReinsertion u xi p s := rfl
theorem exec_dynFrameSend {s : State} {u} {p} {m} {prev} {arriving} : exec (.dynFrameSend u p m prev arriving) s = execDynFrameSend u p m prev arriving s := rfl
theorem exec_delayReqSend {s : State} {u} {p} {dt} {arriving} : exec (.delayReqSend u p dt arriving) s = execDelayReqSend u p dt arriving s := rfl
theorem exec_delayReqReceived {s : State} {u} {p} {dt} {f} {turn} {arriving} : exec (.delayReqReceived u p dt f turn arriving) s = execDelayReqReceived u p dt f turn arriving s := rfl
theorem exec_delayRspReceived {s : State} {u} {p} {dt} {f} : exec (.delayRspReceived u p dt f) s = execDelayRspReceived u p dt f s := rfl
theorem exec_remoteWindowAccess {s : State} {m} {chip} {ofs} {count} {data} : exec (.remoteWindowAccess m chip ofs count data) s = execRemoteWindowAccess m chip ofs count data s := rfl
theorem exec_rraReq {s : State} {u} {p} {dt} {f} : exec (.rraReq u p dt f) s = execRraReq u p dt f s := rfl
theorem exec_rraRsp {s : State} {u} {p} {dt} {f} : exec (.rraRsp u p dt f) s = execRraRsp u p dt f s := rfl
theorem exec_rraTimeout {s : State} {u} {dst} {seq} : exec (.rraTimeout u dst seq) s = execRraTimeout u dst seq s := rfl
theorem exec_mbox {s : State} {u} {p} {dt} {f} : exec (.mbox u p dt f) s = execMbox u p dt f s := rfl
theorem exec_mboxAck {s : State} {u} {p} {dt} {f} : exec (.mboxAck u p dt f) s = execMboxAck u p dt f s := rfl
theorem exec_mboxTimeout {s : State} {u} : exec (.mboxTimeout u) s = execMboxTimeout u s := rfl
theorem exec_bulkData {s : State} {u} {p} {dt} {f} : exec (.bulkData u p dt f) s = execBulkData u p dt f s := rfl
theorem exec_bulkAck {s : State} {u} {p} {dt} {f} : exec (.bulkAck u p dt f) s = execBulkAck u p dt f s := rfl
theorem exec_bulkTimeout {s : State} {u} : exec (.bulkTimeout u) s = execBulkTimeout u s := rfl
theorem exec_tbSet {s : State} {m} {a} : exec (.tbSet m a) s = execTbSet m a s := rfl
theorem exec_tbAdj {s : State} {m} {a} : exec (.tbAdj m a) s = execTbAdj m a s := rfl
theorem exec_tbSnapCal {s : State} {m} {a} : exec (.tbSnapCal m a) s = execTbSnapCal m a s := rfl
theorem exec_snapCapture {s : State} : exec .snapCapture s = execSnapCapture s := rfl
theorem exec_tbAbort {s : State} {m} {a} : exec (.tbAbort m a) s = execTbAbort m a s := rfl
theorem exec_tbWrap {s : State} : exec .tbWrap s = execTbWrap s := rfl
theorem exec_slewComplete {s : State} : exec .slewComplete s = execSlewComplete s := rfl
theorem exec_tbTimeRead {s : State} {m} : exec (.tbTimeRead m) s = execTbTimeRead m s := rfl
theorem exec_ethStart {s : State} {k} {m} {a} : exec (.ethStart k m a) s = execEthStart k m a s := rfl
theorem exec_ethStop {s : State} {k} {m} {a} : exec (.ethStop k m a) s = execEthStop k m a s := rfl
theorem exec_ethMdio {s : State} {k} {m} {a} : exec (.ethMdio k m a) s = execEthMdio k m a s := rfl
theorem exec_ethMdioDone {s : State} {k} {data} : exec (.ethMdioDone k data) s = execEthMdioDone k data s := rfl
theorem exec_ethAbort {s : State} {k} {m} {a} : exec (.ethAbort k m a) s = execEthAbort k m a s := rfl
theorem exec_ethFrameTransmit {s : State} {k} {jit} : exec (.ethFrameTransmit k jit) s = execEthFrameTransmit k jit s := rfl
theorem exec_launchTime {s : State} {k} {jit} : exec (.launchTime k jit) s = execLaunchTime k jit s := rfl
theorem exec_ethFrameReceive {s : State} {k} {f} {jit} : exec (.ethFrameReceive k f jit) s = execEthFrameReceive k f jit s := rfl
theorem exec_txtailWrite {s : State} {m} {k} {q} {x} : exec (.txtailWrite m k q x) s = execTxtailWrite m k q x s := rfl
theorem exec_rxtailWrite {s : State} {m} {k} {q} {x} : exec (.rxtailWrite m k q x) s = execRxtailWrite m k q x s := rfl
theorem exec_canStart {s : State} {k} {m} {a} : exec (.canStart k m a) s = execCanStart k m a s := rfl
theorem exec_canStop {s : State} {k} {m} {a} : exec (.canStop k m a) s = execCanStop k m a s := rfl
theorem exec_canSleep {s : State} {k} {m} {a} : exec (.canSleep k m a) s = execCanSleep k m a s := rfl
theorem exec_canWake {s : State} {k} {m} {a} : exec (.canWake k m a) s = execCanWake k m a s := rfl
theorem exec_canRecover {s : State} {k} {m} {a} : exec (.canRecover k m a) s = execCanRecover k m a s := rfl
theorem exec_canTxreq {s : State} {k} {m} {a} : exec (.canTxreq k m a) s = execCanTxreq k m a s := rfl
theorem exec_canTxcancel {s : State} {k} {m} {a} : exec (.canTxcancel k m a) s = execCanTxcancel k m a s := rfl
theorem exec_canAbort {s : State} {k} {m} {a} : exec (.canAbort k m a) s = execCanAbort k m a s := rfl
theorem exec_periodicRequest {s : State} {k} {b} : exec (.periodicRequest k b) s = execPeriodicRequest k b s := rfl
theorem exec_canFrameReceived {s : State} {k} {f} : exec (.canFrameReceived k f) s = execCanFrameReceived k f s := rfl
theorem exec_canFrameSent {s : State} {k} {sof} {tdcv} : exec (.canFrameSent k sof tdcv) s = execCanFrameSent k sof tdcv s := rfl
theorem exec_arbitrationLost {s : State} {k} : exec (.arbitrationLost k) s = execArbitrationLost k s := rfl
theorem exec_canBusError {s : State} {k} {kind} {dphase} {patt} {exc} : exec (.canBusError k kind dphase patt exc) s = execCanBusError k kind dphase patt exc s := rfl
theorem exec_busIntegrationComplete {s : State} {k} : exec (.busIntegrationComplete k) s = execBusIntegrationComplete k s := rfl
theorem exec_busoffRecoveryComplete {s : State} {k} : exec (.busoffRecoveryComplete k) s = execBusoffRecoveryComplete k s := rfl
theorem exec_wakeDetected {s : State} {k} {ns} {f} : exec (.wakeDetected k ns f) s = execWakeDetected k ns f s := rfl
theorem exec_queEnqCommit {s : State} {m} {x} : exec (.queEnqCommit m x) s = execQueEnqCommit m x s := rfl
theorem exec_commitStallTimeout {s : State} {port} : exec (.commitStallTimeout port) s = execCommitStallTimeout port s := rfl
theorem exec_headRefill {s : State} {q} {err} : exec (.headRefill q err) s = execHeadRefill q err s := rfl
theorem exec_dispatchDecision {s : State} : exec .dispatchDecision s = execDispatchDecision s := rfl
theorem exec_wschDoneWrite {s : State} {m} : exec (.wschDoneWrite m) s = execWschDoneWrite m s := rfl
theorem exec_wschCancelWrite {s : State} {m} {x} : exec (.wschCancelWrite m x) s = execWschCancelWrite m x s := rfl
theorem exec_wschApplyCfg {s : State} {m} {a} : exec (.wschApplyCfg m a) s = execWschApplyCfg m a s := rfl
theorem exec_wschAbort {s : State} {m} {a} : exec (.wschAbort m a) s = execWschAbort m a s := rfl
theorem exec_coreRetirement {s : State} {n} : exec (.coreRetirement n) s = execCoreRetirement n s := rfl
theorem exec_queReset {s : State} {m} {a} : exec (.queReset m a) s = execQueReset m a s := rfl
theorem exec_queResize {s : State} {m} {a} : exec (.queResize m a) s = execQueResize m a s := rfl
theorem exec_queueResizeComplete {s : State} : exec .queueResizeComplete s = execQueueResizeComplete s := rfl
theorem exec_queAbort {s : State} {m} {a} : exec (.queAbort m a) s = execQueAbort m a s := rfl
theorem exec_dramRead {s : State} {m} {a} {r} : exec (.dramRead m a r) s = execDramRead m a r s := rfl
theorem exec_patrolScrub {s : State} {a} {r} {pos} : exec (.patrolScrub a r pos) s = execPatrolScrub a r pos s := rfl
theorem exec_memcScrubNow {s : State} {m} {a} : exec (.memcScrubNow m a) s = execMemcScrubNow m a s := rfl
theorem exec_scrubPassEnd {s : State} : exec .scrubPassEnd s = execScrubPassEnd s := rfl
theorem exec_memcRemap {s : State} {m} {a} : exec (.memcRemap m a) s = execMemcRemap m a s := rfl
theorem exec_rowRemapComplete {s : State} : exec .rowRemapComplete s = execRowRemapComplete s := rfl
theorem exec_memcAbort {s : State} {m} {a} : exec (.memcAbort m a) s = execMemcAbort m a s := rfl
theorem exec_srecStart {s : State} {m} {a} : exec (.srecStart m a) s = execSrecStart m a s := rfl
theorem exec_srecStop {s : State} {m} {a} : exec (.srecStop m a) s = execSrecStop m a s := rfl
theorem exec_srecArm {s : State} {m} {a} : exec (.srecArm m a) s = execSrecArm m a s := rfl
theorem exec_srecTrigger {s : State} {m} {a} : exec (.srecTrigger m a) s = execSrecTrigger m a s := rfl
theorem exec_srecRelease {s : State} {m} {a} : exec (.srecRelease m a) s = execSrecRelease m a s := rfl
theorem exec_srecAbort {s : State} {m} {a} : exec (.srecAbort m a) s = execSrecAbort m a s := rfl
theorem exec_srecFrameWrite {s : State} : exec .srecFrameWrite s = execSrecFrameWrite s := rfl
theorem exec_signalTriggerEvaluation {s : State} : exec .signalTriggerEvaluation s = execSignalTriggerEvaluation s := rfl
theorem exec_readoutGo {s : State} {m} {kind} : exec (.readoutGo m kind) s = execReadoutGo m kind s := rfl
theorem exec_readoutCancel {s : State} {m} {kind} : exec (.readoutCancel m kind) s = execReadoutCancel m kind s := rfl
theorem exec_readoutComplete {s : State} {n} {fail} : exec (.readoutComplete n fail) s = execReadoutComplete n fail s := rfl
theorem exec_coldStart {s : State} {e} : exec (.coldStart e) s = execColdStart e s := rfl
theorem exec_brownOutReset {s : State} : exec .brownOutReset s = execBrownOutReset s := rfl
theorem exec_supplyWarning {s : State} {r} {beyond} : exec (.supplyWarning r beyond) s = execSupplyWarning r beyond s := rfl
theorem exec_bootWarm {s : State} {m} {a} : exec (.bootWarm m a) s = execBootWarm m a s := rfl
theorem exec_bootVerify {s : State} {m} {a} : exec (.bootVerify m a) s = execBootVerify m a s := rfl
theorem exec_verifyDone {s : State} {err} : exec (.verifyDone err) s = execVerifyDone err s := rfl
theorem exec_bootCommit {s : State} {m} {a} : exec (.bootCommit m a) s = execBootCommit m a s := rfl
theorem exec_bootAttest {s : State} {m} {a} : exec (.bootAttest m a) s = execBootAttest m a s := rfl
theorem exec_attestDone {s : State} : exec .attestDone s = execAttestDone s := rfl
theorem exec_bootRetry {s : State} {m} {a} : exec (.bootRetry m a) s = execBootRetry m a s := rfl
theorem exec_bootAbort {s : State} {m} {a} : exec (.bootAbort m a) s = execBootAbort m a s := rfl
theorem exec_warmRestartComplete {s : State} {err} {ms} : exec (.warmRestartComplete err ms) s = execWarmRestartComplete err ms s := rfl
theorem exec_appWatchdogExpiry {s : State} : exec .appWatchdogExpiry s = execAppWatchdogExpiry s := rfl
theorem exec_wdogKick {s : State} {m} : exec (.wdogKick m) s = execWdogKick m s := rfl
theorem exec_identityKeyReady {s : State} : exec .identityKeyReady s = execIdentityKeyReady s := rfl
theorem exec_keyProg {s : State} {m} {a} : exec (.keyProg m a) s = execKeyProg m a s := rfl
theorem exec_keyRevoke {s : State} {m} {a} : exec (.keyRevoke m a) s = execKeyRevoke m a s := rfl
theorem exec_rollfwd {s : State} {m} {a} : exec (.rollfwd m a) s = execRollfwd m a s := rfl
theorem exec_svcProg {s : State} {m} {a} : exec (.svcProg m a) s = execSvcProg m a s := rfl
theorem exec_otpProg {s : State} {m} {a} : exec (.otpProg m a) s = execOtpProg m a s := rfl
theorem exec_dbgLock {s : State} {m} {a} : exec (.dbgLock m a) s = execDbgLock m a s := rfl
theorem exec_dbgOpen {s : State} {m} {a} : exec (.dbgOpen m a) s = execDbgOpen m a s := rfl
theorem exec_bootScAbort {s : State} {m} {a} : exec (.bootScAbort m a) s = execBootScAbort m a s := rfl
theorem exec_otpProgramDone {s : State} : exec .otpProgramDone s = execOtpProgramDone s := rfl
theorem exec_kecInit {s : State} {m} {a} : exec (.kecInit m a) s = execKecInit m a s := rfl
theorem exec_kecAbsorb {s : State} {m} {a} : exec (.kecAbsorb m a) s = execKecAbsorb m a s := rfl
theorem exec_kecAbsorbDone {s : State} {err} : exec (.kecAbsorbDone err) s = execKecAbsorbDone err s := rfl
theorem exec_kecFinal {s : State} {m} {a} : exec (.kecFinal m a) s = execKecFinal m a s := rfl
theorem exec_kecAbort {s : State} {m} {a} : exec (.kecAbort m a) s = execKecAbort m a s := rfl
theorem exec_xspiRead {s : State} {m} {a} : exec (.xspiRead m a) s = execXspiRead m a s := rfl
theorem exec_xspiProgram {s : State} {m} {a} : exec (.xspiProgram m a) s = execXspiProgram m a s := rfl
theorem exec_xspiErase4k {s : State} {m} {a} : exec (.xspiErase4k m a) s = execXspiErase4k m a s := rfl
theorem exec_xspiErase64k {s : State} {m} {a} : exec (.xspiErase64k m a) s = execXspiErase64k m a s := rfl
theorem exec_xspiResume {s : State} {m} {a} : exec (.xspiResume m a) s = execXspiResume m a s := rfl
theorem exec_xspiAbort {s : State} {m} {a} : exec (.xspiAbort m a) s = execXspiAbort m a s := rfl
theorem exec_xspiOperationDone {s : State} {err} : exec (.xspiOperationDone err) s = execXspiOperationDone err s := rfl
theorem exec_pciePerst {s : State} : exec .pciePerst s = execPciePerst s := rfl
theorem exec_pcieLinkUp {s : State} {speed} {width} : exec (.pcieLinkUp speed width) s = execPcieLinkUp speed width s := rfl
theorem exec_pcieLinkDown {s : State} : exec .pcieLinkDown s = execPcieLinkDown s := rfl
theorem exec_pcieRetrain {s : State} {m} {a} : exec (.pcieRetrain m a) s = execPcieRetrain m a s := rfl
theorem exec_pcieMbReset {s : State} {m} {a} : exec (.pcieMbReset m a) s = execPcieMbReset m a s := rfl
theorem exec_pcieAbort {s : State} {m} {a} : exec (.pcieAbort m a) s = execPcieAbort m a s := rfl
theorem exec_mbDbWrite {s : State} {k} {x} : exec (.mbDbWrite k x) s = execMbDbWrite k x s := rfl
theorem exec_mbAnswerWrite {s : State} {m} {x} : exec (.mbAnswerWrite m x) s = execMbAnswerWrite m x s := rfl
theorem exec_qdbCommit {s : State} {q} {ws} : exec (.qdbCommit q ws) s = execQdbCommit q ws s := rfl
theorem exec_msixRaiseWrite {s : State} {m} {x} : exec (.msixRaiseWrite m x) s = execMsixRaiseWrite m x s := rfl
theorem exec_bar4ReadTimeout {s : State} : exec .bar4ReadTimeout s = execBar4ReadTimeout s := rfl
theorem exec_fltLogRead {s : State} {m} : exec (.fltLogRead m) s = execFltLogRead m s := rfl
theorem exec_operatingSecond {s : State} : exec .operatingSecond s = execOperatingSecond s := rfl
theorem exec_ropeDivergence {s : State} {b} : exec (.ropeDivergence b) s = execRopeDivergence b s := rfl
theorem exec_standbyPairReady {s : State} {fail} : exec (.standbyPairReady fail) s = execStandbyPairReady fail s := rfl
theorem exec_autocoldRestart {s : State} : exec .autocoldRestart s = execAutocoldRestart s := rfl
theorem exec_periodicSelfTest {s : State} {t} {inst} {fail} : exec (.periodicSelfTest t inst fail) s = execPeriodicSelfTest t inst fail s := rfl
theorem exec_fltSelftest {s : State} {m} {a} : exec (.fltSelftest m a) s = execFltSelftest m a s := rfl
theorem exec_selftestDone {s : State} {clr} {fail} : exec (.selftestDone clr fail) s = execSelftestDone clr fail s := rfl
theorem exec_fltAbort {s : State} {m} {a} : exec (.fltAbort m a) s = execFltAbort m a s := rfl
theorem exec_clearRet {s : State} {m} {a} : exec (.clearRet m a) s = execClearRet m a s := rfl
theorem exec_islReset {s : State} {m} {a} : exec (.islReset m a) s = execIslReset m a s := rfl
theorem exec_islResetDone {s : State} : exec .islResetDone s = execIslResetDone s := rfl
theorem exec_fltScAbort {s : State} {m} {a} : exec (.fltScAbort m a) s = execFltScAbort m a s := rfl
theorem exec_vbatMeasure {s : State} {mv} : exec (.vbatMeasure mv) s = execVbatMeasure mv s := rfl
theorem exec_vbatSwitchover {s : State} : exec .vbatSwitchover s = execVbatSwitchover s := rfl
theorem exec_bivSet {s : State} {m} {a} : exec (.bivSet m a) s = execBivSet m a s := rfl
theorem exec_calendarLoad {s : State} : exec .calendarLoad s = execCalendarLoad s := rfl
theorem exec_bivAbort {s : State} {m} {a} : exec (.bivAbort m a) s = execBivAbort m a s := rfl
theorem exec_calendarRead {s : State} {m} {frac} : exec (.calendarRead m frac) s = execCalendarRead m frac s := rfl
theorem exec_hutReserve {s : State} {m} {a} : exec (.hutReserve m a) s = execHutReserve m a s := rfl
theorem exec_hutWrDataWrite {s : State} {m} {x} : exec (.hutWrDataWrite m x) s = execHutWrDataWrite m x s := rfl
theorem exec_hutCommit {s : State} {m} {a} : exec (.hutCommit m a) s = execHutCommit m a s := rfl
theorem exec_hutCancel {s : State} {m} {a} : exec (.hutCancel m a) s = execHutCancel m a s := rfl
theorem exec_hutAbort {s : State} {m} {a} : exec (.hutAbort m a) s = execHutAbort m a s := rfl
theorem exec_reservationTimeout {s : State} : exec .reservationTimeout s = execReservationTimeout s := rfl
theorem exec_blockRecordCommit {s : State} : exec .blockRecordCommit s = execBlockRecordCommit s := rfl
theorem exec_hutCursorWrite {s : State} {m} {x} : exec (.hutCursorWrite m x) s = execHutCursorWrite m x s := rfl
theorem exec_hutNonce {s : State} {m} {a} : exec (.hutNonce m a) s = execHutNonce m a s := rfl
theorem exec_hutClear {s : State} {m} {a} : exec (.hutClear m a) s = execHutClear m a s := rfl
theorem exec_hutClearVerifyDone {s : State} : exec .hutClearVerifyDone s = execHutClearVerifyDone s := rfl
theorem exec_hutScAbort {s : State} {m} {a} : exec (.hutScAbort m a) s = execHutScAbort m a s := rfl
theorem exec_converterFree {s : State} {conv} : exec (.converterFree conv) s = execConverterFree conv s := rfl
theorem exec_rawInputEdge {s : State} {n} {level} : exec (.rawInputEdge n level) s = execRawInputEdge n level s := rfl
theorem exec_couplerHeartbeatReturn {s : State} {ch} : exec (.couplerHeartbeatReturn ch) s = execCouplerHeartbeatReturn ch s := rfl
theorem exec_supplyLowClear {s : State} {b} {mv} : exec (.supplyLowClear b mv) s = execSupplyLowClear b mv s := rfl
theorem exec_stuckStreamRecovery {s : State} {n} : exec (.stuckStreamRecovery n) s = execStuckStreamRecovery n s := rfl
theorem exec_calendarSecond {s : State} : exec .calendarSecond s = execCalendarSecond s := rfl
theorem exec_porstNAsserted {s : State} : exec .porstNAsserted s = execPorstNAsserted s := rfl
theorem exec_ethLinkChange {s : State} {k} {link} {speed} : exec (.ethLinkChange k link speed) s = execEthLinkChange k link speed s := rfl
theorem exec_machineCheck {s : State} {n} : exec (.machineCheck n) s = execMachineCheck n s := rfl
theorem exec_sharedSramRead {s : State} {m} {a} {r} : exec (.sharedSramRead m a r) s = execSharedSramRead m a r s := rfl
theorem exec_dramCheckBitInit {s : State} {progress} {done} : exec (.dramCheckBitInit progress done) s = execDramCheckBitInit progress done s := rfl
theorem exec_mr4RateChange {s : State} {ch} {code} : exec (.mr4RateChange ch code) s = execMr4RateChange ch code s := rfl
theorem exec_dynamicFrameReceived {s : State} {u} {p} {dt} {f} : exec (.dynamicFrameReceived u p dt f) s = execDynamicFrameReceived u p dt f s := rfl
theorem exec_msixUnmask {s : State} {v} : exec (.msixUnmask v) s = execMsixUnmask v s := rfl

/-! ### Rows that write a command -/

theorem commandOf_sysApplyCoreEn {s : State} {m} {a} : commandOf (.sysApplyCoreEn m a) s = some ⟨s, m, a, ⟨Reg.SYS_CMD, .priv, 1, a.arg == 0, true, !s.warm, true⟩⟩ :=
  rfl

theorem sysApplyCoreEn_written {s : State} {m} {a} {w : Written} (h : commandOf (.sysApplyCoreEn m a) s = some w) :
    ∃ eff, exec (.sysApplyCoreEn m a) s = s.goesTo (w.st.command w.m w.a w.c eff) := by
  rw [commandOf_sysApplyCoreEn] at h
  cases h
  rw [exec_sysApplyCoreEn]
  unfold execSysApplyCoreEn sysApplyCoreEn
  exact ⟨_, rfl⟩

theorem commandOf_sysClearCounters {s : State} {m} {a} : commandOf (.sysClearCounters m a) s = some ⟨s, m, a, ⟨Reg.SYS_CMD, .priv, 2, a.arg == 0, false, true, true⟩⟩ :=
  rfl

theorem sysClearCounters_written {s : State} {m} {a} {w : Written} (h : commandOf (.sysClearCounters m a) s = some w) :
    ∃ eff, exec (.sysClearCounters m a) s = s.goesTo (w.st.command w.m w.a w.c eff) := by
  rw [commandOf_sysClearCounters] at h
  cases h
  rw [exec_sysClearCounters]
  unfold execSysClearCounters sysClearCounters
  exact ⟨_, rfl⟩

theorem commandOf_clkApplyPoolSel {s : State} {m} {a} : commandOf (.clkApplyPoolSel m a) s =
    let sel := fld (s.reg Reg.CLK_POOL_SEL) 1 0
    some ⟨s, m, a, ⟨Reg.CLK_CMD, .secure, 1, a.arg == 0, true, true, sel != 3⟩⟩ :=
  rfl

theorem clkApplyPoolSel_written {s : State} {m} {a} {w : Written} (h : commandOf (.clkApplyPoolSel m a) s = some w) :
    ∃ eff, exec (.clkApplyPoolSel m a) s = s.goesTo (w.st.command w.m w.a w.c eff) := by
  rw [commandOf_clkApplyPoolSel] at h
  cases h
  rw [exec_clkApplyPoolSel]
  unfold execClkApplyPoolSel clkApplyPoolSel
  exact ⟨_, rfl⟩

theorem commandOf_sigLoad {s : State} {m} {a} : commandOf (.sigLoad m a) s =
    let cnt := (s.reg Reg.SIG_LOAD_CNT).toNat
    let src := (s.reg Reg.SIG_LOAD_ADDR).toNat
    let ok := 1 ≤ cnt && cnt ≤ 8192 && src + 16 * cnt ≤ 0x800000 && (src + 16 * cnt ≤ 0x780000 || mclass m = .secure)
    some ⟨s, m, a, ⟨Reg.SIG_CMD, .priv, 1, a.arg == 0, true, s.reg Reg.SIG_STATE == 1, ok⟩⟩ :=
  rfl

theorem sigLoad_written {s : State} {m} {a} {w : Written} (h : commandOf (.sigLoad m a) s = some w) :
    ∃ eff, exec (.sigLoad m a) s = s.goesTo (w.st.command w.m w.a w.c eff) := by
  rw [commandOf_sigLoad] at h
  cases h
  rw [exec_sigLoad]
  unfold execSigLoad sigLoad
  exact ⟨_, rfl⟩

theorem commandOf_sigSwap {s : State} {m} {a} : commandOf (.sigSwap m a) s =
    some ⟨s, m, a, ⟨Reg.SIG_CMD, .priv, 2, a.arg == 0, true, s.reg Reg.SIG_STATE == 1, (List.range 64).all s.stagedOk⟩⟩ :=
  rfl

theorem sigSwap_written {s : State} {m} {a} {w : Written} (h : commandOf (.sigSwap m a) s = some w) :
    ∃ eff, exec (.sigSwap m a) s = s.goesTo (w.st.command w.m w.a w.c eff) := by
  rw [commandOf_sigSwap] at h
  cases h
  rw [exec_sigSwap]
  unfold execSigSwap sigSwap
  exact ⟨_, rfl⟩

theorem commandOf_cycStart {s : State} {m} {a} : commandOf (.cycStart m a) s = some ⟨s, m, a, ⟨Reg.CYC_CMD, .priv, 1, a.arg == 0, false, s.reg Reg.CYC_STATE == 0, true⟩⟩ :=
  rfl

theorem cycStart_written {s : State} {m} {a} {w : Written} (h : commandOf (.cycStart m a) s = some w) :
    ∃ eff, exec (.cycStart m a) s = s.goesTo (w.st.command w.m w.a w.c eff) := by
  rw [commandOf_cycStart] at h
  cases h
  rw [exec_cycStart]
  unfold execCycStart cycStart
  exact ⟨_, rfl⟩

theorem commandOf_cycSwap {s : State} {m} {a} : commandOf (.cycSwap m a) s =
    let t := (s.reg Reg.CYC_SETUP_S).toNat
    some ⟨s, m, a, ⟨Reg.CYC_CMD, .priv, 2, a.arg == 0, true, true, 250 ≤ t && t ≤ 2000⟩⟩ :=
  rfl

theorem cycSwap_written {s : State} {m} {a} {w : Written} (h : commandOf (.cycSwap m a) s = some w) :
    ∃ eff, exec (.cycSwap m a) s = s.goesTo (w.st.command w.m w.a w.c eff) := by
  rw [commandOf_cycSwap] at h
  cases h
  rw [exec_cycSwap]
  unfold execCycSwap cycSwap
  exact ⟨_, rfl⟩

theorem commandOf_ceStart {s : State} {m} {a} : commandOf (.ceStart m a) s =
    some ⟨s, m, a, ⟨Reg.CE_CMD, .priv, 1, a.arg == 0, false, s.reg Reg.CE_STATE == 0 && s.cycRuns && [0, 1,
      2].any (fun n => s.ceRole n != 2), true⟩⟩ :=
  rfl

theorem ceStart_written {s : State} {m} {a} {w : Written} (h : commandOf (.ceStart m a) s = some w) :
    ∃ eff, exec (.ceStart m a) s = s.goesTo (w.st.command w.m w.a w.c eff) := by
  rw [commandOf_ceStart] at h
  cases h
  rw [exec_ceStart]
  unfold execCeStart ceStart
  exact ⟨_, rfl⟩

theorem commandOf_ceStop {s : State} {m} {a} : commandOf (.ceStop m a) s = some ⟨s, m, a, ⟨Reg.CE_CMD, .priv, 2, a.arg == 0, false, s.reg Reg.CE_STATE != 0, true⟩⟩ :=
  rfl

theorem ceStop_written {s : State} {m} {a} {w : Written} (h : commandOf (.ceStop m a) s = some w) :
    ∃ eff, exec (.ceStop m a) s = s.goesTo (w.st.command w.m w.a w.c eff) := by
  rw [commandOf_ceStop] at h
  cases h
  rw [exec_ceStop]
  unfold execCeStop ceStop
  exact ⟨_, rfl⟩

theorem commandOf_ceValidate {s : State} {m} {a} : commandOf (.ceValidate m a) s = some ⟨s, m, a, ⟨Reg.CE_CMD, .priv, 3, a.arg == 0, true, true, true⟩⟩ :=
  rfl

theorem ceValidate_written {s : State} {m} {a} {w : Written} (h : commandOf (.ceValidate m a) s = some w) :
    ∃ eff, exec (.ceValidate m a) s = s.goesTo (w.st.command w.m w.a w.c eff) := by
  rw [commandOf_ceValidate] at h
  cases h
  rw [exec_ceValidate]
  unfold execCeValidate ceValidate
  exact ⟨_, rfl⟩

theorem commandOf_ceSwap {s : State} {m} {a} : commandOf (.ceSwap m a) s = some ⟨s, m, a, ⟨Reg.CE_CMD, .priv, 4, a.arg == 0, true, bitOf (s.reg Reg.CE_VAL) 31, true⟩⟩ :=
  rfl

theorem ceSwap_written {s : State} {m} {a} {w : Written} (h : commandOf (.ceSwap m a) s = some w) :
    ∃ eff, exec (.ceSwap m a) s = s.goesTo (w.st.command w.m w.a w.c eff) := by
  rw [commandOf_ceSwap] at h
  cases h
  rw [exec_ceSwap]
  unfold execCeSwap ceSwap
  exact ⟨_, rfl⟩

theorem commandOf_ctabCopy {s : State} {m} {a} : commandOf (.ctabCopy m a) s =
    let n := a.arg.toNat % 64
    let t := s.ceTable n
    some ⟨s, m, a, ⟨Reg.CTAB_CMD, .priv, 1, decide (a.arg.toNat < 64), true, s.reg Reg.CTAB_STATE == 1, t.ok &&
      t.mode != 0⟩⟩ :=
  rfl

theorem ctabCopy_written {s : State} {m} {a} {w : Written} (h : commandOf (.ctabCopy m a) s = some w) :
    ∃ eff, exec (.ctabCopy m a) s = s.goesTo (w.st.command w.m w.a w.c eff) := by
  rw [commandOf_ctabCopy] at h
  cases h
  rw [exec_ctabCopy]
  unfold execCtabCopy ctabCopy
  exact ⟨_, rfl⟩

theorem commandOf_profEnable {s : State} {m} {g} {a} : commandOf (.profEnable m g a) s =
    let g := g.toNat
    some ⟨s, m, a, genCmd g a 1 false (s.genSt g == 0) true⟩ :=
  rfl

theorem profEnable_written {s : State} {m} {g} {a} {w : Written} (h : commandOf (.profEnable m g a) s = some w) :
    ∃ eff, exec (.profEnable m g a) s = s.goesTo (w.st.command w.m w.a w.c eff) := by
  rw [commandOf_profEnable] at h
  cases h
  rw [exec_profEnable]
  unfold execProfEnable profEnable
  exact ⟨_, rfl⟩

theorem commandOf_profDisable {s : State} {m} {g} {a} : commandOf (.profDisable m g a) s =
    let g := g.toNat
    some ⟨s, m, a, genCmd g a 2 false (s.genSt g == 1 || s.genSt g == 5) true⟩ :=
  rfl

theorem profDisable_written {s : State} {m} {g} {a} {w : Written} (h : commandOf (.profDisable m g a) s = some w) :
    ∃ eff, exec (.profDisable m g a) s = s.goesTo (w.st.command w.m w.a w.c eff) := by
  rw [commandOf_profDisable] at h
  cases h
  rw [exec_profDisable]
  unfold execProfDisable profDisable
  exact ⟨_, rfl⟩

theorem commandOf_profGo {s : State} {m} {g} {a} : commandOf (.profGo m g a) s =
    let g := g.toNat
    let t := s.profImm (mport m)
    let st := s.genSt g
    let home : Bool := (tTYPE t == 1 || tTYPE t == 2) && insideLims (s.genLims g) (travTarget t (s.gen g).k.p)
    some ⟨s, m, a, genCmd g a 3 true (st == 1 || st == 2 || (st == 5 && home)) (s.travOk t)⟩ :=
  rfl

theorem profGo_written {s : State} {m} {g} {a} {w : Written} (h : commandOf (.profGo m g a) s = some w) :
    ∃ eff, exec (.profGo m g a) s = s.goesTo (w.st.command w.m w.a w.c eff) := by
  rw [commandOf_profGo] at h
  cases h
  rw [exec_profGo]
  unfold execProfGo profGo
  exact ⟨_, rfl⟩

theorem commandOf_profRunQueue {s : State} {m} {g} {a} : commandOf (.profRunQueue m g a) s =
    let g := g.toNat
    some ⟨s, m, a, genCmd g a 4 false ((s.genSt g == 1 || s.genSt g == 2) && bitOf (s.reg (Reg.PROF_G_CFG g)) 23) true⟩ :=
  rfl

theorem profRunQueue_written {s : State} {m} {g} {a} {w : Written} (h : commandOf (.profRunQueue m g a) s = some w) :
    ∃ eff, exec (.profRunQueue m g a) s = s.goesTo (w.st.command w.m w.a w.c eff) := by
  rw [commandOf_profRunQueue] at h
  cases h
  rw [exec_profRunQueue]
  unfold execProfRunQueue profRunQueue
  exact ⟨_, rfl⟩

theorem commandOf_profStop {s : State} {m} {g} {a} : commandOf (.profStop m g a) s =
    let g := g.toNat
    some ⟨s, m, a, genCmd g a 5 false (s.genSt g != 0) true⟩ :=
  rfl

theorem profStop_written {s : State} {m} {g} {a} {w : Written} (h : commandOf (.profStop m g a) s = some w) :
    ∃ eff, exec (.profStop m g a) s = s.goesTo (w.st.command w.m w.a w.c eff) := by
  rw [commandOf_profStop] at h
  cases h
  rw [exec_profStop]
  unfold execProfStop profStop
  exact ⟨_, rfl⟩

theorem commandOf_profQstop {s : State} {m} {g} {a} : commandOf (.profQstop m g a) s =
    let g := g.toNat
    some ⟨s, m, a, genCmd g a 6 false (s.genSt g != 0) true⟩ :=
  rfl

theorem profQstop_written {s : State} {m} {g} {a} {w : Written} (h : commandOf (.profQstop m g a) s = some w) :
    ∃ eff, exec (.profQstop m g a) s = s.goesTo (w.st.command w.m w.a w.c eff) := by
  rw [commandOf_profQstop] at h
  cases h
  rw [exec_profQstop]
  unfold execProfQstop profQstop
  exact ⟨_, rfl⟩

theorem commandOf_profFlush {s : State} {m} {g} {a} : commandOf (.profFlush m g a) s =
    let g := g.toNat
    some ⟨s, m, a, genCmd g a 7 false (!(s.genSt g == 2 && s.genRunq g)) true⟩ :=
  rfl

theorem profFlush_written {s : State} {m} {g} {a} {w : Written} (h : commandOf (.profFlush m g a) s = some w) :
    ∃ eff, exec (.profFlush m g a) s = s.goesTo (w.st.command w.m w.a w.c eff) := by
  rw [commandOf_profFlush] at h
  cases h
  rw [exec_profFlush]
  unfold execProfFlush profFlush
  exact ⟨_, rfl⟩

theorem commandOf_profLatchArm {s : State} {m} {g} {a} : commandOf (.profLatchArm m g a) s =
    let g := g.toNat
    some ⟨s, m, a, genCmd g a 8 false (s.genSt g != 0) true⟩ :=
  rfl

theorem profLatchArm_written {s : State} {m} {g} {a} {w : Written} (h : commandOf (.profLatchArm m g a) s = some w) :
    ∃ eff, exec (.profLatchArm m g a) s = s.goesTo (w.st.command w.m w.a w.c eff) := by
  rw [commandOf_profLatchArm] at h
  cases h
  rw [exec_profLatchArm]
  unfold execProfLatchArm profLatchArm
  exact ⟨_, rfl⟩

theorem commandOf_profStopAll {s : State} {m} {a} : commandOf (.profStopAll m a) s = some ⟨s, m, a, ⟨Reg.PROF_CMD, .priv, 2, a.arg == 0, false, true, true⟩⟩ :=
  rfl

theorem profStopAll_written {s : State} {m} {a} {w : Written} (h : commandOf (.profStopAll m a) s = some w) :
    ∃ eff, exec (.profStopAll m a) s = s.goesTo (w.st.command w.m w.a w.c eff) := by
  rw [commandOf_profStopAll] at h
  cases h
  rw [exec_profStopAll]
  unfold execProfStopAll profStopAll
  exact ⟨_, rfl⟩

theorem commandOf_axcEnable {s : State} {m} {n} {a} : commandOf (.axcEnable m n a) s =
    let n := n.toNat
    some ⟨s, m, a, chanCmd n a 1 (s.axcSt n == 0 && fld (s.reg (Reg.AXC_CH_CFG (n / 4) (n % 4))) 1 0 != 3)⟩ :=
  rfl

theorem axcEnable_written {s : State} {m} {n} {a} {w : Written} (h : commandOf (.axcEnable m n a) s = some w) :
    ∃ eff, exec (.axcEnable m n a) s = s.goesTo (w.st.command w.m w.a w.c eff) := by
  rw [commandOf_axcEnable] at h
  cases h
  rw [exec_axcEnable]
  unfold execAxcEnable axcEnable
  exact ⟨_, rfl⟩

theorem commandOf_axcDisable {s : State} {m} {n} {a} : commandOf (.axcDisable m n a) s =
    let n := n.toNat
    some ⟨s, m, a, chanCmd n a 2 (s.axcSt n == 1 || s.axcSt n == 2)⟩ :=
  rfl

theorem axcDisable_written {s : State} {m} {n} {a} {w : Written} (h : commandOf (.axcDisable m n a) s = some w) :
    ∃ eff, exec (.axcDisable m n a) s = s.goesTo (w.st.command w.m w.a w.c eff) := by
  rw [commandOf_axcDisable] at h
  cases h
  rw [exec_axcDisable]
  unfold execAxcDisable axcDisable
  exact ⟨_, rfl⟩

theorem commandOf_axcReset {s : State} {m} {n} {a} : commandOf (.axcReset m n a) s =
    let n := n.toNat
    some ⟨s, m, a, chanCmd n a 3 (s.axcSt n == 3)⟩ :=
  rfl

theorem axcReset_written {s : State} {m} {n} {a} {w : Written} (h : commandOf (.axcReset m n a) s = some w) :
    ∃ eff, exec (.axcReset m n a) s = s.goesTo (w.st.command w.m w.a w.c eff) := by
  rw [commandOf_axcReset] at h
  cases h
  rw [exec_axcReset]
  unfold execAxcReset axcReset
  exact ⟨_, rfl⟩

theorem commandOf_axcSwap {s : State} {m} {k} {a} : commandOf (.axcSwap m k a) s =
    let k := k.toNat
    let clash := (List.range 4).any (fun c => (s.axcSt (4 * k + c) == 1 || s.axcSt (4 * k + c) == 2) &&
      fld (s.reg (Reg.AXC_CH_CFG_S k c)) 1 0 != fld (s.reg (Reg.AXC_CH_CFG k c)) 1 0)
    some ⟨s, m, a, ⟨Reg.AXC_CMD k, .priv, 2, a.arg == 0, true, !clash, s.axcStagedOk k⟩⟩ :=
  rfl

theorem axcSwap_written {s : State} {m} {k} {a} {w : Written} (h : commandOf (.axcSwap m k a) s = some w) :
    ∃ eff, exec (.axcSwap m k a) s = s.goesTo (w.st.command w.m w.a w.c eff) := by
  rw [commandOf_axcSwap] at h
  cases h
  rw [exec_axcSwap]
  unfold execAxcSwap axcSwap
  exact ⟨_, rfl⟩

theorem commandOf_encConfig {s : State} {m} {a} : commandOf (.encConfig m a) s =
    let p := a.arg.toNat
    some ⟨s, m, a, ⟨Reg.ENC_CMD, .priv, 1, decide (p < 16), true, true, s.encPendOk p⟩⟩ :=
  rfl

theorem encConfig_written {s : State} {m} {a} {w : Written} (h : commandOf (.encConfig m a) s = some w) :
    ∃ eff, exec (.encConfig m a) s = s.goesTo (w.st.command w.m w.a w.c eff) := by
  rw [commandOf_encConfig] at h
  cases h
  rw [exec_encConfig]
  unfold execEncConfig encConfig
  exact ⟨_, rfl⟩

theorem commandOf_encSsiRead {s : State} {m} {a} : commandOf (.encSsiRead m a) s =
    let p := a.arg.toNat
    some ⟨s, m, a, ⟨Reg.ENC_CMD, .priv, 2, decide (p < 16), true, s.encMode p == 4 &&
      !bitOf (s.reg (Reg.ENC_P_MODE p)) 7, true⟩⟩ :=
  rfl

theorem encSsiRead_written {s : State} {m} {a} {w : Written} (h : commandOf (.encSsiRead m a) s = some w) :
    ∃ eff, exec (.encSsiRead m a) s = s.goesTo (w.st.command w.m w.a w.c eff) := by
  rw [commandOf_encSsiRead] at h
  cases h
  rw [exec_encSsiRead]
  unfold execEncSsiRead encSsiRead
  exact ⟨_, rfl⟩

theorem commandOf_stepReshape {s : State} {m} {a} : commandOf (.stepReshape m a) s =
    some ⟨s, m, a, ⟨Reg.STEP_CMD, .priv, 1, decide (a.arg.toNat < 4), true, s.reg Reg.STEP_STATE == 1, true⟩⟩ :=
  rfl

theorem stepReshape_written {s : State} {m} {a} {w : Written} (h : commandOf (.stepReshape m a) s = some w) :
    ∃ eff, exec (.stepReshape m a) s = s.goesTo (w.st.command w.m w.a w.c eff) := by
  rw [commandOf_stepReshape] at h
  cases h
  rw [exec_stepReshape]
  unfold execStepReshape stepReshape
  exact ⟨_, rfl⟩

theorem commandOf_ilkSwap {s : State} {m} {a} : commandOf (.ilkSwap m a) s = some ⟨s, m, a, ilkCmd 1 (a.arg == 0) true (s.reg Reg.ILK_STATE == 1)⟩ :=
  rfl

theorem ilkSwap_written {s : State} {m} {a} {w : Written} (h : commandOf (.ilkSwap m a) s = some w) :
    ∃ eff, exec (.ilkSwap m a) s = s.goesTo (w.st.command w.m w.a w.c eff) := by
  rw [commandOf_ilkSwap] at h
  cases h
  rw [exec_ilkSwap]
  unfold execIlkSwap ilkSwap
  exact ⟨_, rfl⟩

theorem commandOf_ilkCopyActive {s : State} {m} {a} : commandOf (.ilkCopyActive m a) s = some ⟨s, m, a, ilkCmd 2 (a.arg == 0) true (s.reg Reg.ILK_STATE == 1)⟩ :=
  rfl

theorem ilkCopyActive_written {s : State} {m} {a} {w : Written} (h : commandOf (.ilkCopyActive m a) s = some w) :
    ∃ eff, exec (.ilkCopyActive m a) s = s.goesTo (w.st.command w.m w.a w.c eff) := by
  rw [commandOf_ilkCopyActive] at h
  cases h
  rw [exec_ilkCopyActive]
  unfold execIlkCopyActive ilkCopyActive
  exact ⟨_, rfl⟩

theorem commandOf_ilkAck {s : State} {m} {a} : commandOf (.ilkAck m a) s =
    let r := a.arg.toNat
    some ⟨s, m, a, ilkCmd 3 (decide (r < 1024)) false (!(s.ilkRule r).cond)⟩ :=
  rfl

theorem ilkAck_written {s : State} {m} {a} {w : Written} (h : commandOf (.ilkAck m a) s = some w) :
    ∃ eff, exec (.ilkAck m a) s = s.goesTo (w.st.command w.m w.a w.c eff) := by
  rw [commandOf_ilkAck] at h
  cases h
  rw [exec_ilkAck]
  unfold execIlkAck ilkAck
  exact ⟨_, rfl⟩

theorem commandOf_seqStart {s : State} {m} {c} {a} : commandOf (.seqStart m c a) s =
    let c := c.toNat
    some ⟨s, m, a, seqCmd c 1 (a.arg == 0) true (s.seqSt c == 0 || s.seqSt c == 4)⟩ :=
  rfl

theorem seqStart_written {s : State} {m} {c} {a} {w : Written} (h : commandOf (.seqStart m c a) s = some w) :
    ∃ eff, exec (.seqStart m c a) s = s.goesTo (w.st.command w.m w.a w.c eff) := by
  rw [commandOf_seqStart] at h
  cases h
  rw [exec_seqStart]
  unfold execSeqStart seqStart
  exact ⟨_, rfl⟩

theorem commandOf_seqPause {s : State} {m} {c} {a} : commandOf (.seqPause m c a) s =
    let c := c.toNat
    some ⟨s, m, a, seqCmd c 2 (a.arg == 0) false (s.seqSt c == 2)⟩ :=
  rfl

theorem seqPause_written {s : State} {m} {c} {a} {w : Written} (h : commandOf (.seqPause m c a) s = some w) :
    ∃ eff, exec (.seqPause m c a) s = s.goesTo (w.st.command w.m w.a w.c eff) := by
  rw [commandOf_seqPause] at h
  cases h
  rw [exec_seqPause]
  unfold execSeqPause seqPause
  exact ⟨_, rfl⟩

theorem commandOf_seqResume {s : State} {m} {c} {a} : commandOf (.seqResume m c a) s =
    let c := c.toNat
    some ⟨s, m, a, seqCmd c 3 (a.arg == 0) false (s.seqSt c == 3 && (s.seqCh c).rules.all (fun r => r.2))⟩ :=
  rfl

theorem seqResume_written {s : State} {m} {c} {a} {w : Written} (h : commandOf (.seqResume m c a) s = some w) :
    ∃ eff, exec (.seqResume m c a) s = s.goesTo (w.st.command w.m w.a w.c eff) := by
  rw [commandOf_seqResume] at h
  cases h
  rw [exec_seqResume]
  unfold execSeqResume seqResume
  exact ⟨_, rfl⟩

theorem commandOf_seqRelease {s : State} {m} {c} {a} : commandOf (.seqRelease m c a) s =
    let c := c.toNat
    let st := s.seqSt c
    some ⟨s, m, a, seqCmd c 4 (a.arg != 0xFFFF) false (st == 1 || st == 2 || st == 3 || st == 5)⟩ :=
  rfl

theorem seqRelease_written {s : State} {m} {c} {a} {w : Written} (h : commandOf (.seqRelease m c a) s = some w) :
    ∃ eff, exec (.seqRelease m c a) s = s.goesTo (w.st.command w.m w.a w.c eff) := by
  rw [commandOf_seqRelease] at h
  cases h
  rw [exec_seqRelease]
  unfold execSeqRelease seqRelease
  exact ⟨_, rfl⟩

theorem commandOf_seqReset {s : State} {m} {c} {a} : commandOf (.seqReset m c a) s =
    let c := c.toNat
    some ⟨s, m, a, seqCmd c 5 (a.arg == 0) false (s.seqSt c == 4 || s.seqSt c == 6)⟩ :=
  rfl

theorem seqReset_written {s : State} {m} {c} {a} {w : Written} (h : commandOf (.seqReset m c a) s = some w) :
    ∃ eff, exec (.seqReset m c a) s = s.goesTo (w.st.command w.m w.a w.c eff) := by
  rw [commandOf_seqReset] at h
  cases h
  rw [exec_seqReset]
  unfold execSeqReset seqReset
  exact ⟨_, rfl⟩

theorem commandOf_adcTrigger {s : State} {m} {a} : commandOf (.adcTrigger m a) s = some ⟨s, m, a, ⟨Reg.ADC_CMD, .priv, 1, true, false, true, true⟩⟩ :=
  rfl

theorem adcTrigger_written {s : State} {m} {a} {w : Written} (h : commandOf (.adcTrigger m a) s = some w) :
    ∃ eff, exec (.adcTrigger m a) s = s.goesTo (w.st.command w.m w.a w.c eff) := by
  rw [commandOf_adcTrigger] at h
  cases h
  rw [exec_adcTrigger]
  unfold execAdcTrigger adcTrigger
  exact ⟨_, rfl⟩

theorem commandOf_adcSwap {s : State} {m} {a} : commandOf (.adcSwap m a) s =
    some ⟨s, m, a, ⟨Reg.ADC_CMD, .priv, 2, a.arg == 0, true, s.reg Reg.ADC_STATE == 1,
      (List.range 16).all (fun g => s.adcStagedOk g)⟩⟩ :=
  rfl

theorem adcSwap_written {s : State} {m} {a} {w : Written} (h : commandOf (.adcSwap m a) s = some w) :
    ∃ eff, exec (.adcSwap m a) s = s.goesTo (w.st.command w.m w.a w.c eff) := by
  rw [commandOf_adcSwap] at h
  cases h
  rw [exec_adcSwap]
  unfold execAdcSwap adcSwap
  exact ⟨_, rfl⟩

theorem commandOf_sdmSwap {s : State} {m} {a} : commandOf (.sdmSwap m a) s =
    let ok := (List.range 48).all (fun c =>
      let cfg := s.reg (Reg.SDM_CH_CFG_S c)
      !bitOf cfg 0 || decide (sdmToc cfg (s.reg (Reg.SDM_CLK_S (c / 6))) ≤ 8000))
    some ⟨s, m, a, ⟨Reg.SDM_CMD, .priv, 1, a.arg == 0, true, s.reg Reg.SDM_STATE == 1, ok⟩⟩ :=
  rfl

theorem sdmSwap_written {s : State} {m} {a} {w : Written} (h : commandOf (.sdmSwap m a) s = some w) :
    ∃ eff, exec (.sdmSwap m a) s = s.goesTo (w.st.command w.m w.a w.c eff) := by
  rw [commandOf_sdmSwap] at h
  cases h
  rw [exec_sdmSwap]
  unfold execSdmSwap sdmSwap
  exact ⟨_, rfl⟩

theorem commandOf_fioArm {s : State} {m} {a} : commandOf (.fioArm m a) s =
    let mask := a.arg.toNat
    let ready := [0, 1].all (fun g => !mask.testBit g || s.fioGroup g == 1)
    some ⟨s, m, a, ⟨Reg.FIO_CMD, .priv, 1, decide (mask < 4) && mask != 0, true, ready, true⟩⟩ :=
  rfl

theorem fioArm_written {s : State} {m} {a} {w : Written} (h : commandOf (.fioArm m a) s = some w) :
    ∃ eff, exec (.fioArm m a) s = s.goesTo (w.st.command w.m w.a w.c eff) := by
  rw [commandOf_fioArm] at h
  cases h
  rw [exec_fioArm]
  unfold execFioArm fioArm
  exact ⟨_, rfl⟩

theorem commandOf_fioClearOut {s : State} {m} {a} : commandOf (.fioClearOut m a) s =
    let mask := a.arg.toNat
    let latched := (List.range 16).all (fun k => !mask.testBit k || bitOf (s.reg Reg.FIO_OUT_LATCH) k)
    some ⟨s, m, a, ⟨Reg.FIO_CMD, .priv, 2, decide (mask < 65536) && mask != 0, true, latched, true⟩⟩ :=
  rfl

theorem fioClearOut_written {s : State} {m} {a} {w : Written} (h : commandOf (.fioClearOut m a) s = some w) :
    ∃ eff, exec (.fioClearOut m a) s = s.goesTo (w.st.command w.m w.a w.c eff) := by
  rw [commandOf_fioClearOut] at h
  cases h
  rw [exec_fioClearOut]
  unfold execFioClearOut fioClearOut
  exact ⟨_, rfl⟩

theorem commandOf_fioFlushTsf {s : State} {m} {a} : commandOf (.fioFlushTsf m a) s = some ⟨s, m, a, ⟨Reg.FIO_CMD, .priv, 3, a.arg == 0, false, true, true⟩⟩ :=
  rfl

theorem fioFlushTsf_written {s : State} {m} {a} {w : Written} (h : commandOf (.fioFlushTsf m a) s = some w) :
    ∃ eff, exec (.fioFlushTsf m a) s = s.goesTo (w.st.command w.m w.a w.c eff) := by
  rw [commandOf_fioFlushTsf] at h
  cases h
  rw [exec_fioFlushTsf]
  unfold execFioFlushTsf fioFlushTsf
  exact ⟨_, rfl⟩

theorem commandOf_safeReset {s : State} {m} {a} : commandOf (.safeReset m a) s =
    let locked := (List.range 8).any (fun g => a.arg.toNat.testBit g && s.groupSt g == 3)
    some ⟨s, m, a, safeCmd 1 (groupMaskOk a) true (s.safeMode == 2 && locked)⟩ :=
  rfl

theorem safeReset_written {s : State} {m} {a} {w : Written} (h : commandOf (.safeReset m a) s = some w) :
    ∃ eff, exec (.safeReset m a) s = s.goesTo (w.st.command w.m w.a w.c eff) := by
  rw [commandOf_safeReset] at h
  cases h
  rw [exec_safeReset]
  unfold execSafeReset safeReset
  exact ⟨_, rfl⟩

theorem commandOf_safeConfig {s : State} {m} {a} : commandOf (.safeConfig m a) s =
    let still := (List.range 8).all (fun g => s.groupSt g == 0 || s.groupSt g == 3)
    some ⟨s, m, a, safeCmd 2 (a.arg == 0) false (s.safeMode == 2 && still)⟩ :=
  rfl

theorem safeConfig_written {s : State} {m} {a} {w : Written} (h : commandOf (.safeConfig m a) s = some w) :
    ∃ eff, exec (.safeConfig m a) s = s.goesTo (w.st.command w.m w.a w.c eff) := by
  rw [commandOf_safeConfig] at h
  cases h
  rw [exec_safeConfig]
  unfold execSafeConfig safeConfig
  exact ⟨_, rfl⟩

theorem commandOf_leaveConfig {s : State} {m} {a} : commandOf (.leaveConfig m a) s = some ⟨s, m, a, safeCmd 3 (a.arg == 0) false (s.safeMode == 3 && s.safeConfirmed)⟩ :=
  rfl

theorem leaveConfig_written {s : State} {m} {a} {w : Written} (h : commandOf (.leaveConfig m a) s = some w) :
    ∃ eff, exec (.leaveConfig m a) s = s.goesTo (w.st.command w.m w.a w.c eff) := by
  rw [commandOf_leaveConfig] at h
  cases h
  rw [exec_leaveConfig]
  unfold execLeaveConfig leaveConfig
  exact ⟨_, rfl⟩

theorem commandOf_safeDemand {s : State} {m} {a} : commandOf (.safeDemand m a) s = some ⟨s, m, a, safeCmd 4 (groupMaskOk a) false (s.safeMode == 2)⟩ :=
  rfl

theorem safeDemand_written {s : State} {m} {a} {w : Written} (h : commandOf (.safeDemand m a) s = some w) :
    ∃ eff, exec (.safeDemand m a) s = s.goesTo (w.st.command w.m w.a w.c eff) := by
  rw [commandOf_safeDemand] at h
  cases h
  rw [exec_safeDemand]
  unfold execSafeDemand safeDemand
  exact ⟨_, rfl⟩

theorem commandOf_safeRelease {s : State} {m} {a} : commandOf (.safeRelease m a) s = some ⟨s, m, a, safeCmd 5 (groupMaskOk a) false (s.safeMode == 2)⟩ :=
  rfl

theorem safeRelease_written {s : State} {m} {a} {w : Written} (h : commandOf (.safeRelease m a) s = some w) :
    ∃ eff, exec (.safeRelease m a) s = s.goesTo (w.st.command w.m w.a w.c eff) := by
  rw [commandOf_safeRelease] at h
  cases h
  rw [exec_safeRelease]
  unfold execSafeRelease safeRelease
  exact ⟨_, rfl⟩

theorem commandOf_ocuStart {s : State} {u} {m} {a} : commandOf (.ocuStart u m a) s =
    let u := b2n u
    some ⟨s, m, a, ⟨Reg.OCU_CMD u, .priv, 1, a.arg == 0, false, s.ocuSt u == 0 && (s.ocuOf u).loaded, true⟩⟩ :=
  rfl

theorem ocuStart_written {s : State} {u} {m} {a} {w : Written} (h : commandOf (.ocuStart u m a) s = some w) :
    ∃ eff, exec (.ocuStart u m a) s = s.goesTo (w.st.command w.m w.a w.c eff) := by
  rw [commandOf_ocuStart] at h
  cases h
  rw [exec_ocuStart]
  unfold execOcuStart ocuStart
  exact ⟨_, rfl⟩

theorem commandOf_ocuStop {s : State} {u} {m} {a} : commandOf (.ocuStop u m a) s =
    let u := b2n u
    some ⟨s, m, a, ⟨Reg.OCU_CMD u, .priv, 2, a.arg == 0, true, s.ocuSt u != 0, true⟩⟩ :=
  rfl

theorem ocuStop_written {s : State} {u} {m} {a} {w : Written} (h : commandOf (.ocuStop u m a) s = some w) :
    ∃ eff, exec (.ocuStop u m a) s = s.goesTo (w.st.command w.m w.a w.c eff) := by
  rw [commandOf_ocuStop] at h
  cases h
  rw [exec_ocuStop]
  unfold execOcuStop ocuStop
  exact ⟨_, rfl⟩

theorem commandOf_ocuLoadSched {s : State} {u} {m} {a} : commandOf (.ocuLoadSched u m a) s =
    let u := b2n u
    some ⟨s, m, a, ⟨Reg.OCU_CMD u, .priv, 3, a.arg == 0, false, s.ocuSt u == 0, s.schedOk u⟩⟩ :=
  rfl

theorem ocuLoadSched_written {s : State} {u} {m} {a} {w : Written} (h : commandOf (.ocuLoadSched u m a) s = some w) :
    ∃ eff, exec (.ocuLoadSched u m a) s = s.goesTo (w.st.command w.m w.a w.c eff) := by
  rw [commandOf_ocuLoadSched] at h
  cases h
  rw [exec_ocuLoadSched]
  unfold execOcuLoadSched ocuLoadSched
  exact ⟨_, rfl⟩

theorem commandOf_ocuMbSend {s : State} {u} {m} {a} : commandOf (.ocuMbSend u m a) s =
    let u := b2n u
    let free := !bitOf (s.reg (Reg.OCU_MBTX_STAT u)) 8
    some ⟨s, m, a, ⟨Reg.OCU_CMD u, .priv, 5, a.arg == 0, false, s.ocuSt u == 2 && free, true⟩⟩ :=
  rfl

theorem ocuMbSend_written {s : State} {u} {m} {a} {w : Written} (h : commandOf (.ocuMbSend u m a) s = some w) :
    ∃ eff, exec (.ocuMbSend u m a) s = s.goesTo (w.st.command w.m w.a w.c eff) := by
  rw [commandOf_ocuMbSend] at h
  cases h
  rw [exec_ocuMbSend]
  unfold execOcuMbSend ocuMbSend
  exact ⟨_, rfl⟩

theorem commandOf_ocuMbRelease {s : State} {u} {m} {a} : commandOf (.ocuMbRelease u m a) s =
    let u := b2n u
    let r := Reg.OCU_MBRX_STAT u (a.arg.toNat % 8)
    some ⟨s, m, a, ⟨Reg.OCU_CMD u, .priv, 6, a.arg.toNat < 8, false, bitOf (s.reg r) 31, true⟩⟩ :=
  rfl

theorem ocuMbRelease_written {s : State} {u} {m} {a} {w : Written} (h : commandOf (.ocuMbRelease u m a) s = some w) :
    ∃ eff, exec (.ocuMbRelease u m a) s = s.goesTo (w.st.command w.m w.a w.c eff) := by
  rw [commandOf_ocuMbRelease] at h
  cases h
  rw [exec_ocuMbRelease]
  unfold execOcuMbRelease ocuMbRelease
  exact ⟨_, rfl⟩

theorem commandOf_ocuBulkSend {s : State} {u} {m} {a} : commandOf (.ocuBulkSend u m a) s =
    let u := b2n u
    let len := (s.reg (Reg.OCU_BTX_LEN u)).toNat
    let free := fld (s.reg (Reg.OCU_BTX_STAT u)) 1 0 != 1
    some ⟨s, m, a, ⟨Reg.OCU_CMD u, .priv, 7, a.arg == 0, false, s.ocuSt u == 2 && free, len % 8 == 0 && 8 ≤ len &&
      len ≤ 0x1000000⟩⟩ :=
  rfl

theorem ocuBulkSend_written {s : State} {u} {m} {a} {w : Written} (h : commandOf (.ocuBulkSend u m a) s = some w) :
    ∃ eff, exec (.ocuBulkSend u m a) s = s.goesTo (w.st.command w.m w.a w.c eff) := by
  rw [commandOf_ocuBulkSend] at h
  cases h
  rw [exec_ocuBulkSend]
  unfold execOcuBulkSend ocuBulkSend
  exact ⟨_, rfl⟩

theorem commandOf_tbSet {s : State} {m} {a} : commandOf (.tbSet m a) s =
    let st := s.reg Reg.CYC_STATE
    let free := s.reg Reg.TB_STATE != 3
    some ⟨s, m, a, ⟨Reg.TB_CMD, .priv, 1, a.arg == 0, false, free && (st == 0 || st == 2), true⟩⟩ :=
  rfl

theorem tbSet_written {s : State} {m} {a} {w : Written} (h : commandOf (.tbSet m a) s = some w) :
    ∃ eff, exec (.tbSet m a) s = s.goesTo (w.st.command w.m w.a w.c eff) := by
  rw [commandOf_tbSet] at h
  cases h
  rw [exec_tbSet]
  unfold execTbSet tbSet
  exact ⟨_, rfl⟩

theorem commandOf_tbAdj {s : State} {m} {a} : commandOf (.tbAdj m a) s =
    let free := s.reg Reg.TB_STATE != 3
    some ⟨s, m, a, ⟨Reg.TB_CMD, .priv, 2, a.arg == 0, false, free && fld (s.reg Reg.TB_CFG) 1 0 != 1, true⟩⟩ :=
  rfl

theorem tbAdj_written {s : State} {m} {a} {w : Written} (h : commandOf (.tbAdj m a) s = some w) :
    ∃ eff, exec (.tbAdj m a) s = s.goesTo (w.st.command w.m w.a w.c eff) := by
  rw [commandOf_tbAdj] at h
  cases h
  rw [exec_tbAdj]
  unfold execTbAdj tbAdj
  exact ⟨_, rfl⟩

theorem commandOf_tbSnapCal {s : State} {m} {a} : commandOf (.tbSnapCal m a) s = some ⟨s, m, a, ⟨Reg.TB_CMD, .priv, 3, a.arg == 0, true, true, true⟩⟩ :=
  rfl

theorem tbSnapCal_written {s : State} {m} {a} {w : Written} (h : commandOf (.tbSnapCal m a) s = some w) :
    ∃ eff, exec (.tbSnapCal m a) s = s.goesTo (w.st.command w.m w.a w.c eff) := by
  rw [commandOf_tbSnapCal] at h
  cases h
  rw [exec_tbSnapCal]
  unfold execTbSnapCal tbSnapCal
  exact ⟨_, rfl⟩

theorem commandOf_ethStart {s : State} {k} {m} {a} : commandOf (.ethStart k m a) s =
    let k := b2n k
    let s := s.ethSettle k
    some ⟨s, m, a, ⟨Reg.ETH_CMD k, .priv, 1, a.arg == 0, false, !s.ethRuns k && fld (s.reg (Reg.ETH_CFG k)) 5 4 != 3,
      true⟩⟩ :=
  rfl

theorem ethStart_written {s : State} {k} {m} {a} {w : Written} (h : commandOf (.ethStart k m a) s = some w) :
    ∃ eff, exec (.ethStart k m a) s = s.goesTo (w.st.command w.m w.a w.c eff) := by
  rw [commandOf_ethStart] at h
  cases h
  rw [exec_ethStart]
  unfold execEthStart ethStart
  exact ⟨_, rfl⟩

theorem commandOf_ethStop {s : State} {k} {m} {a} : commandOf (.ethStop k m a) s =
    let k := b2n k
    let s := s.ethSettle k
    some ⟨s, m, a, ⟨Reg.ETH_CMD k, .priv, 2, a.arg == 0, true, s.ethRuns k, true⟩⟩ :=
  rfl

theorem ethStop_written {s : State} {k} {m} {a} {w : Written} (h : commandOf (.ethStop k m a) s = some w) :
    ∃ eff, exec (.ethStop k m a) s = s.goesTo (w.st.command w.m w.a w.c eff) := by
  rw [commandOf_ethStop] at h
  cases h
  rw [exec_ethStop]
  unfold execEthStop ethStop
  exact ⟨_, rfl⟩

theorem commandOf_ethMdio {s : State} {k} {m} {a} : commandOf (.ethMdio k m a) s =
    let k := b2n k
    let s := s.ethSettle k
    some ⟨s, m, a, ⟨Reg.ETH_CMD k, .priv, 4, a.arg == 0, true, true, true⟩⟩ :=
  rfl

theorem ethMdio_written {s : State} {k} {m} {a} {w : Written} (h : commandOf (.ethMdio k m a) s = some w) :
    ∃ eff, exec (.ethMdio k m a) s = s.goesTo (w.st.command w.m w.a w.c eff) := by
  rw [commandOf_ethMdio] at h
  cases h
  rw [exec_ethMdio]
  unfold execEthMdio ethMdio
  exact ⟨_, rfl⟩

theorem commandOf_canStart {s : State} {k} {m} {a} : commandOf (.canStart k m a) s =
    let k := k.toNat
    some ⟨s, m, a, ⟨Reg.CAN_CMD k, .priv, 1, a.arg == 0, false, s.canSt k == 0, s.canTimingOk k⟩⟩ :=
  rfl

theorem canStart_written {s : State} {k} {m} {a} {w : Written} (h : commandOf (.canStart k m a) s = some w) :
    ∃ eff, exec (.canStart k m a) s = s.goesTo (w.st.command w.m w.a w.c eff) := by
  rw [commandOf_canStart] at h
  cases h
  rw [exec_canStart]
  unfold execCanStart canStart
  exact ⟨_, rfl⟩

theorem commandOf_canStop {s : State} {k} {m} {a} : commandOf (.canStop k m a) s =
    let k := k.toNat
    some ⟨s, m, a, ⟨Reg.CAN_CMD k, .priv, 2, a.arg == 0, true, s.canSt k != 0, true⟩⟩ :=
  rfl

theorem canStop_written {s : State} {k} {m} {a} {w : Written} (h : commandOf (.canStop k m a) s = some w) :
    ∃ eff, exec (.canStop k m a) s = s.goesTo (w.st.command w.m w.a w.c eff) := by
  rw [commandOf_canStop] at h
  cases h
  rw [exec_canStop]
  unfold execCanStop canStop
  exact ⟨_, rfl⟩

theorem commandOf_canSleep {s : State} {k} {m} {a} : commandOf (.canSleep k m a) s =
    let k := k.toNat
    let triggers := (List.range 64).any (fun b =>
      let c := s.reg (Reg.CAN_B_CFG k b)
      bitOf c 31 && bitOf c 30 && (fld c 29 28 == 1 || fld c 29 28 == 2))
    some ⟨s, m, a, ⟨Reg.CAN_CMD k, .priv, 3, a.arg == 0, true, s.canSt k == 2 && (s.canPending k).isEmpty &&
      !triggers, true⟩⟩ :=
  rfl

theorem canSleep_written {s : State} {k} {m} {a} {w : Written} (h : commandOf (.canSleep k m a) s = some w) :
    ∃ eff, exec (.canSleep k m a) s = s.goesTo (w.st.command w.m w.a w.c eff) := by
  rw [commandOf_canSleep] at h
  cases h
  rw [exec_canSleep]
  unfold execCanSleep canSleep
  exact ⟨_, rfl⟩

theorem commandOf_canWake {s : State} {k} {m} {a} : commandOf (.canWake k m a) s =
    let k := k.toNat
    some ⟨s, m, a, ⟨Reg.CAN_CMD k, .priv, 4, a.arg == 0, false, s.canSt k == 5, true⟩⟩ :=
  rfl

theorem canWake_written {s : State} {k} {m} {a} {w : Written} (h : commandOf (.canWake k m a) s = some w) :
    ∃ eff, exec (.canWake k m a) s = s.goesTo (w.st.command w.m w.a w.c eff) := by
  rw [commandOf_canWake] at h
  cases h
  rw [exec_canWake]
  unfold execCanWake canWake
  exact ⟨_, rfl⟩

theorem commandOf_canRecover {s : State} {k} {m} {a} : commandOf (.canRecover k m a) s =
    let k := k.toNat
    some ⟨s, m, a, ⟨Reg.CAN_CMD k, .priv, 5, a.arg == 0, false, s.canSt k == 3 && !bitOf (s.reg (Reg.CAN_CFG k)) 4,
      true⟩⟩ :=
  rfl

theorem canRecover_written {s : State} {k} {m} {a} {w : Written} (h : commandOf (.canRecover k m a) s = some w) :
    ∃ eff, exec (.canRecover k m a) s = s.goesTo (w.st.command w.m w.a w.c eff) := by
  rw [commandOf_canRecover] at h
  cases h
  rw [exec_canRecover]
  unfold execCanRecover canRecover
  exact ⟨_, rfl⟩

theorem commandOf_canTxreq {s : State} {k} {m} {a} : commandOf (.canTxreq k m a) s =
    let k := k.toNat
    let b := a.arg.toNat
    some ⟨s, m, a, ⟨Reg.CAN_CMD k, .priv, 6, s.canTxArg k b, false, s.canSt k != 5 && (s.canBuf k b).req.isNone, true⟩⟩ :=
  rfl

theorem canTxreq_written {s : State} {k} {m} {a} {w : Written} (h : commandOf (.canTxreq k m a) s = some w) :
    ∃ eff, exec (.canTxreq k m a) s = s.goesTo (w.st.command w.m w.a w.c eff) := by
  rw [commandOf_canTxreq] at h
  cases h
  rw [exec_canTxreq]
  unfold execCanTxreq canTxreq
  exact ⟨_, rfl⟩

theorem commandOf_canTxcancel {s : State} {k} {m} {a} : commandOf (.canTxcancel k m a) s =
    let k := k.toNat
    let b := a.arg.toNat
    some ⟨s, m, a, ⟨Reg.CAN_CMD k, .priv, 7, s.canTxArg k b, true, (s.canBuf k b).req.isSome, true⟩⟩ :=
  rfl

theorem canTxcancel_written {s : State} {k} {m} {a} {w : Written} (h : commandOf (.canTxcancel k m a) s = some w) :
    ∃ eff, exec (.canTxcancel k m a) s = s.goesTo (w.st.command w.m w.a w.c eff) := by
  rw [commandOf_canTxcancel] at h
  cases h
  rw [exec_canTxcancel]
  unfold execCanTxcancel canTxcancel
  exact ⟨_, rfl⟩

theorem commandOf_wschApplyCfg {s : State} {m} {a} : commandOf (.wschApplyCfg m a) s =
    some ⟨s, m, a, ⟨Reg.WSCH_CMD, .priv, 1, a.arg == 0, true, s.reg Reg.WSCH_STATE != 2,
      fld (s.reg Reg.WSCH_CFG_PEND) 11 0 != 0⟩⟩ :=
  rfl

theorem wschApplyCfg_written {s : State} {m} {a} {w : Written} (h : commandOf (.wschApplyCfg m a) s = some w) :
    ∃ eff, exec (.wschApplyCfg m a) s = s.goesTo (w.st.command w.m w.a w.c eff) := by
  rw [commandOf_wschApplyCfg] at h
  cases h
  rw [exec_wschApplyCfg]
  unfold execWschApplyCfg wschApplyCfg
  exact ⟨_, rfl⟩

theorem commandOf_queReset {s : State} {m} {a} : commandOf (.queReset m a) s =
    let q := a.arg.toNat
    some ⟨s, m, a, ⟨Reg.QUE_CMD, .priv, 1, q < 128, true, s.reg Reg.QUE_STATE == 1, true⟩⟩ :=
  rfl

theorem queReset_written {s : State} {m} {a} {w : Written} (h : commandOf (.queReset m a) s = some w) :
    ∃ eff, exec (.queReset m a) s = s.goesTo (w.st.command w.m w.a w.c eff) := by
  rw [commandOf_queReset] at h
  cases h
  rw [exec_queReset]
  unfold execQueReset queReset
  exact ⟨_, rfl⟩

theorem commandOf_queResize {s : State} {m} {a} : commandOf (.queResize m a) s =
    let q := a.arg.toNat
    let hi := s.reg (Reg.QUE_Q_PEND_HI q)
    let sz := fld hi 20 16
    let base := fld hi 7 0 * 2 ^ 32 + (s.reg (Reg.QUE_Q_PEND_LO q)).toNat / 64 * 64
    let ok := sz == 0 || (4 ≤ sz && sz ≤ 20 && base % (2 ^ sz * 64) == 0)
    some ⟨s, m, a, ⟨Reg.QUE_CMD, .priv, 2, q < 128, true, s.reg Reg.QUE_STATE == 1, ok⟩⟩ :=
  rfl

theorem queResize_written {s : State} {m} {a} {w : Written} (h : commandOf (.queResize m a) s = some w) :
    ∃ eff, exec (.queResize m a) s = s.goesTo (w.st.command w.m w.a w.c eff) := by
  rw [commandOf_queResize] at h
  cases h
  rw [exec_queResize]
  unfold execQueResize queResize
  exact ⟨_, rfl⟩

theorem commandOf_memcScrubNow {s : State} {m} {a} : commandOf (.memcScrubNow m a) s = some ⟨s, m, a, ⟨Reg.MEMC_CMD, .priv, 1, a.arg == 0, true, s.reg Reg.MEMC_STATE == 1, true⟩⟩ :=
  rfl

theorem memcScrubNow_written {s : State} {m} {a} {w : Written} (h : commandOf (.memcScrubNow m a) s = some w) :
    ∃ eff, exec (.memcScrubNow m a) s = s.goesTo (w.st.command w.m w.a w.c eff) := by
  rw [commandOf_memcScrubNow] at h
  cases h
  rw [exec_memcScrubNow]
  unfold execMemcScrubNow memcScrubNow
  exact ⟨_, rfl⟩

theorem commandOf_memcRemap {s : State} {m} {a} : commandOf (.memcRemap m a) s =
    let row := memcRow (s.reg Reg.MEMC_REMAP_ROW)
    let known := s.memc.rows.contains row || s.memc.jobs.any (fun j => j.1 == row)
    some ⟨s, m, a, ⟨Reg.MEMC_CMD, .priv, 2, a.arg == 0, true, s.reg Reg.MEMC_STATE == 1 && s.memcSpare row,
      !Config.dramRowOutside (s.reg Reg.MEMC_DEV) row && !known⟩⟩ :=
  rfl

theorem memcRemap_written {s : State} {m} {a} {w : Written} (h : commandOf (.memcRemap m a) s = some w) :
    ∃ eff, exec (.memcRemap m a) s = s.goesTo (w.st.command w.m w.a w.c eff) := by
  rw [commandOf_memcRemap] at h
  cases h
  rw [exec_memcRemap]
  unfold execMemcRemap memcRemap
  exact ⟨_, rfl⟩

theorem commandOf_srecStart {s : State} {m} {a} : commandOf (.srecStart m a) s =
    let n := fld (s.reg Reg.SREC_BUF_NBLK_S) 18 0
    let base := fld (s.reg Reg.SREC_BUF_BASE_HI_S) 7 0 * 0x100000000 + (s.reg Reg.SREC_BUF_BASE_LO_S).toNat / 0x10000 * 0x10000
    let ok := 16 ≤ n && n ≤ 262144 && 0x100000000 ≤ base && base + n * 0x10000 ≤ 0x100000000 + s.dramUsable
    some ⟨s, m, a, ⟨Reg.SREC_CMD, .any, 1, a.arg == 0, false, s.reg Reg.SREC_STATE == 0, ok⟩⟩ :=
  rfl

theorem srecStart_written {s : State} {m} {a} {w : Written} (h : commandOf (.srecStart m a) s = some w) :
    ∃ eff, exec (.srecStart m a) s = s.goesTo (w.st.command w.m w.a w.c eff) := by
  rw [commandOf_srecStart] at h
  cases h
  rw [exec_srecStart]
  unfold execSrecStart srecStart
  exact ⟨_, rfl⟩

theorem commandOf_srecStop {s : State} {m} {a} : commandOf (.srecStop m a) s = some ⟨s, m, a, ⟨Reg.SREC_CMD, .any, 2, a.arg == 0, true, s.reg Reg.SREC_STATE == 1, true⟩⟩ :=
  rfl

theorem srecStop_written {s : State} {m} {a} {w : Written} (h : commandOf (.srecStop m a) s = some w) :
    ∃ eff, exec (.srecStop m a) s = s.goesTo (w.st.command w.m w.a w.c eff) := by
  rw [commandOf_srecStop] at h
  cases h
  rw [exec_srecStop]
  unfold execSrecStop srecStop
  exact ⟨_, rfl⟩

theorem commandOf_srecArm {s : State} {m} {a} : commandOf (.srecArm m a) s =
    let free := s.capFind 0
    some ⟨s, m, a, ⟨Reg.SREC_CMD, .any, 3, a.arg == 0, false, s.reg Reg.SREC_STATE == 1 && free.isSome &&
      (s.capFind 1).isNone, true⟩⟩ :=
  rfl

theorem srecArm_written {s : State} {m} {a} {w : Written} (h : commandOf (.srecArm m a) s = some w) :
    ∃ eff, exec (.srecArm m a) s = s.goesTo (w.st.command w.m w.a w.c eff) := by
  rw [commandOf_srecArm] at h
  cases h
  rw [exec_srecArm]
  unfold execSrecArm srecArm
  exact ⟨_, rfl⟩

theorem commandOf_srecTrigger {s : State} {m} {a} : commandOf (.srecTrigger m a) s =
    let armed := s.capFind 1
    some ⟨s, m, a, ⟨Reg.SREC_CMD, .any, 4, a.arg == 0, false, s.reg Reg.SREC_STATE == 1 && armed.isSome, true⟩⟩ :=
  rfl

theorem srecTrigger_written {s : State} {m} {a} {w : Written} (h : commandOf (.srecTrigger m a) s = some w) :
    ∃ eff, exec (.srecTrigger m a) s = s.goesTo (w.st.command w.m w.a w.c eff) := by
  rw [commandOf_srecTrigger] at h
  cases h
  rw [exec_srecTrigger]
  unfold execSrecTrigger srecTrigger
  exact ⟨_, rfl⟩

theorem commandOf_srecRelease {s : State} {m} {a} : commandOf (.srecRelease m a) s =
    let n := a.arg.toNat
    some ⟨s, m, a, ⟨Reg.SREC_CMD, .any, 5, n < 4, false, s.capState n == 3, true⟩⟩ :=
  rfl

theorem srecRelease_written {s : State} {m} {a} {w : Written} (h : commandOf (.srecRelease m a) s = some w) :
    ∃ eff, exec (.srecRelease m a) s = s.goesTo (w.st.command w.m w.a w.c eff) := by
  rw [commandOf_srecRelease] at h
  cases h
  rw [exec_srecRelease]
  unfold execSrecRelease srecRelease
  exact ⟨_, rfl⟩

theorem commandOf_bootWarm {s : State} {m} {a} : commandOf (.bootWarm m a) s =
    let st := s.reg Reg.BOOT_STATE
    some ⟨s, m, a, ⟨Reg.BOOT_CMD, .priv, 1, a.arg == 0, true, st == 2 || st == 7, true⟩⟩ :=
  rfl

theorem bootWarm_written {s : State} {m} {a} {w : Written} (h : commandOf (.bootWarm m a) s = some w) :
    ∃ eff, exec (.bootWarm m a) s = s.goesTo (w.st.command w.m w.a w.c eff) := by
  rw [commandOf_bootWarm] at h
  cases h
  rw [exec_bootWarm]
  unfold execBootWarm bootWarm
  exact ⟨_, rfl⟩

theorem commandOf_bootVerify {s : State} {m} {a} : commandOf (.bootVerify m a) s =
    some ⟨s, m, a, ⟨Reg.BOOT_CMD, .priv, 2, a.arg.toNat < 2 && a.arg.toNat != s.runSlot, true,
      s.reg Reg.BOOT_STATE == 2, true⟩⟩ :=
  rfl

theorem bootVerify_written {s : State} {m} {a} {w : Written} (h : commandOf (.bootVerify m a) s = some w) :
    ∃ eff, exec (.bootVerify m a) s = s.goesTo (w.st.command w.m w.a w.c eff) := by
  rw [commandOf_bootVerify] at h
  cases h
  rw [exec_bootVerify]
  unfold execBootVerify bootVerify
  exact ⟨_, rfl⟩

theorem commandOf_bootCommit {s : State} {m} {a} : commandOf (.bootCommit m a) s =
    let st := s.reg Reg.BOOT_STATE
    let k := a.arg.toNat
    some ⟨s, m, a, ⟨Reg.BOOT_CMD, .priv, 3, k < 2, true, (st == 2 || st == 7) && s.boot.okSlots.contains k, true⟩⟩ :=
  rfl

theorem bootCommit_written {s : State} {m} {a} {w : Written} (h : commandOf (.bootCommit m a) s = some w) :
    ∃ eff, exec (.bootCommit m a) s = s.goesTo (w.st.command w.m w.a w.c eff) := by
  rw [commandOf_bootCommit] at h
  cases h
  rw [exec_bootCommit]
  unfold execBootCommit bootCommit
  exact ⟨_, rfl⟩

theorem commandOf_bootAttest {s : State} {m} {a} : commandOf (.bootAttest m a) s =
    some ⟨s, m, a, ⟨Reg.BOOT_CMD, .priv, 4, a.arg == 0, true, s.reg Reg.BOOT_STATE == 2, s.inGeneral s.attAddr 50112⟩⟩ :=
  rfl

theorem bootAttest_written {s : State} {m} {a} {w : Written} (h : commandOf (.bootAttest m a) s = some w) :
    ∃ eff, exec (.bootAttest m a) s = s.goesTo (w.st.command w.m w.a w.c eff) := by
  rw [commandOf_bootAttest] at h
  cases h
  rw [exec_bootAttest]
  unfold execBootAttest bootAttest
  exact ⟨_, rfl⟩

theorem commandOf_bootRetry {s : State} {m} {a} : commandOf (.bootRetry m a) s = some ⟨s, m, a, ⟨Reg.BOOT_CMD, .priv, 5, a.arg == 0, false, s.reg Reg.BOOT_STATE == 6, true⟩⟩ :=
  rfl

theorem bootRetry_written {s : State} {m} {a} {w : Written} (h : commandOf (.bootRetry m a) s = some w) :
    ∃ eff, exec (.bootRetry m a) s = s.goesTo (w.st.command w.m w.a w.c eff) := by
  rw [commandOf_bootRetry] at h
  cases h
  rw [exec_bootRetry]
  unfold execBootRetry bootRetry
  exact ⟨_, rfl⟩

theorem commandOf_rollfwd {s : State} {m} {a} : commandOf (.rollfwd m a) s =
    let v := a.arg.toNat
    some ⟨s, m, a, scCmd s 3 (v < 128) (v ≤ 64 && v ≤ fld (s.reg Reg.BOOT_RUN) 15 8)⟩ :=
  rfl

theorem rollfwd_written {s : State} {m} {a} {w : Written} (h : commandOf (.rollfwd m a) s = some w) :
    ∃ eff, exec (.rollfwd m a) s = s.goesTo (w.st.command w.m w.a w.c eff) := by
  rw [commandOf_rollfwd] at h
  cases h
  rw [exec_rollfwd]
  unfold execRollfwd rollfwd
  exact ⟨_, rfl⟩

theorem commandOf_dbgOpen {s : State} {m} {a} : commandOf (.dbgOpen m a) s =
    some ⟨s, m, a, ⟨Reg.BOOT_SC_CMD, .secure, 7, a.arg == 0, false, s.reg Reg.BOOT_SC_STATE == 1, s.dbgLock == 1⟩⟩ :=
  rfl

theorem dbgOpen_written {s : State} {m} {a} {w : Written} (h : commandOf (.dbgOpen m a) s = some w) :
    ∃ eff, exec (.dbgOpen m a) s = s.goesTo (w.st.command w.m w.a w.c eff) := by
  rw [commandOf_dbgOpen] at h
  cases h
  rw [exec_dbgOpen]
  unfold execDbgOpen dbgOpen
  exact ⟨_, rfl⟩

theorem commandOf_keyProg {s : State} {m} {a} : commandOf (.keyProg m a) s =
    some ⟨s, m, a, scCmd s 1 (a.arg.toNat < 4) (!s.keyProgrammed a.arg.toNat)⟩ :=
  rfl

theorem keyProg_written {s : State} {m} {a} {w : Written} (h : commandOf (.keyProg m a) s = some w) :
    ∃ eff, exec (.keyProg m a) s = s.goesTo (w.st.command w.m w.a w.c eff) := by
  rw [commandOf_keyProg] at h
  cases h
  rw [exec_keyProg]
  unfold execKeyProg keyProg scProgram
  exact ⟨_, rfl⟩

theorem commandOf_keyRevoke {s : State} {m} {a} : commandOf (.keyRevoke m a) s =
    some ⟨s, m, a, scCmd s 2 (a.arg.toNat < 4) ((List.range 4).any (fun k => k != a.arg.toNat && s.keyUsable k))⟩ :=
  rfl

theorem keyRevoke_written {s : State} {m} {a} {w : Written} (h : commandOf (.keyRevoke m a) s = some w) :
    ∃ eff, exec (.keyRevoke m a) s = s.goesTo (w.st.command w.m w.a w.c eff) := by
  rw [commandOf_keyRevoke] at h
  cases h
  rw [exec_keyRevoke]
  unfold execKeyRevoke keyRevoke scProgram
  exact ⟨_, rfl⟩

theorem commandOf_svcProg {s : State} {m} {a} : commandOf (.svcProg m a) s = some ⟨s, m, a, scCmd s 4 (a.arg == 0) ((s.otpBytes 0x90 32).all (fun b => b == 0))⟩ :=
  rfl

theorem svcProg_written {s : State} {m} {a} {w : Written} (h : commandOf (.svcProg m a) s = some w) :
    ∃ eff, exec (.svcProg m a) s = s.goesTo (w.st.command w.m w.a w.c eff) := by
  rw [commandOf_svcProg] at h
  cases h
  rw [exec_svcProg]
  unfold execSvcProg svcProg scProgram
  exact ⟨_, rfl⟩

theorem commandOf_otpProg {s : State} {m} {a} : commandOf (.otpProg m a) s = some ⟨s, m, a, scCmd s 5 (a.arg.toNat < 1024) true⟩ :=
  rfl

theorem otpProg_written {s : State} {m} {a} {w : Written} (h : commandOf (.otpProg m a) s = some w) :
    ∃ eff, exec (.otpProg m a) s = s.goesTo (w.st.command w.m w.a w.c eff) := by
  rw [commandOf_otpProg] at h
  cases h
  rw [exec_otpProg]
  unfold execOtpProg otpProg scProgram
  exact ⟨_, rfl⟩

theorem commandOf_dbgLock {s : State} {m} {a} : commandOf (.dbgLock m a) s = some ⟨s, m, a, scCmd s 6 (a.arg == 1 || a.arg == 3) (s.dbgLock ≤ a.arg.toNat)⟩ :=
  rfl

theorem dbgLock_written {s : State} {m} {a} {w : Written} (h : commandOf (.dbgLock m a) s = some w) :
    ∃ eff, exec (.dbgLock m a) s = s.goesTo (w.st.command w.m w.a w.c eff) := by
  rw [commandOf_dbgLock] at h
  cases h
  rw [exec_dbgLock]
  unfold execDbgLock dbgLock scProgram
  exact ⟨_, rfl⟩

theorem commandOf_kecInit {s : State} {m} {a} : commandOf (.kecInit m a) s =
    let st := s.reg Reg.KEC_STATE
    some ⟨s, m, a, ⟨Reg.KEC_CMD, .priv, 1, a.arg.toNat < 2, false, st == 1 || st == 2, true⟩⟩ :=
  rfl

theorem kecInit_written {s : State} {m} {a} {w : Written} (h : commandOf (.kecInit m a) s = some w) :
    ∃ eff, exec (.kecInit m a) s = s.goesTo (w.st.command w.m w.a w.c eff) := by
  rw [commandOf_kecInit] at h
  cases h
  rw [exec_kecInit]
  unfold execKecInit kecInit
  exact ⟨_, rfl⟩

theorem commandOf_kecAbsorb {s : State} {m} {a} : commandOf (.kecAbsorb m a) s = some ⟨s, m, a, ⟨Reg.KEC_CMD, .priv, 2, a.arg == 0, true, s.reg Reg.KEC_STATE == 2, true⟩⟩ :=
  rfl

theorem kecAbsorb_written {s : State} {m} {a} {w : Written} (h : commandOf (.kecAbsorb m a) s = some w) :
    ∃ eff, exec (.kecAbsorb m a) s = s.goesTo (w.st.command w.m w.a w.c eff) := by
  rw [commandOf_kecAbsorb] at h
  cases h
  rw [exec_kecAbsorb]
  unfold execKecAbsorb kecAbsorb
  exact ⟨_, rfl⟩

theorem commandOf_kecFinal {s : State} {m} {a} : commandOf (.kecFinal m a) s = some ⟨s, m, a, ⟨Reg.KEC_CMD, .priv, 3, a.arg == 0, false, s.reg Reg.KEC_STATE == 2, true⟩⟩ :=
  rfl

theorem kecFinal_written {s : State} {m} {a} {w : Written} (h : commandOf (.kecFinal m a) s = some w) :
    ∃ eff, exec (.kecFinal m a) s = s.goesTo (w.st.command w.m w.a w.c eff) := by
  rw [commandOf_kecFinal] at h
  cases h
  rw [exec_kecFinal]
  unfold execKecFinal kecFinal
  exact ⟨_, rfl⟩

theorem commandOf_xspiRead {s : State} {m} {a} : commandOf (.xspiRead m a) s = some ⟨s, m, a, flashCmd s 1 a⟩ :=
  rfl

theorem commandOf_xspiProgram {s : State} {m} {a} : commandOf (.xspiProgram m a) s = some ⟨s, m, a, flashCmd s 2 a⟩ :=
  rfl

theorem commandOf_xspiErase4k {s : State} {m} {a} : commandOf (.xspiErase4k m a) s = some ⟨s, m, a, flashCmd s 3 a⟩ :=
  rfl

theorem commandOf_xspiErase64k {s : State} {m} {a} : commandOf (.xspiErase64k m a) s = some ⟨s, m, a, flashCmd s 4 a⟩ :=
  rfl

theorem commandOf_xspiResume {s : State} {m} {a} : commandOf (.xspiResume m a) s = some ⟨s, m, a, ⟨Reg.XSPI_CMD, .priv, 5, a.arg == 0, true, s.reg Reg.XSPI_STATE == 6, true⟩⟩ :=
  rfl

theorem xspiResume_written {s : State} {m} {a} {w : Written} (h : commandOf (.xspiResume m a) s = some w) :
    ∃ eff, exec (.xspiResume m a) s = s.goesTo (w.st.command w.m w.a w.c eff) := by
  rw [commandOf_xspiResume] at h
  cases h
  rw [exec_xspiResume]
  unfold execXspiResume xspiResume
  exact ⟨_, rfl⟩

theorem commandOf_pcieRetrain {s : State} {m} {a} : commandOf (.pcieRetrain m a) s = some ⟨s, m, a, ⟨Reg.PCIE_CMD, .priv, 1, a.arg == 0, true, s.reg Reg.PCIE_STATE == 2, true⟩⟩ :=
  rfl

theorem pcieRetrain_written {s : State} {m} {a} {w : Written} (h : commandOf (.pcieRetrain m a) s = some w) :
    ∃ eff, exec (.pcieRetrain m a) s = s.goesTo (w.st.command w.m w.a w.c eff) := by
  rw [commandOf_pcieRetrain] at h
  cases h
  rw [exec_pcieRetrain]
  unfold execPcieRetrain pcieRetrain
  exact ⟨_, rfl⟩

theorem commandOf_pcieMbReset {s : State} {m} {a} : commandOf (.pcieMbReset m a) s =
    let n := a.arg.toNat
    let st := s.reg Reg.PCIE_STATE
    some ⟨s, m, a, ⟨Reg.PCIE_CMD, .priv, 2, 1 ≤ n && n < 256, false, st == 1 || st == 2 || st == 3, true⟩⟩ :=
  rfl

theorem pcieMbReset_written {s : State} {m} {a} {w : Written} (h : commandOf (.pcieMbReset m a) s = some w) :
    ∃ eff, exec (.pcieMbReset m a) s = s.goesTo (w.st.command w.m w.a w.c eff) := by
  rw [commandOf_pcieMbReset] at h
  cases h
  rw [exec_pcieMbReset]
  unfold execPcieMbReset pcieMbReset
  exact ⟨_, rfl⟩

theorem commandOf_fltSelftest {s : State} {m} {a} : commandOf (.fltSelftest m a) s =
    let x := a.arg.toNat
    some ⟨s, m, a, ⟨Reg.FLT_CMD, .priv, 1, true, true, s.reg Reg.FLT_STATE == 1 &&
      s.inService (x / 0x1000) (x % 0x1000), true⟩⟩ :=
  rfl

theorem fltSelftest_written {s : State} {m} {a} {w : Written} (h : commandOf (.fltSelftest m a) s = some w) :
    ∃ eff, exec (.fltSelftest m a) s = s.goesTo (w.st.command w.m w.a w.c eff) := by
  rw [commandOf_fltSelftest] at h
  cases h
  rw [exec_fltSelftest]
  unfold execFltSelftest fltSelftest
  exact ⟨_, rfl⟩

theorem commandOf_clearRet {s : State} {m} {a} : commandOf (.clearRet m a) s =
    let k := s.clearKey a.arg.toNat
    some ⟨s, m, a, ⟨Reg.FLT_SC_CMD, .secure, 1, true, true, s.reg Reg.FLT_SC_STATE == 1, k.isSome⟩⟩ :=
  rfl

theorem clearRet_written {s : State} {m} {a} {w : Written} (h : commandOf (.clearRet m a) s = some w) :
    ∃ eff, exec (.clearRet m a) s = s.goesTo (w.st.command w.m w.a w.c eff) := by
  rw [commandOf_clearRet] at h
  cases h
  rw [exec_clearRet]
  unfold execClearRet clearRet
  exact ⟨_, rfl⟩

theorem commandOf_islReset {s : State} {m} {a} : commandOf (.islReset m a) s =
    let n := a.arg.toNat
    let loss := [0, 2, 3, 7, 8, 9, 10, 12, 13].contains n && !s.flt.safeHold
    some ⟨s, m, a, ⟨Reg.FLT_SC_CMD, .secure, 2, n < 16, true, s.reg Reg.FLT_SC_STATE == 1 && loss &&
      s.fenced.getLsbD n, true⟩⟩ :=
  rfl

theorem islReset_written {s : State} {m} {a} {w : Written} (h : commandOf (.islReset m a) s = some w) :
    ∃ eff, exec (.islReset m a) s = s.goesTo (w.st.command w.m w.a w.c eff) := by
  rw [commandOf_islReset] at h
  cases h
  rw [exec_islReset]
  unfold execIslReset islReset
  exact ⟨_, rfl⟩

theorem commandOf_bivSet {s : State} {m} {a} : commandOf (.bivSet m a) s =
    let view := a.arg == 1
    some ⟨s, m, a, ⟨Reg.BIV_CMD, .priv, 1, a.arg.toNat < 2, true, s.reg Reg.BIV_STATE == 1 &&
      !bitOf (s.reg Reg.BIV_STAT) 3, !view || s.setViewOk⟩⟩ :=
  rfl

theorem bivSet_written {s : State} {m} {a} {w : Written} (h : commandOf (.bivSet m a) s = some w) :
    ∃ eff, exec (.bivSet m a) s = s.goesTo (w.st.command w.m w.a w.c eff) := by
  rw [commandOf_bivSet] at h
  cases h
  rw [exec_bivSet]
  unfold execBivSet bivSet
  exact ⟨_, rfl⟩

theorem commandOf_hutReserve {s : State} {m} {a} : commandOf (.hutReserve m a) s =
    let typ := a.arg.toNat / 256
    let len := a.arg.toNat % 256
    some ⟨s, m, a, ⟨Reg.HUT_CMD, .priv, 1, true, false, s.reg Reg.HUT_STATE == 1, 0x80 ≤ typ && 1 ≤ len && len ≤ 64⟩⟩ :=
  rfl

theorem hutReserve_written {s : State} {m} {a} {w : Written} (h : commandOf (.hutReserve m a) s = some w) :
    ∃ eff, exec (.hutReserve m a) s = s.goesTo (w.st.command w.m w.a w.c eff) := by
  rw [commandOf_hutReserve] at h
  cases h
  rw [exec_hutReserve]
  unfold execHutReserve hutReserve
  exact ⟨_, rfl⟩

theorem commandOf_hutCommit {s : State} {m} {a} : commandOf (.hutCommit m a) s = some ⟨s, m, a, ⟨Reg.HUT_CMD, .priv, 2, a.arg == 0, false, s.hutMine m, true⟩⟩ :=
  rfl

theorem hutCommit_written {s : State} {m} {a} {w : Written} (h : commandOf (.hutCommit m a) s = some w) :
    ∃ eff, exec (.hutCommit m a) s = s.goesTo (w.st.command w.m w.a w.c eff) := by
  rw [commandOf_hutCommit] at h
  cases h
  rw [exec_hutCommit]
  unfold execHutCommit hutCommit
  exact ⟨_, rfl⟩

theorem commandOf_hutCancel {s : State} {m} {a} : commandOf (.hutCancel m a) s = some ⟨s, m, a, ⟨Reg.HUT_CMD, .priv, 3, a.arg == 0, false, s.hutMine m, true⟩⟩ :=
  rfl

theorem hutCancel_written {s : State} {m} {a} {w : Written} (h : commandOf (.hutCancel m a) s = some w) :
    ∃ eff, exec (.hutCancel m a) s = s.goesTo (w.st.command w.m w.a w.c eff) := by
  rw [commandOf_hutCancel] at h
  cases h
  rw [exec_hutCancel]
  unfold execHutCancel hutCancel
  exact ⟨_, rfl⟩

theorem commandOf_hutNonce {s : State} {m} {a} : commandOf (.hutNonce m a) s = some ⟨s, m, a, ⟨Reg.HUT_SC_CMD, .secure, 1, a.arg == 0, false, s.reg Reg.HUT_SC_STATE == 1,
    true⟩⟩ :=
  rfl

theorem hutNonce_written {s : State} {m} {a} {w : Written} (h : commandOf (.hutNonce m a) s = some w) :
    ∃ eff, exec (.hutNonce m a) s = s.goesTo (w.st.command w.m w.a w.c eff) := by
  rw [commandOf_hutNonce] at h
  cases h
  rw [exec_hutNonce]
  unfold execHutNonce hutNonce
  exact ⟨_, rfl⟩

theorem commandOf_hutClear {s : State} {m} {a} : commandOf (.hutClear m a) s =
    some ⟨s, m, a, ⟨Reg.HUT_SC_CMD, .secure, 2, a.arg == 0, true, s.reg Reg.HUT_SC_STATE == 1 &&
      s.reg Reg.HUT_STATE != 2, true⟩⟩ :=
  rfl

theorem hutClear_written {s : State} {m} {a} {w : Written} (h : commandOf (.hutClear m a) s = some w) :
    ∃ eff, exec (.hutClear m a) s = s.goesTo (w.st.command w.m w.a w.c eff) := by
  rw [commandOf_hutClear] at h
  cases h
  rw [exec_hutClear]
  unfold execHutClear hutClear
  exact ⟨_, rfl⟩

theorem abortOf_sysAbort {s : State} {m} {a} : abortOf (.sysAbort m a) s = some ⟨s, m, a, Reg.SYS_CMD, .priv⟩ :=
  rfl

theorem sysAbort_written {s : State} {m} {a} {w : AbortWritten} (h : abortOf (.sysAbort m a) s = some w) :
    ∃ eff, exec (.sysAbort m a) s = s.goesTo (w.st.abort w.m w.a w.unit w.acc eff) := by
  rw [abortOf_sysAbort] at h
  cases h
  rw [exec_sysAbort]
  unfold execSysAbort sysAbort
  exact ⟨_, rfl⟩

theorem abortOf_clkAbort {s : State} {m} {a} : abortOf (.clkAbort m a) s = some ⟨s, m, a, Reg.CLK_CMD, .secure⟩ :=
  rfl

theorem clkAbort_written {s : State} {m} {a} {w : AbortWritten} (h : abortOf (.clkAbort m a) s = some w) :
    ∃ eff, exec (.clkAbort m a) s = s.goesTo (w.st.abort w.m w.a w.unit w.acc eff) := by
  rw [abortOf_clkAbort] at h
  cases h
  rw [exec_clkAbort]
  unfold execClkAbort clkAbort
  exact ⟨_, rfl⟩

theorem abortOf_sigAbort {s : State} {m} {a} : abortOf (.sigAbort m a) s = some ⟨s, m, a, Reg.SIG_CMD, .priv⟩ :=
  rfl

theorem sigAbort_written {s : State} {m} {a} {w : AbortWritten} (h : abortOf (.sigAbort m a) s = some w) :
    ∃ eff, exec (.sigAbort m a) s = s.goesTo (w.st.abort w.m w.a w.unit w.acc eff) := by
  rw [abortOf_sigAbort] at h
  cases h
  rw [exec_sigAbort]
  unfold execSigAbort sigAbort
  exact ⟨_, rfl⟩

theorem abortOf_cycAbort {s : State} {m} {a} : abortOf (.cycAbort m a) s = some ⟨s, m, a, Reg.CYC_CMD, .priv⟩ :=
  rfl

theorem cycAbort_written {s : State} {m} {a} {w : AbortWritten} (h : abortOf (.cycAbort m a) s = some w) :
    ∃ eff, exec (.cycAbort m a) s = s.goesTo (w.st.abort w.m w.a w.unit w.acc eff) := by
  rw [abortOf_cycAbort] at h
  cases h
  rw [exec_cycAbort]
  unfold execCycAbort cycAbort
  exact ⟨_, rfl⟩

theorem abortOf_ceAbort {s : State} {m} {a} : abortOf (.ceAbort m a) s = some ⟨s, m, a, Reg.CE_CMD, .priv⟩ :=
  rfl

theorem ceAbort_written {s : State} {m} {a} {w : AbortWritten} (h : abortOf (.ceAbort m a) s = some w) :
    ∃ eff, exec (.ceAbort m a) s = s.goesTo (w.st.abort w.m w.a w.unit w.acc eff) := by
  rw [abortOf_ceAbort] at h
  cases h
  rw [exec_ceAbort]
  unfold execCeAbort ceAbort
  exact ⟨_, rfl⟩

theorem abortOf_ctabAbort {s : State} {m} {a} : abortOf (.ctabAbort m a) s = some ⟨s, m, a, Reg.CTAB_CMD, .priv⟩ :=
  rfl

theorem ctabAbort_written {s : State} {m} {a} {w : AbortWritten} (h : abortOf (.ctabAbort m a) s = some w) :
    ∃ eff, exec (.ctabAbort m a) s = s.goesTo (w.st.abort w.m w.a w.unit w.acc eff) := by
  rw [abortOf_ctabAbort] at h
  cases h
  rw [exec_ctabAbort]
  unfold execCtabAbort ctabAbort
  exact ⟨_, rfl⟩

theorem abortOf_profGenAbort {s : State} {m} {g} {a} : abortOf (.profGenAbort m g a) s =
    let g := g.toNat
    some ⟨s, m, a, Reg.PROF_G_CMD g, .priv⟩ :=
  rfl

theorem profGenAbort_written {s : State} {m} {g} {a} {w : AbortWritten} (h : abortOf (.profGenAbort m g a) s = some w) :
    ∃ eff, exec (.profGenAbort m g a) s = s.goesTo (w.st.abort w.m w.a w.unit w.acc eff) := by
  rw [abortOf_profGenAbort] at h
  cases h
  rw [exec_profGenAbort]
  unfold execProfGenAbort profGenAbort
  exact ⟨_, rfl⟩

theorem abortOf_profAbort {s : State} {m} {a} : abortOf (.profAbort m a) s = some ⟨s, m, a, Reg.PROF_CMD, .priv⟩ :=
  rfl

theorem profAbort_written {s : State} {m} {a} {w : AbortWritten} (h : abortOf (.profAbort m a) s = some w) :
    ∃ eff, exec (.profAbort m a) s = s.goesTo (w.st.abort w.m w.a w.unit w.acc eff) := by
  rw [abortOf_profAbort] at h
  cases h
  rw [exec_profAbort]
  unfold execProfAbort profAbort
  exact ⟨_, rfl⟩

theorem abortOf_axcChannelAbort {s : State} {m} {n} {a} : abortOf (.axcChannelAbort m n a) s =
    let n := n.toNat
    some ⟨s, m, a, Reg.AXC_CH_CMD (n / 4) (n % 4), .priv⟩ :=
  rfl

theorem axcChannelAbort_written {s : State} {m} {n} {a} {w : AbortWritten} (h : abortOf (.axcChannelAbort m n a) s = some w) :
    ∃ eff, exec (.axcChannelAbort m n a) s = s.goesTo (w.st.abort w.m w.a w.unit w.acc eff) := by
  rw [abortOf_axcChannelAbort] at h
  cases h
  rw [exec_axcChannelAbort]
  unfold execAxcChannelAbort axcChannelAbort
  exact ⟨_, rfl⟩

theorem abortOf_axcAbort {s : State} {m} {k} {a} : abortOf (.axcAbort m k a) s =
    let k := k.toNat
    some ⟨s, m, a, Reg.AXC_CMD k, .priv⟩ :=
  rfl

theorem axcAbort_written {s : State} {m} {k} {a} {w : AbortWritten} (h : abortOf (.axcAbort m k a) s = some w) :
    ∃ eff, exec (.axcAbort m k a) s = s.goesTo (w.st.abort w.m w.a w.unit w.acc eff) := by
  rw [abortOf_axcAbort] at h
  cases h
  rw [exec_axcAbort]
  unfold execAxcAbort axcAbort
  exact ⟨_, rfl⟩

theorem abortOf_encAbort {s : State} {m} {a} : abortOf (.encAbort m a) s = some ⟨s, m, a, Reg.ENC_CMD, .priv⟩ :=
  rfl

theorem encAbort_written {s : State} {m} {a} {w : AbortWritten} (h : abortOf (.encAbort m a) s = some w) :
    ∃ eff, exec (.encAbort m a) s = s.goesTo (w.st.abort w.m w.a w.unit w.acc eff) := by
  rw [abortOf_encAbort] at h
  cases h
  rw [exec_encAbort]
  unfold execEncAbort encAbort
  exact ⟨_, rfl⟩

theorem abortOf_stepAbort {s : State} {m} {a} : abortOf (.stepAbort m a) s = some ⟨s, m, a, Reg.STEP_CMD, .priv⟩ :=
  rfl

theorem stepAbort_written {s : State} {m} {a} {w : AbortWritten} (h : abortOf (.stepAbort m a) s = some w) :
    ∃ eff, exec (.stepAbort m a) s = s.goesTo (w.st.abort w.m w.a w.unit w.acc eff) := by
  rw [abortOf_stepAbort] at h
  cases h
  rw [exec_stepAbort]
  unfold execStepAbort stepAbort
  exact ⟨_, rfl⟩

theorem abortOf_ilkAbort {s : State} {m} {a} : abortOf (.ilkAbort m a) s = some ⟨s, m, a, Reg.ILK_CMD, .priv⟩ :=
  rfl

theorem ilkAbort_written {s : State} {m} {a} {w : AbortWritten} (h : abortOf (.ilkAbort m a) s = some w) :
    ∃ eff, exec (.ilkAbort m a) s = s.goesTo (w.st.abort w.m w.a w.unit w.acc eff) := by
  rw [abortOf_ilkAbort] at h
  cases h
  rw [exec_ilkAbort]
  unfold execIlkAbort ilkAbort
  exact ⟨_, rfl⟩

theorem abortOf_seqChannelAbort {s : State} {m} {c} {a} : abortOf (.seqChannelAbort m c a) s =
    let c := c.toNat
    some ⟨s, m, a, Reg.SEQ_CH_CMD c, .any⟩ :=
  rfl

theorem seqChannelAbort_written {s : State} {m} {c} {a} {w : AbortWritten} (h : abortOf (.seqChannelAbort m c a) s = some w) :
    ∃ eff, exec (.seqChannelAbort m c a) s = s.goesTo (w.st.abort w.m w.a w.unit w.acc eff) := by
  rw [abortOf_seqChannelAbort] at h
  cases h
  rw [exec_seqChannelAbort]
  unfold execSeqChannelAbort seqChannelAbort
  exact ⟨_, rfl⟩

theorem abortOf_seqAbort {s : State} {m} {a} : abortOf (.seqAbort m a) s = some ⟨s, m, a, Reg.SEQ_CMD, .priv⟩ :=
  rfl

theorem seqAbort_written {s : State} {m} {a} {w : AbortWritten} (h : abortOf (.seqAbort m a) s = some w) :
    ∃ eff, exec (.seqAbort m a) s = s.goesTo (w.st.abort w.m w.a w.unit w.acc eff) := by
  rw [abortOf_seqAbort] at h
  cases h
  rw [exec_seqAbort]
  unfold execSeqAbort seqAbort
  exact ⟨_, rfl⟩

theorem abortOf_adcAbort {s : State} {m} {a} : abortOf (.adcAbort m a) s = some ⟨s, m, a, Reg.ADC_CMD, .priv⟩ :=
  rfl

theorem adcAbort_written {s : State} {m} {a} {w : AbortWritten} (h : abortOf (.adcAbort m a) s = some w) :
    ∃ eff, exec (.adcAbort m a) s = s.goesTo (w.st.abort w.m w.a w.unit w.acc eff) := by
  rw [abortOf_adcAbort] at h
  cases h
  rw [exec_adcAbort]
  unfold execAdcAbort adcAbort
  exact ⟨_, rfl⟩

theorem abortOf_sdmAbort {s : State} {m} {a} : abortOf (.sdmAbort m a) s = some ⟨s, m, a, Reg.SDM_CMD, .priv⟩ :=
  rfl

theorem sdmAbort_written {s : State} {m} {a} {w : AbortWritten} (h : abortOf (.sdmAbort m a) s = some w) :
    ∃ eff, exec (.sdmAbort m a) s = s.goesTo (w.st.abort w.m w.a w.unit w.acc eff) := by
  rw [abortOf_sdmAbort] at h
  cases h
  rw [exec_sdmAbort]
  unfold execSdmAbort sdmAbort
  exact ⟨_, rfl⟩

theorem abortOf_dacAbort {s : State} {m} {a} : abortOf (.dacAbort m a) s = some ⟨s, m, a, Reg.DAC_CMD, .priv⟩ :=
  rfl

theorem dacAbort_written {s : State} {m} {a} {w : AbortWritten} (h : abortOf (.dacAbort m a) s = some w) :
    ∃ eff, exec (.dacAbort m a) s = s.goesTo (w.st.abort w.m w.a w.unit w.acc eff) := by
  rw [abortOf_dacAbort] at h
  cases h
  rw [exec_dacAbort]
  unfold execDacAbort dacAbort
  exact ⟨_, rfl⟩

theorem abortOf_fioAbort {s : State} {m} {a} : abortOf (.fioAbort m a) s = some ⟨s, m, a, Reg.FIO_CMD, .priv⟩ :=
  rfl

theorem fioAbort_written {s : State} {m} {a} {w : AbortWritten} (h : abortOf (.fioAbort m a) s = some w) :
    ∃ eff, exec (.fioAbort m a) s = s.goesTo (w.st.abort w.m w.a w.unit w.acc eff) := by
  rw [abortOf_fioAbort] at h
  cases h
  rw [exec_fioAbort]
  unfold execFioAbort fioAbort
  exact ⟨_, rfl⟩

theorem abortOf_safeAbort {s : State} {m} {a} : abortOf (.safeAbort m a) s = some ⟨s, m, a, Reg.SAFE_CMD, .secure⟩ :=
  rfl

theorem safeAbort_written {s : State} {m} {a} {w : AbortWritten} (h : abortOf (.safeAbort m a) s = some w) :
    ∃ eff, exec (.safeAbort m a) s = s.goesTo (w.st.abort w.m w.a w.unit w.acc eff) := by
  rw [abortOf_safeAbort] at h
  cases h
  rw [exec_safeAbort]
  unfold execSafeAbort safeAbort
  exact ⟨_, rfl⟩

theorem abortOf_ocuAbort {s : State} {u} {m} {a} : abortOf (.ocuAbort u m a) s =
    let u := b2n u
    some ⟨s, m, a, Reg.OCU_CMD u, .priv⟩ :=
  rfl

theorem ocuAbort_written {s : State} {u} {m} {a} {w : AbortWritten} (h : abortOf (.ocuAbort u m a) s = some w) :
    ∃ eff, exec (.ocuAbort u m a) s = s.goesTo (w.st.abort w.m w.a w.unit w.acc eff) := by
  rw [abortOf_ocuAbort] at h
  cases h
  rw [exec_ocuAbort]
  unfold execOcuAbort ocuAbort
  exact ⟨_, rfl⟩

theorem abortOf_tbAbort {s : State} {m} {a} : abortOf (.tbAbort m a) s = some ⟨s, m, a, Reg.TB_CMD, .priv⟩ :=
  rfl

theorem tbAbort_written {s : State} {m} {a} {w : AbortWritten} (h : abortOf (.tbAbort m a) s = some w) :
    ∃ eff, exec (.tbAbort m a) s = s.goesTo (w.st.abort w.m w.a w.unit w.acc eff) := by
  rw [abortOf_tbAbort] at h
  cases h
  rw [exec_tbAbort]
  unfold execTbAbort tbAbort
  exact ⟨_, rfl⟩

theorem abortOf_ethAbort {s : State} {k} {m} {a} : abortOf (.ethAbort k m a) s =
    let k := b2n k
    some ⟨s.ethSettle k, m, a, Reg.ETH_CMD k, .priv⟩ :=
  rfl

theorem ethAbort_written {s : State} {k} {m} {a} {w : AbortWritten} (h : abortOf (.ethAbort k m a) s = some w) :
    ∃ eff, exec (.ethAbort k m a) s = s.goesTo (w.st.abort w.m w.a w.unit w.acc eff) := by
  rw [abortOf_ethAbort] at h
  cases h
  rw [exec_ethAbort]
  unfold execEthAbort ethAbort
  exact ⟨_, rfl⟩

theorem abortOf_canAbort {s : State} {k} {m} {a} : abortOf (.canAbort k m a) s =
    let k := k.toNat
    some ⟨s, m, a, Reg.CAN_CMD k, .priv⟩ :=
  rfl

theorem canAbort_written {s : State} {k} {m} {a} {w : AbortWritten} (h : abortOf (.canAbort k m a) s = some w) :
    ∃ eff, exec (.canAbort k m a) s = s.goesTo (w.st.abort w.m w.a w.unit w.acc eff) := by
  rw [abortOf_canAbort] at h
  cases h
  rw [exec_canAbort]
  unfold execCanAbort canAbort
  exact ⟨_, rfl⟩

theorem abortOf_wschAbort {s : State} {m} {a} : abortOf (.wschAbort m a) s = some ⟨s, m, a, Reg.WSCH_CMD, .priv⟩ :=
  rfl

theorem wschAbort_written {s : State} {m} {a} {w : AbortWritten} (h : abortOf (.wschAbort m a) s = some w) :
    ∃ eff, exec (.wschAbort m a) s = s.goesTo (w.st.abort w.m w.a w.unit w.acc eff) := by
  rw [abortOf_wschAbort] at h
  cases h
  rw [exec_wschAbort]
  unfold execWschAbort wschAbort
  exact ⟨_, rfl⟩

theorem abortOf_queAbort {s : State} {m} {a} : abortOf (.queAbort m a) s = some ⟨s, m, a, Reg.QUE_CMD, .priv⟩ :=
  rfl

theorem queAbort_written {s : State} {m} {a} {w : AbortWritten} (h : abortOf (.queAbort m a) s = some w) :
    ∃ eff, exec (.queAbort m a) s = s.goesTo (w.st.abort w.m w.a w.unit w.acc eff) := by
  rw [abortOf_queAbort] at h
  cases h
  rw [exec_queAbort]
  unfold execQueAbort queAbort
  exact ⟨_, rfl⟩

theorem abortOf_memcAbort {s : State} {m} {a} : abortOf (.memcAbort m a) s = some ⟨s, m, a, Reg.MEMC_CMD, .priv⟩ :=
  rfl

theorem memcAbort_written {s : State} {m} {a} {w : AbortWritten} (h : abortOf (.memcAbort m a) s = some w) :
    ∃ eff, exec (.memcAbort m a) s = s.goesTo (w.st.abort w.m w.a w.unit w.acc eff) := by
  rw [abortOf_memcAbort] at h
  cases h
  rw [exec_memcAbort]
  unfold execMemcAbort memcAbort
  exact ⟨_, rfl⟩

theorem abortOf_srecAbort {s : State} {m} {a} : abortOf (.srecAbort m a) s = some ⟨s, m, a, Reg.SREC_CMD, .any⟩ :=
  rfl

theorem srecAbort_written {s : State} {m} {a} {w : AbortWritten} (h : abortOf (.srecAbort m a) s = some w) :
    ∃ eff, exec (.srecAbort m a) s = s.goesTo (w.st.abort w.m w.a w.unit w.acc eff) := by
  rw [abortOf_srecAbort] at h
  cases h
  rw [exec_srecAbort]
  unfold execSrecAbort srecAbort
  exact ⟨_, rfl⟩

theorem abortOf_bootAbort {s : State} {m} {a} : abortOf (.bootAbort m a) s = some ⟨s, m, a, Reg.BOOT_CMD, .priv⟩ :=
  rfl

theorem bootAbort_written {s : State} {m} {a} {w : AbortWritten} (h : abortOf (.bootAbort m a) s = some w) :
    ∃ eff, exec (.bootAbort m a) s = s.goesTo (w.st.abort w.m w.a w.unit w.acc eff) := by
  rw [abortOf_bootAbort] at h
  cases h
  rw [exec_bootAbort]
  unfold execBootAbort bootAbort
  exact ⟨_, rfl⟩

theorem abortOf_bootScAbort {s : State} {m} {a} : abortOf (.bootScAbort m a) s = some ⟨s, m, a, Reg.BOOT_SC_CMD, .secure⟩ :=
  rfl

theorem bootScAbort_written {s : State} {m} {a} {w : AbortWritten} (h : abortOf (.bootScAbort m a) s = some w) :
    ∃ eff, exec (.bootScAbort m a) s = s.goesTo (w.st.abort w.m w.a w.unit w.acc eff) := by
  rw [abortOf_bootScAbort] at h
  cases h
  rw [exec_bootScAbort]
  unfold execBootScAbort bootScAbort
  exact ⟨_, rfl⟩

theorem abortOf_kecAbort {s : State} {m} {a} : abortOf (.kecAbort m a) s = some ⟨s, m, a, Reg.KEC_CMD, .priv⟩ :=
  rfl

theorem kecAbort_written {s : State} {m} {a} {w : AbortWritten} (h : abortOf (.kecAbort m a) s = some w) :
    ∃ eff, exec (.kecAbort m a) s = s.goesTo (w.st.abort w.m w.a w.unit w.acc eff) := by
  rw [abortOf_kecAbort] at h
  cases h
  rw [exec_kecAbort]
  unfold execKecAbort kecAbort
  exact ⟨_, rfl⟩

theorem abortOf_xspiAbort {s : State} {m} {a} : abortOf (.xspiAbort m a) s = some ⟨s, m, a, Reg.XSPI_CMD, .priv⟩ :=
  rfl

theorem xspiAbort_written {s : State} {m} {a} {w : AbortWritten} (h : abortOf (.xspiAbort m a) s = some w) :
    ∃ eff, exec (.xspiAbort m a) s = s.goesTo (w.st.abort w.m w.a w.unit w.acc eff) := by
  rw [abortOf_xspiAbort] at h
  cases h
  rw [exec_xspiAbort]
  unfold execXspiAbort xspiAbort
  exact ⟨_, rfl⟩

theorem abortOf_pcieAbort {s : State} {m} {a} : abortOf (.pcieAbort m a) s = some ⟨s, m, a, Reg.PCIE_CMD, .priv⟩ :=
  rfl

theorem pcieAbort_written {s : State} {m} {a} {w : AbortWritten} (h : abortOf (.pcieAbort m a) s = some w) :
    ∃ eff, exec (.pcieAbort m a) s = s.goesTo (w.st.abort w.m w.a w.unit w.acc eff) := by
  rw [abortOf_pcieAbort] at h
  cases h
  rw [exec_pcieAbort]
  unfold execPcieAbort pcieAbort
  exact ⟨_, rfl⟩

theorem abortOf_fltAbort {s : State} {m} {a} : abortOf (.fltAbort m a) s = some ⟨s, m, a, Reg.FLT_CMD, .priv⟩ :=
  rfl

theorem fltAbort_written {s : State} {m} {a} {w : AbortWritten} (h : abortOf (.fltAbort m a) s = some w) :
    ∃ eff, exec (.fltAbort m a) s = s.goesTo (w.st.abort w.m w.a w.unit w.acc eff) := by
  rw [abortOf_fltAbort] at h
  cases h
  rw [exec_fltAbort]
  unfold execFltAbort fltAbort
  exact ⟨_, rfl⟩

theorem abortOf_fltScAbort {s : State} {m} {a} : abortOf (.fltScAbort m a) s = some ⟨s, m, a, Reg.FLT_SC_CMD, .secure⟩ :=
  rfl

theorem fltScAbort_written {s : State} {m} {a} {w : AbortWritten} (h : abortOf (.fltScAbort m a) s = some w) :
    ∃ eff, exec (.fltScAbort m a) s = s.goesTo (w.st.abort w.m w.a w.unit w.acc eff) := by
  rw [abortOf_fltScAbort] at h
  cases h
  rw [exec_fltScAbort]
  unfold execFltScAbort fltScAbort
  exact ⟨_, rfl⟩

theorem abortOf_bivAbort {s : State} {m} {a} : abortOf (.bivAbort m a) s = some ⟨s, m, a, Reg.BIV_CMD, .priv⟩ :=
  rfl

theorem bivAbort_written {s : State} {m} {a} {w : AbortWritten} (h : abortOf (.bivAbort m a) s = some w) :
    ∃ eff, exec (.bivAbort m a) s = s.goesTo (w.st.abort w.m w.a w.unit w.acc eff) := by
  rw [abortOf_bivAbort] at h
  cases h
  rw [exec_bivAbort]
  unfold execBivAbort bivAbort
  exact ⟨_, rfl⟩

theorem abortOf_hutAbort {s : State} {m} {a} : abortOf (.hutAbort m a) s = some ⟨s, m, a, Reg.HUT_CMD, .priv⟩ :=
  rfl

theorem hutAbort_written {s : State} {m} {a} {w : AbortWritten} (h : abortOf (.hutAbort m a) s = some w) :
    ∃ eff, exec (.hutAbort m a) s = s.goesTo (w.st.abort w.m w.a w.unit w.acc eff) := by
  rw [abortOf_hutAbort] at h
  cases h
  rw [exec_hutAbort]
  unfold execHutAbort hutAbort
  exact ⟨_, rfl⟩

theorem abortOf_hutScAbort {s : State} {m} {a} : abortOf (.hutScAbort m a) s = some ⟨s, m, a, Reg.HUT_SC_CMD, .secure⟩ :=
  rfl

theorem hutScAbort_written {s : State} {m} {a} {w : AbortWritten} (h : abortOf (.hutScAbort m a) s = some w) :
    ∃ eff, exec (.hutScAbort m a) s = s.goesTo (w.st.abort w.m w.a w.unit w.acc eff) := by
  rw [abortOf_hutScAbort] at h
  cases h
  rw [exec_hutScAbort]
  unfold execHutScAbort hutScAbort
  exact ⟨_, rfl⟩

end Sys2Proof.Machine
end

