-- ==== Sys2Proof/Laws/SMap.lean ====
section
/-!
SUPPORT. The laws of sparse tables: a read after a write, and that every operation keeps the canonical form.
-/
namespace Sys2Proof.Machine

variable {α : Type}

@[simp] theorem smFind_nil (i : Nat) : smFind ([] : SMap α) i = none := rfl

theorem smFind_del_self (m : SMap α) (i : Nat) : smFind (smDel m i) i = none := by
  induction m with
  | nil => rfl
  | cons p m ih =>
    obtain ⟨k, v⟩ := p
    by_cases h : k = i
    · simpa [smDel, h] using ih
    · simp only [smDel, List.filter_cons, h, Bool.not_false, if_true, smFind,
        show (k == i) = false by simp [h]] at ih ⊢
      simpa using ih

theorem smFind_del_ne (m : SMap α) {i j : Nat} (h : j ≠ i) : smFind (smDel m i) j = smFind m j := by
  induction m with
  | nil => rfl
  | cons p m ih =>
    obtain ⟨k, v⟩ := p
    by_cases hk : k = i
    · subst hk
      simp only [smFind, if_neg (Ne.symm h)]
      simpa [smDel] using ih
    · by_cases hj : k = j
      · simp [smDel, smFind, hj, h]
      · simp only [smFind, if_neg hj]
        rw [← ih]
        simp [smDel, hk, smFind, hj]

theorem smFind_ins_self (m : SMap α) (i : Nat) (v : α) (h : smFind m i = none) : smFind (smIns i v m) i = some v := by
  induction m with
  | nil => simp [smIns, smFind]
  | cons p m ih =>
    obtain ⟨k, w⟩ := p
    by_cases hk : k = i
    · simp [smFind, hk] at h
    · simp only [smFind, if_neg hk] at h
      simp only [smIns]
      split
      · simpa [smFind, hk] using ih h
      · simp [smFind]

theorem smFind_ins_ne (m : SMap α) {i j : Nat} (v : α) (h : j ≠ i) : smFind (smIns i v m) j = smFind m j := by
  induction m with
  | nil => simp [smIns, smFind, Ne.symm h]
  | cons p m ih =>
    obtain ⟨k, w⟩ := p
    simp only [smIns]
    split
    · simp [smFind, ih]
    · simp [smFind, Ne.symm h]

/-- A read after a write of the same key gives the value written. -/
theorem smFind_put_self (m : SMap α) (i : Nat) (v : α) : smFind (smPut m i v) i = some v :=
  smFind_ins_self _ i v (smFind_del_self m i)

/-- A write leaves every other key alone. -/
theorem smFind_put_ne (m : SMap α) {i j : Nat} (v : α) (h : j ≠ i) : smFind (smPut m i v) j = smFind m j := by
  rw [smPut, smFind_ins_ne _ v h, smFind_del_ne m h]

@[simp] theorem smGet_nil (d : Nat → α) (i : Nat) : smGet d [] i = d i := rfl

@[simp] theorem smGet_put_self (d : Nat → α) (m : SMap α) (i : Nat) (v : α) : smGet d (smPut m i v) i = v := by
  simp [smGet, smFind_put_self]

theorem smGet_put_ne (d : Nat → α) (m : SMap α) {i j : Nat} (v : α) (h : j ≠ i) :
    smGet d (smPut m i v) j = smGet d m j := by
  simp [smGet, smFind_put_ne m v h]

@[simp] theorem smGet_set_self [DecidableEq α] (d : Nat → α) (m : SMap α) (i : Nat) (v : α) :
    smGet d (smSet d m i v) i = v := by
  unfold smSet; split
  · rename_i h; simp [smGet, smFind_del_self, h]
  · simp

theorem smGet_set_ne [DecidableEq α] (d : Nat → α) (m : SMap α) {i j : Nat} (v : α) (h : j ≠ i) :
    smGet d (smSet d m i v) j = smGet d m j := by
  unfold smSet; split
  · simp [smGet, smFind_del_ne m h]
  · exact smGet_put_ne d m v h

theorem smGet_set [DecidableEq α] (d : Nat → α) (m : SMap α) (i j : Nat) (v : α) :
    smGet d (smSet d m i v) j = if j = i then v else smGet d m j := by
  by_cases h : j = i
  · subst h; simp
  · simp [h, smGet_set_ne d m v h]

theorem smIns_mem {i : Nat} {v : α} {m : SMap α} {p : Nat × α} (h : p ∈ smIns i v m) : p = (i, v) ∨ p ∈ m := by
  induction m with
  | nil => left; simpa [smIns] using h
  | cons q m ih =>
    simp only [smIns] at h
    split at h
    · rcases List.mem_cons.1 h with h | h
      · right; simp [h]
      · rcases ih h with h | h
        · exact .inl h
        · right; simp [h]
    · rcases List.mem_cons.1 h with h | h
      · exact .inl h
      · right; exact h

theorem smDel_mem {i : Nat} {m : SMap α} {p : Nat × α} (h : p ∈ smDel m i) : p ∈ m ∧ p.1 ≠ i := by
  simpa [smDel] using h

theorem smSorted_del {m : SMap α} (i : Nat) (h : smSorted m = true) : smSorted (smDel m i) = true := by
  induction m with
  | nil => rfl
  | cons p m ih =>
    obtain ⟨k, v⟩ := p
    simp only [smSorted, Bool.and_eq_true, List.all_eq_true, decide_eq_true_eq] at h
    have ih' := ih h.2
    by_cases hk : k = i
    · simpa [smDel, hk] using ih'
    · have : smDel ((k, v) :: m) i = (k, v) :: smDel m i := by simp [smDel, hk]
      rw [this]
      simp only [smSorted, Bool.and_eq_true, List.all_eq_true, decide_eq_true_eq]
      exact ⟨fun p hp => h.1 p (smDel_mem hp).1, ih'⟩

theorem smSorted_ins {m : SMap α} (i : Nat) (v : α) (h : smSorted m = true) (hn : ∀ p ∈ m, p.1 ≠ i) :
    smSorted (smIns i v m) = true := by
  induction m with
  | nil => rfl
  | cons p m ih =>
    obtain ⟨k, w⟩ := p
    have h0 := h
    simp only [smSorted, Bool.and_eq_true, List.all_eq_true, decide_eq_true_eq] at h
    simp only [smIns]
    split
    · rename_i hlt
      simp only [smSorted, Bool.and_eq_true, List.all_eq_true, decide_eq_true_eq]
      refine ⟨fun p hp => ?_, ih h.2 (fun p hp => hn p (by simp [hp]))⟩
      rcases smIns_mem hp with rfl | hp
      · exact hlt
      · exact h.1 p hp
    · rename_i hge
      have hki : k ≠ i := hn (k, w) (by simp)
      have hik : i < k := by omega
      rw [smSorted]
      simp only [Bool.and_eq_true, List.all_eq_true, decide_eq_true_eq]
      refine ⟨fun p hp => ?_, h0⟩
      rcases List.mem_cons.1 hp with rfl | hp
      · exact hik
      · exact Nat.lt_trans hik (h.1 p hp)

/-- Every write keeps the canonical form. -/
theorem smCanon_set [DecidableEq α] (d : Nat → α) {m : SMap α} (i : Nat) (v : α) (h : smCanon d m = true) :
    smCanon d (smSet d m i v) = true := by
  simp only [smCanon, Bool.and_eq_true, List.all_eq_true] at h ⊢
  obtain ⟨hs, ha⟩ := h
  unfold smSet
  split
  · exact ⟨smSorted_del i hs, fun p hp => ha p (smDel_mem hp).1⟩
  · rename_i hv
    refine ⟨smSorted_ins i v (smSorted_del i hs) (fun p hp => (smDel_mem hp).2), fun p hp => ?_⟩
    rcases smIns_mem hp with rfl | hp
    · simpa using hv
    · exact ha p (smDel_mem hp).1

theorem smSorted_filter {m : SMap α} (f : Nat × α → Bool) (h : smSorted m = true) : smSorted (m.filter f) = true := by
  induction m with
  | nil => rfl
  | cons p m ih =>
    obtain ⟨k, v⟩ := p
    simp only [smSorted, Bool.and_eq_true, List.all_eq_true, decide_eq_true_eq] at h
    have ih' := ih h.2
    by_cases hk : f (k, v) = true
    · simp only [List.filter_cons, hk, if_true, smSorted, Bool.and_eq_true, List.all_eq_true, decide_eq_true_eq]
      exact ⟨fun p hp => h.1 p (List.mem_filter.1 hp).1, ih'⟩
    · simpa [List.filter_cons, hk] using ih'

/-- Leaving entries out keeps the canonical form. -/
theorem smCanon_filter [DecidableEq α] (d : Nat → α) {m : SMap α} (f : Nat × α → Bool) (h : smCanon d m = true) :
    smCanon d (m.filter f) = true := by
  simp only [smCanon, Bool.and_eq_true, List.all_eq_true] at h ⊢
  exact ⟨smSorted_filter f h.1, fun p hp => h.2 p (List.mem_filter.1 hp).1⟩

end Sys2Proof.Machine
end

