-- ==== Sys2Proof/Laws/Keeps.lean ====
section
/-!
SUPPORT. What every operation of the model keeps: the canonical form of memory and of the register table, the queue of
waiting commands, and every OTP bit that has been programmed (R472). `Keeps s t` is the relation, and each operation has
its lemma beside this file.
-/
namespace Sys2Proof.Machine

variable {s₀ s t : State}

/-- From s to t the canonical forms are kept, the queue stands as it stood, and no OTP bit falls. -/
def Keeps (s t : State) : Prop :=
  (Safe s → Safe t) ∧ t.pending = s.pending ∧ ∀ a, s.otpByte a &&& t.otpByte a = s.otpByte a

theorem keeps_refl (s : State) : Keeps s s := ⟨id, rfl, fun _ => by simp⟩

theorem keeps_trans (h : Keeps s₀ s) (h' : Keeps s t) : Keeps s₀ t :=
  ⟨fun x => h'.1 (h.1 x), h'.2.1.trans h.2.1, fun a => by
    have h1 := h.2.2 a
    have h2 := h'.2.2 a
    calc s₀.otpByte a &&& t.otpByte a = (s₀.otpByte a &&& s.otpByte a) &&& t.otpByte a := by rw [h1]
      _ = s₀.otpByte a &&& (s.otpByte a &&& t.otpByte a) := BitVec.and_assoc ..
      _ = s₀.otpByte a := by rw [h2, h1]⟩

/-- A change of other fields keeps all. -/
theorem keeps_upd (h : Keeps s₀ s) (hm : t.mem = s.mem) (hr : t.regs = s.regs) (hp : t.pending = s.pending)
    (ho : t.boot.otp = s.boot.otp) : Keeps s₀ t :=
  ⟨fun x => by simpa [Safe, hm, hr] using h.1 x, hp.trans h.2.1, fun a => by
    simpa [State.otpByte, ho] using h.2.2 a⟩

/-- A structure update of other fields keeps all. -/
theorem keeps_mk (h : Keeps s₀ s) {portRegs'} {held'} {answers'} {busy'} {shadow'} {fenced'} {unspecified'} {sig'} {que'} {wsch'} {memc'} {srec'} {flt'} {hut'} {tb'} {pcie'} {eth'} {can'} {dac'} {clk'} {cyc'} {ocu'} {ce'} {ctab'} {stopReq'} {prof'} {axc'} {step'} {enc'} {seq'} {ilk'} {adc'} {sdm'} {fio'} {safe'} {boot'} {kec'} {xspi'} {biv'}
    (ho : boot'.otp = s.boot.otp) :
    Keeps s₀ ⟨s.pending, s.regs, portRegs', held', answers', s.mem, busy', shadow', fenced', unspecified', sig', que', wsch', memc', srec', flt', hut', tb', pcie', eth', can', dac', clk', cyc', ocu', ce', ctab', stopReq', prof', axc', step', enc', seq', ilk', adc', sdm', fio', safe', boot', kec', xspi', biv'⟩ :=
  keeps_upd h rfl rfl rfl ho

theorem keeps_ite {c : Prop} [Decidable c] (h : Keeps s₀ s) (h' : Keeps s₀ t) : Keeps s₀ (if c then s else t) := by
  split <;> assumption

theorem keeps_ite_fst {β : Type} {c : Prop} [Decidable c] {p q : State × β} (h : Keeps s₀ p.1) (h' : Keeps s₀ q.1) :
    Keeps s₀ (if c then p else q).1 := by
  split <;> assumption

theorem keeps_ite_snd {β : Type} {c : Prop} [Decidable c] {p q : β × State} (h : Keeps s₀ p.2) (h' : Keeps s₀ q.2) :
    Keeps s₀ (if c then p else q).2 := by
  split <;> assumption

theorem keeps_foldl {α : Type} {f : State → α → State} {l : List α} (h : Keeps s₀ s)
    (hf : ∀ x a, Keeps s₀ x → Keeps s₀ (f x a)) : Keeps s₀ (l.foldl f s) := by
  induction l generalizing s with
  | nil => exact h
  | cons a l ih => exact ih (hf s a h)

theorem keeps_foldl_fst {α β : Type} {f : State × β → α → State × β} {l : List α} {p : State × β} (h : Keeps s₀ p.1)
    (hf : ∀ x a, Keeps s₀ x.1 → Keeps s₀ (f x a).1) : Keeps s₀ (l.foldl f p).1 := by
  induction l generalizing p with
  | nil => exact h
  | cons a l ih => exact ih (hf p a h)

theorem keeps_of_fst {β : Type} {p : State × β} {x : β} {C : Prop} (e : p = (t, x)) (h : Keeps s₀ p.1)
    (k : Keeps s₀ t → C) : C := k (by simpa [e] using h)

theorem keeps_of_snd {β : Type} {p : β × State} {x : β} {C : Prop} (e : p = (x, t)) (h : Keeps s₀ p.2)
    (k : Keeps s₀ t → C) : C := k (by simpa [e] using h)

theorem keeps_goesTo (e : s.goesTo t = .next s₀) (h : Keeps s t) : Keeps s s₀ := by
  unfold State.goesTo at e
  split at e
  · cases e
  · cases e; exact h

theorem keeps_next (e : (Host.Outcome.next t : Host.Outcome State Fault Refusal) = .next s₀) (h : Keeps s t) : Keeps s s₀ := by
  cases e; exact h

theorem State.setReg_keeps (h : Keeps s₀ s) (a : Nat) (w : Word) : Keeps s₀ (s.setReg a w) :=
  keeps_trans h ⟨fun x => ⟨x.1, smCanon_set _ _ _ x.2⟩, rfl, fun _ => by simp [State.otpByte, State.setReg]⟩

theorem State.setByte_keeps (h : Keeps s₀ s) (a : Nat) (b : Byte) : Keeps s₀ (s.setByte a b) :=
  keeps_trans h ⟨fun x => ⟨smCanon_set _ _ _ x.1, x.2⟩, rfl, fun _ => by simp [State.otpByte, State.setByte]⟩

theorem State.setWords_keeps (h : Keeps s₀ s) (a : Nat) (l : List Word) : Keeps s₀ (s.setWords a l) := by
  induction l generalizing a s with
  | nil => exact h
  | cons w l ih =>
    exact ih (State.setByte_keeps (State.setByte_keeps (State.setByte_keeps (State.setByte_keeps h _ _) _ _) _ _) _ _) _

theorem State.setBytes_keeps (h : Keeps s₀ s) (a : Nat) (l : List Byte) : Keeps s₀ (s.setBytes a l) := by
  induction l generalizing a s with
  | nil => exact h
  | cons b l ih => exact ih (State.setByte_keeps h _ _) _

end Sys2Proof.Machine
end

