-- ==== Sys2Proof/Laws/KeepsOps.lean ====
section
/-!
SUPPORT. What the operations keep: the shared operations, the signals and the axes.
-/
namespace Sys2Proof.Machine

variable {s₀ : State}

theorem State.setRegs_keeps {s : State} (h : Keeps s₀ s) (x2) : Keeps s₀ (State.setRegs s x2) := by
  unfold State.setRegs
  refine keeps_foldl ?_ ?_
  · exact h
  · intro s1
    intro x2
    intro h3
    apply State.setReg_keeps
    exact h3

theorem State.orReg_keeps {s : State} (h : Keeps s₀ s) (x2) (x3) : Keeps s₀ (State.orReg s x2 x3) := by
  unfold State.orReg
  apply State.setReg_keeps
  exact h

theorem State.incTo_keeps {s : State} (h : Keeps s₀ s) (x2) (x3) : Keeps s₀ (State.incTo s x2 x3) := by
  unfold State.incTo
  refine keeps_ite ?_ ?_
  · apply State.setReg_keeps
    exact h
  · exact h

theorem State.inc_keeps {s : State} (h : Keeps s₀ s) (x2) : Keeps s₀ (State.inc s x2) := by
  unfold State.inc
  apply State.incTo_keeps
  exact h

theorem State.addSat_keeps {s : State} (h : Keeps s₀ s) (x2) (x3) : Keeps s₀ (State.addSat s x2 x3) := by
  unfold State.addSat
  apply State.setReg_keeps
  exact h

theorem State.setPreg_keeps {s : State} (h : Keeps s₀ s) (x2) (x3) (x4) : Keeps s₀ (State.setPreg s x2 x3 x4) := by
  unfold State.setPreg
  refine keeps_mk (s := s) ?_ rfl
  exact h

theorem State.latch_keeps {s : State} (h : Keeps s₀ s) (x2) (x3) (x4) : Keeps s₀ (State.latch s x2 x3 x4) := by
  unfold State.latch
  refine keeps_mk (s := s) ?_ rfl
  exact h

theorem State.answer_keeps {s : State} (h : Keeps s₀ s) (x2) (x3) (x4) : Keeps s₀ (State.answer s x2 x3 x4) := by
  unfold State.answer
  refine keeps_mk (s := s) ?_ rfl
  exact h

theorem State.setWord_keeps {s : State} (h : Keeps s₀ s) (x2) (x3) : Keeps s₀ (State.setWord s x2 x3) := by
  unfold State.setWord
  apply State.setByte_keeps
  apply State.setByte_keeps
  apply State.setByte_keeps
  apply State.setByte_keeps
  exact h

theorem State.setTime_keeps {s : State} (h : Keeps s₀ s) (x2) : Keeps s₀ (State.setTime s x2) := by
  unfold State.setTime
  apply State.setRegs_keeps
  exact h

theorem State.msixRaise_keeps {s : State} (h : Keeps s₀ s) (x2) : Keeps s₀ (State.msixRaise s x2) := by
  unfold State.msixRaise
  extract_lets +onlyGivenNames y1
  refine keeps_ite ?_ ?_
  · refine keeps_mk (s := s) ?_ rfl
    exact h
  · refine keeps_mk (s := s) ?_ rfl
    exact h

theorem State.hwEvent_keeps {s : State} (h : Keeps s₀ s) (x2) (x3) : Keeps s₀ (State.hwEvent s x2 x3) := by
  unfold State.hwEvent
  split
  · refine keeps_ite ?_ ?_
    · apply State.msixRaise_keeps
      exact h
    · exact h
  · exact h

theorem State.setQueue_keeps {s : State} (h : Keeps s₀ s) (x2) (x3) : Keeps s₀ (State.setQueue s x2 x3) := by
  unfold State.setQueue
  extract_lets +onlyGivenNames y1
  extract_lets +onlyGivenNames y2
  have h3 : Keeps s₀ y2 := by
    dsimp -zeta only [y2]
    refine keeps_mk (s := s) ?_ rfl
    exact h
  extract_lets +onlyGivenNames y4
  have h5 : Keeps s₀ y4 := by
    dsimp -zeta only [y4]
    apply State.setReg_keeps
    exact h3
  apply State.setReg_keeps
  exact h5

theorem State.quePut_keeps {s : State} (h : Keeps s₀ s) (x2) (x3) : Keeps s₀ (State.quePut s x2 x3) := by
  unfold State.quePut
  extract_lets +onlyGivenNames y1
  extract_lets +onlyGivenNames y2
  have h3 : Keeps s₀ y2 := by
    dsimp -zeta only [y2]
    apply State.inc_keeps
    exact h
  refine keeps_ite ?_ ?_
  · apply State.setQueue_keeps
    exact h3
  · apply State.setQueue_keeps
    apply State.setWords_keeps
    exact h3

theorem State.queServe_keeps {s : State} (h : Keeps s₀ s) (x2) : Keeps s₀ (State.queServe s x2) := by
  unfold State.queServe
  refine keeps_ite ?_ ?_
  · exact h
  · split
    · extract_lets +onlyGivenNames y1
      extract_lets +onlyGivenNames y2
      have h3 : Keeps s₀ y2 := by
        dsimp -zeta only [y2]
        refine keeps_mk (s := s) ?_ rfl
        exact h
      extract_lets +onlyGivenNames y4
      apply State.setPreg_keeps
      apply State.quePut_keeps
      exact h3
    · split
      · apply State.quePut_keeps
        refine keeps_mk (s := s) ?_ rfl
        exact h
      · exact h

theorem State.quePop_keeps {s : State} (h : Keeps s₀ s) (x2) : Keeps s₀ (State.quePop s x2).2 := by
  unfold State.quePop
  extract_lets +onlyGivenNames y1
  split
  · dsimp -zeta only
    exact h
  · extract_lets +onlyGivenNames y2
    dsimp -zeta only
    apply State.queServe_keeps
    apply State.setQueue_keeps
    apply State.inc_keeps
    exact h

theorem State.queClear_keeps {s : State} (h : Keeps s₀ s) (x2) : Keeps s₀ (State.queClear s x2) := by
  unfold State.queClear
  extract_lets +onlyGivenNames y1
  apply State.setQueue_keeps
  apply State.addSat_keeps
  exact h

theorem State.blockItem_keeps {s : State} (h : Keeps s₀ s) (x2) (x3) (x4) : Keeps s₀ (State.blockItem s x2 x3 x4) := by
  unfold State.blockItem
  refine keeps_ite ?_ ?_
  · refine keeps_mk (s := s) ?_ rfl
    exact h
  · refine keeps_ite ?_ ?_
    · exact h
    · extract_lets +onlyGivenNames y1
      extract_lets +onlyGivenNames y2
      refine keeps_ite ?_ ?_
      · exact h
      · refine keeps_ite ?_ ?_
        · apply State.quePut_keeps
          exact h
        · refine keeps_mk (s := s) ?_ rfl
          exact h

theorem State.raiseEvt_keeps {s : State} (h : Keeps s₀ s) (x2) (x3) (x4) (x5) : Keeps s₀ (State.raiseEvt s x2 x3 x4 x5) := by
  unfold State.raiseEvt
  extract_lets +onlyGivenNames y1
  extract_lets +onlyGivenNames y2
  have h3 : Keeps s₀ y2 := by
    dsimp -zeta only [y2]
    apply State.hwEvent_keeps
    apply State.setReg_keeps
    exact h
  split
  · refine keeps_ite ?_ ?_
    · exact h3
    · apply State.blockItem_keeps
      exact h3
  · exact h3

theorem State.hutRequest_keeps {s : State} (h : Keeps s₀ s) (x2) (x3) (x4) : Keeps s₀ (State.hutRequest s x2 x3 x4) := by
  unfold State.hutRequest
  refine keeps_mk (s := s) ?_ rfl
  exact h

theorem State.hutPrune_keeps {s : State} (h : Keeps s₀ s) (x2) : Keeps s₀ (State.hutPrune s x2) := by
  unfold State.hutPrune
  extract_lets +onlyGivenNames y1
  extract_lets +onlyGivenNames y2
  extract_lets +onlyGivenNames y3
  extract_lets +onlyGivenNames y4
  extract_lets +onlyGivenNames y5
  extract_lets +onlyGivenNames y6
  have h7 : Keeps s₀ y6 := by
    dsimp -zeta only [y6]
    refine keeps_mk (s := s) ?_ rfl
    exact h
  refine keeps_ite ?_ ?_
  · exact h7
  · extract_lets +onlyGivenNames y8
    have h9 : Keeps s₀ y8 := by
      dsimp -zeta only [y8]
      apply State.addSat_keeps
      exact h7
    refine keeps_ite ?_ ?_
    · exact h9
    · apply State.raiseEvt_keeps
      apply State.addSat_keeps
      exact h9

theorem State.faultEvent_keeps {s : State} (h : Keeps s₀ s) (x2) (x3) (x4) (x5) (x6) : Keeps s₀ (State.faultEvent s x2 x3 x4 x5 x6) := by
  unfold State.faultEvent
  extract_lets +onlyGivenNames y1
  have h2 : Keeps s₀ y1 := by
    dsimp -zeta only [y1]
    apply State.inc_keeps
    exact h
  extract_lets +onlyGivenNames y3
  extract_lets +onlyGivenNames y4
  extract_lets +onlyGivenNames y5
  extract_lets +onlyGivenNames y6
  have h7 : Keeps s₀ y6 := by
    dsimp -zeta only [y6]
    refine keeps_ite ?_ ?_
    · apply State.setReg_keeps
      refine keeps_mk (s := y1) ?_ rfl
      exact h2
    · apply State.inc_keeps
      refine keeps_mk (s := y1) ?_ rfl
      exact h2
  extract_lets +onlyGivenNames y8
  have h9 : Keeps s₀ y8 := by
    dsimp -zeta only [y8]
    apply State.raiseEvt_keeps
    exact h7
  refine keeps_ite ?_ ?_
  · exact h9
  · apply State.hutRequest_keeps
    exact h9

theorem State.retire_keeps {s : State} (h : Keeps s₀ s) (x2) (x3) : Keeps s₀ (State.retire s x2 x3) := by
  unfold State.retire
  split
  · refine keeps_mk (s := s) ?_ rfl
    exact h
  · apply State.raiseEvt_keeps
    refine keeps_mk (s := s) ?_ rfl
    exact h

theorem State.setBucket_keeps {s : State} (h : Keeps s₀ s) (x2) (x3) (x4) : Keeps s₀ (State.setBucket s x2 x3 x4) := by
  unfold State.setBucket
  extract_lets +onlyGivenNames y1
  extract_lets +onlyGivenNames y2
  extract_lets +onlyGivenNames y3
  extract_lets +onlyGivenNames y4
  refine keeps_mk (s := s) ?_ rfl
  exact h

theorem State.finding_keeps {s : State} (h : Keeps s₀ s) (x2) (x3) (x4) (x5) (x6) : Keeps s₀ (State.finding s x2 x3 x4 x5 x6).1 := by
  unfold State.finding
  refine keeps_ite_fst ?_ ?_
  · dsimp -zeta only
    apply State.faultEvent_keeps
    exact h
  · extract_lets +onlyGivenNames y1
    refine keeps_ite_fst ?_ ?_
    · dsimp -zeta only
      apply State.retire_keeps
      apply State.setBucket_keeps
      exact h
    · dsimp -zeta only
      apply State.faultEvent_keeps
      apply State.setBucket_keeps
      exact h

theorem State.noteDenied_keeps {s : State} (h : Keeps s₀ s) (x2) (x3) (x4) : Keeps s₀ (State.noteDenied s x2 x3 x4) := by
  unfold State.noteDenied
  extract_lets +onlyGivenNames y1
  extract_lets +onlyGivenNames y2
  extract_lets +onlyGivenNames y3
  have h4 : Keeps s₀ y3 := by
    dsimp -zeta only [y3]
    apply State.raiseEvt_keeps
    apply State.setReg_keeps
    apply State.inc_keeps
    exact h
  refine keeps_ite ?_ ?_
  · apply State.hutRequest_keeps
    exact h4
  · exact h4

theorem State.decodeError_keeps {s : State} (h : Keeps s₀ s) (x2) (x3) : Keeps s₀ (State.decodeError s x2 x3) := by
  unfold State.decodeError
  apply State.setReg_keeps
  apply State.inc_keeps
  exact h

theorem State.access_keeps {s : State} {f4} (h : Keeps s₀ s) (x2) (x3) (g4 : ∀ a1, Keeps s₀ a1 → Keeps s₀ (f4 a1)) : Keeps s₀ (State.access s x2 x3 f4) := by
  unfold State.access
  refine keeps_ite ?_ ?_
  · apply State.answer_keeps
    apply State.decodeError_keeps
    exact h
  · refine keeps_ite ?_ ?_
    · apply State.answer_keeps
      exact h
    · apply g4
      exact h

theorem State.writeGranted_keeps {s : State} {f5} (h : Keeps s₀ s) (x2) (x3) (x4) (g5 : ∀ a1, Keeps s₀ a1 → Keeps s₀ (f5 a1)) : Keeps s₀ (State.writeGranted s x2 x3 x4 f5) := by
  unfold State.writeGranted
  apply State.access_keeps
  · exact h
  · intro s1
    intro h2
    refine keeps_ite ?_ ?_
    · apply g5
      exact h2
    · apply State.noteDenied_keeps
      exact h2

theorem State.rejectCmd_keeps {s : State} (h : Keeps s₀ s) (x2) (x3) (x4) (x5) : Keeps s₀ (State.rejectCmd s x2 x3 x4 x5) := by
  unfold State.rejectCmd
  extract_lets +onlyGivenNames y1
  have h2 : Keeps s₀ y1 := by
    dsimp -zeta only [y1]
    apply State.setReg_keeps
    exact h
  refine keeps_ite ?_ ?_
  · apply State.noteDenied_keeps
    exact h2
  · exact h2

theorem State.acceptBusy_keeps {s : State} (h : Keeps s₀ s) (x2) (x3) (x4) (x5) : Keeps s₀ (State.acceptBusy s x2 x3 x4 x5) := by
  unfold State.acceptBusy
  apply State.setReg_keeps
  refine keeps_mk (s := s) ?_ rfl
  exact h

theorem State.acceptNow_keeps {s : State} (h : Keeps s₀ s) (x2) (x3) : Keeps s₀ (State.acceptNow s x2 x3) := by
  unfold State.acceptNow
  apply State.setReg_keeps
  exact h

theorem State.command_keeps {s : State} {f5} (h : Keeps s₀ s) (x2) (x3) (x4) (g5 : ∀ a1, Keeps s₀ a1 → Keeps s₀ (f5 a1)) : Keeps s₀ (State.command s x2 x3 x4 f5) := by
  unfold State.command
  apply State.access_keeps
  · exact h
  · intro s1
    intro h2
    split
    · apply State.rejectCmd_keeps
      exact h2
    · apply State.rejectCmd_keeps
      exact h2
    · apply State.rejectCmd_keeps
      exact h2
    · apply g5
      refine keeps_ite ?_ ?_
      · apply State.acceptBusy_keeps
        exact h2
      · apply State.acceptNow_keeps
        exact h2

theorem State.complete_keeps {s : State} (h : Keeps s₀ s) (x2) : Keeps s₀ (State.complete s x2) := by
  unfold State.complete
  split
  · apply State.setReg_keeps
    refine keeps_mk (s := s) ?_ rfl
    exact h
  · exact h

theorem State.completeFailed_keeps {s : State} (h : Keeps s₀ s) (x2) : Keeps s₀ (State.completeFailed s x2) := by
  unfold State.completeFailed
  split
  · apply State.setReg_keeps
    refine keeps_mk (s := s) ?_ rfl
    exact h
  · exact h

theorem State.abortChannel_keeps {s : State} (h : Keeps s₀ s) (x2) : Keeps s₀ (State.abortChannel s x2) := by
  unfold State.abortChannel
  split
  · apply State.setReg_keeps
    refine keeps_mk (s := s) ?_ rfl
    exact h
  · exact h

theorem State.abort_keeps {s : State} {f6} (h : Keeps s₀ s) (x2) (x3) (x4) (x5) (g6 : ∀ a1 a2, Keeps s₀ a2 → Keeps s₀ (f6 a1 a2)) : Keeps s₀ (State.abort s x2 x3 x4 x5 f6) := by
  unfold State.abort
  apply State.access_keeps
  · exact h
  · intro s1
    intro h2
    refine keeps_ite ?_ ?_
    · apply State.rejectCmd_keeps
      exact h2
    · refine keeps_ite ?_ ?_
      · apply State.rejectCmd_keeps
        exact h2
      · extract_lets +onlyGivenNames y3
        apply g6
        apply State.setReg_keeps
        refine keeps_mk (s := s1) ?_ rfl
        exact h2

theorem State.zeroRegs_keeps {s : State} (h : Keeps s₀ s) (x2) : Keeps s₀ (State.zeroRegs s x2) := by
  unfold State.zeroRegs
  refine keeps_foldl ?_ ?_
  · exact h
  · intro s1
    intro x2
    intro h3
    apply State.setReg_keeps
    exact h3

theorem State.setOcu_keeps {s : State} (h : Keeps s₀ s) (x2) (x3) : Keeps s₀ (State.setOcu s x2 x3) := by
  unfold State.setOcu
  refine keeps_mk (s := s) ?_ rfl
  exact h

theorem State.alive_keeps {s : State} {s2 : State} (h : Keeps s₀ s) (x2) (h2 : Keeps s₀ s2) : Keeps s₀ (State.alive s x2 s2) := by
  unfold State.alive
  refine keeps_ite ?_ ?_
  · exact h
  · exact h2

theorem State.setSigRec_keeps {s : State} (h : Keeps s₀ s) (x2) (x3) : Keeps s₀ (State.setSigRec s x2 x3) := by
  unfold State.setSigRec
  refine keeps_mk (s := s) ?_ rfl
  exact h

theorem State.deliverTo_keeps {s : State} (h : Keeps s₀ s) (x2) (x3) (x4) (x5) : Keeps s₀ (State.deliverTo s x2 x3 x4 x5) := by
  unfold State.deliverTo
  split
  extract_lets +onlyGivenNames y1
  extract_lets +onlyGivenNames y2
  refine keeps_mk (s := s) ?_ rfl
  exact h

theorem State.renewCons_keeps {s : State} (h : Keeps s₀ s) (x2) : Keeps s₀ (State.renewCons s x2) := by
  unfold State.renewCons
  refine keeps_mk (s := s) ?_ rfl
  exact h

theorem State.recTake_keeps {s : State} (h : Keeps s₀ s) (x2) : Keeps s₀ (State.recTake s x2) := by
  unfold State.recTake
  split
  · exact h
  · extract_lets +onlyGivenNames y1
    refine keeps_ite ?_ ?_
    · apply State.inc_keeps
      refine keeps_mk (s := s) ?_ rfl
      exact h
    · apply State.inc_keeps
      refine keeps_mk (s := s) ?_ rfl
      exact h

theorem State.recUpdate_keeps {s : State} (h : Keeps s₀ s) (x2) (x3) (x4) : Keeps s₀ (State.recUpdate s x2 x3 x4) := by
  unfold State.recUpdate
  extract_lets +onlyGivenNames y1
  refine keeps_ite ?_ ?_
  · apply State.recTake_keeps
    exact h
  · exact h

theorem State.recStale_keeps {s : State} (h : Keeps s₀ s) (x2) : Keeps s₀ (State.recStale s x2) := by
  unfold State.recStale
  split
  · refine keeps_ite ?_ ?_
    · refine keeps_mk (s := s) ?_ rfl
      exact h
    · exact h
  · exact h

theorem State.recExtra_keeps {s : State} (h : Keeps s₀ s) (x2) : Keeps s₀ (State.recExtra s x2) := by
  unfold State.recExtra
  split
  · refine keeps_mk (s := s) ?_ rfl
    exact h
  · exact h

theorem State.recTrace_keeps {s : State} (h : Keeps s₀ s) (x2) : Keeps s₀ (State.recTrace s x2) := by
  unfold State.recTrace
  refine keeps_ite ?_ ?_
  · apply State.recExtra_keeps
    exact h
  · apply State.raiseEvt_keeps
    apply State.inc_keeps
    exact h

theorem State.setCanBuf_keeps {s : State} (h : Keeps s₀ s) (x2) (x3) (x4) : Keeps s₀ (State.setCanBuf s x2 x3 x4) := by
  unfold State.setCanBuf
  extract_lets +onlyGivenNames y1
  apply State.setReg_keeps
  refine keeps_mk (s := s) ?_ rfl
  exact h

theorem State.canOffer_keeps {s : State} (h : Keeps s₀ s) (x2) : Keeps s₀ (State.canOffer s x2) := by
  unfold State.canOffer
  extract_lets +onlyGivenNames y1
  refine keeps_ite ?_ ?_
  · split
    · refine keeps_mk (s := s) ?_ rfl
      exact h
    · exact h
  · exact h

theorem State.canRequest_keeps {s : State} (h : Keeps s₀ s) (x2) (x3) : Keeps s₀ (State.canRequest s x2 x3) := by
  unfold State.canRequest
  extract_lets +onlyGivenNames y1
  refine keeps_ite ?_ ?_
  · exact h
  · extract_lets +onlyGivenNames y2
    extract_lets +onlyGivenNames y3
    extract_lets +onlyGivenNames y4
    extract_lets +onlyGivenNames y5
    extract_lets +onlyGivenNames y6
    extract_lets +onlyGivenNames y7
    extract_lets +onlyGivenNames y8
    refine keeps_ite ?_ ?_
    · extract_lets +onlyGivenNames y9
      have h10 : Keeps s₀ y9 := by
        dsimp -zeta only [y9]
        apply State.setCanBuf_keeps
        apply State.setReg_keeps
        exact h
      apply State.raiseEvt_keeps
      apply State.inc_keeps
      exact h10
    · extract_lets +onlyGivenNames y11
      extract_lets +onlyGivenNames y12
      have h13 : Keeps s₀ y12 := by
        dsimp -zeta only [y12]
        refine keeps_ite ?_ ?_
        · apply State.inc_keeps
          exact h
        · exact h
      apply State.canOffer_keeps
      apply State.setCanBuf_keeps
      apply State.setReg_keeps
      exact h13

theorem State.canDelivered_keeps {s : State} (h : Keeps s₀ s) (x2) : Keeps s₀ (State.canDelivered s x2) := by
  unfold State.canDelivered
  extract_lets +onlyGivenNames y1
  extract_lets +onlyGivenNames y2
  extract_lets +onlyGivenNames y3
  extract_lets +onlyGivenNames y4
  extract_lets +onlyGivenNames y5
  refine keeps_ite ?_ ?_
  · exact h
  · extract_lets +onlyGivenNames y6
    have h7 : Keeps s₀ y6 := by
      dsimp -zeta only [y6]
      apply State.setReg_keeps
      exact h
    extract_lets +onlyGivenNames y8
    refine keeps_ite ?_ ?_
    · apply State.canRequest_keeps
      apply State.setCanBuf_keeps
      exact h7
    · exact h7

theorem State.dacDelivered_keeps {s : State} (h : Keeps s₀ s) (x2) : Keeps s₀ (State.dacDelivered s x2) := by
  unfold State.dacDelivered
  extract_lets +onlyGivenNames y1
  refine keeps_ite ?_ ?_
  · extract_lets +onlyGivenNames y2
    extract_lets +onlyGivenNames y3
    refine keeps_ite ?_ ?_
    · refine keeps_mk (s := s) ?_ rfl
      exact h
    · extract_lets +onlyGivenNames y4
      extract_lets +onlyGivenNames y5
      have h6 : Keeps s₀ y5 := by
        dsimp -zeta only [y5]
        refine keeps_mk (s := s) ?_ rfl
        exact h
      apply State.raiseEvt_keeps
      apply State.inc_keeps
      exact h6
  · exact h

theorem State.delivered_keeps {s : State} (h : Keeps s₀ s) (x2) : Keeps s₀ (State.delivered s x2) := by
  unfold State.delivered
  split
  · apply State.dacDelivered_keeps
    exact h
  · apply State.canDelivered_keeps
    exact h
  · exact h

theorem State.deliver_keeps {s : State} (h : Keeps s₀ s) (x2) : Keeps s₀ (State.deliver s x2) := by
  unfold State.deliver
  extract_lets +onlyGivenNames y1
  split
  refine keeps_foldl ?_ ?_
  · exact h
  · intro s2
    intro x3
    intro h4
    refine keeps_ite ?_ ?_
    · apply State.delivered_keeps
      apply State.deliverTo_keeps
      exact h4
    · exact h4

theorem State.sigUpdate_keeps {s : State} (h : Keeps s₀ s) (x2) (x3) (x4) : Keeps s₀ (State.sigUpdate s x2 x3 x4) := by
  unfold State.sigUpdate
  extract_lets +onlyGivenNames y1
  refine keeps_ite ?_ ?_
  · exact h
  · extract_lets +onlyGivenNames y2
    have h3 : Keeps s₀ y2 := by
      dsimp -zeta only [y2]
      apply State.recUpdate_keeps
      exact h
    extract_lets +onlyGivenNames y4
    extract_lets +onlyGivenNames y5
    refine keeps_ite ?_ ?_
    · apply State.setSigRec_keeps
      exact h3
    · apply State.deliver_keeps
      apply State.setSigRec_keeps
      exact h3

theorem State.takePub_keeps {s : State} (h : Keeps s₀ s) (x2) : Keeps s₀ (State.takePub s x2) := by
  unfold State.takePub
  refine keeps_foldl ?_ ?_
  · exact h
  · intro s1
    intro x2
    intro h3
    extract_lets +onlyGivenNames y4
    split
    apply State.sigUpdate_keeps
    exact h3

theorem State.publish_keeps {s : State} (h : Keeps s₀ s) (x2) : Keeps s₀ (State.publish s x2) := by
  unfold State.publish
  extract_lets +onlyGivenNames y1
  refine keeps_ite ?_ ?_
  · exact h
  · refine keeps_ite ?_ ?_
    · apply State.takePub_keeps
      refine keeps_mk (s := s) ?_ rfl
      exact h
    · refine keeps_mk (s := s) ?_ rfl
      exact h

theorem State.pubInt_keeps {s : State} (h : Keeps s₀ s) (x2) (x3) : Keeps s₀ (State.pubInt s x2 x3) := by
  unfold State.pubInt
  apply State.publish_keeps
  exact h

theorem State.pubBf_keeps {s : State} (h : Keeps s₀ s) (x2) (x3) : Keeps s₀ (State.pubBf s x2 x3) := by
  unfold State.pubBf
  apply State.publish_keeps
  exact h

theorem State.setState_keeps {s : State} (h : Keeps s₀ s) (x2) (x3) : Keeps s₀ (State.setState s x2 x3) := by
  unfold State.setState
  extract_lets +onlyGivenNames y1
  refine keeps_ite ?_ ?_
  · exact h
  · apply State.publish_keeps
    apply State.setReg_keeps
    exact h

theorem State.pubReg_keeps {s : State} (h : Keeps s₀ s) (x2) (x3) (x4) : Keeps s₀ (State.pubReg s x2 x3 x4) := by
  unfold State.pubReg
  apply State.publish_keeps
  exact h

theorem State.setRemain_keeps {s : State} (h : Keeps s₀ s) (x2) : Keeps s₀ (State.setRemain s x2) := by
  unfold State.setRemain
  extract_lets +onlyGivenNames y1
  extract_lets +onlyGivenNames y2
  have h3 : Keeps s₀ y2 := by
    dsimp -zeta only [y2]
    refine keeps_mk (s := s) ?_ rfl
    exact h
  extract_lets +onlyGivenNames y4
  have h5 : Keeps s₀ y4 := by
    dsimp -zeta only [y4]
    apply State.setReg_keeps
    exact h3
  refine keeps_ite ?_ ?_
  · exact h5
  · apply State.setState_keeps
    exact h5

theorem State.moveTime_keeps {s : State} (h : Keeps s₀ s) (x2) : Keeps s₀ (State.moveTime s x2) := by
  unfold State.moveTime
  extract_lets +onlyGivenNames y1
  extract_lets +onlyGivenNames y2
  have h3 : Keeps s₀ y2 := by
    dsimp -zeta only [y2]
    apply State.setTime_keeps
    exact h
  refine keeps_ite ?_ ?_
  · exact h3
  · apply State.raiseEvt_keeps
    exact h3

theorem State.tick_keeps {s : State} (h : Keeps s₀ s) : Keeps s₀ (State.tick s) := by
  unfold State.tick
  extract_lets +onlyGivenNames y1
  extract_lets +onlyGivenNames y2
  have h3 : Keeps s₀ y2 := by
    dsimp -zeta only [y2]
    apply State.moveTime_keeps
    exact h
  refine keeps_ite ?_ ?_
  · exact h3
  · apply State.setRemain_keeps
    exact h3

theorem State.advanceTo_keeps {s : State} (h : Keeps s₀ s) (x2) : Keeps s₀ (State.advanceTo s x2) := by
  unfold State.advanceTo
  refine keeps_ite ?_ ?_
  · extract_lets +onlyGivenNames y1
    extract_lets +onlyGivenNames y2
    extract_lets +onlyGivenNames y3
    extract_lets +onlyGivenNames y4
    have h5 : Keeps s₀ y4 := by
      dsimp -zeta only [y4]
      apply State.moveTime_keeps
      exact h
    refine keeps_ite ?_ ?_
    · exact h5
    · apply State.setRemain_keeps
      exact h5
  · exact h

theorem State.atOffset_keeps {s : State} (h : Keeps s₀ s) (x2) : Keeps s₀ (State.atOffset s x2) := by
  unfold State.atOffset
  refine keeps_ite ?_ ?_
  · apply State.advanceTo_keeps
    exact h
  · exact h

theorem State.setEncPort_keeps {s : State} (h : Keeps s₀ s) (x2) (x3) : Keeps s₀ (State.setEncPort s x2 x3) := by
  unfold State.setEncPort
  refine keeps_mk (s := s) ?_ rfl
  exact h

theorem State.encErr_keeps {s : State} (h : Keeps s₀ s) (x2) (x3) : Keeps s₀ (State.encErr s x2 x3) := by
  unfold State.encErr
  apply State.raiseEvt_keeps
  apply State.inc_keeps
  apply State.orReg_keeps
  exact h

theorem State.encPublish_keeps {s : State} (h : Keeps s₀ s) (x2) (x3) : Keeps s₀ (State.encPublish s x2 x3).1 := by
  unfold State.encPublish
  refine keeps_ite_fst ?_ ?_
  · dsimp -zeta only
    apply State.encErr_keeps
    exact h
  · extract_lets +onlyGivenNames y1
    extract_lets +onlyGivenNames y2
    have h3 : Keeps s₀ y2 := by
      dsimp -zeta only [y2]
      apply State.setEncPort_keeps
      apply State.setReg_keeps
      exact h
    extract_lets +onlyGivenNames y4
    extract_lets +onlyGivenNames y5
    have h6 : Keeps s₀ y5 := by
      dsimp -zeta only [y5]
      apply State.pubInt_keeps
      exact h3
    extract_lets +onlyGivenNames y7
    have h8 : Keeps s₀ y7 := by
      dsimp -zeta only [y7]
      split
      · apply State.pubInt_keeps
        exact h6
      · dsimp -zeta only [y5]
        apply State.pubInt_keeps
        exact h3
    dsimp -zeta only
    apply State.pubInt_keeps
    apply State.pubInt_keeps
    exact h8

theorem encoderCountEdge_keeps {s : State} (x1) (x2) (x3) (h : Keeps s₀ s) : Keeps s₀ (encoderCountEdge x1 x2 x3 s) := by
  unfold encoderCountEdge
  extract_lets +onlyGivenNames y1
  extract_lets +onlyGivenNames y2
  split
  · extract_lets +onlyGivenNames y3
    have h4 : Keeps s₀ y3 := by
      dsimp -zeta only [y3]
      apply State.setEncPort_keeps
      exact h
    refine keeps_ite ?_ ?_
    · exact h4
    · apply State.encErr_keeps
      exact h4
  · refine keeps_ite ?_ ?_
    · apply State.setEncPort_keeps
      exact h
    · extract_lets +onlyGivenNames y5
      apply State.setEncPort_keeps
      exact h

theorem execEncoderCountEdge_keeps {s t : State} (x1) (x2) (x3) (e : (execEncoderCountEdge x1 x2 x3 s) = .next t) : Keeps s t := by
  unfold execEncoderCountEdge at e
  refine keeps_goesTo e ?_
  have h := keeps_refl s
  clear e
  apply State.alive_keeps
  · exact h
  · apply encoderCountEdge_keeps
    exact h

theorem indexLatch_keeps {s : State} (x1) (h : Keeps s₀ s) : Keeps s₀ (indexLatch x1 s) := by
  unfold indexLatch
  extract_lets +onlyGivenNames y1
  extract_lets +onlyGivenNames y2
  extract_lets +onlyGivenNames y3
  refine keeps_ite ?_ ?_
  · apply State.setReg_keeps
    apply State.setReg_keeps
    exact h
  · exact h

theorem execIndexLatch_keeps {s t : State} (x1) (e : (execIndexLatch x1 s) = .next t) : Keeps s t := by
  unfold execIndexLatch at e
  refine keeps_goesTo e ?_
  have h := keeps_refl s
  clear e
  apply State.alive_keeps
  · exact h
  · apply indexLatch_keeps
    exact h

theorem State.ssiEnd_keeps {s : State} (h : Keeps s₀ s) (x2) (x3) (x4) (x5) : Keeps s₀ (State.ssiEnd s x2 x3 x4 x5) := by
  unfold State.ssiEnd
  extract_lets +onlyGivenNames y1
  extract_lets +onlyGivenNames y2
  extract_lets +onlyGivenNames y3
  extract_lets +onlyGivenNames y4
  extract_lets +onlyGivenNames y5
  extract_lets +onlyGivenNames y6
  extract_lets +onlyGivenNames y7
  extract_lets +onlyGivenNames y8
  refine keeps_ite ?_ ?_
  · extract_lets +onlyGivenNames y9
    extract_lets +onlyGivenNames y10
    have h11 : Keeps s₀ y10 := by
      dsimp -zeta only [y10]
      apply State.setReg_keeps
      apply State.setReg_keeps
      dsimp -zeta only [y8]
      refine keeps_ite_fst ?_ ?_
      · dsimp -zeta only
        apply State.encErr_keeps
        exact h
      · refine keeps_ite_fst ?_ ?_
        · dsimp -zeta only
          exact h
        · dsimp -zeta only
          refine keeps_ite ?_ ?_
          · apply State.setEncPort_keeps
            dsimp -zeta only [y6]
            apply State.encPublish_keeps
            exact h
          · dsimp -zeta only [y6]
            apply State.encPublish_keeps
            exact h
    apply State.complete_keeps
    apply State.setState_keeps
    exact h11
  · dsimp -zeta only [y8]
    refine keeps_ite_fst ?_ ?_
    · dsimp -zeta only
      apply State.encErr_keeps
      exact h
    · refine keeps_ite_fst ?_ ?_
      · dsimp -zeta only
        exact h
      · dsimp -zeta only
        refine keeps_ite ?_ ?_
        · apply State.setEncPort_keeps
          dsimp -zeta only [y6]
          apply State.encPublish_keeps
          exact h
        · dsimp -zeta only [y6]
          apply State.encPublish_keeps
          exact h

theorem ssiFrameComplete_keeps {s : State} (x1) (x2) (x3) (x4) (h : Keeps s₀ s) : Keeps s₀ (ssiFrameComplete x1 x2 x3 x4 s) := by
  unfold ssiFrameComplete
  extract_lets +onlyGivenNames y1
  extract_lets +onlyGivenNames y2
  refine keeps_ite ?_ ?_
  · extract_lets +onlyGivenNames y3
    have h4 : Keeps s₀ y3 := by
      dsimp -zeta only [y3]
      refine keeps_ite ?_ ?_
      · apply State.atOffset_keeps
        exact h
      · exact h
    apply State.ssiEnd_keeps
    apply State.setEncPort_keeps
    exact h4
  · exact h

theorem execSsiFrameComplete_keeps {s t : State} (x1) (x2) (x3) (x4) (e : (execSsiFrameComplete x1 x2 x3 x4 s) = .next t) : Keeps s t := by
  unfold execSsiFrameComplete at e
  refine keeps_goesTo e ?_
  have h := keeps_refl s
  clear e
  apply State.alive_keeps
  · exact h
  · apply ssiFrameComplete_keeps
    exact h

theorem encConfig_keeps {s : State} (x1) (x2) (h : Keeps s₀ s) : Keeps s₀ (encConfig x1 x2 s) := by
  unfold encConfig
  extract_lets +onlyGivenNames y1
  apply State.command_keeps
  · exact h
  · intro s2
    intro h3
    apply State.setState_keeps
    exact h3

theorem execEncConfig_keeps {s t : State} (x1) (x2) (e : (execEncConfig x1 x2 s) = .next t) : Keeps s t := by
  unfold execEncConfig at e
  refine keeps_goesTo e ?_
  have h := keeps_refl s
  clear e
  apply encConfig_keeps
  exact h

theorem State.encConfigAtT0_keeps {s : State} (h : Keeps s₀ s) : Keeps s₀ (State.encConfigAtT0 s) := by
  unfold State.encConfigAtT0
  split
  · refine keeps_ite ?_ ?_
    · extract_lets +onlyGivenNames y1
      extract_lets +onlyGivenNames y2
      extract_lets +onlyGivenNames y3
      extract_lets +onlyGivenNames y4
      have h5 : Keeps s₀ y4 := by
        dsimp -zeta only [y4]
        apply State.setRegs_keeps
        exact h
      extract_lets +onlyGivenNames y6
      extract_lets +onlyGivenNames y7
      extract_lets +onlyGivenNames y8
      have h9 : Keeps s₀ y8 := by
        dsimp -zeta only [y8]
        apply State.setEncPort_keeps
        exact h5
      extract_lets +onlyGivenNames y10
      have h11 : Keeps s₀ y10 := by
        dsimp -zeta only [y10]
        refine keeps_ite ?_ ?_
        · apply State.setReg_keeps
          exact h9
        · exact h9
      apply State.complete_keeps
      apply State.setState_keeps
      exact h11
    · exact h
  · exact h

theorem encSsiRead_keeps {s : State} (x1) (x2) (h : Keeps s₀ s) : Keeps s₀ (encSsiRead x1 x2 s) := by
  unfold encSsiRead
  extract_lets +onlyGivenNames y1
  apply State.command_keeps
  · exact h
  · intro s2
    intro h3
    apply State.setState_keeps
    apply State.setEncPort_keeps
    exact h3

theorem execEncSsiRead_keeps {s t : State} (x1) (x2) (e : (execEncSsiRead x1 x2 s) = .next t) : Keeps s t := by
  unfold execEncSsiRead at e
  refine keeps_goesTo e ?_
  have h := keeps_refl s
  clear e
  apply encSsiRead_keeps
  exact h

theorem encAbort_keeps {s : State} (x1) (x2) (h : Keeps s₀ s) : Keeps s₀ (encAbort x1 x2 s) := by
  unfold encAbort
  apply State.abort_keeps
  · exact h
  · intro x1
    intro s2
    intro h3
    extract_lets +onlyGivenNames y4
    have h5 : Keeps s₀ y4 := by
      dsimp -zeta only [y4]
      split
      · refine keeps_ite ?_ ?_
        · apply State.setEncPort_keeps
          exact h3
        · exact h3
      · exact h3
    apply State.setState_keeps
    exact h5

theorem execEncAbort_keeps {s t : State} (x1) (x2) (e : (execEncAbort x1 x2 s) = .next t) : Keeps s t := by
  unfold execEncAbort at e
  refine keeps_goesTo e ?_
  have h := keeps_refl s
  clear e
  apply encAbort_keeps
  exact h

theorem State.encSinCos_keeps {s : State} (h : Keeps s₀ s) (x2) (x3) (x4) : Keeps s₀ (State.encSinCos s x2 x3 x4) := by
  unfold State.encSinCos
  extract_lets +onlyGivenNames y1
  extract_lets +onlyGivenNames y2
  extract_lets +onlyGivenNames y3
  extract_lets +onlyGivenNames y4
  have h5 : Keeps s₀ y4 := by
    dsimp -zeta only [y4]
    apply State.setReg_keeps
    exact h
  refine keeps_ite ?_ ?_
  · apply State.encErr_keeps
    exact h5
  · extract_lets +onlyGivenNames y6
    extract_lets +onlyGivenNames y7
    extract_lets +onlyGivenNames y8
    extract_lets +onlyGivenNames y9
    refine keeps_ite ?_ ?_
    · apply State.encErr_keeps
      exact h5
    · extract_lets +onlyGivenNames y10
      apply State.encPublish_keeps
      exact h5

theorem State.encSample_keeps {s : State} (h : Keeps s₀ s) (x2) (x3) (x4) : Keeps s₀ (State.encSample s x2 x3 x4) := by
  unfold State.encSample
  extract_lets +onlyGivenNames y1
  refine keeps_ite ?_ ?_
  · exact h
  · split
    · refine keeps_ite ?_ ?_
      · apply State.encPublish_keeps
        exact h
      · exact h
    · refine keeps_ite ?_ ?_
      · apply State.encPublish_keeps
        exact h
      · exact h
    · refine keeps_ite ?_ ?_
      · apply State.encPublish_keeps
        exact h
      · exact h
    · refine keeps_ite ?_ ?_
      · extract_lets +onlyGivenNames y2
        apply State.encSinCos_keeps
        exact h
      · exact h
    · exact h

theorem State.encFrameAtT0_keeps {s : State} (h : Keeps s₀ s) (x2) : Keeps s₀ (State.encFrameAtT0 s x2) := by
  unfold State.encFrameAtT0
  extract_lets +onlyGivenNames y1
  refine keeps_ite ?_ ?_
  · apply State.setEncPort_keeps
    exact h
  · exact h

theorem State.unliveCons_keeps {s : State} (h : Keeps s₀ s) (x2) : Keeps s₀ (State.unliveCons s x2) := by
  unfold State.unliveCons
  refine keeps_mk (s := s) ?_ rfl
  exact h

theorem State.writeEntry_keeps {s : State} (h : Keeps s₀ s) (x2) (x3) : Keeps s₀ (State.writeEntry s x2 x3) := by
  unfold State.writeEntry
  extract_lets +onlyGivenNames y1
  extract_lets +onlyGivenNames y2
  extract_lets +onlyGivenNames y3
  extract_lets +onlyGivenNames y4
  have h5 : Keeps s₀ y4 := by
    dsimp -zeta only [y4]
    refine keeps_mk (s := s) ?_ rfl
    exact h
  extract_lets +onlyGivenNames y6
  extract_lets +onlyGivenNames y7
  have h8 : Keeps s₀ y7 := by
    dsimp -zeta only [y7]
    refine keeps_ite ?_ ?_
    · apply State.setSigRec_keeps
      exact h5
    · refine keeps_ite ?_ ?_
      · apply State.setSigRec_keeps
        exact h5
      · refine keeps_ite ?_ ?_
        · apply State.setSigRec_keeps
          exact h5
        · exact h5
  extract_lets +onlyGivenNames y9
  have h10 : Keeps s₀ y9 := by
    dsimp -zeta only [y9]
    refine keeps_foldl ?_ ?_
    · exact h8
    · intro s11
      intro x12
      intro h13
      refine keeps_ite ?_ ?_
      · apply State.unliveCons_keeps
        exact h13
      · exact h13
  extract_lets +onlyGivenNames y14
  have h15 : Keeps s₀ y14 := by
    dsimp -zeta only [y14]
    refine keeps_ite ?_ ?_
    · apply State.raiseEvt_keeps
      apply State.inc_keeps
      exact h10
    · exact h10
  refine keeps_ite ?_ ?_
  · extract_lets +onlyGivenNames y16
    split
    · apply State.raiseEvt_keeps
      apply State.setReg_keeps
      exact h15
    · exact h15
  · exact h15

theorem sigEntryRead_keeps {s : State} (x1) (x2) (h : Keeps s₀ s) : Keeps s₀ (sigEntryRead x1 x2 s) := by
  unfold sigEntryRead
  apply State.access_keeps
  · exact h
  · intro s1
    intro h2
    refine keeps_ite ?_ ?_
    · apply State.noteDenied_keeps
      exact h2
    · extract_lets +onlyGivenNames y3
      apply State.setRegs_keeps
      exact h2

theorem execSigEntryRead_keeps {s t : State} (x1) (x2) (e : (execSigEntryRead x1 x2 s) = .next t) : Keeps s t := by
  unfold execSigEntryRead at e
  refine keeps_goesTo e ?_
  have h := keeps_refl s
  clear e
  apply sigEntryRead_keeps
  exact h

theorem sigEntryWrite_keeps {s : State} (x1) (x2) (h : Keeps s₀ s) : Keeps s₀ (sigEntryWrite x1 x2 s) := by
  unfold sigEntryWrite
  apply State.access_keeps
  · exact h
  · intro s1
    intro h2
    refine keeps_ite ?_ ?_
    · apply State.noteDenied_keeps
      exact h2
    · extract_lets +onlyGivenNames y3
      apply State.writeEntry_keeps
      apply State.setReg_keeps
      exact h2

theorem execSigEntryWrite_keeps {s t : State} (x1) (x2) (e : (execSigEntryWrite x1 x2 s) = .next t) : Keeps s t := by
  unfold execSigEntryWrite at e
  refine keeps_goesTo e ?_
  have h := keeps_refl s
  clear e
  apply sigEntryWrite_keeps
  exact h

theorem State.loadTo_keeps {s : State} (h : Keeps s₀ s) (x2) : Keeps s₀ (State.loadTo s x2) := by
  unfold State.loadTo
  split
  · exact h
  · extract_lets +onlyGivenNames y1
    extract_lets +onlyGivenNames y2
    have h3 : Keeps s₀ y2 := by
      dsimp -zeta only [y2]
      refine keeps_foldl ?_ ?_
      · exact h
      · intro s4
        intro x5
        intro h6
        extract_lets +onlyGivenNames y7
        extract_lets +onlyGivenNames y8
        apply State.writeEntry_keeps
        exact h6
    refine keeps_mk (s := y2) ?_ rfl
    exact h3

theorem State.loadProgress_keeps {s : State} (h : Keeps s₀ s) : Keeps s₀ (State.loadProgress s) := by
  unfold State.loadProgress
  split
  · refine keeps_ite ?_ ?_
    · apply State.loadTo_keeps
      exact h
    · exact h
  · exact h

theorem sigLoad_keeps {s : State} (x1) (x2) (h : Keeps s₀ s) : Keeps s₀ (sigLoad x1 x2 s) := by
  unfold sigLoad
  extract_lets +onlyGivenNames y1
  extract_lets +onlyGivenNames y2
  extract_lets +onlyGivenNames y3
  apply State.command_keeps
  · exact h
  · intro s4
    intro h5
    apply State.setState_keeps
    refine keeps_mk (s := s4) ?_ rfl
    exact h5

theorem execSigLoad_keeps {s t : State} (x1) (x2) (e : (execSigLoad x1 x2 s) = .next t) : Keeps s t := by
  unfold execSigLoad at e
  refine keeps_goesTo e ?_
  have h := keeps_refl s
  clear e
  apply sigLoad_keeps
  exact h

theorem sigLoadDone_keeps {s : State} (x1) (h : Keeps s₀ s) : Keeps s₀ (sigLoadDone x1 s) := by
  unfold sigLoadDone
  split
  · extract_lets +onlyGivenNames y1
    extract_lets +onlyGivenNames y2
    have h3 : Keeps s₀ y2 := by
      dsimp -zeta only [y2]
      apply State.loadTo_keeps
      apply State.advanceTo_keeps
      exact h
    extract_lets +onlyGivenNames y4
    extract_lets +onlyGivenNames y5
    have h6 : Keeps s₀ y5 := by
      dsimp -zeta only [y5]
      refine keeps_mk (s := y2) ?_ rfl
      exact h3
    extract_lets +onlyGivenNames y7
    have h8 : Keeps s₀ y7 := by
      dsimp -zeta only [y7]
      refine keeps_ite ?_ ?_
      · apply State.raiseEvt_keeps
        exact h6
      · exact h6
    apply State.setState_keeps
    apply State.complete_keeps
    exact h8
  · exact h

theorem execSigLoadDone_keeps {s t : State} (x1) (e : (execSigLoadDone x1 s) = .next t) : Keeps s t := by
  unfold execSigLoadDone at e
  refine keeps_goesTo e ?_
  have h := keeps_refl s
  clear e
  apply State.alive_keeps
  · exact h
  · apply sigLoadDone_keeps
    exact h

theorem sigSwap_keeps {s : State} (x1) (x2) (h : Keeps s₀ s) : Keeps s₀ (sigSwap x1 x2 s) := by
  unfold sigSwap
  apply State.command_keeps
  · exact h
  · intro s1
    intro h2
    apply State.setState_keeps
    exact h2

theorem execSigSwap_keeps {s t : State} (x1) (x2) (e : (execSigSwap x1 x2 s) = .next t) : Keeps s t := by
  unfold execSigSwap at e
  refine keeps_goesTo e ?_
  have h := keeps_refl s
  clear e
  apply sigSwap_keeps
  exact h

theorem State.sigSwapAtT0_keeps {s : State} (h : Keeps s₀ s) : Keeps s₀ (State.sigSwapAtT0 s) := by
  unfold State.sigSwapAtT0
  refine keeps_ite ?_ ?_
  · extract_lets +onlyGivenNames y1
    have h2 : Keeps s₀ y1 := by
      dsimp -zeta only [y1]
      refine keeps_foldl ?_ ?_
      · exact h
      · intro s3
        intro x4
        intro h5
        extract_lets +onlyGivenNames y6
        refine keeps_ite ?_ ?_
        · apply State.writeEntry_keeps
          exact h5
        · exact h5
    apply State.setState_keeps
    apply State.complete_keeps
    exact h2
  · exact h

theorem sigAbort_keeps {s : State} (x1) (x2) (h : Keeps s₀ s) : Keeps s₀ (sigAbort x1 x2 s) := by
  unfold sigAbort
  apply State.abort_keeps
  · exact h
  · intro x1
    intro s2
    intro h3
    extract_lets +onlyGivenNames y4
    have h5 : Keeps s₀ y4 := by
      dsimp -zeta only [y4]
      split
      · refine keeps_ite ?_ ?_
        · apply State.loadTo_keeps
          exact h3
        · exact h3
      · exact h3
    apply State.setState_keeps
    refine keeps_mk (s := y4) ?_ rfl
    exact h5

theorem execSigAbort_keeps {s t : State} (x1) (x2) (e : (execSigAbort x1 x2 s) = .next t) : Keeps s t := by
  unfold execSigAbort at e
  refine keeps_goesTo e ?_
  have h := keeps_refl s
  clear e
  apply sigAbort_keeps
  exact h

theorem sigPeek_keeps {s : State} (x1) (x2) (h : Keeps s₀ s) : Keeps s₀ (sigPeek x1 x2 s) := by
  unfold sigPeek
  apply State.access_keeps
  · exact h
  · intro s1
    intro h2
    extract_lets +onlyGivenNames y3
    extract_lets +onlyGivenNames y4
    apply State.setPreg_keeps
    apply State.setPreg_keeps
    apply State.setPreg_keeps
    exact h2

theorem execSigPeek_keeps {s t : State} (x1) (x2) (e : (execSigPeek x1 x2 s) = .next t) : Keeps s t := by
  unfold execSigPeek at e
  refine keeps_goesTo e ?_
  have h := keeps_refl s
  clear e
  apply sigPeek_keeps
  exact h

theorem State.writeSignal_keeps {s : State} (h : Keeps s₀ s) (x2) (x3) (x4) : Keeps s₀ (State.writeSignal s x2 x3 x4) := by
  unfold State.writeSignal
  extract_lets +onlyGivenNames y1
  extract_lets +onlyGivenNames y2
  refine keeps_ite ?_ ?_
  · apply State.inc_keeps
    exact h
  · refine keeps_ite ?_ ?_
    · refine keeps_ite ?_ ?_
      · exact h
      · extract_lets +onlyGivenNames y3
        extract_lets +onlyGivenNames y4
        have h5 : Keeps s₀ y4 := by
          dsimp -zeta only [y4]
          apply State.recUpdate_keeps
          exact h
        extract_lets +onlyGivenNames y6
        refine keeps_ite ?_ ?_
        · apply State.setSigRec_keeps
          exact h5
        · apply State.deliver_keeps
          apply State.setSigRec_keeps
          exact h5
    · refine keeps_ite ?_ ?_
      · refine keeps_ite ?_ ?_
        · exact h
        · apply State.publish_keeps
          apply State.setSigRec_keeps
          exact h
      · apply State.inc_keeps
        exact h

theorem sigWrValWrite_keeps {s : State} (x1) (x2) (h : Keeps s₀ s) : Keeps s₀ (sigWrValWrite x1 x2 s) := by
  unfold sigWrValWrite
  apply State.access_keeps
  · exact h
  · intro s1
    intro h2
    apply State.writeSignal_keeps
    exact h2

theorem execSigWrValWrite_keeps {s t : State} (x1) (x2) (e : (execSigWrValWrite x1 x2 s) = .next t) : Keeps s t := by
  unfold execSigWrValWrite at e
  refine keeps_goesTo e ?_
  have h := keeps_refl s
  clear e
  apply sigWrValWrite_keeps
  exact h

theorem routeUpdate_keeps {s : State} (x1) (x2) (x3) (x4) (x5) (h : Keeps s₀ s) : Keeps s₀ (routeUpdate x1 x2 x3 x4 x5 s) := by
  unfold routeUpdate
  refine keeps_ite ?_ ?_
  · apply State.publish_keeps
    apply State.loadProgress_keeps
    exact h
  · exact h

theorem execRouteUpdate_keeps {s t : State} (x1) (x2) (x3) (x4) (x5) (e : (execRouteUpdate x1 x2 x3 x4 x5 s) = .next t) : Keeps s t := by
  unfold execRouteUpdate at e
  refine keeps_goesTo e ?_
  have h := keeps_refl s
  clear e
  apply State.alive_keeps
  · exact h
  · apply routeUpdate_keeps
    exact h

theorem State.applyOvr_keeps {s : State} (h : Keeps s₀ s) (x2) : Keeps s₀ (State.applyOvr s x2) := by
  unfold State.applyOvr
  extract_lets +onlyGivenNames y1
  extract_lets +onlyGivenNames y2
  refine keeps_ite ?_ ?_
  · apply State.deliver_keeps
    apply State.setSigRec_keeps
    apply State.recUpdate_keeps
    exact h
  · exact h

theorem State.releaseOvr_keeps {s : State} (h : Keeps s₀ s) (x2) : Keeps s₀ (State.releaseOvr s x2) := by
  unfold State.releaseOvr
  extract_lets +onlyGivenNames y1
  split
  · apply State.deliver_keeps
    apply State.setSigRec_keeps
    exact h
  · apply State.setSigRec_keeps
    exact h

theorem State.ovrAtT0_keeps {s : State} (h : Keeps s₀ s) : Keeps s₀ (State.ovrAtT0 s) := by
  unfold State.ovrAtT0
  extract_lets +onlyGivenNames y1
  extract_lets +onlyGivenNames y2
  extract_lets +onlyGivenNames y3
  extract_lets +onlyGivenNames y4
  have h5 : Keeps s₀ y4 := by
    dsimp -zeta only [y4]
    refine keeps_mk (s := s) ?_ rfl
    exact h
  extract_lets +onlyGivenNames y6
  have h7 : Keeps s₀ y6 := by
    dsimp -zeta only [y6]
    refine keeps_foldl ?_ ?_
    · exact h5
    · intro s8
      intro x9
      intro h10
      apply State.releaseOvr_keeps
      exact h10
  refine keeps_foldl ?_ ?_
  · exact h7
  · intro s11
    intro x12
    intro h13
    split
    · apply State.applyOvr_keeps
      exact h13
    · exact h13

theorem State.ageSignal_keeps {s : State} (h : Keeps s₀ s) (x2) : Keeps s₀ (State.ageSignal s x2) := by
  unfold State.ageSignal
  extract_lets +onlyGivenNames y1
  refine keeps_ite ?_ ?_
  · exact h
  · extract_lets +onlyGivenNames y2
    extract_lets +onlyGivenNames y3
    extract_lets +onlyGivenNames y4
    extract_lets +onlyGivenNames y5
    refine keeps_ite ?_ ?_
    · extract_lets +onlyGivenNames y6
      have h7 : Keeps s₀ y6 := by
        dsimp -zeta only [y6]
        apply State.recStale_keeps
        apply State.setSigRec_keeps
        exact h
      extract_lets +onlyGivenNames y8
      have h9 : Keeps s₀ y8 := by
        dsimp -zeta only [y8]
        apply State.raiseEvt_keeps
        apply State.setReg_keeps
        apply State.inc_keeps
        exact h7
      apply State.deliver_keeps
      exact h9
    · apply State.setSigRec_keeps
      exact h

theorem drainUpdates_keeps {s : State} (x1) (h : Keeps s₀ s) : Keeps s₀ (drainUpdates x1 s) := by
  induction x1 generalizing s
  · unfold drainUpdates
    refine keeps_mk (s := s) ?_ rfl
    exact h
  · rename_i x0 l0 ih
    unfold drainUpdates
    extract_lets +onlyGivenNames y1
    refine keeps_ite ?_ ?_
    · apply ih
      apply State.takePub_keeps
      refine keeps_mk (s := s) ?_ rfl
      exact h
    · refine keeps_mk (s := s) ?_ rfl
      exact h

theorem State.signalsAtT0_keeps {s : State} (h : Keeps s₀ s) : Keeps s₀ (State.signalsAtT0 s) := by
  unfold State.signalsAtT0
  extract_lets +onlyGivenNames y1
  have h2 : Keeps s₀ y1 := by
    dsimp -zeta only [y1]
    refine keeps_ite ?_ ?_
    · exact h
    · apply State.raiseEvt_keeps
      apply State.inc_keeps
      exact h
  extract_lets +onlyGivenNames y3
  extract_lets +onlyGivenNames y4
  have h5 : Keeps s₀ y4 := by
    dsimp -zeta only [y4]
    refine keeps_foldl ?_ ?_
    · exact h2
    · intro s6
      intro x7
      intro h8
      apply State.ageSignal_keeps
      exact h8
  extract_lets +onlyGivenNames y9
  have h10 : Keeps s₀ y9 := by
    dsimp -zeta only [y9]
    apply State.ovrAtT0_keeps
    exact h5
  apply drainUpdates_keeps
  refine keeps_mk (s := y9) ?_ rfl
  exact h10

theorem State.adcEvt_keeps {s : State} (h : Keeps s₀ s) (x2) : Keeps s₀ (State.adcEvt s x2) := by
  unfold State.adcEvt
  apply State.raiseEvt_keeps
  exact h

theorem State.setAdcConv_keeps {s : State} (h : Keeps s₀ s) (x2) (x3) : Keeps s₀ (State.setAdcConv s x2 x3) := by
  unfold State.setAdcConv
  apply State.setReg_keeps
  exact h

theorem State.setAdcPartner_keeps {s : State} (h : Keeps s₀ s) (x2) (x3) : Keeps s₀ (State.setAdcPartner s x2 x3) := by
  unfold State.setAdcPartner
  apply State.setReg_keeps
  exact h

theorem State.setSpare_keeps {s : State} (h : Keeps s₀ s) (x2) (x3) (x4) : Keeps s₀ (State.setSpare s x2 x3 x4) := by
  unfold State.setSpare
  apply State.setReg_keeps
  exact h

theorem State.freeSpare_keeps {s : State} (h : Keeps s₀ s) (x2) : Keeps s₀ (State.freeSpare s x2) := by
  unfold State.freeSpare
  apply State.setSpare_keeps
  apply State.setAdcPartner_keeps
  exact h

theorem State.adcSync_keeps {s : State} (h : Keeps s₀ s) : Keeps s₀ (State.adcSync s) := by
  unfold State.adcSync
  extract_lets +onlyGivenNames y1
  have h2 : Keeps s₀ y1 := by
    dsimp -zeta only [y1]
    refine keeps_foldl ?_ ?_
    · exact h
    · intro s3
      intro x4
      intro h5
      extract_lets +onlyGivenNames y6
      extract_lets +onlyGivenNames y7
      refine keeps_ite ?_ ?_
      · apply State.freeSpare_keeps
        exact h5
      · exact h5
  extract_lets +onlyGivenNames y8
  have h9 : Keeps s₀ y8 := by
    dsimp -zeta only [y8]
    refine keeps_foldl ?_ ?_
    · exact h2
    · intro s10
      intro x11
      intro h12
      refine keeps_ite ?_ ?_
      · split
        · apply State.setAdcPartner_keeps
          apply State.setSpare_keeps
          exact h12
        · assumption
      · exact h12
  refine keeps_foldl ?_ ?_
  · exact h9
  · intro s13
    intro x14
    intro h15
    apply State.setReg_keeps
    exact h15

theorem State.adcStart_keeps {s : State} (h : Keeps s₀ s) (x2) (x3) : Keeps s₀ (State.adcStart s x2 x3) := by
  unfold State.adcStart
  refine keeps_mk (s := s) ?_ rfl
  exact h

theorem State.setAdcQueued_keeps {s : State} (h : Keeps s₀ s) (x2) (x3) : Keeps s₀ (State.setAdcQueued s x2 x3) := by
  unfold State.setAdcQueued
  refine keeps_mk (s := s) ?_ rfl
  exact h

theorem State.adcRequest_keeps {s : State} (h : Keeps s₀ s) (x2) (x3) : Keeps s₀ (State.adcRequest s x2 x3) := by
  unfold State.adcRequest
  extract_lets +onlyGivenNames y1
  refine keeps_ite ?_ ?_
  · exact h
  · split
    · refine keeps_ite ?_ ?_
      · apply State.adcStart_keeps
        exact h
      · apply State.setAdcQueued_keeps
        exact h
    · refine keeps_ite ?_ ?_
      · apply State.adcEvt_keeps
        apply State.inc_keeps
        exact h
      · refine keeps_ite ?_ ?_
        · apply State.setAdcQueued_keeps
          exact h
        · apply State.adcEvt_keeps
          apply State.inc_keeps
          exact h

theorem State.adcFire_keeps {s : State} (h : Keeps s₀ s) (x2) : Keeps s₀ (State.adcFire s x2) := by
  unfold State.adcFire
  extract_lets +onlyGivenNames y1
  extract_lets +onlyGivenNames y2
  refine keeps_foldl ?_ ?_
  · apply State.inc_keeps
    exact h
  · intro s3
    intro x4
    intro h5
    refine keeps_ite ?_ ?_
    · apply State.adcRequest_keeps
      exact h5
    · exact h5

theorem State.adcFireAll_keeps {s : State} (h : Keeps s₀ s) (x2) : Keeps s₀ (State.adcFireAll s x2) := by
  unfold State.adcFireAll
  refine keeps_foldl ?_ ?_
  · exact h
  · intro s1
    intro x2
    intro h3
    apply State.adcFire_keeps
    exact h3

theorem adcTrigger_keeps {s : State} (x1) (x2) (h : Keeps s₀ s) : Keeps s₀ (adcTrigger x1 x2 s) := by
  unfold adcTrigger
  apply State.command_keeps
  · exact h
  · intro s1
    intro h2
    apply State.adcFireAll_keeps
    exact h2

theorem execAdcTrigger_keeps {s t : State} (x1) (x2) (e : (execAdcTrigger x1 x2 s) = .next t) : Keeps s t := by
  unfold execAdcTrigger at e
  refine keeps_goesTo e ?_
  have h := keeps_refl s
  clear e
  apply adcTrigger_keeps
  exact h

theorem fcPhaseTrigger_keeps {s : State} (x1) (x2) (h : Keeps s₀ s) : Keeps s₀ (fcPhaseTrigger x1 x2 s) := by
  unfold fcPhaseTrigger
  extract_lets +onlyGivenNames y1
  refine keeps_ite ?_ ?_
  · extract_lets +onlyGivenNames y2
    have h3 : Keeps s₀ y2 := by
      dsimp -zeta only [y2]
      apply State.atOffset_keeps
      exact h
    extract_lets +onlyGivenNames y4
    extract_lets +onlyGivenNames y5
    have h6 : Keeps s₀ y5 := by
      dsimp -zeta only [y5]
      refine keeps_mk (s := y2) ?_ rfl
      exact h3
    apply State.adcFireAll_keeps
    exact h6
  · exact h

theorem execFcPhaseTrigger_keeps {s t : State} (x1) (x2) (e : (execFcPhaseTrigger x1 x2 s) = .next t) : Keeps s t := by
  unfold execFcPhaseTrigger at e
  refine keeps_goesTo e ?_
  have h := keeps_refl s
  clear e
  apply State.alive_keeps
  · exact h
  · apply fcPhaseTrigger_keeps
    exact h

theorem atrgEdge_keeps {s : State} (x1) (x2) (h : Keeps s₀ s) : Keeps s₀ (atrgEdge x1 x2 s) := by
  unfold atrgEdge
  apply State.adcFireAll_keeps
  exact h

theorem execAtrgEdge_keeps {s t : State} (x1) (x2) (e : (execAtrgEdge x1 x2 s) = .next t) : Keeps s t := by
  unfold execAtrgEdge at e
  refine keeps_goesTo e ?_
  have h := keeps_refl s
  clear e
  apply State.alive_keeps
  · exact h
  · apply atrgEdge_keeps
    exact h

theorem State.adcArm_keeps {s : State} (h : Keeps s₀ s) (x2) (x3) : Keeps s₀ (State.adcArm s x2 x3) := by
  unfold State.adcArm
  refine keeps_mk (s := s) ?_ rfl
  exact h

theorem timeBaseTrigger_keeps {s : State} (x1) (h : Keeps s₀ s) : Keeps s₀ (timeBaseTrigger x1 s) := by
  unfold timeBaseTrigger
  split
  · refine keeps_ite ?_ ?_
    · extract_lets +onlyGivenNames y1
      apply State.adcFireAll_keeps
      apply State.adcArm_keeps
      apply State.advanceTo_keeps
      exact h
    · exact h
  · exact h

theorem execTimeBaseTrigger_keeps {s t : State} (x1) (e : (execTimeBaseTrigger x1 s) = .next t) : Keeps s t := by
  unfold execTimeBaseTrigger at e
  refine keeps_goesTo e ?_
  have h := keeps_refl s
  clear e
  apply State.alive_keeps
  · exact h
  · apply timeBaseTrigger_keeps
    exact h

theorem State.adcTarget_keeps {s : State} (h : Keeps s₀ s) (x2) (x3) : Keeps s₀ (State.adcTarget s x2 x3) := by
  unfold State.adcTarget
  extract_lets +onlyGivenNames y1
  refine keeps_ite ?_ ?_
  · apply State.adcArm_keeps
    exact h
  · extract_lets +onlyGivenNames y2
    extract_lets +onlyGivenNames y3
    extract_lets +onlyGivenNames y4
    have h5 : Keeps s₀ y4 := by
      dsimp -zeta only [y4]
      apply State.adcEvt_keeps
      apply State.inc_keeps
      apply State.adcArm_keeps
      exact h
    apply State.adcFireAll_keeps
    exact h5

theorem tbtimeWrite_keeps {s : State} (x1) (x2) (x3) (h : Keeps s₀ s) : Keeps s₀ (tbtimeWrite x1 x2 x3 s) := by
  unfold tbtimeWrite
  apply State.access_keeps
  · exact h
  · intro s1
    intro h2
    refine keeps_ite ?_ ?_
    · apply State.noteDenied_keeps
      exact h2
    · extract_lets +onlyGivenNames y3
      have h4 : Keeps s₀ y3 := by
        dsimp -zeta only [y3]
        apply State.setReg_keeps
        exact h2
      refine keeps_ite ?_ ?_
      · apply State.adcTarget_keeps
        exact h4
      · exact h4

theorem execTbtimeWrite_keeps {s t : State} (x1) (x2) (x3) (e : (execTbtimeWrite x1 x2 x3 s) = .next t) : Keeps s t := by
  unfold execTbtimeWrite at e
  refine keeps_goesTo e ?_
  have h := keeps_refl s
  clear e
  apply tbtimeWrite_keeps
  exact h

theorem adcSwap_keeps {s : State} (x1) (x2) (h : Keeps s₀ s) : Keeps s₀ (adcSwap x1 x2 s) := by
  unfold adcSwap
  apply State.command_keeps
  · exact h
  · intro s1
    intro h2
    apply State.setState_keeps
    exact h2

theorem execAdcSwap_keeps {s t : State} (x1) (x2) (e : (execAdcSwap x1 x2 s) = .next t) : Keeps s t := by
  unfold execAdcSwap at e
  refine keeps_goesTo e ?_
  have h := keeps_refl s
  clear e
  apply adcSwap_keeps
  exact h

theorem State.adcSwapAtT0_keeps {s : State} (h : Keeps s₀ s) : Keeps s₀ (State.adcSwapAtT0 s) := by
  unfold State.adcSwapAtT0
  refine keeps_ite ?_ ?_
  · extract_lets +onlyGivenNames y1
    have h2 : Keeps s₀ y1 := by
      dsimp -zeta only [y1]
      refine keeps_foldl ?_ ?_
      · exact h
      · intro s3
        intro x4
        intro h5
        extract_lets +onlyGivenNames y6
        have h7 : Keeps s₀ y6 := by
          dsimp -zeta only [y6]
          apply State.setRegs_keeps
          exact h5
        refine keeps_ite ?_ ?_
        · exact h7
        · apply State.adcArm_keeps
          exact h7
    apply State.complete_keeps
    apply State.setState_keeps
    exact h2
  · exact h

theorem adcAbort_keeps {s : State} (x1) (x2) (h : Keeps s₀ s) : Keeps s₀ (adcAbort x1 x2 s) := by
  unfold adcAbort
  apply State.abort_keeps
  · exact h
  · intro x1
    intro s2
    intro h3
    apply State.setState_keeps
    refine keeps_mk (s := s2) ?_ rfl
    exact h3

theorem execAdcAbort_keeps {s t : State} (x1) (x2) (e : (execAdcAbort x1 x2 s) = .next t) : Keeps s t := by
  unfold execAdcAbort at e
  refine keeps_goesTo e ?_
  have h := keeps_refl s
  clear e
  apply adcAbort_keeps
  exact h

theorem State.winJudge_keeps {s : State} (h : Keeps s₀ s) (x2) (x3) (x4) : Keeps s₀ (State.winJudge s x2 x3 x4) := by
  unfold State.winJudge
  split
  extract_lets +onlyGivenNames y1
  extract_lets +onlyGivenNames y2
  refine keeps_ite ?_ ?_
  · apply State.setReg_keeps
    exact h
  · extract_lets +onlyGivenNames y3
    extract_lets +onlyGivenNames y4
    extract_lets +onlyGivenNames y5
    extract_lets +onlyGivenNames y6
    have h7 : Keeps s₀ y6 := by
      dsimp -zeta only [y6]
      refine keeps_ite ?_ ?_
      · apply State.adcEvt_keeps
        apply State.orReg_keeps
        apply State.setReg_keeps
        exact h
      · apply State.setReg_keeps
        exact h
    apply State.pubInt_keeps
    exact h7

theorem converterFree_keeps {s : State} (x1) (h : Keeps s₀ s) : Keeps s₀ (converterFree x1 s) := by
  unfold converterFree
  split
  · extract_lets +onlyGivenNames y1
    have h2 : Keeps s₀ y1 := by
      dsimp -zeta only [y1]
      apply State.advanceTo_keeps
      exact h
    extract_lets +onlyGivenNames y3
    extract_lets +onlyGivenNames y4
    have h5 : Keeps s₀ y4 := by
      dsimp -zeta only [y4]
      refine keeps_mk (s := y1) ?_ rfl
      exact h2
    split
    · apply State.adcStart_keeps
      apply State.setAdcQueued_keeps
      exact h5
    · exact h5
  · exact h

theorem execConverterFree_keeps {s t : State} (x1) (e : (execConverterFree x1 s) = .next t) : Keeps s t := by
  unfold execConverterFree at e
  refine keeps_goesTo e ?_
  have h := keeps_refl s
  clear e
  apply State.alive_keeps
  · exact h
  · apply converterFree_keeps
    exact h

theorem conversionComplete_keeps {s : State} (x1) (x2) (h : Keeps s₀ s) : Keeps s₀ (conversionComplete x1 x2 s) := by
  unfold conversionComplete
  split
  · extract_lets +onlyGivenNames y1
    have h2 : Keeps s₀ y1 := by
      dsimp -zeta only [y1]
      apply State.advanceTo_keeps
      exact h
    extract_lets +onlyGivenNames y3
    extract_lets +onlyGivenNames y4
    have h5 : Keeps s₀ y4 := by
      dsimp -zeta only [y4]
      refine keeps_mk (s := y1) ?_ rfl
      exact h2
    refine keeps_ite ?_ ?_
    · exact h5
    · extract_lets +onlyGivenNames y6
      extract_lets +onlyGivenNames y7
      extract_lets +onlyGivenNames y8
      extract_lets +onlyGivenNames y9
      extract_lets +onlyGivenNames y10
      have h11 : Keeps s₀ y10 := by
        dsimp -zeta only [y10]
        apply State.setRegs_keeps
        exact h5
      extract_lets +onlyGivenNames y12
      have h13 : Keeps s₀ y12 := by
        dsimp -zeta only [y12]
        apply State.publish_keeps
        exact h11
      refine keeps_foldl ?_ ?_
      · exact h13
      · intro s14
        intro x15
        intro h16
        refine keeps_ite ?_ ?_
        · apply State.winJudge_keeps
          exact h16
        · exact h16
  · exact h

theorem execConversionComplete_keeps {s t : State} (x1) (x2) (e : (execConversionComplete x1 x2 s) = .next t) : Keeps s t := by
  unfold execConversionComplete at e
  refine keeps_goesTo e ?_
  have h := keeps_refl s
  clear e
  apply State.alive_keeps
  · exact h
  · apply conversionComplete_keeps
    exact h

theorem State.setUnchecked_keeps {s : State} (h : Keeps s₀ s) (x2) (x3) : Keeps s₀ (State.setUnchecked s x2 x3) := by
  unfold State.setUnchecked
  refine keeps_ite ?_ ?_
  · apply State.setReg_keeps
    exact h
  · apply State.setReg_keeps
    exact h

theorem State.adcSubstitute_keeps {s : State} (h : Keeps s₀ s) (x2) : Keeps s₀ (State.adcSubstitute s x2) := by
  unfold State.adcSubstitute
  split
  · extract_lets +onlyGivenNames y1
    have h2 : Keeps s₀ y1 := by
      dsimp -zeta only [y1]
      refine keeps_ite ?_ ?_
      · apply State.adcEvt_keeps
        apply State.freeSpare_keeps
        exact h
      · exact h
    apply State.adcEvt_keeps
    apply State.setAdcConv_keeps
    apply State.setSpare_keeps
    exact h2
  · apply State.adcEvt_keeps
    apply State.setReg_keeps
    exact h

theorem State.adcRetire_keeps {s : State} (h : Keeps s₀ s) (x2) : Keeps s₀ (State.adcRetire s x2) := by
  unfold State.adcRetire
  refine keeps_ite ?_ ?_
  · apply State.adcSubstitute_keeps
    exact h
  · extract_lets +onlyGivenNames y1
    extract_lets +onlyGivenNames y2
    extract_lets +onlyGivenNames y3
    extract_lets +onlyGivenNames y4
    have h5 : Keeps s₀ y4 := by
      dsimp -zeta only [y4]
      refine keeps_ite ?_ ?_
      · apply State.setAdcPartner_keeps
        exact h
      · exact h
    extract_lets +onlyGivenNames y6
    have h7 : Keeps s₀ y6 := by
      dsimp -zeta only [y6]
      apply State.setSpare_keeps
      exact h5
    refine keeps_ite ?_ ?_
    · apply State.adcSubstitute_keeps
      exact h7
    · exact h7

theorem State.adcOverflow_keeps {s : State} (h : Keeps s₀ s) (x2) (x3) : Keeps s₀ (State.adcOverflow s x2 x3) := by
  unfold State.adcOverflow
  extract_lets +onlyGivenNames y1
  have h2 : Keeps s₀ y1 := by
    dsimp -zeta only [y1]
    refine keeps_ite ?_ ?_
    · apply State.orReg_keeps
      exact h
    · apply State.orReg_keeps
      exact h
  extract_lets +onlyGivenNames y3
  apply State.faultEvent_keeps
  refine keeps_mk (s := y1) ?_ rfl
  exact h2

theorem referenceCheck_keeps {s : State} (x1) (x2) (x3) (h : Keeps s₀ s) : Keeps s₀ (referenceCheck x1 x2 x3 s) := by
  unfold referenceCheck
  extract_lets +onlyGivenNames y1
  refine keeps_ite ?_ ?_
  · exact h
  · extract_lets +onlyGivenNames y2
    have h3 : Keeps s₀ y2 := by
      dsimp -zeta only [y2]
      apply State.setUnchecked_keeps
      exact h
    have h4 : ∀ l : List (Int × Int),
        Keeps s₀ (l.foldl (fun (s : State) _ => (s.inc Reg.ADC_CALERR_CNT).adcEvt 4) y2) := by
      intro l
      refine keeps_foldl h3 ?_
      intro s5 x6 h7
      apply State.adcEvt_keeps
      apply State.inc_keeps
      exact h7
    extract_lets +onlyGivenNames b5 y6
    have h8 : Keeps s₀ y6 := h4 _
    clear_value b5
    clear_value y6
    rcases b5 with _ | ⟨p, l⟩ <;> dsimp only
    · exact h8
    · refine keeps_ite ?_ ?_
      · apply State.adcOverflow_keeps
        apply State.finding_keeps
        exact h8
      · apply State.finding_keeps
        exact h8

theorem execReferenceCheck_keeps {s t : State} (x1) (x2) (x3) (e : (execReferenceCheck x1 x2 x3 s) = .next t) : Keeps s t := by
  unfold execReferenceCheck at e
  refine keeps_goesTo e ?_
  have h := keeps_refl s
  clear e
  apply State.alive_keeps
  · exact h
  · apply referenceCheck_keeps
    exact h

theorem converterUnchecked_keeps {s : State} (x1) (h : Keeps s₀ s) : Keeps s₀ (converterUnchecked x1 s) := by
  unfold converterUnchecked
  apply State.setUnchecked_keeps
  exact h

theorem execConverterUnchecked_keeps {s t : State} (x1) (e : (execConverterUnchecked x1 s) = .next t) : Keeps s t := by
  unfold execConverterUnchecked at e
  refine keeps_goesTo e ?_
  have h := keeps_refl s
  clear e
  apply State.alive_keeps
  · exact h
  · apply converterUnchecked_keeps
    exact h

theorem State.adcAtT0_keeps {s : State} (h : Keeps s₀ s) : Keeps s₀ (State.adcAtT0 s) := by
  unfold State.adcAtT0
  extract_lets +onlyGivenNames y1
  apply State.adcSync_keeps
  refine keeps_foldl ?_ ?_
  · refine keeps_mk (s := s) ?_ rfl
    exact h
  · intro s2
    intro x3
    intro h4
    apply State.adcRetire_keeps
    exact h4

theorem State.setSeqCh_keeps {s : State} (h : Keeps s₀ s) (x2) (x3) : Keeps s₀ (State.setSeqCh s x2 x3) := by
  unfold State.setSeqCh
  refine keeps_mk (s := s) ?_ rfl
  exact h

theorem State.setSeqSt_keeps {s : State} (h : Keeps s₀ s) (x2) (x3) : Keeps s₀ (State.setSeqSt s x2 x3) := by
  unfold State.setSeqSt
  apply State.setReg_keeps
  exact h

theorem State.setSeqBit_keeps {s : State} (h : Keeps s₀ s) (x2) (x3) (x4) : Keeps s₀ (State.setSeqBit s x2 x3 x4) := by
  unfold State.setSeqBit
  apply State.setReg_keeps
  exact h

theorem State.setSeqLatch_keeps {s : State} (h : Keeps s₀ s) (x2) (x3) : Keeps s₀ (State.setSeqLatch s x2 x3) := by
  unfold State.setSeqLatch
  apply State.setSeqBit_keeps
  apply State.setReg_keeps
  exact h

theorem State.seqEvt_keeps {s : State} (h : Keeps s₀ s) (x2) (x3) : Keeps s₀ (State.seqEvt s x2 x3) := by
  unfold State.seqEvt
  apply State.raiseEvt_keeps
  apply State.orReg_keeps
  exact h

theorem State.seqErr_keeps {s : State} (h : Keeps s₀ s) (x2) (x3) : Keeps s₀ (State.seqErr s x2 x3) := by
  unfold State.seqErr
  extract_lets +onlyGivenNames y1
  have h2 : Keeps s₀ y1 := by
    dsimp -zeta only [y1]
    apply State.orReg_keeps
    exact h
  split
  · apply State.seqEvt_keeps
    exact h2
  · apply State.seqEvt_keeps
    exact h2
  · apply State.seqEvt_keeps
    exact h2
  · exact h2

theorem State.seqPauses_keeps {s : State} (h : Keeps s₀ s) (x2) : Keeps s₀ (State.seqPauses s x2) := by
  unfold State.seqPauses
  extract_lets +onlyGivenNames y1
  refine keeps_ite ?_ ?_
  · apply State.seqEvt_keeps
    apply State.setSeqSt_keeps
    exact h
  · refine keeps_ite ?_ ?_
    · apply State.setSeqSt_keeps
      exact h
    · exact h

theorem State.seqRules_keeps {s : State} (h : Keeps s₀ s) (x2) (x3) : Keeps s₀ (State.seqRules s x2 x3) := by
  unfold State.seqRules
  extract_lets +onlyGivenNames y1
  extract_lets +onlyGivenNames y2
  extract_lets +onlyGivenNames y3
  extract_lets +onlyGivenNames y4
  apply State.seqPauses_keeps
  apply State.setSeqBit_keeps
  apply State.setSeqCh_keeps
  exact h

theorem State.seqIlkAbort_keeps {s : State} (h : Keeps s₀ s) (x2) (x3) : Keeps s₀ (State.seqIlkAbort s x2 x3) := by
  unfold State.seqIlkAbort
  extract_lets +onlyGivenNames y1
  refine keeps_ite ?_ ?_
  · apply State.inc_keeps
    exact h
  · refine keeps_ite ?_ ?_
    · extract_lets +onlyGivenNames y2
      apply State.setSeqCh_keeps
      exact h
    · exact h

theorem State.seqApply_keeps {s : State} (h : Keeps s₀ s) (x2) : Keeps s₀ (State.seqApply s x2) := by
  unfold State.seqApply
  extract_lets +onlyGivenNames y1
  extract_lets +onlyGivenNames y2
  extract_lets +onlyGivenNames y3
  extract_lets +onlyGivenNames y4
  extract_lets +onlyGivenNames y5
  extract_lets +onlyGivenNames y6
  extract_lets +onlyGivenNames y7
  extract_lets +onlyGivenNames y8
  extract_lets +onlyGivenNames y9
  have h10 : Keeps s₀ y9 := by
    dsimp -zeta only [y9]
    refine keeps_mk (s := s) ?_ rfl
    exact h
  refine keeps_foldl ?_ ?_
  · exact h10
  · intro s11
    intro x12
    intro h13
    apply State.seqEvt_keeps
    apply State.setReg_keeps
    apply State.inc_keeps
    exact h13

theorem State.seqAdvance_keeps {s : State} (h : Keeps s₀ s) (x2) : Keeps s₀ (State.seqAdvance s x2) := by
  unfold State.seqAdvance
  extract_lets +onlyGivenNames y1
  apply State.seqApply_keeps
  apply State.setSeqCh_keeps
  exact h

theorem State.seqDo_keeps {s : State} (h : Keeps s₀ s) (x2) (x3) (x4) : Keeps s₀ (State.seqDo s x2 x3 x4) := by
  unfold State.seqDo
  extract_lets +onlyGivenNames y1
  extract_lets +onlyGivenNames y2
  extract_lets +onlyGivenNames y3
  refine keeps_ite ?_ ?_
  · apply State.seqErr_keeps
    apply State.inc_keeps
    exact h
  · extract_lets +onlyGivenNames y4
    extract_lets +onlyGivenNames y5
    extract_lets +onlyGivenNames y6
    extract_lets +onlyGivenNames y7
    extract_lets +onlyGivenNames y8
    extract_lets +onlyGivenNames y9
    have h10 : Keeps s₀ y9 := by
      dsimp -zeta only [y9]
      apply State.setSeqCh_keeps
      exact h
    refine keeps_ite ?_ ?_
    · exact h10
    · apply State.seqErr_keeps
      exact h10

theorem State.seqActs_keeps {s : State} (h : Keeps s₀ s) (x2) (x3) : Keeps s₀ (State.seqActs s x2 x3) := by
  unfold State.seqActs
  apply State.seqApply_keeps
  refine keeps_foldl_fst ?_ ?_
  · dsimp -zeta only
    exact h
  · intro x1
    intro x2
    intro h3
    dsimp -zeta only
    apply State.seqDo_keeps
    exact h3

theorem State.seqEnter_keeps {s : State} (h : Keeps s₀ s) (x2) (x3) (x4) (x5) : Keeps s₀ (State.seqEnter s x2 x3 x4 x5) := by
  unfold State.seqEnter
  extract_lets +onlyGivenNames y1
  extract_lets +onlyGivenNames y2
  have h3 : Keeps s₀ y2 := by
    dsimp -zeta only [y2]
    apply State.seqActs_keeps
    exact h
  apply State.setSeqCh_keeps
  exact h3

theorem State.seqSettle_keeps {s : State} (h : Keeps s₀ s) (x2) : Keeps s₀ (State.seqSettle s x2) := by
  unfold State.seqSettle
  extract_lets +onlyGivenNames y1
  extract_lets +onlyGivenNames y2
  extract_lets +onlyGivenNames y3
  have h4 : Keeps s₀ y3 := by
    dsimp -zeta only [y3]
    refine keeps_ite ?_ ?_
    · apply State.complete_keeps
      exact h
    · exact h
  refine keeps_ite ?_ ?_
  · apply State.complete_keeps
    exact h4
  · exact h4

theorem State.seqAborted_keeps {s : State} (h : Keeps s₀ s) (x2) : Keeps s₀ (State.seqAborted s x2) := by
  unfold State.seqAborted
  extract_lets +onlyGivenNames y1
  extract_lets +onlyGivenNames y2
  apply State.seqSettle_keeps
  apply State.setSeqSt_keeps
  apply State.seqApply_keeps
  apply State.setSeqCh_keeps
  exact h

theorem State.seqAbort_keeps {s : State} (h : Keeps s₀ s) (x2) (x3) (x4) (x5) (x6) : Keeps s₀ (State.seqAbort s x2 x3 x4 x5 x6) := by
  unfold State.seqAbort
  extract_lets +onlyGivenNames y1
  extract_lets +onlyGivenNames y2
  have h3 : Keeps s₀ y2 := by
    dsimp -zeta only [y2]
    apply State.setReg_keeps
    exact h
  extract_lets +onlyGivenNames y4
  have h5 : Keeps s₀ y4 := by
    dsimp -zeta only [y4]
    split
    · apply State.inc_keeps
      apply State.setReg_keeps
      exact h3
    · exact h3
  extract_lets +onlyGivenNames y6
  have h7 : Keeps s₀ y6 := by
    dsimp -zeta only [y6]
    apply State.seqApply_keeps
    apply State.setSeqCh_keeps
    exact h5
  extract_lets +onlyGivenNames y8
  have h9 : Keeps s₀ y8 := by
    dsimp -zeta only [y8]
    apply State.setSeqSt_keeps
    apply State.seqEvt_keeps
    exact h7
  refine keeps_ite ?_ ?_
  · apply State.seqAborted_keeps
    exact h9
  · extract_lets +onlyGivenNames y10
    have h11 : Keeps s₀ y10 := by
      dsimp -zeta only [y10]
      apply State.seqSettle_keeps
      exact h9
    split
    · apply State.seqEnter_keeps
      exact h11
    · apply State.setSeqCh_keeps
      exact h11

theorem State.seqFetchFails_keeps {s : State} (h : Keeps s₀ s) (x2) (x3) : Keeps s₀ (State.seqFetchFails s x2 x3) := by
  unfold State.seqFetchFails
  extract_lets +onlyGivenNames y1
  extract_lets +onlyGivenNames y2
  extract_lets +onlyGivenNames y3
  have h4 : Keeps s₀ y3 := by
    dsimp -zeta only [y3]
    apply State.seqErr_keeps
    exact h
  refine keeps_ite ?_ ?_
  · apply State.seqAborted_keeps
    apply State.inc_keeps
    exact h4
  · apply State.seqAbort_keeps
    exact h4

theorem State.seqBegin_keeps {s : State} (h : Keeps s₀ s) (x2) : Keeps s₀ (State.seqBegin s x2) := by
  unfold State.seqBegin
  extract_lets +onlyGivenNames y1
  split
  · apply State.seqEnter_keeps
    exact h
  · apply State.seqAbort_keeps
    apply State.seqErr_keeps
    exact h

theorem State.seqStartFails_keeps {s : State} (h : Keeps s₀ s) (x2) (x3) : Keeps s₀ (State.seqStartFails s x2 x3) := by
  unfold State.seqStartFails
  extract_lets +onlyGivenNames y1
  apply State.seqSettle_keeps
  apply State.setSeqSt_keeps
  apply State.seqApply_keeps
  apply State.setSeqCh_keeps
  apply State.seqErr_keeps
  exact h

theorem State.seqStartFetched_keeps {s : State} (h : Keeps s₀ s) (x2) : Keeps s₀ (State.seqStartFetched s x2) := by
  have hf : ∀ e, Keeps s₀ (s.seqStartFails x2 e) := fun e => State.seqStartFails_keeps h _ _
  have hb : ∀ v, Keeps s₀ (s.setSeqCh x2 v) := fun v => State.setSeqCh_keeps h _ _
  unfold State.seqStartFetched
  dsimp only
  generalize s.seqHeader _ = hd
  cases hd with
  | error e => exact hf e
  | ok r =>
    dsimp only
    generalize s.seqAbortRec r = ab
    cases ab with
    | error e => exact hf e
    | ok ab =>
      dsimp only
      generalize s.seqFetchRec r r.first = f
      split
      · exact hf 2
      · exact keeps_ite (State.seqBegin_keeps (hb _) _) (hb _)

theorem stepFetchComplete_keeps {s : State} (x1) (x2) (h : Keeps s₀ s) : Keeps s₀ (stepFetchComplete x1 x2 s) := by
  unfold stepFetchComplete
  extract_lets +onlyGivenNames y1
  split
  · refine keeps_ite ?_ ?_
    · refine keeps_ite ?_ ?_
      · apply State.seqStartFails_keeps
        exact h
      · apply State.seqStartFetched_keeps
        exact h
    · split
      · split
        · apply State.seqEnter_keeps
          exact h
        · apply State.seqFetchFails_keeps
          exact h
      · apply State.seqFetchFails_keeps
        exact h
  · exact h

theorem execStepFetchComplete_keeps {s t : State} (x1) (x2) (e : (execStepFetchComplete x1 x2 s) = .next t) : Keeps s t := by
  unfold execStepFetchComplete at e
  refine keeps_goesTo e ?_
  have h := keeps_refl s
  clear e
  apply State.alive_keeps
  · exact h
  · apply stepFetchComplete_keeps
    exact h

theorem State.seqAtLatch_keeps {s : State} (h : Keeps s₀ s) : Keeps s₀ (State.seqAtLatch s) := by
  unfold State.seqAtLatch
  refine keeps_foldl ?_ ?_
  · exact h
  · intro s1
    intro x2
    intro h3
    split
    · refine keeps_ite ?_ ?_
      · refine keeps_ite ?_ ?_
        · apply State.seqStartFails_keeps
          exact h3
        · exact h3
      · apply State.seqFetchFails_keeps
        exact h3
    · exact h3

theorem State.seqEnds_keeps {s : State} (h : Keeps s₀ s) (x2) (x3) (x4) : Keeps s₀ (State.seqEnds s x2 x3 x4) := by
  unfold State.seqEnds
  extract_lets +onlyGivenNames y1
  have h2 : Keeps s₀ y1 := by
    dsimp -zeta only [y1]
    apply State.inc_keeps
    apply State.setReg_keeps
    exact h
  refine keeps_ite ?_ ?_
  · apply State.setSeqCh_keeps
    exact h2
  · apply State.setSeqCh_keeps
    exact h2

theorem State.seqEvalRun_keeps {s : State} (h : Keeps s₀ s) (x2) (x3) : Keeps s₀ (State.seqEvalRun s x2 x3) := by
  unfold State.seqEvalRun
  extract_lets +onlyGivenNames y1
  extract_lets +onlyGivenNames y2
  extract_lets +onlyGivenNames y3
  extract_lets +onlyGivenNames y4
  extract_lets +onlyGivenNames y5
  extract_lets +onlyGivenNames y6
  extract_lets +onlyGivenNames y7
  extract_lets +onlyGivenNames y8
  extract_lets +onlyGivenNames y9
  extract_lets +onlyGivenNames y10
  have h11 : Keeps s₀ y10 := by
    dsimp -zeta only [y10]
    refine keeps_ite ?_ ?_
    · apply State.seqEvt_keeps
      exact h
    · exact h
  extract_lets +onlyGivenNames y12
  have h13 : Keeps s₀ y12 := by
    dsimp -zeta only [y12]
    apply State.setSeqBit_keeps
    exact h11
  extract_lets +onlyGivenNames y14
  extract_lets +onlyGivenNames y15
  have h16 : Keeps s₀ y15 := by
    dsimp -zeta only [y15]
    apply State.setSeqCh_keeps
    exact h13
  extract_lets +onlyGivenNames y17
  have h18 : Keeps s₀ y17 := by
    dsimp -zeta only [y17]
    refine keeps_ite ?_ ?_
    · exact h16
    · apply State.seqAdvance_keeps
      exact h16
  split
  · apply State.seqAbort_keeps
    exact h18
  · split
    · apply State.seqAbort_keeps
      exact h18
    · refine keeps_ite ?_ ?_
      · exact h16
      · split
        · extract_lets +onlyGivenNames y19
          have h20 : Keeps s₀ y19 := by
            dsimp -zeta only [y19]
            refine keeps_ite ?_ ?_
            · apply State.setSeqLatch_keeps
              exact h18
            · exact h18
          apply State.seqEnds_keeps
          exact h20
        · refine keeps_ite ?_ ?_
          · apply State.seqEnds_keeps
            exact h18
          · apply State.setSeqCh_keeps
            exact h18

theorem State.seqEval_keeps {s : State} (h : Keeps s₀ s) (x2) : Keeps s₀ (State.seqEval s x2) := by
  unfold State.seqEval
  extract_lets +onlyGivenNames y1
  split
  · exact h
  · extract_lets +onlyGivenNames y2
    have h3 : Keeps s₀ y2 := by
      dsimp -zeta only [y2]
      apply State.seqAdvance_keeps
      exact h
    refine keeps_ite ?_ ?_
    · split
      · extract_lets +onlyGivenNames y4
        have h5 : Keeps s₀ y4 := by
          dsimp -zeta only [y4]
          refine keeps_ite ?_ ?_
          · apply State.abortChannel_keeps
            exact h3
          · exact h3
        apply State.seqAbort_keeps
        exact h5
      · refine keeps_ite ?_ ?_
        · apply State.seqBegin_keeps
          exact h3
        · exact h3
    · exact h3
  · split
    · apply State.seqEvalRun_keeps
      exact h
    · exact h
  · split
    · apply State.seqEvalRun_keeps
      exact h
    · exact h
  · split
    · apply State.seqEvalRun_keeps
      exact h
    · exact h
  · apply State.seqAdvance_keeps
    exact h

theorem State.seqPublish_keeps {s : State} (h : Keeps s₀ s) (x2) : Keeps s₀ (State.seqPublish s x2) := by
  unfold State.seqPublish
  extract_lets +onlyGivenNames y1
  extract_lets +onlyGivenNames y2
  extract_lets +onlyGivenNames y3
  extract_lets +onlyGivenNames y4
  have h5 : Keeps s₀ y4 := by
    dsimp -zeta only [y4]
    apply State.pubInt_keeps
    exact h
  extract_lets +onlyGivenNames y6
  have h7 : Keeps s₀ y6 := by
    dsimp -zeta only [y6]
    apply State.pubInt_keeps
    exact h5
  extract_lets +onlyGivenNames y8
  have h9 : Keeps s₀ y8 := by
    dsimp -zeta only [y8]
    apply State.pubInt_keeps
    exact h7
  extract_lets +onlyGivenNames y10
  have h11 : Keeps s₀ y10 := by
    dsimp -zeta only [y10]
    apply State.pubInt_keeps
    exact h9
  extract_lets +onlyGivenNames y12
  have h13 : Keeps s₀ y12 := by
    dsimp -zeta only [y12]
    apply State.pubInt_keeps
    exact h11
  apply State.pubInt_keeps
  exact h13

theorem State.seqBlockSettle_keeps {s : State} (h : Keeps s₀ s) : Keeps s₀ (State.seqBlockSettle s) := by
  unfold State.seqBlockSettle
  refine keeps_ite ?_ ?_
  · apply State.complete_keeps
    exact h
  · exact h

theorem seqEvaluation_keeps {s : State} (h : Keeps s₀ s) : Keeps s₀ (seqEvaluation s) := by
  unfold seqEvaluation
  refine keeps_ite ?_ ?_
  · extract_lets +onlyGivenNames y1
    have h2 : Keeps s₀ y1 := by
      dsimp -zeta only [y1]
      apply State.atOffset_keeps
      exact h
    extract_lets +onlyGivenNames y3
    extract_lets +onlyGivenNames y4
    extract_lets +onlyGivenNames y5
    have h6 : Keeps s₀ y5 := by
      dsimp -zeta only [y5]
      refine keeps_mk (s := y1) ?_ rfl
      exact h2
    extract_lets +onlyGivenNames y7
    have h8 : Keeps s₀ y7 := by
      dsimp -zeta only [y7]
      refine keeps_foldl ?_ ?_
      · exact h6
      · intro s9
        intro x10
        intro h11
        apply State.seqEval_keeps
        exact h11
    extract_lets +onlyGivenNames y12
    have h13 : Keeps s₀ y12 := by
      dsimp -zeta only [y12]
      apply State.atOffset_keeps
      apply State.seqBlockSettle_keeps
      exact h8
    refine keeps_foldl ?_ ?_
    · exact h13
    · intro s14
      intro x15
      intro h16
      apply State.seqPublish_keeps
      exact h16
  · exact h

theorem execSeqEvaluation_keeps {s t : State} (e : (execSeqEvaluation s) = .next t) : Keeps s t := by
  unfold execSeqEvaluation at e
  refine keeps_goesTo e ?_
  have h := keeps_refl s
  clear e
  apply State.alive_keeps
  · exact h
  · apply seqEvaluation_keeps
    exact h

theorem State.seqAtT0_keeps {s : State} (h : Keeps s₀ s) (x2) : Keeps s₀ (State.seqAtT0 s x2) := by
  unfold State.seqAtT0
  extract_lets +onlyGivenNames y1
  extract_lets +onlyGivenNames y2
  have h3 : Keeps s₀ y2 := by
    dsimp -zeta only [y2]
    refine keeps_ite ?_ ?_
    · apply State.setReg_keeps
      exact h
    · exact h
  extract_lets +onlyGivenNames y4
  have h5 : Keeps s₀ y4 := by
    dsimp -zeta only [y4]
    apply State.setSeqCh_keeps
    exact h3
  split
  · exact h5
  · apply State.seqSettle_keeps
    refine keeps_ite ?_ ?_
    · apply State.setSeqSt_keeps
      exact h5
    · apply State.seqEvt_keeps
      apply State.setSeqSt_keeps
      exact h5
  · extract_lets +onlyGivenNames y6
    extract_lets +onlyGivenNames y7
    have h8 : Keeps s₀ y7 := by
      dsimp -zeta only [y7]
      apply State.setSeqCh_keeps
      exact h5
    extract_lets +onlyGivenNames y9
    have h10 : Keeps s₀ y9 := by
      dsimp -zeta only [y9]
      apply State.setRegs_keeps
      exact h8
    extract_lets +onlyGivenNames y11
    have h12 : Keeps s₀ y11 := by
      dsimp -zeta only [y11]
      apply State.seqEvt_keeps
      exact h10
    refine keeps_ite ?_ ?_
    · extract_lets +onlyGivenNames y13
      have h14 : Keeps s₀ y13 := by
        dsimp -zeta only [y13]
        apply State.setSeqSt_keeps
        exact h12
      apply State.seqPauses_keeps
      refine keeps_ite ?_ ?_
      · apply State.complete_keeps
        exact h14
      · exact h14
    · exact h12

theorem seqStart_keeps {s : State} (x1) (x2) (x3) (h : Keeps s₀ s) : Keeps s₀ (seqStart x1 x2 x3 s) := by
  unfold seqStart
  apply State.command_keeps
  · exact h
  · intro s1
    intro h2
    extract_lets +onlyGivenNames y3
    apply State.setSeqSt_keeps
    apply State.setSeqCh_keeps
    exact h2

theorem execSeqStart_keeps {s t : State} (x1) (x2) (x3) (e : (execSeqStart x1 x2 x3 s) = .next t) : Keeps s t := by
  unfold execSeqStart at e
  refine keeps_goesTo e ?_
  have h := keeps_refl s
  clear e
  apply seqStart_keeps
  exact h

theorem seqPause_keeps {s : State} (x1) (x2) (x3) (h : Keeps s₀ s) : Keeps s₀ (seqPause x1 x2 x3 s) := by
  unfold seqPause
  apply State.command_keeps
  · exact h
  · intro s1
    intro h2
    apply State.seqPauses_keeps
    apply State.setSeqBit_keeps
    exact h2

theorem execSeqPause_keeps {s t : State} (x1) (x2) (x3) (e : (execSeqPause x1 x2 x3 s) = .next t) : Keeps s t := by
  unfold execSeqPause at e
  refine keeps_goesTo e ?_
  have h := keeps_refl s
  clear e
  apply seqPause_keeps
  exact h

theorem seqResume_keeps {s : State} (x1) (x2) (x3) (h : Keeps s₀ s) : Keeps s₀ (seqResume x1 x2 x3 s) := by
  unfold seqResume
  apply State.command_keeps
  · exact h
  · intro s1
    intro h2
    extract_lets +onlyGivenNames y3
    apply State.seqPauses_keeps
    apply State.setSeqBit_keeps
    apply State.setSeqBit_keeps
    apply State.setSeqCh_keeps
    exact h2

theorem execSeqResume_keeps {s t : State} (x1) (x2) (x3) (e : (execSeqResume x1 x2 x3 s) = .next t) : Keeps s t := by
  unfold execSeqResume at e
  refine keeps_goesTo e ?_
  have h := keeps_refl s
  clear e
  apply seqResume_keeps
  exact h

theorem seqRelease_keeps {s : State} (x1) (x2) (x3) (h : Keeps s₀ s) : Keeps s₀ (seqRelease x1 x2 x3 s) := by
  unfold seqRelease
  extract_lets +onlyGivenNames y1
  apply State.command_keeps
  · exact h
  · intro s2
    intro h3
    apply State.setSeqLatch_keeps
    exact h3

theorem execSeqRelease_keeps {s t : State} (x1) (x2) (x3) (e : (execSeqRelease x1 x2 x3 s) = .next t) : Keeps s t := by
  unfold execSeqRelease at e
  refine keeps_goesTo e ?_
  have h := keeps_refl s
  clear e
  apply seqRelease_keeps
  exact h

theorem seqReset_keeps {s : State} (x1) (x2) (x3) (h : Keeps s₀ s) : Keeps s₀ (seqReset x1 x2 x3 s) := by
  unfold seqReset
  apply State.command_keeps
  · exact h
  · intro s1
    intro h2
    extract_lets +onlyGivenNames y3
    extract_lets +onlyGivenNames y4
    have h5 : Keeps s₀ y4 := by
      dsimp -zeta only [y4]
      apply State.seqApply_keeps
      apply State.setSeqCh_keeps
      exact h2
    apply State.setSeqSt_keeps
    apply State.setSeqBit_keeps
    apply State.setSeqLatch_keeps
    exact h5

theorem execSeqReset_keeps {s t : State} (x1) (x2) (x3) (e : (execSeqReset x1 x2 x3 s) = .next t) : Keeps s t := by
  unfold execSeqReset at e
  refine keeps_goesTo e ?_
  have h := keeps_refl s
  clear e
  apply seqReset_keeps
  exact h

theorem State.seqAbortAsked_keeps {s : State} (h : Keeps s₀ s) (x2) : Keeps s₀ (State.seqAbortAsked s x2) := by
  unfold State.seqAbortAsked
  extract_lets +onlyGivenNames y1
  refine keeps_ite ?_ ?_
  · apply State.inc_keeps
    exact h
  · refine keeps_ite ?_ ?_
    · apply State.setSeqCh_keeps
      exact h
    · exact h

theorem State.seqAbortBusy_keeps {s : State} (h : Keeps s₀ s) (x2) (x3) : Keeps s₀ (State.seqAbortBusy s x2 x3) := by
  unfold State.seqAbortBusy
  apply State.setReg_keeps
  refine keeps_mk (s := s) ?_ rfl
  exact h

theorem seqChannelAbort_keeps {s : State} (x1) (x2) (x3) (h : Keeps s₀ s) : Keeps s₀ (seqChannelAbort x1 x2 x3 s) := by
  unfold seqChannelAbort
  apply State.abort_keeps
  · exact h
  · intro x1
    intro s2
    intro h3
    extract_lets +onlyGivenNames y4
    have h5 : Keeps s₀ y4 := by
      dsimp -zeta only [y4]
      apply State.seqAbortAsked_keeps
      exact h3
    refine keeps_ite ?_ ?_
    · apply State.seqAbortBusy_keeps
      exact h5
    · exact h5

theorem execSeqChannelAbort_keeps {s t : State} (x1) (x2) (x3) (e : (execSeqChannelAbort x1 x2 x3 s) = .next t) : Keeps s t := by
  unfold execSeqChannelAbort at e
  refine keeps_goesTo e ?_
  have h := keeps_refl s
  clear e
  apply seqChannelAbort_keeps
  exact h

theorem seqAbort_keeps {s : State} (x1) (x2) (h : Keeps s₀ s) : Keeps s₀ (seqAbort x1 x2 s) := by
  unfold seqAbort
  apply State.abort_keeps
  · exact h
  · intro x1
    intro s2
    intro h3
    extract_lets +onlyGivenNames y4
    have h5 : Keeps s₀ y4 := by
      dsimp -zeta only [y4]
      refine keeps_foldl ?_ ?_
      · exact h3
      · intro s6
        intro x7
        intro h8
        apply State.seqAbortAsked_keeps
        exact h8
    refine keeps_ite ?_ ?_
    · apply State.seqAbortBusy_keeps
      exact h5
    · exact h5

theorem execSeqAbort_keeps {s t : State} (x1) (x2) (e : (execSeqAbort x1 x2 s) = .next t) : Keeps s t := by
  unfold execSeqAbort at e
  refine keeps_goesTo e ?_
  have h := keeps_refl s
  clear e
  apply seqAbort_keeps
  exact h

theorem State.dacEvt_keeps {s : State} (h : Keeps s₀ s) (x2) : Keeps s₀ (State.dacEvt s x2) := by
  unfold State.dacEvt
  apply State.raiseEvt_keeps
  exact h

theorem State.dacApply_keeps {s : State} (h : Keeps s₀ s) (x2) (x3) : Keeps s₀ (State.dacApply s x2 x3) := by
  unfold State.dacApply
  extract_lets +onlyGivenNames y1
  extract_lets +onlyGivenNames y2
  have h3 : Keeps s₀ y2 := by
    dsimp -zeta only [y2]
    apply State.dacEvt_keeps
    apply State.inc_keeps
    exact h
  refine keeps_ite ?_ ?_
  · exact h3
  · split
    · refine keeps_ite ?_ ?_
      · dsimp -zeta only [y1]
        extract_lets +onlyGivenNames y4
        have h5 : Keeps s₀ y4 := by
          dsimp -zeta only [y4]
          apply State.setReg_keeps
          exact h
        refine keeps_ite ?_ ?_
        · apply State.dacEvt_keeps
          apply State.inc_keeps
          exact h5
        · exact h5
      · refine keeps_ite ?_ ?_
        · dsimp -zeta only [y1]
          extract_lets +onlyGivenNames y6
          have h7 : Keeps s₀ y6 := by
            dsimp -zeta only [y6]
            apply State.setReg_keeps
            exact h
          refine keeps_ite ?_ ?_
          · apply State.dacEvt_keeps
            apply State.inc_keeps
            exact h7
          · exact h7
        · dsimp -zeta only [y1]
          extract_lets +onlyGivenNames y8
          have h9 : Keeps s₀ y8 := by
            dsimp -zeta only [y8]
            apply State.setReg_keeps
            exact h
          refine keeps_ite ?_ ?_
          · apply State.dacEvt_keeps
            apply State.inc_keeps
            exact h9
          · exact h9
    · dsimp -zeta only [y1]
      extract_lets +onlyGivenNames y10
      have h11 : Keeps s₀ y10 := by
        dsimp -zeta only [y10]
        apply State.setReg_keeps
        exact h
      refine keeps_ite ?_ ?_
      · apply State.dacEvt_keeps
        apply State.inc_keeps
        exact h11
      · exact h11
    · dsimp -zeta only [y1]
      extract_lets +onlyGivenNames y12
      have h13 : Keeps s₀ y12 := by
        dsimp -zeta only [y12]
        apply State.setReg_keeps
        exact h
      refine keeps_ite ?_ ?_
      · apply State.dacEvt_keeps
        apply State.inc_keeps
        exact h13
      · exact h13
    · exact h3

theorem State.dacSync_keeps {s : State} (h : Keeps s₀ s) (x2) : Keeps s₀ (State.dacSync s x2) := by
  unfold State.dacSync
  refine keeps_foldl ?_ ?_
  · exact h
  · intro s1
    intro x2
    intro h3
    refine keeps_ite ?_ ?_
    · exact h3
    · refine keeps_ite ?_ ?_
      · refine keeps_ite ?_ ?_
        · apply State.dacApply_keeps
          exact h3
        · exact h3
      · refine keeps_ite ?_ ?_
        · exact h3
        · apply State.dacApply_keeps
          exact h3

theorem State.dacLatchB_keeps {s : State} (h : Keeps s₀ s) : Keeps s₀ (State.dacLatchB s) := by
  unfold State.dacLatchB
  extract_lets +onlyGivenNames y1
  refine keeps_mk (s := s) ?_ rfl
  exact h

theorem dacImmediateUpdate_keeps {s : State} (x1) (h : Keeps s₀ s) : Keeps s₀ (dacImmediateUpdate x1 s) := by
  unfold dacImmediateUpdate
  split
  · refine keeps_ite ?_ ?_
    · extract_lets +onlyGivenNames y1
      have h2 : Keeps s₀ y1 := by
        dsimp -zeta only [y1]
        split
        · apply State.advanceTo_keeps
          exact h
        · assumption
      extract_lets +onlyGivenNames y3
      extract_lets +onlyGivenNames y4
      have h5 : Keeps s₀ y4 := by
        dsimp -zeta only [y4]
        refine keeps_mk (s := y1) ?_ rfl
        exact h2
      apply State.dacApply_keeps
      exact h5
    · exact h
  · exact h

theorem execDacImmediateUpdate_keeps {s t : State} (x1) (e : (execDacImmediateUpdate x1 s) = .next t) : Keeps s t := by
  unfold execDacImmediateUpdate at e
  refine keeps_goesTo e ?_
  have h := keeps_refl s
  clear e
  apply State.alive_keeps
  · exact h
  · apply dacImmediateUpdate_keeps
    exact h

theorem State.dacCfg_keeps {s : State} (h : Keeps s₀ s) (x2) (x3) (x4) : Keeps s₀ (State.dacCfg s x2 x3 x4) := by
  unfold State.dacCfg
  extract_lets +onlyGivenNames y1
  have h2 : Keeps s₀ y1 := by
    dsimp -zeta only [y1]
    apply State.setReg_keeps
    exact h
  refine keeps_ite ?_ ?_
  · refine keeps_ite ?_ ?_
    · exact h2
    · apply State.renewCons_keeps
      apply State.setReg_keeps
      exact h2
  · extract_lets +onlyGivenNames y3
    extract_lets +onlyGivenNames y4
    have h5 : Keeps s₀ y4 := by
      dsimp -zeta only [y4]
      refine keeps_mk (s := y1) ?_ rfl
      exact h2
    apply State.setReg_keeps
    exact h5

theorem dacAbort_keeps {s : State} (x1) (x2) (h : Keeps s₀ s) : Keeps s₀ (dacAbort x1 x2 s) := by
  unfold dacAbort
  apply State.abort_keeps
  · exact h
  · intro x1
    intro s2
    intro h3
    refine keeps_mk (s := s2) ?_ rfl
    exact h3

theorem execDacAbort_keeps {s t : State} (x1) (x2) (e : (execDacAbort x1 x2 s) = .next t) : Keeps s t := by
  unfold execDacAbort at e
  refine keeps_goesTo e ?_
  have h := keeps_refl s
  clear e
  apply dacAbort_keeps
  exact h

theorem State.setStepCh_keeps {s : State} (h : Keeps s₀ s) (x2) (x3) : Keeps s₀ (State.setStepCh s x2 x3) := by
  unfold State.setStepCh
  refine keeps_mk (s := s) ?_ rfl
  exact h

theorem State.setIset_keeps {s : State} (h : Keeps s₀ s) (x2) (x3) : Keeps s₀ (State.setIset s x2 x3) := by
  unfold State.setIset
  apply State.setReg_keeps
  exact h

theorem State.setStrong_keeps {s : State} (h : Keeps s₀ s) (x2) (x3) : Keeps s₀ (State.setStrong s x2 x3) := by
  unfold State.setStrong
  apply State.setReg_keeps
  exact h

theorem State.stepRead_keeps {s : State} (h : Keeps s₀ s) (x2) : Keeps s₀ (State.stepRead s x2) := by
  unfold State.stepRead
  extract_lets +onlyGivenNames y1
  extract_lets +onlyGivenNames y2
  extract_lets +onlyGivenNames y3
  extract_lets +onlyGivenNames y4
  have h5 : Keeps s₀ y4 := by
    dsimp -zeta only [y4]
    refine keeps_ite ?_ ?_
    · apply State.setIset_keeps
      apply State.setReg_keeps
      exact h
    · exact h
  extract_lets +onlyGivenNames y6
  extract_lets +onlyGivenNames y7
  have h8 : Keeps s₀ y7 := by
    dsimp -zeta only [y7]
    apply State.setStrong_keeps
    exact h5
  extract_lets +onlyGivenNames y9
  extract_lets +onlyGivenNames y10
  extract_lets +onlyGivenNames y11
  extract_lets +onlyGivenNames y12
  have h13 : Keeps s₀ y12 := by
    dsimp -zeta only [y12]
    apply State.setStepCh_keeps
    exact h8
  extract_lets +onlyGivenNames y14
  have h15 : Keeps s₀ y14 := by
    dsimp -zeta only [y14]
    refine keeps_ite ?_ ?_
    · apply State.setIset_keeps
      exact h13
    · exact h13
  apply State.setReg_keeps
  exact h15

theorem State.stepAtT0_keeps {s : State} (h : Keeps s₀ s) (x2) : Keeps s₀ (State.stepAtT0 s x2) := by
  unfold State.stepAtT0
  extract_lets +onlyGivenNames y1
  extract_lets +onlyGivenNames y2
  extract_lets +onlyGivenNames y3
  extract_lets +onlyGivenNames y4
  extract_lets +onlyGivenNames y5
  extract_lets +onlyGivenNames y6
  extract_lets +onlyGivenNames y7
  have h8 : Keeps s₀ y7 := by
    dsimp -zeta only [y7]
    apply State.setStepCh_keeps
    exact h
  refine keeps_ite ?_ ?_
  · extract_lets +onlyGivenNames y9
    extract_lets +onlyGivenNames y10
    apply State.setStepCh_keeps
    exact h8
  · exact h8

theorem stepModeSwitch_keeps {s : State} (x1) (x2) (h : Keeps s₀ s) : Keeps s₀ (stepModeSwitch x1 x2 s) := by
  unfold stepModeSwitch
  extract_lets +onlyGivenNames y1
  extract_lets +onlyGivenNames y2
  extract_lets +onlyGivenNames y3
  extract_lets +onlyGivenNames y4
  extract_lets +onlyGivenNames y5
  refine keeps_ite ?_ ?_
  · refine keeps_ite ?_ ?_
    · apply State.setStrong_keeps
      exact h
    · refine keeps_ite ?_ ?_
      · extract_lets +onlyGivenNames y6
        extract_lets +onlyGivenNames y7
        apply State.setStrong_keeps
        apply State.setReg_keeps
        exact h
      · exact h
  · exact h

theorem execStepModeSwitch_keeps {s t : State} (x1) (x2) (e : (execStepModeSwitch x1 x2 s) = .next t) : Keeps s t := by
  unfold execStepModeSwitch at e
  refine keeps_goesTo e ?_
  have h := keeps_refl s
  clear e
  apply State.alive_keeps
  · exact h
  · apply stepModeSwitch_keeps
    exact h

theorem State.adaptKv_keeps {s : State} (h : Keeps s₀ s) (x2) (x3) : Keeps s₀ (State.adaptKv s x2 x3) := by
  unfold State.adaptKv
  extract_lets +onlyGivenNames y1
  extract_lets +onlyGivenNames y2
  extract_lets +onlyGivenNames y3
  refine keeps_ite ?_ ?_
  · apply State.setReg_keeps
    exact h
  · extract_lets +onlyGivenNames y4
    apply State.setReg_keeps
    exact h

theorem State.stepStalled_keeps {s : State} (h : Keeps s₀ s) (x2) : Keeps s₀ (State.stepStalled s x2) := by
  unfold State.stepStalled
  extract_lets +onlyGivenNames y1
  have h2 : Keeps s₀ y1 := by
    dsimp -zeta only [y1]
    apply State.setReg_keeps
    exact h
  apply State.raiseEvt_keeps
  apply State.orReg_keeps
  apply State.inc_keeps
  exact h2

theorem State.stepAdapt_keeps {s : State} (h : Keeps s₀ s) (x2) (x3) : Keeps s₀ (State.stepAdapt s x2 x3) := by
  unfold State.stepAdapt
  extract_lets +onlyGivenNames y1
  extract_lets +onlyGivenNames y2
  extract_lets +onlyGivenNames y3
  extract_lets +onlyGivenNames y4
  extract_lets +onlyGivenNames y5
  have h6 : Keeps s₀ y5 := by
    dsimp -zeta only [y5]
    refine keeps_ite ?_ ?_
    · apply State.setReg_keeps
      exact h
    · exact h
  refine keeps_ite ?_ ?_
  · apply State.stepStalled_keeps
    exact h6
  · refine keeps_ite ?_ ?_
    · apply State.setIset_keeps
      exact h6
    · refine keeps_ite ?_ ?_
      · apply State.setIset_keeps
        exact h6
      · exact h6

theorem loadAngleEstimate_keeps {s : State} (x1) (x2) (x3) (x4) (h : Keeps s₀ s) : Keeps s₀ (loadAngleEstimate x1 x2 x3 x4 s) := by
  unfold loadAngleEstimate
  extract_lets +onlyGivenNames y1
  refine keeps_ite ?_ ?_
  · extract_lets +onlyGivenNames y2
    have h3 : Keeps s₀ y2 := by
      dsimp -zeta only [y2]
      refine keeps_ite ?_ ?_
      · exact h
      · apply State.adaptKv_keeps
        exact h
    extract_lets +onlyGivenNames y4
    refine keeps_ite ?_ ?_
    · exact h3
    · extract_lets +onlyGivenNames y5
      extract_lets +onlyGivenNames y6
      have h7 : Keeps s₀ y6 := by
        dsimp -zeta only [y6]
        apply State.setReg_keeps
        exact h3
      extract_lets +onlyGivenNames y8
      have h9 : Keeps s₀ y8 := by
        dsimp -zeta only [y8]
        refine keeps_ite ?_ ?_
        · apply State.stepAdapt_keeps
          exact h7
        · exact h7
      apply State.pubBf_keeps
      exact h9
  · exact h

theorem execLoadAngleEstimate_keeps {s t : State} (x1) (x2) (x3) (x4) (e : (execLoadAngleEstimate x1 x2 x3 x4 s) = .next t) : Keeps s t := by
  unfold execLoadAngleEstimate at e
  refine keeps_goesTo e ?_
  have h := keeps_refl s
  clear e
  apply State.alive_keeps
  · exact h
  · apply loadAngleEstimate_keeps
    exact h

theorem standstillTimeout_keeps {s : State} (x1) (h : Keeps s₀ s) : Keeps s₀ (standstillTimeout x1 s) := by
  unfold standstillTimeout
  extract_lets +onlyGivenNames y1
  extract_lets +onlyGivenNames y2
  refine keeps_ite ?_ ?_
  · apply State.setIset_keeps
    apply State.setStepCh_keeps
    exact h
  · exact h

theorem execStandstillTimeout_keeps {s t : State} (x1) (e : (execStandstillTimeout x1 s) = .next t) : Keeps s t := by
  unfold execStandstillTimeout at e
  refine keeps_goesTo e ?_
  have h := keeps_refl s
  clear e
  apply State.alive_keeps
  · exact h
  · apply standstillTimeout_keeps
    exact h

theorem stepDirInputStep_keeps {s : State} (x1) (x2) (h : Keeps s₀ s) : Keeps s₀ (stepDirInputStep x1 x2 s) := by
  unfold stepDirInputStep
  refine keeps_ite ?_ ?_
  · refine keeps_foldl ?_ ?_
    · exact h
    · intro s1
      intro x2
      intro h3
      extract_lets +onlyGivenNames y4
      refine keeps_ite ?_ ?_
      · apply State.setStepCh_keeps
        exact h3
      · exact h3
  · exact h

theorem execStepDirInputStep_keeps {s t : State} (x1) (x2) (e : (execStepDirInputStep x1 x2 s) = .next t) : Keeps s t := by
  unfold execStepDirInputStep at e
  refine keeps_goesTo e ?_
  have h := keeps_refl s
  clear e
  apply State.alive_keeps
  · exact h
  · apply stepDirInputStep_keeps
    exact h

theorem stepReshape_keeps {s : State} (x1) (x2) (h : Keeps s₀ s) : Keeps s₀ (stepReshape x1 x2 s) := by
  unfold stepReshape
  apply State.command_keeps
  · exact h
  · intro s1
    intro h2
    extract_lets +onlyGivenNames y3
    apply State.setState_keeps
    refine keeps_mk (s := s1) ?_ rfl
    exact h2

theorem execStepReshape_keeps {s t : State} (x1) (x2) (e : (execStepReshape x1 x2 s) = .next t) : Keeps s t := by
  unfold execStepReshape at e
  refine keeps_goesTo e ?_
  have h := keeps_refl s
  clear e
  apply stepReshape_keeps
  exact h

theorem stepReshapeComplete_keeps {s : State} (x1) (h : Keeps s₀ s) : Keeps s₀ (stepReshapeComplete x1 s) := by
  unfold stepReshapeComplete
  split
  · extract_lets +onlyGivenNames y1
    extract_lets +onlyGivenNames y2
    extract_lets +onlyGivenNames y3
    extract_lets +onlyGivenNames y4
    have h5 : Keeps s₀ y4 := by
      dsimp -zeta only [y4]
      refine keeps_ite ?_ ?_
      · apply State.raiseEvt_keeps
        exact h
      · refine keeps_ite ?_ ?_
        · apply State.raiseEvt_keeps
          exact h
        · refine keeps_mk (s := s) ?_ rfl
          exact h
    apply State.complete_keeps
    apply State.setState_keeps
    exact h5
  · exact h

theorem execStepReshapeComplete_keeps {s t : State} (x1) (e : (execStepReshapeComplete x1 s) = .next t) : Keeps s t := by
  unfold execStepReshapeComplete at e
  refine keeps_goesTo e ?_
  have h := keeps_refl s
  clear e
  apply State.alive_keeps
  · exact h
  · apply stepReshapeComplete_keeps
    exact h

theorem stepAbort_keeps {s : State} (x1) (x2) (h : Keeps s₀ s) : Keeps s₀ (stepAbort x1 x2 s) := by
  unfold stepAbort
  apply State.abort_keeps
  · exact h
  · intro x1
    intro s2
    intro h3
    apply State.setState_keeps
    exact h3

theorem execStepAbort_keeps {s t : State} (x1) (x2) (e : (execStepAbort x1 x2 s) = .next t) : Keeps s t := by
  unfold execStepAbort at e
  refine keeps_goesTo e ?_
  have h := keeps_refl s
  clear e
  apply stepAbort_keeps
  exact h

theorem State.setAxcCh_keeps {s : State} (h : Keeps s₀ s) (x2) (x3) : Keeps s₀ (State.setAxcCh s x2 x3) := by
  unfold State.setAxcCh
  refine keeps_mk (s := s) ?_ rfl
  exact h

theorem State.setAxcSt_keeps {s : State} (h : Keeps s₀ s) (x2) (x3) : Keeps s₀ (State.setAxcSt s x2 x3) := by
  unfold State.setAxcSt
  extract_lets +onlyGivenNames y1
  apply State.pubReg_keeps
  apply State.setReg_keeps
  exact h

theorem State.axcDrop_keeps {s : State} (h : Keeps s₀ s) (x2) : Keeps s₀ (State.axcDrop s x2) := by
  unfold State.axcDrop
  apply State.setStepCh_keeps
  apply State.setAxcCh_keeps
  exact h

theorem State.axcTrip_keeps {s : State} (h : Keeps s₀ s) (x2) (x3) : Keeps s₀ (State.axcTrip s x2 x3) := by
  unfold State.axcTrip
  extract_lets +onlyGivenNames y1
  extract_lets +onlyGivenNames y2
  refine keeps_ite ?_ ?_
  · extract_lets +onlyGivenNames y3
    have h4 : Keeps s₀ y3 := by
      dsimp -zeta only [y3]
      apply State.inc_keeps
      apply State.orReg_keeps
      apply State.axcDrop_keeps
      exact h
    extract_lets +onlyGivenNames y5
    have h6 : Keeps s₀ y5 := by
      dsimp -zeta only [y5]
      apply State.setReg_keeps
      exact h4
    apply State.setAxcSt_keeps
    apply State.raiseEvt_keeps
    exact h6
  · exact h

theorem State.axcSto_keeps {s : State} (h : Keeps s₀ s) (x2) : Keeps s₀ (State.axcSto s x2) := by
  unfold State.axcSto
  extract_lets +onlyGivenNames y1
  extract_lets +onlyGivenNames y2
  refine keeps_ite ?_ ?_
  · exact h
  · extract_lets +onlyGivenNames y3
    extract_lets +onlyGivenNames y4
    have h5 : Keeps s₀ y4 := by
      dsimp -zeta only [y4]
      apply State.axcDrop_keeps
      exact h
    extract_lets +onlyGivenNames y6
    extract_lets +onlyGivenNames y7
    have h8 : Keeps s₀ y7 := by
      dsimp -zeta only [y7]
      apply State.orReg_keeps
      apply State.setAxcCh_keeps
      exact h5
    apply State.setAxcSt_keeps
    apply State.raiseEvt_keeps
    exact h8

theorem State.axcStoEnd_keeps {s : State} (h : Keeps s₀ s) (x2) : Keeps s₀ (State.axcStoEnd s x2) := by
  unfold State.axcStoEnd
  refine keeps_ite ?_ ?_
  · apply State.setAxcSt_keeps
    exact h
  · exact h

theorem State.axcOff_keeps {s : State} (h : Keeps s₀ s) (x2) : Keeps s₀ (State.axcOff s x2) := by
  unfold State.axcOff
  refine keeps_ite ?_ ?_
  · apply State.setAxcSt_keeps
    apply State.axcDrop_keeps
    exact h
  · exact h

theorem State.takeDuty_keeps {s : State} (h : Keeps s₀ s) (x2) (x3) (x4) : Keeps s₀ (State.takeDuty s x2 x3 x4).1 := by
  unfold State.takeDuty
  extract_lets +onlyGivenNames y1
  clear_value y1
  split
  · dsimp -zeta only
    exact h
  · dsimp -zeta only
    apply State.raiseEvt_keeps
    apply State.inc_keeps
    exact h

theorem State.showDuty_keeps {s : State} (h : Keeps s₀ s) (x2) (x3) (x4) : Keeps s₀ (State.showDuty s x2 x3 x4) := by
  unfold State.showDuty
  apply State.setReg_keeps
  exact h

theorem State.loadDuties_keeps {s : State} (h : Keeps s₀ s) (x2) (x3) : Keeps s₀ (State.loadDuties s x2 x3) := by
  unfold State.loadDuties
  extract_lets +onlyGivenNames y1
  apply State.setAxcCh_keeps
  dsimp -zeta only [y1]
  refine keeps_foldl_fst ?_ ?_
  · dsimp -zeta only
    exact h
  · intro x2
    intro x3
    intro h4
    extract_lets +onlyGivenNames y5
    dsimp -zeta only
    apply State.showDuty_keeps
    dsimp -zeta only [y5]
    apply State.takeDuty_keeps
    exact h4

theorem State.turn_keeps {s : State} (h : Keeps s₀ s) (x2) (x3) (x4) (x5) : Keeps s₀ (State.turn s x2 x3 x4 x5) := by
  unfold State.turn
  extract_lets +onlyGivenNames y1
  extract_lets +onlyGivenNames y2
  have h3 : Keeps s₀ y2 := by
    dsimp -zeta only [y2]
    refine keeps_ite ?_ ?_
    · refine keeps_ite ?_ ?_
      · apply State.stepRead_keeps
        exact h
      · apply State.setStepCh_keeps
        exact h
    · split
      · apply State.loadDuties_keeps
        exact h
      · exact h
  refine keeps_ite ?_ ?_
  · extract_lets +onlyGivenNames y4
    have h5 : Keeps s₀ y4 := by
      dsimp -zeta only [y4]
      refine keeps_ite ?_ ?_
      · apply State.loadDuties_keeps
        exact h3
      · exact h3
    extract_lets +onlyGivenNames y6
    extract_lets +onlyGivenNames y7
    extract_lets +onlyGivenNames y8
    apply State.setAxcCh_keeps
    exact h5
  · exact h3

theorem dutyLoad_keeps {s : State} (x1) (x2) (x3) (h : Keeps s₀ s) : Keeps s₀ (dutyLoad x1 x2 x3 s) := by
  unfold dutyLoad
  extract_lets +onlyGivenNames y1
  refine keeps_ite ?_ ?_
  · exact h
  · extract_lets +onlyGivenNames y2
    extract_lets +onlyGivenNames y3
    have h4 : Keeps s₀ y3 := by
      dsimp -zeta only [y3]
      refine keeps_ite ?_ ?_
      · apply State.atOffset_keeps
        exact h
      · exact h
    extract_lets +onlyGivenNames y5
    have h6 : Keeps s₀ y5 := by
      dsimp -zeta only [y5]
      refine keeps_ite ?_ ?_
      · apply State.turn_keeps
        exact h4
      · exact h4
    apply State.setAxcCh_keeps
    exact h6

theorem execDutyLoad_keeps {s t : State} (x1) (x2) (x3) (e : (execDutyLoad x1 x2 x3 s) = .next t) : Keeps s t := by
  unfold execDutyLoad at e
  refine keeps_goesTo e ?_
  have h := keeps_refl s
  clear e
  apply State.alive_keeps
  · exact h
  · apply dutyLoad_keeps
    exact h

theorem State.axcLatchB_keeps {s : State} (h : Keeps s₀ s) : Keeps s₀ (State.axcLatchB s) := by
  unfold State.axcLatchB
  refine keeps_foldl ?_ ?_
  · exact h
  · intro s1
    intro x2
    intro h3
    apply State.setAxcCh_keeps
    exact h3

theorem axcEnable_keeps {s : State} (x1) (x2) (x3) (h : Keeps s₀ s) : Keeps s₀ (axcEnable x1 x2 x3 s) := by
  unfold axcEnable
  apply State.command_keeps
  · exact h
  · intro s1
    intro h2
    extract_lets +onlyGivenNames y3
    have h4 : Keeps s₀ y3 := by
      dsimp -zeta only [y3]
      refine keeps_foldl ?_ ?_
      · exact h2
      · intro s5
        intro x6
        intro h7
        apply State.renewCons_keeps
        exact h7
    apply State.setAxcSt_keeps
    apply State.setAxcCh_keeps
    exact h4

theorem execAxcEnable_keeps {s t : State} (x1) (x2) (x3) (e : (execAxcEnable x1 x2 x3 s) = .next t) : Keeps s t := by
  unfold execAxcEnable at e
  refine keeps_goesTo e ?_
  have h := keeps_refl s
  clear e
  apply axcEnable_keeps
  exact h

theorem axcDisable_keeps {s : State} (x1) (x2) (x3) (h : Keeps s₀ s) : Keeps s₀ (axcDisable x1 x2 x3 s) := by
  unfold axcDisable
  apply State.command_keeps
  · exact h
  · intro s1
    intro h2
    apply State.axcOff_keeps
    exact h2

theorem execAxcDisable_keeps {s t : State} (x1) (x2) (x3) (e : (execAxcDisable x1 x2 x3 s) = .next t) : Keeps s t := by
  unfold execAxcDisable at e
  refine keeps_goesTo e ?_
  have h := keeps_refl s
  clear e
  apply axcDisable_keeps
  exact h

theorem axcReset_keeps {s : State} (x1) (x2) (x3) (h : Keeps s₀ s) : Keeps s₀ (axcReset x1 x2 x3 s) := by
  unfold axcReset
  apply State.command_keeps
  · exact h
  · intro s1
    intro h2
    apply State.setAxcSt_keeps
    exact h2

theorem execAxcReset_keeps {s t : State} (x1) (x2) (x3) (e : (execAxcReset x1 x2 x3 s) = .next t) : Keeps s t := by
  unfold execAxcReset at e
  refine keeps_goesTo e ?_
  have h := keeps_refl s
  clear e
  apply axcReset_keeps
  exact h

theorem axcChannelAbort_keeps {s : State} (x1) (x2) (x3) (h : Keeps s₀ s) : Keeps s₀ (axcChannelAbort x1 x2 x3 s) := by
  unfold axcChannelAbort
  apply State.abort_keeps
  · exact h
  · intro x1
    intro s2
    intro h3
    apply State.axcOff_keeps
    exact h3

theorem execAxcChannelAbort_keeps {s t : State} (x1) (x2) (x3) (e : (execAxcChannelAbort x1 x2 x3 s) = .next t) : Keeps s t := by
  unfold execAxcChannelAbort at e
  refine keeps_goesTo e ?_
  have h := keeps_refl s
  clear e
  apply axcChannelAbort_keeps
  exact h

theorem axcSwap_keeps {s : State} (x1) (x2) (x3) (h : Keeps s₀ s) : Keeps s₀ (axcSwap x1 x2 x3 s) := by
  unfold axcSwap
  extract_lets +onlyGivenNames y1
  apply State.command_keeps
  · exact h
  · intro s2
    intro h3
    apply State.setState_keeps
    exact h3

theorem execAxcSwap_keeps {s t : State} (x1) (x2) (x3) (e : (execAxcSwap x1 x2 x3 s) = .next t) : Keeps s t := by
  unfold execAxcSwap at e
  refine keeps_goesTo e ?_
  have h := keeps_refl s
  clear e
  apply axcSwap_keeps
  exact h

theorem State.axcSwapAtT0_keeps {s : State} (h : Keeps s₀ s) (x2) : Keeps s₀ (State.axcSwapAtT0 s x2) := by
  unfold State.axcSwapAtT0
  refine keeps_ite ?_ ?_
  · extract_lets +onlyGivenNames y1
    have h2 : Keeps s₀ y1 := by
      dsimp -zeta only [y1]
      refine keeps_foldl ?_ ?_
      · exact h
      · intro s3
        intro x4
        intro h5
        apply State.setAxcCh_keeps
        apply State.setRegs_keeps
        exact h5
    apply State.complete_keeps
    apply State.setState_keeps
    exact h2
  · exact h

theorem axcAbort_keeps {s : State} (x1) (x2) (x3) (h : Keeps s₀ s) : Keeps s₀ (axcAbort x1 x2 x3 s) := by
  unfold axcAbort
  apply State.abort_keeps
  · exact h
  · intro x1
    intro s2
    intro h3
    apply State.setState_keeps
    refine keeps_foldl ?_ ?_
    · exact h3
    · intro s4
      intro x5
      intro h6
      apply State.axcOff_keeps
      apply State.abortChannel_keeps
      exact h6

theorem execAxcAbort_keeps {s t : State} (x1) (x2) (x3) (e : (execAxcAbort x1 x2 x3 s) = .next t) : Keeps s t := by
  unfold execAxcAbort at e
  refine keeps_goesTo e ?_
  have h := keeps_refl s
  clear e
  apply axcAbort_keeps
  exact h

theorem prechgElapsed_keeps {s : State} (x1) (h : Keeps s₀ s) : Keeps s₀ (prechgElapsed x1 s) := by
  unfold prechgElapsed
  refine keeps_ite ?_ ?_
  · apply State.setAxcSt_keeps
    apply State.advanceTo_keeps
    exact h
  · exact h

theorem execPrechgElapsed_keeps {s t : State} (x1) (e : (execPrechgElapsed x1 s) = .next t) : Keeps s t := by
  unfold execPrechgElapsed at e
  refine keeps_goesTo e ?_
  have h := keeps_refl s
  clear e
  apply State.alive_keeps
  · exact h
  · apply prechgElapsed_keeps
    exact h

theorem axisTrip_keeps {s : State} (x1) (x2) (x3) (h : Keeps s₀ s) : Keeps s₀ (axisTrip x1 x2 x3 s) := by
  unfold axisTrip
  extract_lets +onlyGivenNames y1
  refine keeps_ite ?_ ?_
  · apply State.axcTrip_keeps
    exact h
  · exact h

theorem execAxisTrip_keeps {s t : State} (x1) (x2) (x3) (e : (execAxisTrip x1 x2 x3 s) = .next t) : Keeps s t := by
  unfold execAxisTrip at e
  refine keeps_goesTo e ?_
  have h := keeps_refl s
  clear e
  apply State.alive_keeps
  · exact h
  · apply axisTrip_keeps
    exact h

theorem State.axcAtT0_keeps {s : State} (h : Keeps s₀ s) (x2) : Keeps s₀ (State.axcAtT0 s x2) := by
  unfold State.axcAtT0
  extract_lets +onlyGivenNames y1
  extract_lets +onlyGivenNames y2
  extract_lets +onlyGivenNames y3
  have h4 : Keeps s₀ y3 := by
    dsimp -zeta only [y3]
    refine keeps_ite ?_ ?_
    · exact h
    · apply State.setAxcCh_keeps
      exact h
  extract_lets +onlyGivenNames y5
  have h6 : Keeps s₀ y5 := by
    dsimp -zeta only [y5]
    apply State.stepAtT0_keeps
    exact h4
  extract_lets +onlyGivenNames y7
  extract_lets +onlyGivenNames y8
  extract_lets +onlyGivenNames y9
  have h10 : Keeps s₀ y9 := by
    dsimp -zeta only [y9]
    apply State.pubInt_keeps
    exact h6
  refine keeps_ite ?_ ?_
  · apply State.pubInt_keeps
    apply State.pubBf_keeps
    exact h10
  · exact h10

theorem applyLatch_keeps {s : State} (x1) (h : Keeps s₀ s) : Keeps s₀ (applyLatch x1 s) := by
  unfold applyLatch
  refine keeps_ite ?_ ?_
  · refine keeps_ite ?_ ?_
    · apply State.dacLatchB_keeps
      apply State.axcLatchB_keeps
      apply State.atOffset_keeps
      exact h
    · extract_lets +onlyGivenNames y1
      have h2 : Keeps s₀ y1 := by
        dsimp -zeta only [y1]
        apply State.seqAtLatch_keeps
        apply State.atOffset_keeps
        exact h
      refine keeps_mk (s := y1) ?_ rfl
      exact h2
  · exact h

theorem execApplyLatch_keeps {s t : State} (x1) (e : (execApplyLatch x1 s) = .next t) : Keeps s t := by
  unfold execApplyLatch at e
  refine keeps_goesTo e ?_
  have h := keeps_refl s
  clear e
  apply applyLatch_keeps
  exact h

theorem State.setCoreAct_keeps {s : State} (h : Keeps s₀ s) (x2) : Keeps s₀ (State.setCoreAct s x2) := by
  unfold State.setCoreAct
  extract_lets +onlyGivenNames y1
  apply State.setReg_keeps
  apply State.setReg_keeps
  exact h

theorem State.applyCores_keeps {s : State} (h : Keeps s₀ s) (x2) : Keeps s₀ (State.applyCores s x2) := by
  unfold State.applyCores
  refine keeps_ite ?_ ?_
  · extract_lets +onlyGivenNames y1
    extract_lets +onlyGivenNames y2
    extract_lets +onlyGivenNames y3
    have h4 : Keeps s₀ y3 := by
      dsimp -zeta only [y3]
      refine keeps_ite ?_ ?_
      · exact h
      · apply State.setCoreAct_keeps
        exact h
    refine keeps_ite ?_ ?_
    · apply State.complete_keeps
      exact h4
    · exact h4
  · exact h

theorem sysApplyCoreEn_keeps {s : State} (x1) (x2) (h : Keeps s₀ s) : Keeps s₀ (sysApplyCoreEn x1 x2 s) := by
  unfold sysApplyCoreEn
  apply State.command_keeps
  · exact h
  · intro s1
    intro h2
    apply State.applyCores_keeps
    refine keeps_mk (s := s1) ?_ rfl
    exact h2

theorem execSysApplyCoreEn_keeps {s t : State} (x1) (x2) (e : (execSysApplyCoreEn x1 x2 s) = .next t) : Keeps s t := by
  unfold execSysApplyCoreEn at e
  refine keeps_goesTo e ?_
  have h := keeps_refl s
  clear e
  apply sysApplyCoreEn_keeps
  exact h

theorem sysClearCounters_keeps {s : State} (x1) (x2) (h : Keeps s₀ s) : Keeps s₀ (sysClearCounters x1 x2 s) := by
  unfold sysClearCounters
  apply State.command_keeps
  · exact h
  · intro s1
    intro h2
    apply State.zeroRegs_keeps
    exact h2

theorem execSysClearCounters_keeps {s t : State} (x1) (x2) (e : (execSysClearCounters x1 x2 s) = .next t) : Keeps s t := by
  unfold execSysClearCounters at e
  refine keeps_goesTo e ?_
  have h := keeps_refl s
  clear e
  apply sysClearCounters_keeps
  exact h

theorem sysAbort_keeps {s : State} (x1) (x2) (h : Keeps s₀ s) : Keeps s₀ (sysAbort x1 x2 s) := by
  unfold sysAbort
  apply State.abort_keeps
  · exact h
  · intro x1
    intro s2
    intro h3
    exact h3

theorem execSysAbort_keeps {s t : State} (x1) (x2) (e : (execSysAbort x1 x2 s) = .next t) : Keeps s t := by
  unfold execSysAbort at e
  refine keeps_goesTo e ?_
  have h := keeps_refl s
  clear e
  apply sysAbort_keeps
  exact h

theorem State.syncWsch_keeps {s : State} (h : Keeps s₀ s) : Keeps s₀ (State.syncWsch s) := by
  unfold State.syncWsch
  apply State.setState_keeps
  exact h

theorem clkApplyPoolSel_keeps {s : State} (x1) (x2) (h : Keeps s₀ s) : Keeps s₀ (clkApplyPoolSel x1 x2 s) := by
  unfold clkApplyPoolSel
  extract_lets +onlyGivenNames y1
  apply State.command_keeps
  · exact h
  · intro s2
    intro h3
    apply State.syncWsch_keeps
    apply State.setState_keeps
    refine keeps_mk (s := s2) ?_ rfl
    exact h3

theorem execClkApplyPoolSel_keeps {s t : State} (x1) (x2) (e : (execClkApplyPoolSel x1 x2 s) = .next t) : Keeps s t := by
  unfold execClkApplyPoolSel at e
  refine keeps_goesTo e ?_
  have h := keeps_refl s
  clear e
  apply clkApplyPoolSel_keeps
  exact h

theorem poolClockSwitch_keeps {s : State} (h : Keeps s₀ s) : Keeps s₀ (poolClockSwitch s) := by
  unfold poolClockSwitch
  refine keeps_ite ?_ ?_
  · apply State.syncWsch_keeps
    apply State.setState_keeps
    apply State.complete_keeps
    refine keeps_mk (s := s) ?_ rfl
    exact h
  · exact h

theorem execPoolClockSwitch_keeps {s t : State} (e : (execPoolClockSwitch s) = .next t) : Keeps s t := by
  unfold execPoolClockSwitch at e
  refine keeps_goesTo e ?_
  have h := keeps_refl s
  clear e
  apply poolClockSwitch_keeps
  exact h

theorem clkAbort_keeps {s : State} (x1) (x2) (h : Keeps s₀ s) : Keeps s₀ (clkAbort x1 x2 s) := by
  unfold clkAbort
  apply State.abort_keeps
  · exact h
  · intro x1
    intro s2
    intro h3
    refine keeps_ite ?_ ?_
    · apply State.syncWsch_keeps
      apply State.setState_keeps
      exact h3
    · exact h3

theorem execClkAbort_keeps {s t : State} (x1) (x2) (e : (execClkAbort x1 x2 s) = .next t) : Keeps s t := by
  unfold execClkAbort at e
  refine keeps_goesTo e ?_
  have h := keeps_refl s
  clear e
  apply clkAbort_keeps
  exact h

end Sys2Proof.Machine
end

