-- ==== Sys2Proof/Laws/KeepsUnits.lean ====
section
/-!
SUPPORT. What the operations keep: memory, crypto, flash, calendar, hut book, queues, time base, Ethernet, boot and CAN.
-/
namespace Sys2Proof.Machine

variable {s₀ : State}

theorem State.memcEvt_keeps {s : State} (h : Keeps s₀ s) (x2) : Keeps s₀ (State.memcEvt s x2) := by
  unfold State.memcEvt
  apply State.raiseEvt_keeps
  exact h

theorem State.memcWritten_keeps {s : State} (h : Keeps s₀ s) (x2) (x3) : Keeps s₀ (State.memcWritten s x2 x3) := by
  unfold State.memcWritten
  refine keeps_ite ?_ ?_
  · exact h
  · refine keeps_mk (s := s) ?_ rfl
    exact h

theorem State.dramPut_keeps {s : State} (h : Keeps s₀ s) (x2) (x3) : Keeps s₀ (State.dramPut s x2 x3) := by
  unfold State.dramPut
  apply State.memcWritten_keeps
  apply State.setWords_keeps
  exact h

theorem State.memcRetire_keeps {s : State} (h : Keeps s₀ s) (x2) (x3) : Keeps s₀ (State.memcRetire s x2 x3) := by
  unfold State.memcRetire
  extract_lets +onlyGivenNames y1
  refine keeps_ite ?_ ?_
  · apply State.faultEvent_keeps
    refine keeps_mk (s := s) ?_ rfl
    exact h
  · apply State.faultEvent_keeps
    apply State.memcEvt_keeps
    exact h

theorem State.memcCheck_keeps {s : State} (h : Keeps s₀ s) (x2) (x3) (x4) : Keeps s₀ (State.memcCheck s x2 x3 x4) := by
  unfold State.memcCheck
  extract_lets +onlyGivenNames y1
  extract_lets +onlyGivenNames y2
  extract_lets +onlyGivenNames y3
  extract_lets +onlyGivenNames y4
  refine keeps_ite ?_ ?_
  · extract_lets +onlyGivenNames y5
    extract_lets +onlyGivenNames y6
    have h7 : Keeps s₀ y6 := by
      dsimp -zeta only [y6]
      refine keeps_ite ?_ ?_
      · exact h
      · refine keeps_mk (s := s) ?_ rfl
        exact h
    dsimp -zeta only [y4]
    split
    · rename_i e8
      refine keeps_of_fst (s₀ := s₀) e8 ?_ (fun h9 => ?_)
      · apply State.finding_keeps
        apply State.memcEvt_keeps
        apply State.setRegs_keeps
        apply State.inc_keeps
        exact h7
      clear e8
      apply State.memcRetire_keeps
      exact h9
    · rename_i e10
      refine keeps_of_fst (s₀ := s₀) e10 ?_ (fun h11 => ?_)
      · apply State.finding_keeps
        apply State.memcEvt_keeps
        apply State.setRegs_keeps
        apply State.inc_keeps
        exact h7
      clear e10
      exact h11
  · refine keeps_ite ?_ ?_
    · dsimp -zeta only [y4]
      split
      · rename_i e12
        refine keeps_of_fst (s₀ := s₀) e12 ?_ (fun h13 => ?_)
        · apply State.finding_keeps
          apply State.memcEvt_keeps
          apply State.setRegs_keeps
          apply State.inc_keeps
          exact h
        clear e12
        apply State.memcRetire_keeps
        exact h13
      · rename_i e14
        refine keeps_of_fst (s₀ := s₀) e14 ?_ (fun h15 => ?_)
        · apply State.finding_keeps
          apply State.memcEvt_keeps
          apply State.setRegs_keeps
          apply State.inc_keeps
          exact h
        clear e14
        exact h15
    · exact h

theorem State.memcTouch_keeps {s : State} (h : Keeps s₀ s) : Keeps s₀ (State.memcTouch s) := by
  unfold State.memcTouch
  refine keeps_ite ?_ ?_
  · apply State.setReg_keeps
    exact h
  · exact h

theorem dramRead_keeps {s : State} (x1) (x2) (x3) (h : Keeps s₀ s) : Keeps s₀ (dramRead x1 x2 x3 s) := by
  unfold dramRead
  extract_lets +onlyGivenNames y1
  refine keeps_ite ?_ ?_
  · apply State.answer_keeps
    apply State.decodeError_keeps
    exact h
  · refine keeps_ite ?_ ?_
    · apply State.answer_keeps
      exact h
    · extract_lets +onlyGivenNames y2
      apply State.answer_keeps
      apply State.memcCheck_keeps
      apply State.memcTouch_keeps
      exact h

theorem execDramRead_keeps {s t : State} (x1) (x2) (x3) (e : (execDramRead x1 x2 x3 s) = .next t) : Keeps s t := by
  unfold execDramRead at e
  refine keeps_goesTo e ?_
  have h := keeps_refl s
  clear e
  apply dramRead_keeps
  exact h

theorem State.scrubPassed_keeps {s : State} (h : Keeps s₀ s) : Keeps s₀ (State.scrubPassed s) := by
  unfold State.scrubPassed
  extract_lets +onlyGivenNames y1
  apply State.setReg_keeps
  exact h

theorem patrolScrub_keeps {s : State} (x1) (x2) (x3) (h : Keeps s₀ s) : Keeps s₀ (patrolScrub x1 x2 x3 s) := by
  unfold patrolScrub
  extract_lets +onlyGivenNames y1
  extract_lets +onlyGivenNames y2
  refine keeps_ite ?_ ?_
  · exact h
  · extract_lets +onlyGivenNames y3
    have h4 : Keeps s₀ y3 := by
      dsimp -zeta only [y3]
      apply State.memcCheck_keeps
      exact h
    refine keeps_ite ?_ ?_
    · apply State.scrubPassed_keeps
      exact h4
    · apply State.setReg_keeps
      exact h4

theorem execPatrolScrub_keeps {s t : State} (x1) (x2) (x3) (e : (execPatrolScrub x1 x2 x3 s) = .next t) : Keeps s t := by
  unfold execPatrolScrub at e
  refine keeps_goesTo e ?_
  have h := keeps_refl s
  clear e
  apply State.alive_keeps
  · exact h
  · apply patrolScrub_keeps
    exact h

theorem memcScrubNow_keeps {s : State} (x1) (x2) (h : Keeps s₀ s) : Keeps s₀ (memcScrubNow x1 x2 s) := by
  unfold memcScrubNow
  apply State.command_keeps
  · exact h
  · intro s1
    intro h2
    apply State.setState_keeps
    exact h2

theorem execMemcScrubNow_keeps {s t : State} (x1) (x2) (e : (execMemcScrubNow x1 x2 s) = .next t) : Keeps s t := by
  unfold execMemcScrubNow at e
  refine keeps_goesTo e ?_
  have h := keeps_refl s
  clear e
  apply memcScrubNow_keeps
  exact h

theorem scrubPassEnd_keeps {s : State} (h : Keeps s₀ s) : Keeps s₀ (scrubPassEnd s) := by
  unfold scrubPassEnd
  refine keeps_ite ?_ ?_
  · apply State.memcEvt_keeps
    apply State.scrubPassed_keeps
    apply State.setState_keeps
    apply State.complete_keeps
    exact h
  · exact h

theorem execScrubPassEnd_keeps {s t : State} (e : (execScrubPassEnd s) = .next t) : Keeps s t := by
  unfold execScrubPassEnd at e
  refine keeps_goesTo e ?_
  have h := keeps_refl s
  clear e
  apply State.alive_keeps
  · exact h
  · apply scrubPassEnd_keeps
    exact h

theorem memcRemap_keeps {s : State} (x1) (x2) (h : Keeps s₀ s) : Keeps s₀ (memcRemap x1 x2 s) := by
  unfold memcRemap
  extract_lets +onlyGivenNames y1
  extract_lets +onlyGivenNames y2
  apply State.command_keeps
  · exact h
  · intro s3
    intro h4
    apply State.setState_keeps
    refine keeps_mk (s := s3) ?_ rfl
    exact h4

theorem execMemcRemap_keeps {s t : State} (x1) (x2) (e : (execMemcRemap x1 x2 s) = .next t) : Keeps s t := by
  unfold execMemcRemap at e
  refine keeps_goesTo e ?_
  have h := keeps_refl s
  clear e
  apply memcRemap_keeps
  exact h

theorem rowRemapComplete_keeps {s : State} (h : Keeps s₀ s) : Keeps s₀ (rowRemapComplete s) := by
  unfold rowRemapComplete
  split
  · exact h
  · extract_lets +onlyGivenNames y1
    extract_lets +onlyGivenNames y2
    extract_lets +onlyGivenNames y3
    extract_lets +onlyGivenNames y4
    have h5 : Keeps s₀ y4 := by
      dsimp -zeta only [y4]
      refine keeps_mk (s := s) ?_ rfl
      exact h
    extract_lets +onlyGivenNames y6
    have h7 : Keeps s₀ y6 := by
      dsimp -zeta only [y6]
      apply State.setReg_keeps
      exact h5
    extract_lets +onlyGivenNames y8
    have h9 : Keeps s₀ y8 := by
      dsimp -zeta only [y8]
      refine keeps_ite ?_ ?_
      · exact h7
      · apply State.retire_keeps
        exact h7
    extract_lets +onlyGivenNames y10
    have h11 : Keeps s₀ y10 := by
      dsimp -zeta only [y10]
      refine keeps_ite ?_ ?_
      · apply State.setState_keeps
        apply State.complete_keeps
        exact h9
      · exact h9
    apply State.memcEvt_keeps
    exact h11

theorem execRowRemapComplete_keeps {s t : State} (e : (execRowRemapComplete s) = .next t) : Keeps s t := by
  unfold execRowRemapComplete at e
  refine keeps_goesTo e ?_
  have h := keeps_refl s
  clear e
  apply State.alive_keeps
  · exact h
  · apply rowRemapComplete_keeps
    exact h

theorem memcAbort_keeps {s : State} (x1) (x2) (h : Keeps s₀ s) : Keeps s₀ (memcAbort x1 x2 s) := by
  unfold memcAbort
  apply State.abort_keeps
  · exact h
  · intro x1
    intro s2
    intro h3
    split
    · refine keeps_ite ?_ ?_
      · apply State.setState_keeps
        exact h3
      · exact h3
    · exact h3

theorem execMemcAbort_keeps {s t : State} (x1) (x2) (e : (execMemcAbort x1 x2 s) = .next t) : Keeps s t := by
  unfold execMemcAbort at e
  refine keeps_goesTo e ?_
  have h := keeps_refl s
  clear e
  apply memcAbort_keeps
  exact h

theorem State.memcClearStats_keeps {s : State} (h : Keeps s₀ s) : Keeps s₀ (State.memcClearStats s) := by
  unfold State.memcClearStats
  apply State.zeroRegs_keeps
  exact h

theorem mr4RateChange_keeps {s : State} (x1) (x2) (h : Keeps s₀ s) : Keeps s₀ (mr4RateChange x1 x2 s) := by
  unfold mr4RateChange
  extract_lets +onlyGivenNames y1
  extract_lets +onlyGivenNames y2
  refine keeps_ite ?_ ?_
  · exact h
  · apply State.memcEvt_keeps
    apply State.setReg_keeps
    exact h

theorem execMr4RateChange_keeps {s t : State} (x1) (x2) (e : (execMr4RateChange x1 x2 s) = .next t) : Keeps s t := by
  unfold execMr4RateChange at e
  refine keeps_goesTo e ?_
  have h := keeps_refl s
  clear e
  apply State.alive_keeps
  · exact h
  · apply mr4RateChange_keeps
    exact h

theorem kecInit_keeps {s : State} (x1) (x2) (h : Keeps s₀ s) : Keeps s₀ (kecInit x1 x2 s) := by
  unfold kecInit
  extract_lets +onlyGivenNames y1
  apply State.command_keeps
  · exact h
  · intro s2
    intro h3
    apply State.setState_keeps
    refine keeps_mk (s := s2) ?_ rfl
    exact h3

theorem execKecInit_keeps {s t : State} (x1) (x2) (e : (execKecInit x1 x2 s) = .next t) : Keeps s t := by
  unfold execKecInit at e
  refine keeps_goesTo e ?_
  have h := keeps_refl s
  clear e
  apply kecInit_keeps
  exact h

theorem kecAbsorb_keeps {s : State} (x1) (x2) (h : Keeps s₀ s) : Keeps s₀ (kecAbsorb x1 x2 s) := by
  unfold kecAbsorb
  apply State.command_keeps
  · exact h
  · intro s1
    intro h2
    apply State.setState_keeps
    exact h2

theorem execKecAbsorb_keeps {s t : State} (x1) (x2) (e : (execKecAbsorb x1 x2 s) = .next t) : Keeps s t := by
  unfold execKecAbsorb at e
  refine keeps_goesTo e ?_
  have h := keeps_refl s
  clear e
  apply kecAbsorb_keeps
  exact h

theorem State.kecTake_keeps {s : State} (h : Keeps s₀ s) : Keeps s₀ (State.kecTake s) := by
  unfold State.kecTake
  extract_lets +onlyGivenNames y1
  extract_lets +onlyGivenNames y2
  extract_lets +onlyGivenNames y3
  have h4 : Keeps s₀ y3 := by
    dsimp -zeta only [y3]
    refine keeps_mk (s := s) ?_ rfl
    exact h
  refine keeps_ite ?_ ?_
  · exact h4
  · apply State.setState_keeps
    refine keeps_mk (s := y3) ?_ rfl
    exact h4

theorem State.kecGive_keeps {s : State} (h : Keeps s₀ s) : Keeps s₀ (State.kecGive s) := by
  unfold State.kecGive
  extract_lets +onlyGivenNames y1
  extract_lets +onlyGivenNames y2
  extract_lets +onlyGivenNames y3
  have h4 : Keeps s₀ y3 := by
    dsimp -zeta only [y3]
    refine keeps_mk (s := s) ?_ rfl
    exact h
  split
  · refine keeps_ite ?_ ?_
    · apply State.setState_keeps
      refine keeps_mk (s := y3) ?_ rfl
      exact h4
    · exact h4
  · exact h4

theorem kecAbsorbDone_keeps {s : State} (x1) (h : Keeps s₀ s) : Keeps s₀ (kecAbsorbDone x1 s) := by
  unfold kecAbsorbDone
  refine keeps_ite ?_ ?_
  · split
    extract_lets +onlyGivenNames y1
    extract_lets +onlyGivenNames y2
    have h3 : Keeps s₀ y2 := by
      dsimp -zeta only [y2]
      refine keeps_ite ?_ ?_
      · apply State.completeFailed_keeps
        exact h
      · apply State.complete_keeps
        refine keeps_mk (s := s) ?_ rfl
        exact h
    refine keeps_ite ?_ ?_
    · apply State.setState_keeps
      exact h3
    · apply State.setState_keeps
      refine keeps_mk (s := y2) ?_ rfl
      exact h3
  · exact h

theorem execKecAbsorbDone_keeps {s t : State} (x1) (e : (execKecAbsorbDone x1 s) = .next t) : Keeps s t := by
  unfold execKecAbsorbDone at e
  refine keeps_goesTo e ?_
  have h := keeps_refl s
  clear e
  apply kecAbsorbDone_keeps
  exact h

theorem kecFinal_keeps {s : State} (x1) (x2) (h : Keeps s₀ s) : Keeps s₀ (kecFinal x1 x2 s) := by
  unfold kecFinal
  apply State.command_keeps
  · exact h
  · intro s1
    intro h2
    extract_lets +onlyGivenNames y3
    extract_lets +onlyGivenNames y4
    extract_lets +onlyGivenNames y5
    extract_lets +onlyGivenNames y6
    extract_lets +onlyGivenNames y7
    extract_lets +onlyGivenNames y8
    have h9 : Keeps s₀ y8 := by
      dsimp -zeta only [y8]
      apply State.setRegs_keeps
      exact h2
    apply State.setState_keeps
    refine keeps_mk (s := y8) ?_ rfl
    exact h9

theorem execKecFinal_keeps {s t : State} (x1) (x2) (e : (execKecFinal x1 x2 s) = .next t) : Keeps s t := by
  unfold execKecFinal at e
  refine keeps_goesTo e ?_
  have h := keeps_refl s
  clear e
  apply kecFinal_keeps
  exact h

theorem kecAbort_keeps {s : State} (x1) (x2) (h : Keeps s₀ s) : Keeps s₀ (kecAbort x1 x2 s) := by
  unfold kecAbort
  apply State.abort_keeps
  · exact h
  · intro x1
    intro s2
    intro h3
    refine keeps_ite ?_ ?_
    · exact h3
    · extract_lets +onlyGivenNames y4
      extract_lets +onlyGivenNames y5
      have h6 : Keeps s₀ y5 := by
        dsimp -zeta only [y5]
        refine keeps_mk (s := s2) ?_ rfl
        exact h3
      refine keeps_ite ?_ ?_
      · apply State.setState_keeps
        exact h6
      · apply State.setState_keeps
        refine keeps_mk (s := y5) ?_ rfl
        exact h6

theorem execKecAbort_keeps {s t : State} (x1) (x2) (e : (execKecAbort x1 x2 s) = .next t) : Keeps s t := by
  unfold execKecAbort at e
  refine keeps_goesTo e ?_
  have h := keeps_refl s
  clear e
  apply kecAbort_keeps
  exact h

theorem State.setFlash_keeps {s : State} (h : Keeps s₀ s) (x2) (x3) : Keeps s₀ (State.setFlash s x2 x3) := by
  unfold State.setFlash
  refine keeps_mk (s := s) ?_ rfl
  exact h

theorem State.xspiEvt_keeps {s : State} (h : Keeps s₀ s) (x2) : Keeps s₀ (State.xspiEvt s x2) := by
  unfold State.xspiEvt
  apply State.raiseEvt_keeps
  exact h

theorem xspiStart_keeps {s : State} (x1) (x2) (x3) (h : Keeps s₀ s) : Keeps s₀ (xspiStart x1 x2 x3 s) := by
  unfold xspiStart
  extract_lets +onlyGivenNames y1
  extract_lets +onlyGivenNames y2
  extract_lets +onlyGivenNames y3
  extract_lets +onlyGivenNames y4
  extract_lets +onlyGivenNames y5
  have h6 : Keeps s₀ y5 := by
    dsimp -zeta only [y5]
    apply State.command_keeps
    · exact h
    · intro s7
      intro h8
      extract_lets +onlyGivenNames y9
      extract_lets +onlyGivenNames y10
      extract_lets +onlyGivenNames y11
      extract_lets +onlyGivenNames y12
      have h13 : Keeps s₀ y12 := by
        dsimp -zeta only [y12]
        refine keeps_mk (s := s7) ?_ rfl
        exact h8
      apply State.setState_keeps
      exact h13
  refine keeps_ite ?_ ?_
  · apply State.xspiEvt_keeps
    exact h6
  · exact h6

theorem xspiRead_keeps {s : State} (x1) (x2) (h : Keeps s₀ s) : Keeps s₀ (xspiRead x1 x2 s) := by
  unfold xspiRead
  apply xspiStart_keeps
  exact h

theorem execXspiRead_keeps {s t : State} (x1) (x2) (e : (execXspiRead x1 x2 s) = .next t) : Keeps s t := by
  unfold execXspiRead at e
  refine keeps_goesTo e ?_
  have h := keeps_refl s
  clear e
  apply xspiRead_keeps
  exact h

theorem xspiProgram_keeps {s : State} (x1) (x2) (h : Keeps s₀ s) : Keeps s₀ (xspiProgram x1 x2 s) := by
  unfold xspiProgram
  apply xspiStart_keeps
  exact h

theorem execXspiProgram_keeps {s t : State} (x1) (x2) (e : (execXspiProgram x1 x2 s) = .next t) : Keeps s t := by
  unfold execXspiProgram at e
  refine keeps_goesTo e ?_
  have h := keeps_refl s
  clear e
  apply xspiProgram_keeps
  exact h

theorem xspiErase4k_keeps {s : State} (x1) (x2) (h : Keeps s₀ s) : Keeps s₀ (xspiErase4k x1 x2 s) := by
  unfold xspiErase4k
  apply xspiStart_keeps
  exact h

theorem execXspiErase4k_keeps {s t : State} (x1) (x2) (e : (execXspiErase4k x1 x2 s) = .next t) : Keeps s t := by
  unfold execXspiErase4k at e
  refine keeps_goesTo e ?_
  have h := keeps_refl s
  clear e
  apply xspiErase4k_keeps
  exact h

theorem xspiErase64k_keeps {s : State} (x1) (x2) (h : Keeps s₀ s) : Keeps s₀ (xspiErase64k x1 x2 s) := by
  unfold xspiErase64k
  apply xspiStart_keeps
  exact h

theorem execXspiErase64k_keeps {s t : State} (x1) (x2) (e : (execXspiErase64k x1 x2 s) = .next t) : Keeps s t := by
  unfold execXspiErase64k at e
  refine keeps_goesTo e ?_
  have h := keeps_refl s
  clear e
  apply xspiErase64k_keeps
  exact h

theorem xspiResume_keeps {s : State} (x1) (x2) (h : Keeps s₀ s) : Keeps s₀ (xspiResume x1 x2 s) := by
  unfold xspiResume
  apply State.command_keeps
  · exact h
  · intro s1
    intro h2
    split
    · apply State.setState_keeps
      exact h2
    · exact h2

theorem execXspiResume_keeps {s t : State} (x1) (x2) (e : (execXspiResume x1 x2 s) = .next t) : Keeps s t := by
  unfold execXspiResume at e
  refine keeps_goesTo e ?_
  have h := keeps_refl s
  clear e
  apply xspiResume_keeps
  exact h

theorem State.xspiTake_keeps {s : State} (h : Keeps s₀ s) : Keeps s₀ (State.xspiTake s) := by
  unfold State.xspiTake
  extract_lets +onlyGivenNames y1
  extract_lets +onlyGivenNames y2
  extract_lets +onlyGivenNames y3
  have h4 : Keeps s₀ y3 := by
    dsimp -zeta only [y3]
    refine keeps_mk (s := s) ?_ rfl
    exact h
  refine keeps_ite ?_ ?_
  · exact h4
  · apply State.setState_keeps
    refine keeps_mk (s := y3) ?_ rfl
    exact h4

theorem State.xspiGive_keeps {s : State} (h : Keeps s₀ s) : Keeps s₀ (State.xspiGive s) := by
  unfold State.xspiGive
  extract_lets +onlyGivenNames y1
  extract_lets +onlyGivenNames y2
  extract_lets +onlyGivenNames y3
  have h4 : Keeps s₀ y3 := by
    dsimp -zeta only [y3]
    refine keeps_mk (s := s) ?_ rfl
    exact h
  split
  · refine keeps_ite ?_ ?_
    · apply State.setState_keeps
      refine keeps_mk (s := y3) ?_ rfl
      exact h4
    · exact h4
  · exact h4

theorem State.xspiFree_keeps {s : State} (h : Keeps s₀ s) : Keeps s₀ (State.xspiFree s) := by
  unfold State.xspiFree
  extract_lets +onlyGivenNames y1
  extract_lets +onlyGivenNames y2
  have h3 : Keeps s₀ y2 := by
    dsimp -zeta only [y2]
    refine keeps_mk (s := s) ?_ rfl
    exact h
  refine keeps_ite ?_ ?_
  · apply State.setState_keeps
    exact h3
  · apply State.setState_keeps
    refine keeps_mk (s := y2) ?_ rfl
    exact h3

theorem State.xspiCopy_keeps {s : State} (h : Keeps s₀ s) (x2) (x3) : Keeps s₀ (State.xspiCopy s x2 x3) := by
  unfold State.xspiCopy
  apply State.memcWritten_keeps
  apply State.setBytes_keeps
  exact h

theorem xspiOperationDone_keeps {s : State} (x1) (h : Keeps s₀ s) : Keeps s₀ (xspiOperationDone x1 s) := by
  unfold xspiOperationDone
  split
  · exact h
  · refine keeps_ite ?_ ?_
    · exact h
    · extract_lets +onlyGivenNames y1
      extract_lets +onlyGivenNames y2
      have h3 : Keeps s₀ y2 := by
        dsimp -zeta only [y2]
        refine keeps_ite ?_ ?_
        · exact h
        · refine keeps_ite ?_ ?_
          · apply State.xspiCopy_keeps
            exact h
          · refine keeps_ite ?_ ?_
            · apply State.setFlash_keeps
              exact h
            · apply State.setFlash_keeps
              exact h
      extract_lets +onlyGivenNames y4
      have h5 : Keeps s₀ y4 := by
        dsimp -zeta only [y4]
        apply State.xspiFree_keeps
        apply State.complete_keeps
        exact h3
      refine keeps_ite ?_ ?_
      · apply State.xspiEvt_keeps
        apply State.inc_keeps
        exact h5
      · apply State.xspiEvt_keeps
        exact h5

theorem execXspiOperationDone_keeps {s t : State} (x1) (e : (execXspiOperationDone x1 s) = .next t) : Keeps s t := by
  unfold execXspiOperationDone at e
  refine keeps_goesTo e ?_
  have h := keeps_refl s
  clear e
  apply State.alive_keeps
  · exact h
  · apply xspiOperationDone_keeps
    exact h

theorem xspiAbort_keeps {s : State} (x1) (x2) (h : Keeps s₀ s) : Keeps s₀ (xspiAbort x1 x2 s) := by
  unfold xspiAbort
  apply State.abort_keeps
  · exact h
  · intro x1
    intro s2
    intro h3
    split
    · exact h3
    · extract_lets +onlyGivenNames y4
      refine keeps_ite ?_ ?_
      · extract_lets +onlyGivenNames y5
        apply State.xspiFree_keeps
        refine keeps_ite ?_ ?_
        · apply State.xspiCopy_keeps
          exact h3
        · exact h3
      · refine keeps_ite ?_ ?_
        · apply State.setState_keeps
          exact h3
        · exact h3

theorem execXspiAbort_keeps {s t : State} (x1) (x2) (e : (execXspiAbort x1 x2 s) = .next t) : Keeps s t := by
  unfold execXspiAbort at e
  refine keeps_goesTo e ?_
  have h := keeps_refl s
  clear e
  apply xspiAbort_keeps
  exact h

theorem State.bivEvt_keeps {s : State} (h : Keeps s₀ s) (x2) : Keeps s₀ (State.bivEvt s x2) := by
  unfold State.bivEvt
  apply State.raiseEvt_keeps
  exact h

theorem State.setCalendar_keeps {s : State} (h : Keeps s₀ s) (x2) (x3) (x4) : Keeps s₀ (State.setCalendar s x2 x3 x4) := by
  unfold State.setCalendar
  extract_lets +onlyGivenNames y1
  split
  extract_lets +onlyGivenNames y2
  extract_lets +onlyGivenNames y3
  extract_lets +onlyGivenNames y4
  apply State.setRegs_keeps
  exact h

theorem bivSet_keeps {s : State} (x1) (x2) (h : Keeps s₀ s) : Keeps s₀ (bivSet x1 x2 s) := by
  unfold bivSet
  extract_lets +onlyGivenNames y1
  apply State.command_keeps
  · exact h
  · intro s2
    intro h3
    extract_lets +onlyGivenNames y4
    extract_lets +onlyGivenNames y5
    extract_lets +onlyGivenNames y6
    extract_lets +onlyGivenNames y7
    apply State.setState_keeps
    refine keeps_mk (s := s2) ?_ rfl
    exact h3

theorem execBivSet_keeps {s t : State} (x1) (x2) (e : (execBivSet x1 x2 s) = .next t) : Keeps s t := by
  unfold execBivSet at e
  refine keeps_goesTo e ?_
  have h := keeps_refl s
  clear e
  apply bivSet_keeps
  exact h

theorem calendarLoad_keeps {s : State} (h : Keeps s₀ s) : Keeps s₀ (calendarLoad s) := by
  unfold calendarLoad
  split
  · exact h
  · extract_lets +onlyGivenNames y1
    extract_lets +onlyGivenNames y2
    extract_lets +onlyGivenNames y3
    extract_lets +onlyGivenNames y4
    have h5 : Keeps s₀ y4 := by
      dsimp -zeta only [y4]
      apply State.complete_keeps
      apply State.setCalendar_keeps
      refine keeps_mk (s := s) ?_ rfl
      exact h
    extract_lets +onlyGivenNames y6
    have h7 : Keeps s₀ y6 := by
      dsimp -zeta only [y6]
      apply State.bivEvt_keeps
      apply State.setState_keeps
      exact h5
    apply State.hutRequest_keeps
    exact h7

theorem execCalendarLoad_keeps {s t : State} (e : (execCalendarLoad s) = .next t) : Keeps s t := by
  unfold execCalendarLoad at e
  refine keeps_goesTo e ?_
  have h := keeps_refl s
  clear e
  apply calendarLoad_keeps
  exact h

theorem bivAbort_keeps {s : State} (x1) (x2) (h : Keeps s₀ s) : Keeps s₀ (bivAbort x1 x2 s) := by
  unfold bivAbort
  apply State.abort_keeps
  · exact h
  · intro x1
    intro s2
    intro h3
    apply State.setState_keeps
    refine keeps_mk (s := s2) ?_ rfl
    exact h3

theorem execBivAbort_keeps {s t : State} (x1) (x2) (e : (execBivAbort x1 x2 s) = .next t) : Keeps s t := by
  unfold execBivAbort at e
  refine keeps_goesTo e ?_
  have h := keeps_refl s
  clear e
  apply bivAbort_keeps
  exact h

theorem calendarSecond_keeps {s : State} (h : Keeps s₀ s) : Keeps s₀ (calendarSecond s) := by
  unfold calendarSecond
  refine keeps_ite ?_ ?_
  · exact h
  · apply State.setCalendar_keeps
    exact h

theorem execCalendarSecond_keeps {s t : State} (e : (execCalendarSecond s) = .next t) : Keeps s t := by
  unfold execCalendarSecond at e
  refine keeps_goesTo e ?_
  have h := keeps_refl s
  clear e
  apply calendarSecond_keeps
  exact h

theorem calendarRead_keeps {s : State} (x1) (x2) (h : Keeps s₀ s) : Keeps s₀ (calendarRead x1 x2 s) := by
  unfold calendarRead
  apply State.access_keeps
  · exact h
  · intro s1
    intro h2
    extract_lets +onlyGivenNames y3
    have h4 : Keeps s₀ y3 := by
      dsimp -zeta only [y3]
      refine keeps_ite ?_ ?_
      · exact h2
      · apply State.setReg_keeps
        exact h2
    extract_lets +onlyGivenNames y5
    extract_lets +onlyGivenNames y6
    have h7 : Keeps s₀ y6 := by
      dsimp -zeta only [y6]
      apply State.latch_keeps
      apply State.latch_keeps
      apply State.latch_keeps
      exact h4
    apply State.answer_keeps
    exact h7

theorem execCalendarRead_keeps {s t : State} (x1) (x2) (e : (execCalendarRead x1 x2 s) = .next t) : Keeps s t := by
  unfold execCalendarRead at e
  refine keeps_goesTo e ?_
  have h := keeps_refl s
  clear e
  apply calendarRead_keeps
  exact h

theorem vbatMeasure_keeps {s : State} (x1) (h : Keeps s₀ s) : Keeps s₀ (vbatMeasure x1 s) := by
  unfold vbatMeasure
  extract_lets +onlyGivenNames y1
  have h2 : Keeps s₀ y1 := by
    dsimp -zeta only [y1]
    apply State.setReg_keeps
    exact h
  refine keeps_ite ?_ ?_
  · exact h2
  · extract_lets +onlyGivenNames y3
    have h4 : Keeps s₀ y3 := by
      dsimp -zeta only [y3]
      apply State.bivEvt_keeps
      apply State.orReg_keeps
      exact h2
    refine keeps_ite ?_ ?_
    · exact h4
    · apply State.hutRequest_keeps
      refine keeps_mk (s := y3) ?_ rfl
      exact h4

theorem execVbatMeasure_keeps {s t : State} (x1) (e : (execVbatMeasure x1 s) = .next t) : Keeps s t := by
  unfold execVbatMeasure at e
  refine keeps_goesTo e ?_
  have h := keeps_refl s
  clear e
  apply vbatMeasure_keeps
  exact h

theorem vbatSwitchover_keeps {s : State} (h : Keeps s₀ s) : Keeps s₀ (vbatSwitchover s) := by
  unfold vbatSwitchover
  exact h

theorem execVbatSwitchover_keeps {s t : State} (e : (execVbatSwitchover s) = .next t) : Keeps s t := by
  unfold execVbatSwitchover at e
  refine keeps_goesTo e ?_
  have h := keeps_refl s
  clear e
  apply vbatSwitchover_keeps
  exact h

theorem State.bivXtalFail_keeps {s : State} (h : Keeps s₀ s) : Keeps s₀ (State.bivXtalFail s) := by
  unfold State.bivXtalFail
  extract_lets +onlyGivenNames y1
  have h2 : Keeps s₀ y1 := by
    dsimp -zeta only [y1]
    apply State.setReg_keeps
    exact h
  apply State.bivEvt_keeps
  apply State.orReg_keeps
  exact h2

theorem operatingSecond_keeps {s : State} (h : Keeps s₀ s) : Keeps s₀ (operatingSecond s) := by
  unfold operatingSecond
  extract_lets +onlyGivenNames y1
  have h2 : Keeps s₀ y1 := by
    dsimp -zeta only [y1]
    apply State.inc_keeps
    exact h
  extract_lets +onlyGivenNames y3
  extract_lets +onlyGivenNames y4
  extract_lets +onlyGivenNames y5
  extract_lets +onlyGivenNames y6
  extract_lets +onlyGivenNames y7
  have h8 : Keeps s₀ y7 := by
    dsimp -zeta only [y7]
    refine keeps_mk (s := y1) ?_ rfl
    exact h2
  refine keeps_ite ?_ ?_
  · refine keeps_mk (s := y7) ?_ rfl
    exact h8
  · exact h8

theorem execOperatingSecond_keeps {s t : State} (e : (execOperatingSecond s) = .next t) : Keeps s t := by
  unfold execOperatingSecond at e
  refine keeps_goesTo e ?_
  have h := keeps_refl s
  clear e
  apply operatingSecond_keeps
  exact h

theorem State.setHutWords_keeps {s : State} (h : Keeps s₀ s) (x2) (x3) : Keeps s₀ (State.setHutWords s x2 x3) := by
  unfold State.setHutWords
  apply State.setWords_keeps
  exact h

theorem State.hutEvt_keeps {s : State} (h : Keeps s₀ s) (x2) : Keeps s₀ (State.hutEvt s x2) := by
  unfold State.hutEvt
  apply State.raiseEvt_keeps
  exact h

theorem State.hutShow_keeps {s : State} (h : Keeps s₀ s) : Keeps s₀ (State.hutShow s) := by
  unfold State.hutShow
  extract_lets +onlyGivenNames y1
  extract_lets +onlyGivenNames y2
  extract_lets +onlyGivenNames y3
  have h4 : Keeps s₀ y3 := by
    dsimp -zeta only [y3]
    apply State.setReg_keeps
    exact h
  refine keeps_ite ?_ ?_
  · apply State.hutEvt_keeps
    exact h4
  · exact h4

theorem State.hutHeader_keeps {s : State} (h : Keeps s₀ s) (x2) (x3) (x4) (x5) (x6) : Keeps s₀ (State.hutHeader s x2 x3 x4 x5 x6) := by
  unfold State.hutHeader
  extract_lets +onlyGivenNames y1
  extract_lets +onlyGivenNames y2
  extract_lets +onlyGivenNames y3
  extract_lets +onlyGivenNames y4
  have h5 : Keeps s₀ y4 := by
    dsimp -zeta only [y4]
    apply State.setHutWords_keeps
    exact h
  apply State.hutShow_keeps
  apply State.setRegs_keeps
  exact h5

theorem State.hutLoad_keeps {s : State} (h : Keeps s₀ s) : Keeps s₀ (State.hutLoad s) := by
  unfold State.hutLoad
  split
  · apply State.hutShow_keeps
    apply State.setRegs_keeps
    exact h
  · apply State.hutShow_keeps
    exact h

theorem State.hutMark_keeps {s : State} (h : Keeps s₀ s) (x2) : Keeps s₀ (State.hutMark s x2) := by
  unfold State.hutMark
  extract_lets +onlyGivenNames y1
  refine keeps_ite ?_ ?_
  · exact h
  · refine keeps_mk (s := s) ?_ rfl
    exact h

theorem State.hutEvict_keeps {s : State} (h : Keeps s₀ s) (x2) (x3) : Keeps s₀ (State.hutEvict s x2 x3) := by
  induction x3 generalizing s x2
  · unfold State.hutEvict
    exact h
  · rename_i n0 ih
    unfold State.hutEvict
    extract_lets +onlyGivenNames y1
    extract_lets +onlyGivenNames y2
    refine keeps_ite ?_ ?_
    · exact h
    · extract_lets +onlyGivenNames y3
      extract_lets +onlyGivenNames y4
      extract_lets +onlyGivenNames y5
      have h6 : Keeps s₀ y5 := by
        dsimp -zeta only [y5]
        apply State.hutHeader_keeps
        apply State.hutMark_keeps
        exact h
      extract_lets +onlyGivenNames y7
      have h8 : Keeps s₀ y7 := by
        dsimp -zeta only [y7]
        refine keeps_ite ?_ ?_
        · exact h6
        · apply State.hutEvt_keeps
          apply State.inc_keeps
          exact h6
      apply ih
      exact h8

theorem State.hutReserve_keeps {s : State} (h : Keeps s₀ s) (x2) (x3) : Keeps s₀ (State.hutReserve s x2 x3).1 := by
  unfold State.hutReserve
  extract_lets +onlyGivenNames y1
  split
  extract_lets +onlyGivenNames y2
  extract_lets +onlyGivenNames y3
  have h4 : Keeps s₀ y3 := by
    dsimp -zeta only [y3]
    refine keeps_ite ?_ ?_
    · apply State.hutEvict_keeps
      exact h
    · exact h
  refine keeps_ite_fst ?_ ?_
  · extract_lets +onlyGivenNames y5
    have h6 : Keeps s₀ y5 := by
      dsimp -zeta only [y5]
      apply State.hutEvt_keeps
      apply State.inc_keeps
      exact h4
    dsimp -zeta only
    refine keeps_ite ?_ ?_
    · exact h6
    · apply State.setState_keeps
      exact h6
  · extract_lets +onlyGivenNames y7
    extract_lets +onlyGivenNames y8
    have h9 : Keeps s₀ y8 := by
      dsimp -zeta only [y8]
      refine keeps_ite ?_ ?_
      · exact h4
      · apply State.setHutWords_keeps
        exact h4
    extract_lets +onlyGivenNames y10
    have h11 : Keeps s₀ y10 := by
      dsimp -zeta only [y10]
      apply State.setHutWords_keeps
      exact h9
    extract_lets +onlyGivenNames y12
    extract_lets +onlyGivenNames y13
    have h14 : Keeps s₀ y13 := by
      dsimp -zeta only [y13]
      apply State.hutHeader_keeps
      exact h11
    dsimp -zeta only
    refine keeps_ite ?_ ?_
    · apply State.setState_keeps
      exact h14
    · exact h14

theorem State.hutCommitAt_keeps {s : State} (h : Keeps s₀ s) (x2) (x3) (x4) : Keeps s₀ (State.hutCommitAt s x2 x3 x4) := by
  unfold State.hutCommitAt
  extract_lets +onlyGivenNames y1
  have h2 : Keeps s₀ y1 := by
    dsimp -zeta only [y1]
    apply State.setHutWords_keeps
    exact h
  apply State.setHutWords_keeps
  exact h2

theorem blockRecordCommit_keeps {s : State} (h : Keeps s₀ s) : Keeps s₀ (blockRecordCommit s) := by
  unfold blockRecordCommit
  split
  · exact h
  · extract_lets +onlyGivenNames y1
    extract_lets +onlyGivenNames y2
    have h3 : Keeps s₀ y2 := by
      dsimp -zeta only [y2]
      refine keeps_mk (s := s) ?_ rfl
      exact h
    split
    · rename_i e4
      refine keeps_of_fst (s₀ := s₀) e4 ?_ (fun h5 => ?_)
      · apply State.hutReserve_keeps
        exact h3
      clear e4
      apply State.hutCommitAt_keeps
      exact h5
    · rename_i e6
      refine keeps_of_fst (s₀ := s₀) e6 ?_ (fun h7 => ?_)
      · apply State.hutReserve_keeps
        exact h3
      clear e6
      assumption

theorem execBlockRecordCommit_keeps {s t : State} (e : (execBlockRecordCommit s) = .next t) : Keeps s t := by
  unfold execBlockRecordCommit at e
  refine keeps_goesTo e ?_
  have h := keeps_refl s
  clear e
  apply State.alive_keeps
  · exact h
  · apply blockRecordCommit_keeps
    exact h

theorem hutReserve_keeps {s : State} (x1) (x2) (h : Keeps s₀ s) : Keeps s₀ (hutReserve x1 x2 s) := by
  unfold hutReserve
  extract_lets +onlyGivenNames y1
  extract_lets +onlyGivenNames y2
  apply State.command_keeps
  · exact h
  · intro s3
    intro h4
    split
    · rename_i e5
      refine keeps_of_fst (s₀ := s₀) e5 ?_ (fun h6 => ?_)
      · apply State.hutReserve_keeps
        exact h4
      clear e5
      extract_lets +onlyGivenNames y7
      extract_lets +onlyGivenNames y8
      have h9 : Keeps s₀ y8 := by
        dsimp -zeta only [y8]
        refine keeps_mk ?_ rfl
        exact h6
      apply State.setState_keeps
      apply State.setRegs_keeps
      exact h9
    · rename_i e10
      refine keeps_of_fst (s₀ := s₀) e10 ?_ (fun h11 => ?_)
      · apply State.hutReserve_keeps
        exact h4
      clear e10
      exact h11

theorem execHutReserve_keeps {s t : State} (x1) (x2) (e : (execHutReserve x1 x2 s) = .next t) : Keeps s t := by
  unfold execHutReserve at e
  refine keeps_goesTo e ?_
  have h := keeps_refl s
  clear e
  apply hutReserve_keeps
  exact h

theorem hutWrDataWrite_keeps {s : State} (x1) (x2) (h : Keeps s₀ s) : Keeps s₀ (hutWrDataWrite x1 x2 s) := by
  unfold hutWrDataWrite
  apply State.writeGranted_keeps
  · exact h
  · intro s1
    intro h2
    split
    · extract_lets +onlyGivenNames y3
      refine keeps_ite ?_ ?_
      · apply State.setReg_keeps
        apply State.setHutWords_keeps
        exact h2
      · exact h2
    · exact h2

theorem execHutWrDataWrite_keeps {s t : State} (x1) (x2) (e : (execHutWrDataWrite x1 x2 s) = .next t) : Keeps s t := by
  unfold execHutWrDataWrite at e
  refine keeps_goesTo e ?_
  have h := keeps_refl s
  clear e
  apply hutWrDataWrite_keeps
  exact h

theorem State.hutClose_keeps {s : State} (h : Keeps s₀ s) : Keeps s₀ (State.hutClose s) := by
  unfold State.hutClose
  apply State.setState_keeps
  refine keeps_mk (s := s) ?_ rfl
  exact h

theorem hutCommit_keeps {s : State} (x1) (x2) (h : Keeps s₀ s) : Keeps s₀ (hutCommit x1 x2 s) := by
  unfold hutCommit
  apply State.command_keeps
  · exact h
  · intro s1
    intro h2
    split
    · extract_lets +onlyGivenNames y3
      apply State.hutClose_keeps
      apply State.hutCommitAt_keeps
      exact h2
    · exact h2

theorem execHutCommit_keeps {s t : State} (x1) (x2) (e : (execHutCommit x1 x2 s) = .next t) : Keeps s t := by
  unfold execHutCommit at e
  refine keeps_goesTo e ?_
  have h := keeps_refl s
  clear e
  apply hutCommit_keeps
  exact h

theorem State.hutAbandon_keeps {s : State} (h : Keeps s₀ s) : Keeps s₀ (State.hutAbandon s) := by
  unfold State.hutAbandon
  refine keeps_ite ?_ ?_
  · apply State.hutEvt_keeps
    apply State.inc_keeps
    apply State.hutClose_keeps
    exact h
  · exact h

theorem hutCancel_keeps {s : State} (x1) (x2) (h : Keeps s₀ s) : Keeps s₀ (hutCancel x1 x2 s) := by
  unfold hutCancel
  apply State.command_keeps
  · exact h
  · intro s1
    intro h2
    apply State.hutAbandon_keeps
    exact h2

theorem execHutCancel_keeps {s t : State} (x1) (x2) (e : (execHutCancel x1 x2 s) = .next t) : Keeps s t := by
  unfold execHutCancel at e
  refine keeps_goesTo e ?_
  have h := keeps_refl s
  clear e
  apply hutCancel_keeps
  exact h

theorem hutAbort_keeps {s : State} (x1) (x2) (h : Keeps s₀ s) : Keeps s₀ (hutAbort x1 x2 s) := by
  unfold hutAbort
  apply State.abort_keeps
  · exact h
  · intro x1
    intro s2
    intro h3
    apply State.hutAbandon_keeps
    exact h3

theorem execHutAbort_keeps {s t : State} (x1) (x2) (e : (execHutAbort x1 x2 s) = .next t) : Keeps s t := by
  unfold execHutAbort at e
  refine keeps_goesTo e ?_
  have h := keeps_refl s
  clear e
  apply hutAbort_keeps
  exact h

theorem reservationTimeout_keeps {s : State} (h : Keeps s₀ s) : Keeps s₀ (reservationTimeout s) := by
  unfold reservationTimeout
  split
  · extract_lets +onlyGivenNames y1
    refine keeps_ite ?_ ?_
    · apply State.hutAbandon_keeps
      apply State.advanceTo_keeps
      exact h
    · exact h
  · exact h

theorem execReservationTimeout_keeps {s t : State} (e : (execReservationTimeout s) = .next t) : Keeps s t := by
  unfold execReservationTimeout at e
  refine keeps_goesTo e ?_
  have h := keeps_refl s
  clear e
  apply State.alive_keeps
  · exact h
  · apply reservationTimeout_keeps
    exact h

theorem State.hutWarm_keeps {s : State} (h : Keeps s₀ s) : Keeps s₀ (State.hutWarm s) := by
  unfold State.hutWarm
  split
  · refine keeps_ite ?_ ?_
    · apply State.hutAbandon_keeps
      exact h
    · exact h
  · exact h

theorem State.hutClearStats_keeps {s : State} (h : Keeps s₀ s) : Keeps s₀ (State.hutClearStats s) := by
  unfold State.hutClearStats
  apply State.zeroRegs_keeps
  exact h

theorem hutCursorWrite_keeps {s : State} (x1) (x2) (h : Keeps s₀ s) : Keeps s₀ (hutCursorWrite x1 x2 s) := by
  unfold hutCursorWrite
  apply State.access_keeps
  · exact h
  · intro s1
    intro h2
    extract_lets +onlyGivenNames y3
    extract_lets +onlyGivenNames y4
    extract_lets +onlyGivenNames y5
    extract_lets +onlyGivenNames y6
    extract_lets +onlyGivenNames y7
    extract_lets +onlyGivenNames y8
    extract_lets +onlyGivenNames y9
    have h10 : Keeps s₀ y9 := by
      dsimp -zeta only [y9]
      apply State.setPreg_keeps
      apply State.setPreg_keeps
      exact h2
    refine keeps_mk (s := y9) ?_ rfl
    exact h10

theorem execHutCursorWrite_keeps {s t : State} (x1) (x2) (e : (execHutCursorWrite x1 x2 s) = .next t) : Keeps s t := by
  unfold execHutCursorWrite at e
  refine keeps_goesTo e ?_
  have h := keeps_refl s
  clear e
  apply hutCursorWrite_keeps
  exact h

theorem hutNonce_keeps {s : State} (x1) (x2) (h : Keeps s₀ s) : Keeps s₀ (hutNonce x1 x2 s) := by
  unfold hutNonce
  apply State.command_keeps
  · exact h
  · intro s1
    intro h2
    extract_lets +onlyGivenNames y3
    extract_lets +onlyGivenNames y4
    extract_lets +onlyGivenNames y5
    extract_lets +onlyGivenNames y6
    have h7 : Keeps s₀ y6 := by
      dsimp -zeta only [y6]
      refine keeps_mk (s := s1) ?_ rfl
      exact h2
    apply State.setRegs_keeps
    exact h7

theorem execHutNonce_keeps {s t : State} (x1) (x2) (e : (execHutNonce x1 x2 s) = .next t) : Keeps s t := by
  unfold execHutNonce at e
  refine keeps_goesTo e ?_
  have h := keeps_refl s
  clear e
  apply hutNonce_keeps
  exact h

theorem hutClear_keeps {s : State} (x1) (x2) (h : Keeps s₀ s) : Keeps s₀ (hutClear x1 x2 s) := by
  unfold hutClear
  apply State.command_keeps
  · exact h
  · intro s1
    intro h2
    apply State.kecTake_keeps
    apply State.setReg_keeps
    refine keeps_mk (s := s1) ?_ rfl
    exact h2

theorem execHutClear_keeps {s t : State} (x1) (x2) (e : (execHutClear x1 x2 s) = .next t) : Keeps s t := by
  unfold execHutClear at e
  refine keeps_goesTo e ?_
  have h := keeps_refl s
  clear e
  apply hutClear_keeps
  exact h

theorem State.hutCleared_keeps {s : State} (h : Keeps s₀ s) : Keeps s₀ (State.hutCleared s) := by
  unfold State.hutCleared
  extract_lets +onlyGivenNames y1
  extract_lets +onlyGivenNames y2
  extract_lets +onlyGivenNames y3
  extract_lets +onlyGivenNames y4
  split
  extract_lets +onlyGivenNames y5
  extract_lets +onlyGivenNames y6
  extract_lets +onlyGivenNames y7
  have h8 : Keeps s₀ y7 := by
    dsimp -zeta only [y7]
    refine keeps_foldl ?_ ?_
    · exact h
    · intro s9
      intro x10
      intro h11
      apply State.hutMark_keeps
      exact h11
  extract_lets +onlyGivenNames y12
  have h13 : Keeps s₀ y12 := by
    dsimp -zeta only [y12]
    apply State.hutCommitAt_keeps
    apply State.setHutWords_keeps
    exact h8
  extract_lets +onlyGivenNames y14
  extract_lets +onlyGivenNames y15
  have h16 : Keeps s₀ y15 := by
    dsimp -zeta only [y15]
    apply State.hutHeader_keeps
    exact h13
  apply State.hutEvt_keeps
  refine keeps_ite ?_ ?_
  · apply State.setState_keeps
    exact h16
  · exact h16

theorem hutClearVerifyDone_keeps {s : State} (h : Keeps s₀ s) : Keeps s₀ (hutClearVerifyDone s) := by
  unfold hutClearVerifyDone
  refine keeps_ite ?_ ?_
  · extract_lets +onlyGivenNames y1
    extract_lets +onlyGivenNames y2
    have h3 : Keeps s₀ y2 := by
      dsimp -zeta only [y2]
      apply State.kecGive_keeps
      apply State.setReg_keeps
      exact h
    extract_lets +onlyGivenNames y4
    have h5 : Keeps s₀ y4 := by
      dsimp -zeta only [y4]
      apply State.setReg_keeps
      apply State.complete_keeps
      exact h3
    refine keeps_ite ?_ ?_
    · apply State.hutCleared_keeps
      exact h5
    · apply State.hutEvt_keeps
      apply State.hutRequest_keeps
      exact h5
  · exact h

theorem execHutClearVerifyDone_keeps {s t : State} (e : (execHutClearVerifyDone s) = .next t) : Keeps s t := by
  unfold execHutClearVerifyDone at e
  refine keeps_goesTo e ?_
  have h := keeps_refl s
  clear e
  apply State.alive_keeps
  · exact h
  · apply hutClearVerifyDone_keeps
    exact h

theorem hutScAbort_keeps {s : State} (x1) (x2) (h : Keeps s₀ s) : Keeps s₀ (hutScAbort x1 x2 s) := by
  unfold hutScAbort
  apply State.abort_keeps
  · exact h
  · intro x1
    intro s2
    intro h3
    split
    · apply State.kecGive_keeps
      apply State.setReg_keeps
      exact h3
    · exact h3

theorem execHutScAbort_keeps {s t : State} (x1) (x2) (e : (execHutScAbort x1 x2 s) = .next t) : Keeps s t := by
  unfold execHutScAbort at e
  refine keeps_goesTo e ?_
  have h := keeps_refl s
  clear e
  apply hutScAbort_keeps
  exact h

theorem State.queEvt_keeps {s : State} (h : Keeps s₀ s) (x2) : Keeps s₀ (State.queEvt s x2) := by
  unfold State.queEvt
  apply State.raiseEvt_keeps
  exact h

theorem State.trace_keeps {s : State} (h : Keeps s₀ s) (x2) (x3) (x4) (x5) (x6) : Keeps s₀ (State.trace s x2 x3 x4 x5 x6) := by
  unfold State.trace
  refine keeps_ite ?_ ?_
  · apply State.recTrace_keeps
    exact h
  · exact h

theorem State.enqRes_keeps {s : State} (h : Keeps s₀ s) (x2) (x3) (x4) : Keeps s₀ (State.enqRes s x2 x3 x4) := by
  unfold State.enqRes
  apply State.setPreg_keeps
  exact h

theorem State.enqRetry_keeps {s : State} (h : Keeps s₀ s) (x2) (x3) (x4) : Keeps s₀ (State.enqRetry s x2 x3 x4) := by
  unfold State.enqRetry
  apply State.trace_keeps
  apply State.queEvt_keeps
  apply State.inc_keeps
  apply State.enqRes_keeps
  exact h

theorem queEnqCommit_keeps {s : State} (x1) (x2) (h : Keeps s₀ s) : Keeps s₀ (queEnqCommit x1 x2 s) := by
  unfold queEnqCommit
  apply State.access_keeps
  · exact h
  · intro s1
    intro h2
    extract_lets +onlyGivenNames y3
    extract_lets +onlyGivenNames y4
    extract_lets +onlyGivenNames y5
    extract_lets +onlyGivenNames y6
    extract_lets +onlyGivenNames y7
    refine keeps_ite ?_ ?_
    · apply State.enqRes_keeps
      exact h2
    · refine keeps_ite ?_ ?_
      · apply State.enqRetry_keeps
        exact h2
      · refine keeps_ite ?_ ?_
        · apply State.enqRes_keeps
          apply State.quePut_keeps
          exact h2
        · refine keeps_ite ?_ ?_
          · apply State.enqRetry_keeps
            exact h2
          · extract_lets +onlyGivenNames y8
            extract_lets +onlyGivenNames y9
            have h10 : Keeps s₀ y9 := by
              dsimp -zeta only [y9]
              refine keeps_mk (s := s1) ?_ rfl
              exact h2
            apply State.queEvt_keeps
            apply State.inc_keeps
            exact h10

theorem execQueEnqCommit_keeps {s t : State} (x1) (x2) (e : (execQueEnqCommit x1 x2 s) = .next t) : Keeps s t := by
  unfold execQueEnqCommit at e
  refine keeps_goesTo e ?_
  have h := keeps_refl s
  clear e
  apply queEnqCommit_keeps
  exact h

theorem commitStallTimeout_keeps {s : State} (x1) (h : Keeps s₀ s) : Keeps s₀ (commitStallTimeout x1 s) := by
  unfold commitStallTimeout
  split
  · extract_lets +onlyGivenNames y1
    refine keeps_ite ?_ ?_
    · extract_lets +onlyGivenNames y2
      have h3 : Keeps s₀ y2 := by
        dsimp -zeta only [y2]
        apply State.advanceTo_keeps
        exact h
      apply State.enqRetry_keeps
      refine keeps_mk (s := y2) ?_ rfl
      exact h3
    · exact h
  · exact h

theorem execCommitStallTimeout_keeps {s t : State} (x1) (e : (execCommitStallTimeout x1 s) = .next t) : Keeps s t := by
  unfold execCommitStallTimeout at e
  refine keeps_goesTo e ?_
  have h := keeps_refl s
  clear e
  apply commitStallTimeout_keeps
  exact h

theorem State.queUnstall_keeps {s : State} (h : Keeps s₀ s) (x2) : Keeps s₀ (State.queUnstall s x2) := by
  unfold State.queUnstall
  extract_lets +onlyGivenNames y1
  extract_lets +onlyGivenNames y2
  extract_lets +onlyGivenNames y3
  have h4 : Keeps s₀ y3 := by
    dsimp -zeta only [y3]
    refine keeps_mk (s := s) ?_ rfl
    exact h
  refine keeps_foldl ?_ ?_
  · exact h4
  · intro s5
    intro x6
    intro h7
    apply State.enqRetry_keeps
    exact h7

theorem headRefill_keeps {s : State} (x1) (x2) (h : Keeps s₀ s) : Keeps s₀ (headRefill x1 x2 s) := by
  unfold headRefill
  extract_lets +onlyGivenNames y1
  refine keeps_ite ?_ ?_
  · extract_lets +onlyGivenNames y2
    extract_lets +onlyGivenNames y3
    refine keeps_ite ?_ ?_
    · extract_lets +onlyGivenNames y4
      have h5 : Keeps s₀ y4 := by
        dsimp -zeta only [y4]
        apply State.inc_keeps
        apply State.setQueue_keeps
        apply State.inc_keeps
        exact h
      extract_lets +onlyGivenNames y6
      have h7 : Keeps s₀ y6 := by
        dsimp -zeta only [y6]
        apply State.queEvt_keeps
        exact h5
      apply State.queServe_keeps
      apply State.faultEvent_keeps
      exact h7
    · apply State.setQueue_keeps
      exact h
  · exact h

theorem execHeadRefill_keeps {s t : State} (x1) (x2) (e : (execHeadRefill x1 x2 s) = .next t) : Keeps s t := by
  unfold execHeadRefill at e
  refine keeps_goesTo e ?_
  have h := keeps_refl s
  clear e
  apply State.alive_keeps
  · exact h
  · apply headRefill_keeps
    exact h

theorem State.setAffinity_keeps {s : State} (h : Keeps s₀ s) (x2) (x3) : Keeps s₀ (State.setAffinity s x2 x3) := by
  unfold State.setAffinity
  apply State.setReg_keeps
  exact h

theorem State.setLevel_keeps {s : State} (h : Keeps s₀ s) (x2) : Keeps s₀ (State.setLevel s x2) := by
  unfold State.setLevel
  refine keeps_ite ?_ ?_
  · exact h
  · extract_lets +onlyGivenNames y1
    extract_lets +onlyGivenNames y2
    have h3 : Keeps s₀ y2 := by
      dsimp -zeta only [y2]
      refine keeps_mk (s := s) ?_ rfl
      exact h
    refine keeps_foldl ?_ ?_
    · exact h3
    · intro s4
      intro x5
      intro h6
      apply State.setReg_keeps
      exact h6

theorem State.arbitrate_keeps {s : State} (h : Keeps s₀ s) (x2) : Keeps s₀ (State.arbitrate s x2).2 := by
  unfold State.arbitrate
  extract_lets +onlyGivenNames y1
  extract_lets +onlyGivenNames y2
  extract_lets +onlyGivenNames y3
  split
  rename_i e4
  refine keeps_of_snd (s₀ := s₀) e4 ?_ (fun h5 => ?_)
  · refine keeps_ite_snd ?_ ?_
    · dsimp -zeta only
      exact h
    · extract_lets +onlyGivenNames y6
      have h7 : Keeps s₀ y6 := by
        dsimp -zeta only [y6]
        refine keeps_ite ?_ ?_
        · apply State.setReg_keeps
          exact h
        · exact h
      extract_lets +onlyGivenNames y8
      extract_lets +onlyGivenNames y9
      dsimp -zeta only
      apply State.setReg_keeps
      exact h7
  clear e4
  extract_lets +onlyGivenNames y10
  extract_lets +onlyGivenNames y11
  have h12 : Keeps s₀ y11 := by
    dsimp -zeta only [y11]
    apply State.setReg_keeps
    exact h5
  extract_lets +onlyGivenNames y13
  extract_lets +onlyGivenNames y14
  have h15 : Keeps s₀ y14 := by
    dsimp -zeta only [y14]
    refine keeps_mk (s := y11) ?_ rfl
    exact h12
  extract_lets +onlyGivenNames y16
  split
  · dsimp -zeta only
    refine keeps_mk (s := y14) ?_ rfl
    exact h15
  · dsimp -zeta only
    exact h15

theorem State.dispatch_keeps {s : State} (h : Keeps s₀ s) (x2) (x3) (x4) : Keeps s₀ (State.dispatch s x2 x3 x4) := by
  unfold State.dispatch
  extract_lets +onlyGivenNames y1
  have h2 : Keeps s₀ y1 := by
    dsimp -zeta only [y1]
    apply State.quePop_keeps
    exact h
  extract_lets +onlyGivenNames y3
  extract_lets +onlyGivenNames y4
  have h5 : Keeps s₀ y4 := by
    dsimp -zeta only [y4]
    apply State.setQueue_keeps
    exact h2
  extract_lets +onlyGivenNames y6
  extract_lets +onlyGivenNames y7
  have h8 : Keeps s₀ y7 := by
    dsimp -zeta only [y7]
    refine keeps_mk (s := y4) ?_ rfl
    exact h5
  extract_lets +onlyGivenNames y9
  have h10 : Keeps s₀ y9 := by
    dsimp -zeta only [y9]
    refine keeps_foldl ?_ ?_
    · exact h8
    · intro s11
      intro x12
      intro h13
      apply State.setPreg_keeps
      exact h13
  extract_lets +onlyGivenNames y14
  have h15 : Keeps s₀ y14 := by
    dsimp -zeta only [y14]
    apply State.inc_keeps
    apply State.orReg_keeps
    exact h10
  extract_lets +onlyGivenNames y16
  have h17 : Keeps s₀ y16 := by
    dsimp -zeta only [y16]
    refine keeps_ite ?_ ?_
    · apply State.inc_keeps
      exact h15
    · refine keeps_ite ?_ ?_
      · apply State.inc_keeps
        exact h15
      · exact h15
  apply State.trace_keeps
  apply State.setAffinity_keeps
  exact h17

theorem State.decideLarge_keeps {s : State} (h : Keeps s₀ s) : Keeps s₀ (State.decideLarge s) := by
  unfold State.decideLarge
  extract_lets +onlyGivenNames y1
  extract_lets +onlyGivenNames y2
  extract_lets +onlyGivenNames y3
  refine keeps_ite ?_ ?_
  · exact h
  · split
    extract_lets +onlyGivenNames y4
    have h5 : Keeps s₀ y4 := by
      dsimp -zeta only [y4]
      apply State.setLevel_keeps
      exact h
    split
    · extract_lets +onlyGivenNames y6
      extract_lets +onlyGivenNames y7
      have h8 : Keeps s₀ y7 := by
        dsimp -zeta only [y7]
        refine keeps_mk (s := y4) ?_ rfl
        exact h5
      split
      · rename_i e9
        refine keeps_of_snd (s₀ := s₀) e9 ?_ (fun h10 => ?_)
        · apply State.arbitrate_keeps
          exact h8
        clear e9
        apply State.dispatch_keeps
        exact h10
      · rename_i e11 _
        refine keeps_of_snd (s₀ := s₀) e11 ?_ (fun h12 => ?_)
        · apply State.arbitrate_keeps
          exact h8
        clear e11
        assumption
    · exact h5

theorem State.decideSmall_keeps {s : State} (h : Keeps s₀ s) : Keeps s₀ (State.decideSmall s) := by
  unfold State.decideSmall
  split
  · split
    · rename_i e1
      refine keeps_of_snd (s₀ := s₀) e1 ?_ (fun h2 => ?_)
      · apply State.arbitrate_keeps
        apply State.setLevel_keeps
        exact h
      clear e1
      apply State.dispatch_keeps
      exact h2
    · rename_i e3
      refine keeps_of_snd (s₀ := s₀) e3 ?_ (fun h4 => ?_)
      · apply State.arbitrate_keeps
        apply State.setLevel_keeps
        exact h
      clear e3
      exact h4
  · exact h

theorem dispatchDecision_keeps {s : State} (h : Keeps s₀ s) : Keeps s₀ (dispatchDecision s) := by
  unfold dispatchDecision
  extract_lets +onlyGivenNames y1
  have h2 : Keeps s₀ y1 := by
    dsimp -zeta only [y1]
    apply State.applyCores_keeps
    exact h
  extract_lets +onlyGivenNames y3
  have h4 : Keeps s₀ y3 := by
    dsimp -zeta only [y3]
    refine keeps_ite ?_ ?_
    · apply State.syncWsch_keeps
      apply State.complete_keeps
      apply State.setReg_keeps
      exact h2
    · exact h2
  refine keeps_ite ?_ ?_
  · exact h4
  · refine keeps_ite ?_ ?_
    · apply State.decideSmall_keeps
      exact h4
    · apply State.decideLarge_keeps
      exact h4

theorem execDispatchDecision_keeps {s t : State} (e : (execDispatchDecision s) = .next t) : Keeps s t := by
  unfold execDispatchDecision at e
  refine keeps_goesTo e ?_
  have h := keeps_refl s
  clear e
  apply State.alive_keeps
  · exact h
  · apply dispatchDecision_keeps
    exact h

theorem wschDoneWrite_keeps {s : State} (x1) (h : Keeps s₀ s) : Keeps s₀ (wschDoneWrite x1 s) := by
  unfold wschDoneWrite
  apply State.access_keeps
  · exact h
  · intro s1
    intro h2
    split
    · refine keeps_ite ?_ ?_
      · extract_lets +onlyGivenNames y3
        extract_lets +onlyGivenNames y4
        have h5 : Keeps s₀ y4 := by
          dsimp -zeta only [y4]
          refine keeps_mk (s := s1) ?_ rfl
          exact h2
        apply State.applyCores_keeps
        apply State.setReg_keeps
        exact h5
      · exact h2
    · exact h2

theorem execWschDoneWrite_keeps {s t : State} (x1) (e : (execWschDoneWrite x1 s) = .next t) : Keeps s t := by
  unfold execWschDoneWrite at e
  refine keeps_goesTo e ?_
  have h := keeps_refl s
  clear e
  apply wschDoneWrite_keeps
  exact h

theorem wschCancelWrite_keeps {s : State} (x1) (x2) (h : Keeps s₀ s) : Keeps s₀ (wschCancelWrite x1 x2 s) := by
  unfold wschCancelWrite
  apply State.access_keeps
  · exact h
  · intro s1
    intro h2
    extract_lets +onlyGivenNames y3
    extract_lets +onlyGivenNames y4
    extract_lets +onlyGivenNames y5
    extract_lets +onlyGivenNames y6
    split
    · extract_lets +onlyGivenNames y7
      extract_lets +onlyGivenNames y8
      extract_lets +onlyGivenNames y9
      extract_lets +onlyGivenNames y10
      have h11 : Keeps s₀ y10 := by
        dsimp -zeta only [y10]
        apply State.queServe_keeps
        apply State.setQueue_keeps
        apply State.inc_keeps
        exact h2
      dsimp -zeta only [y5]
      apply State.setPreg_keeps
      apply State.trace_keeps
      apply State.inc_keeps
      exact h11
    · refine keeps_ite ?_ ?_
      · dsimp -zeta only [y5]
        apply State.setPreg_keeps
        exact h2
      · dsimp -zeta only [y5]
        apply State.setPreg_keeps
        exact h2

theorem execWschCancelWrite_keeps {s t : State} (x1) (x2) (e : (execWschCancelWrite x1 x2 s) = .next t) : Keeps s t := by
  unfold execWschCancelWrite at e
  refine keeps_goesTo e ?_
  have h := keeps_refl s
  clear e
  apply wschCancelWrite_keeps
  exact h

theorem coreRetirement_keeps {s : State} (x1) (h : Keeps s₀ s) : Keeps s₀ (coreRetirement x1 s) := by
  unfold coreRetirement
  refine keeps_ite ?_ ?_
  · extract_lets +onlyGivenNames y1
    have h2 : Keeps s₀ y1 := by
      dsimp -zeta only [y1]
      apply State.setCoreAct_keeps
      exact h
    extract_lets +onlyGivenNames y3
    have h4 : Keeps s₀ y3 := by
      dsimp -zeta only [y3]
      refine keeps_foldl ?_ ?_
      · exact h2
      · intro s5
        intro x6
        intro h7
        refine keeps_ite ?_ ?_
        · apply State.setAffinity_keeps
          exact h7
        · exact h7
    extract_lets +onlyGivenNames y8
    extract_lets +onlyGivenNames y9
    have h10 : Keeps s₀ y9 := by
      dsimp -zeta only [y9]
      refine keeps_mk (s := y3) ?_ rfl
      exact h4
    extract_lets +onlyGivenNames y11
    have h12 : Keeps s₀ y11 := by
      dsimp -zeta only [y11]
      apply State.setReg_keeps
      exact h10
    extract_lets +onlyGivenNames y13
    have h14 : Keeps s₀ y13 := by
      dsimp -zeta only [y13]
      split
      · extract_lets +onlyGivenNames y15
        have h16 : Keeps s₀ y15 := by
          dsimp -zeta only [y15]
          apply State.setReg_keeps
          exact h12
        apply State.trace_keeps
        apply State.raiseEvt_keeps
        apply State.inc_keeps
        exact h16
      · dsimp -zeta only [y3]
        refine keeps_foldl ?_ ?_
        · exact h2
        · intro s17
          intro x18
          intro h19
          refine keeps_ite ?_ ?_
          · apply State.setAffinity_keeps
            exact h19
          · exact h19
    apply State.applyCores_keeps
    exact h14
  · exact h

theorem execCoreRetirement_keeps {s t : State} (x1) (e : (execCoreRetirement x1 s) = .next t) : Keeps s t := by
  unfold execCoreRetirement at e
  refine keeps_goesTo e ?_
  have h := keeps_refl s
  clear e
  apply State.alive_keeps
  · exact h
  · apply coreRetirement_keeps
    exact h

theorem wschApplyCfg_keeps {s : State} (x1) (x2) (h : Keeps s₀ s) : Keeps s₀ (wschApplyCfg x1 x2 s) := by
  unfold wschApplyCfg
  apply State.command_keeps
  · exact h
  · intro s1
    intro h2
    apply State.syncWsch_keeps
    exact h2

theorem execWschApplyCfg_keeps {s t : State} (x1) (x2) (e : (execWschApplyCfg x1 x2 s) = .next t) : Keeps s t := by
  unfold execWschApplyCfg at e
  refine keeps_goesTo e ?_
  have h := keeps_refl s
  clear e
  apply wschApplyCfg_keeps
  exact h

theorem wschAbort_keeps {s : State} (x1) (x2) (h : Keeps s₀ s) : Keeps s₀ (wschAbort x1 x2 s) := by
  unfold wschAbort
  apply State.abort_keeps
  · exact h
  · intro x1
    intro s2
    intro h3
    apply State.syncWsch_keeps
    exact h3

theorem execWschAbort_keeps {s t : State} (x1) (x2) (e : (execWschAbort x1 x2 s) = .next t) : Keeps s t := by
  unfold execWschAbort at e
  refine keeps_goesTo e ?_
  have h := keeps_refl s
  clear e
  apply wschAbort_keeps
  exact h

theorem State.wschClearStats_keeps {s : State} (h : Keeps s₀ s) : Keeps s₀ (State.wschClearStats s) := by
  unfold State.wschClearStats
  apply State.zeroRegs_keeps
  exact h

theorem queReset_keeps {s : State} (x1) (x2) (h : Keeps s₀ s) : Keeps s₀ (queReset x1 x2 s) := by
  unfold queReset
  extract_lets +onlyGivenNames y1
  apply State.command_keeps
  · exact h
  · intro s2
    intro h3
    extract_lets +onlyGivenNames y4
    have h5 : Keeps s₀ y4 := by
      dsimp -zeta only [y4]
      apply State.queUnstall_keeps
      exact h3
    extract_lets +onlyGivenNames y6
    apply State.queServe_keeps
    apply State.complete_keeps
    apply State.setQueue_keeps
    apply State.addSat_keeps
    exact h5

theorem execQueReset_keeps {s t : State} (x1) (x2) (e : (execQueReset x1 x2 s) = .next t) : Keeps s t := by
  unfold execQueReset at e
  refine keeps_goesTo e ?_
  have h := keeps_refl s
  clear e
  apply queReset_keeps
  exact h

theorem queResize_keeps {s : State} (x1) (x2) (h : Keeps s₀ s) : Keeps s₀ (queResize x1 x2 s) := by
  unfold queResize
  extract_lets +onlyGivenNames y1
  extract_lets +onlyGivenNames y2
  extract_lets +onlyGivenNames y3
  extract_lets +onlyGivenNames y4
  extract_lets +onlyGivenNames y5
  apply State.command_keeps
  · exact h
  · intro s6
    intro h7
    apply State.orReg_keeps
    apply State.setState_keeps
    exact h7

theorem execQueResize_keeps {s t : State} (x1) (x2) (e : (execQueResize x1 x2 s) = .next t) : Keeps s t := by
  unfold execQueResize at e
  refine keeps_goesTo e ?_
  have h := keeps_refl s
  clear e
  apply queResize_keeps
  exact h

theorem queueResizeComplete_keeps {s : State} (h : Keeps s₀ s) : Keeps s₀ (queueResizeComplete s) := by
  unfold queueResizeComplete
  split
  · extract_lets +onlyGivenNames y1
    extract_lets +onlyGivenNames y2
    refine keeps_ite ?_ ?_
    · extract_lets +onlyGivenNames y3
      extract_lets +onlyGivenNames y4
      have h5 : Keeps s₀ y4 := by
        dsimp -zeta only [y4]
        apply State.setRegs_keeps
        exact h
      apply State.queServe_keeps
      apply State.setQueue_keeps
      apply State.setState_keeps
      apply State.complete_keeps
      exact h5
    · exact h
  · exact h

theorem execQueueResizeComplete_keeps {s t : State} (e : (execQueueResizeComplete s) = .next t) : Keeps s t := by
  unfold execQueueResizeComplete at e
  refine keeps_goesTo e ?_
  have h := keeps_refl s
  clear e
  apply State.alive_keeps
  · exact h
  · apply queueResizeComplete_keeps
    exact h

theorem queAbort_keeps {s : State} (x1) (x2) (h : Keeps s₀ s) : Keeps s₀ (queAbort x1 x2 s) := by
  unfold queAbort
  apply State.abort_keeps
  · exact h
  · intro x1
    intro s2
    intro h3
    extract_lets +onlyGivenNames y4
    have h5 : Keeps s₀ y4 := by
      dsimp -zeta only [y4]
      apply State.setState_keeps
      exact h3
    split
    · apply State.queServe_keeps
      apply State.setQueue_keeps
      exact h5
    · exact h5

theorem execQueAbort_keeps {s t : State} (x1) (x2) (e : (execQueAbort x1 x2 s) = .next t) : Keeps s t := by
  unfold execQueAbort at e
  refine keeps_goesTo e ?_
  have h := keeps_refl s
  clear e
  apply queAbort_keeps
  exact h

theorem State.queClearStats_keeps {s : State} (h : Keeps s₀ s) : Keeps s₀ (State.queClearStats s) := by
  unfold State.queClearStats
  apply State.zeroRegs_keeps
  exact h

theorem State.queCfgChanged_keeps {s : State} (h : Keeps s₀ s) (x2) : Keeps s₀ (State.queCfgChanged s x2) := by
  unfold State.queCfgChanged
  refine keeps_ite ?_ ?_
  · exact h
  · apply State.queUnstall_keeps
    exact h

theorem State.schedWarm_keeps {s : State} (h : Keeps s₀ s) : Keeps s₀ (State.schedWarm s) := by
  unfold State.schedWarm
  extract_lets +onlyGivenNames y1
  extract_lets +onlyGivenNames y2
  have h3 : Keeps s₀ y2 := by
    dsimp -zeta only [y2]
    refine keeps_mk (s := s) ?_ rfl
    exact h
  extract_lets +onlyGivenNames y4
  have h5 : Keeps s₀ y4 := by
    dsimp -zeta only [y4]
    apply State.setReg_keeps
    exact h3
  extract_lets +onlyGivenNames y6
  have h7 : Keeps s₀ y6 := by
    dsimp -zeta only [y6]
    refine keeps_foldl ?_ ?_
    · exact h5
    · intro s8
      intro x9
      intro h10
      apply State.setReg_keeps
      exact h10
  extract_lets +onlyGivenNames y11
  have h12 : Keeps s₀ y11 := by
    dsimp -zeta only [y11]
    refine keeps_foldl ?_ ?_
    · exact h7
    · intro s13
      intro x14
      intro h15
      apply State.setReg_keeps
      exact h15
  extract_lets +onlyGivenNames y16
  have h17 : Keeps s₀ y16 := by
    dsimp -zeta only [y16]
    refine keeps_foldl ?_ ?_
    · exact h12
    · intro s18
      intro x19
      intro h20
      refine keeps_ite ?_ ?_
      · exact h20
      · extract_lets +onlyGivenNames y21
        apply State.setQueue_keeps
        apply State.addSat_keeps
        exact h20
  apply State.syncWsch_keeps
  exact h17

theorem State.tbEvt_keeps {s : State} (h : Keeps s₀ s) (x2) : Keeps s₀ (State.tbEvt s x2) := by
  unfold State.tbEvt
  apply State.raiseEvt_keeps
  exact h

theorem State.loadTime_keeps {s : State} (h : Keeps s₀ s) (x2) : Keeps s₀ (State.loadTime s x2) := by
  unfold State.loadTime
  extract_lets +onlyGivenNames y1
  extract_lets +onlyGivenNames y2
  extract_lets +onlyGivenNames y3
  have h4 : Keeps s₀ y3 := by
    dsimp -zeta only [y3]
    apply State.setTime_keeps
    exact h
  extract_lets +onlyGivenNames y5
  refine keeps_mk (s := y3) ?_ rfl
  exact h4

theorem State.tbRefuse_keeps {s : State} (h : Keeps s₀ s) (x2) : Keeps s₀ (State.tbRefuse s x2) := by
  unfold State.tbRefuse
  extract_lets +onlyGivenNames y1
  extract_lets +onlyGivenNames y2
  extract_lets +onlyGivenNames y3
  have h4 : Keeps s₀ y3 := by
    dsimp -zeta only [y3]
    refine keeps_mk (s := s) ?_ rfl
    exact h
  apply State.tbEvt_keeps
  apply State.orReg_keeps
  apply State.setReg_keeps
  apply State.inc_keeps
  exact h4

theorem State.tbAtT0_keeps {s : State} (h : Keeps s₀ s) : Keeps s₀ (State.tbAtT0 s) := by
  unfold State.tbAtT0
  refine keeps_ite ?_ ?_
  · exact h
  · extract_lets +onlyGivenNames y1
    extract_lets +onlyGivenNames y2
    have h3 : Keeps s₀ y2 := by
      dsimp -zeta only [y2]
      refine keeps_mk (s := s) ?_ rfl
      exact h
    refine keeps_ite ?_ ?_
    · apply State.setReg_keeps
      exact h3
    · exact h3

theorem tbSet_keeps {s : State} (x1) (x2) (h : Keeps s₀ s) : Keeps s₀ (tbSet x1 x2 s) := by
  unfold tbSet
  extract_lets +onlyGivenNames y1
  extract_lets +onlyGivenNames y2
  apply State.command_keeps
  · exact h
  · intro s3
    intro h4
    extract_lets +onlyGivenNames y5
    apply State.tbEvt_keeps
    apply State.loadTime_keeps
    apply State.setRemain_keeps
    exact h4

theorem execTbSet_keeps {s t : State} (x1) (x2) (e : (execTbSet x1 x2 s) = .next t) : Keeps s t := by
  unfold execTbSet at e
  refine keeps_goesTo e ?_
  have h := keeps_refl s
  clear e
  apply tbSet_keeps
  exact h

theorem tbAdj_keeps {s : State} (x1) (x2) (h : Keeps s₀ s) : Keeps s₀ (tbAdj x1 x2 s) := by
  unfold tbAdj
  extract_lets +onlyGivenNames y1
  apply State.command_keeps
  · exact h
  · intro s2
    intro h3
    extract_lets +onlyGivenNames y4
    refine keeps_ite ?_ ?_
    · apply State.tbRefuse_keeps
      exact h3
    · apply State.setRemain_keeps
      exact h3

theorem execTbAdj_keeps {s t : State} (x1) (x2) (e : (execTbAdj x1 x2 s) = .next t) : Keeps s t := by
  unfold execTbAdj at e
  refine keeps_goesTo e ?_
  have h := keeps_refl s
  clear e
  apply tbAdj_keeps
  exact h

theorem tbSnapCal_keeps {s : State} (x1) (x2) (h : Keeps s₀ s) : Keeps s₀ (tbSnapCal x1 x2 s) := by
  unfold tbSnapCal
  apply State.command_keeps
  · exact h
  · intro s1
    intro h2
    apply State.setState_keeps
    exact h2

theorem execTbSnapCal_keeps {s t : State} (x1) (x2) (e : (execTbSnapCal x1 x2 s) = .next t) : Keeps s t := by
  unfold execTbSnapCal at e
  refine keeps_goesTo e ?_
  have h := keeps_refl s
  clear e
  apply tbSnapCal_keeps
  exact h

theorem State.tbIdle_keeps {s : State} (h : Keeps s₀ s) : Keeps s₀ (State.tbIdle s) := by
  unfold State.tbIdle
  apply State.setState_keeps
  exact h

theorem snapCapture_keeps {s : State} (h : Keeps s₀ s) : Keeps s₀ (snapCapture s) := by
  unfold snapCapture
  refine keeps_ite ?_ ?_
  · extract_lets +onlyGivenNames y1
    have h2 : Keeps s₀ y1 := by
      dsimp -zeta only [y1]
      apply State.setRegs_keeps
      exact h
    apply State.tbEvt_keeps
    apply State.tbIdle_keeps
    apply State.complete_keeps
    exact h2
  · exact h

theorem execSnapCapture_keeps {s t : State} (e : (execSnapCapture s) = .next t) : Keeps s t := by
  unfold execSnapCapture at e
  refine keeps_goesTo e ?_
  have h := keeps_refl s
  clear e
  apply State.alive_keeps
  · exact h
  · apply snapCapture_keeps
    exact h

theorem tbAbort_keeps {s : State} (x1) (x2) (h : Keeps s₀ s) : Keeps s₀ (tbAbort x1 x2 s) := by
  unfold tbAbort
  apply State.abort_keeps
  · exact h
  · intro x1
    intro s2
    intro h3
    apply State.tbIdle_keeps
    apply State.setRemain_keeps
    exact h3

theorem execTbAbort_keeps {s t : State} (x1) (x2) (e : (execTbAbort x1 x2 s) = .next t) : Keeps s t := by
  unfold execTbAbort at e
  refine keeps_goesTo e ?_
  have h := keeps_refl s
  clear e
  apply tbAbort_keeps
  exact h

theorem tbWrap_keeps {s : State} (h : Keeps s₀ s) : Keeps s₀ (tbWrap s) := by
  unfold tbWrap
  extract_lets +onlyGivenNames y1
  refine keeps_ite ?_ ?_
  · apply State.advanceTo_keeps
    exact h
  · exact h

theorem execTbWrap_keeps {s t : State} (e : (execTbWrap s) = .next t) : Keeps s t := by
  unfold execTbWrap at e
  refine keeps_goesTo e ?_
  have h := keeps_refl s
  clear e
  apply State.alive_keeps
  · exact h
  · apply tbWrap_keeps
    exact h

theorem slewComplete_keeps {s : State} (h : Keeps s₀ s) : Keeps s₀ (slewComplete s) := by
  unfold slewComplete
  extract_lets +onlyGivenNames y1
  extract_lets +onlyGivenNames y2
  extract_lets +onlyGivenNames y3
  refine keeps_ite ?_ ?_
  · apply State.setRemain_keeps
    apply State.moveTime_keeps
    exact h
  · exact h

theorem execSlewComplete_keeps {s t : State} (e : (execSlewComplete s) = .next t) : Keeps s t := by
  unfold execSlewComplete at e
  refine keeps_goesTo e ?_
  have h := keeps_refl s
  clear e
  apply State.alive_keeps
  · exact h
  · apply slewComplete_keeps
    exact h

theorem tbTimeRead_keeps {s : State} (x1) (h : Keeps s₀ s) : Keeps s₀ (tbTimeRead x1 s) := by
  unfold tbTimeRead
  apply State.access_keeps
  · exact h
  · intro s1
    intro h2
    extract_lets +onlyGivenNames y3
    apply State.answer_keeps
    apply State.latch_keeps
    apply State.latch_keeps
    exact h2

theorem execTbTimeRead_keeps {s t : State} (x1) (e : (execTbTimeRead x1 s) = .next t) : Keeps s t := by
  unfold execTbTimeRead at e
  refine keeps_goesTo e ?_
  have h := keeps_refl s
  clear e
  apply tbTimeRead_keeps
  exact h

theorem State.tbClearStats_keeps {s : State} (h : Keeps s₀ s) : Keeps s₀ (State.tbClearStats s) := by
  unfold State.tbClearStats
  apply State.zeroRegs_keeps
  exact h

theorem State.servo_keeps {s : State} (h : Keeps s₀ s) (x2) : Keeps s₀ (State.servo s x2) := by
  unfold State.servo
  refine keeps_ite ?_ ?_
  · extract_lets +onlyGivenNames y1
    extract_lets +onlyGivenNames y2
    extract_lets +onlyGivenNames y3
    extract_lets +onlyGivenNames y4
    have h5 : Keeps s₀ y4 := by
      dsimp -zeta only [y4]
      apply State.setReg_keeps
      apply State.setRemain_keeps
      exact h
    refine keeps_ite ?_ ?_
    · apply State.tbEvt_keeps
      exact h5
    · exact h5
  · exact h

theorem State.eraCheck_keeps {s : State} (h : Keeps s₀ s) (x2) (x3) (x4) : Keeps s₀ (State.eraCheck s x2 x3 x4) := by
  unfold State.eraCheck
  extract_lets +onlyGivenNames y1
  extract_lets +onlyGivenNames y2
  refine keeps_ite ?_ ?_
  · exact h
  · extract_lets +onlyGivenNames y3
    apply State.tbEvt_keeps
    apply State.loadTime_keeps
    exact h

theorem State.setEth_keeps {s : State} (h : Keeps s₀ s) (x2) (x3) : Keeps s₀ (State.setEth s x2 x3) := by
  unfold State.setEth
  refine keeps_mk (s := s) ?_ rfl
  exact h

theorem State.ethEvt_keeps {s : State} (h : Keeps s₀ s) (x2) (x3) : Keeps s₀ (State.ethEvt s x2 x3) := by
  unfold State.ethEvt
  apply State.raiseEvt_keeps
  exact h

theorem State.setEthSt_keeps {s : State} (h : Keeps s₀ s) (x2) (x3) : Keeps s₀ (State.setEthSt s x2 x3) := by
  unfold State.setEthSt
  apply State.setState_keeps
  exact h

theorem State.ethSettle_keeps {s : State} (h : Keeps s₀ s) (x2) : Keeps s₀ (State.ethSettle s x2) := by
  unfold State.ethSettle
  refine keeps_ite ?_ ?_
  · apply State.complete_keeps
    apply State.setEthSt_keeps
    exact h
  · exact h

theorem ethStart_keeps {s : State} (x1) (x2) (x3) (h : Keeps s₀ s) : Keeps s₀ (ethStart x1 x2 x3 s) := by
  unfold ethStart
  extract_lets +onlyGivenNames y1
  have h2 : Keeps s₀ y1 := by
    dsimp -zeta only [y1]
    apply State.ethSettle_keeps
    exact h
  apply State.command_keeps
  · exact h2
  · intro s3
    intro h4
    apply State.setEthSt_keeps
    exact h4

theorem execEthStart_keeps {s t : State} (x1) (x2) (x3) (e : (execEthStart x1 x2 x3 s) = .next t) : Keeps s t := by
  unfold execEthStart at e
  refine keeps_goesTo e ?_
  have h := keeps_refl s
  clear e
  apply ethStart_keeps
  exact h

theorem ethStop_keeps {s : State} (x1) (x2) (x3) (h : Keeps s₀ s) : Keeps s₀ (ethStop x1 x2 x3 s) := by
  unfold ethStop
  extract_lets +onlyGivenNames y1
  have h2 : Keeps s₀ y1 := by
    dsimp -zeta only [y1]
    apply State.ethSettle_keeps
    exact h
  apply State.command_keeps
  · exact h2
  · intro s3
    intro h4
    apply State.ethSettle_keeps
    exact h4

theorem execEthStop_keeps {s t : State} (x1) (x2) (x3) (e : (execEthStop x1 x2 x3 s) = .next t) : Keeps s t := by
  unfold execEthStop at e
  refine keeps_goesTo e ?_
  have h := keeps_refl s
  clear e
  apply ethStop_keeps
  exact h

theorem ethMdio_keeps {s : State} (x1) (x2) (x3) (h : Keeps s₀ s) : Keeps s₀ (ethMdio x1 x2 x3 s) := by
  unfold ethMdio
  extract_lets +onlyGivenNames y1
  have h2 : Keeps s₀ y1 := by
    dsimp -zeta only [y1]
    apply State.ethSettle_keeps
    exact h
  apply State.command_keeps
  · exact h2
  · intro s3
    intro h4
    exact h4

theorem execEthMdio_keeps {s t : State} (x1) (x2) (x3) (e : (execEthMdio x1 x2 x3 s) = .next t) : Keeps s t := by
  unfold execEthMdio at e
  refine keeps_goesTo e ?_
  have h := keeps_refl s
  clear e
  apply ethMdio_keeps
  exact h

theorem ethMdioDone_keeps {s : State} (x1) (x2) (h : Keeps s₀ s) : Keeps s₀ (ethMdioDone x1 x2 s) := by
  unfold ethMdioDone
  refine keeps_ite ?_ ?_
  · extract_lets +onlyGivenNames y1
    have h2 : Keeps s₀ y1 := by
      dsimp -zeta only [y1]
      refine keeps_ite ?_ ?_
      · apply State.setReg_keeps
        exact h
      · exact h
    apply State.ethEvt_keeps
    apply State.complete_keeps
    exact h2
  · exact h

theorem execEthMdioDone_keeps {s t : State} (x1) (x2) (e : (execEthMdioDone x1 x2 s) = .next t) : Keeps s t := by
  unfold execEthMdioDone at e
  refine keeps_goesTo e ?_
  have h := keeps_refl s
  clear e
  apply State.alive_keeps
  · exact h
  · apply ethMdioDone_keeps
    exact h

theorem State.ethClearStats_keeps {s : State} (h : Keeps s₀ s) (x2) : Keeps s₀ (State.ethClearStats s x2) := by
  unfold State.ethClearStats
  apply State.zeroRegs_keeps
  exact h

theorem ethLinkChange_keeps {s : State} (x1) (x2) (x3) (h : Keeps s₀ s) : Keeps s₀ (ethLinkChange x1 x2 x3 s) := by
  unfold ethLinkChange
  extract_lets +onlyGivenNames y1
  extract_lets +onlyGivenNames y2
  refine keeps_ite ?_ ?_
  · exact h
  · apply State.ethEvt_keeps
    apply State.setState_keeps
    exact h

theorem execEthLinkChange_keeps {s t : State} (x1) (x2) (x3) (e : (execEthLinkChange x1 x2 x3 s) = .next t) : Keeps s t := by
  unfold execEthLinkChange at e
  refine keeps_goesTo e ?_
  have h := keeps_refl s
  clear e
  apply State.alive_keeps
  · exact h
  · apply ethLinkChange_keeps
    exact h

theorem State.ringPass_keeps {s : State} (h : Keeps s₀ s) (x2) : Keeps s₀ (State.ringPass s x2) := by
  unfold State.ringPass
  extract_lets +onlyGivenNames y1
  apply State.setReg_keeps
  apply State.setWord_keeps
  exact h

theorem State.ethStopQueues_keeps {s : State} (h : Keeps s₀ s) (x2) (x3) : Keeps s₀ (State.ethStopQueues s x2 x3) := by
  unfold State.ethStopQueues
  extract_lets +onlyGivenNames y1
  extract_lets +onlyGivenNames y2
  refine keeps_ite ?_ ?_
  · apply State.setEth_keeps
    exact h
  · apply State.setEth_keeps
    exact h

theorem tailWrite_keeps {s : State} (x1) (x2) (x3) (x4) (x5) (h : Keeps s₀ s) : Keeps s₀ (tailWrite x1 x2 x3 x4 x5 s) := by
  unfold tailWrite
  extract_lets +onlyGivenNames y1
  apply State.access_keeps
  · exact h
  · intro s2
    intro h3
    extract_lets +onlyGivenNames y4
    extract_lets +onlyGivenNames y5
    have h6 : Keeps s₀ y5 := by
      dsimp -zeta only [y5]
      apply State.setReg_keeps
      exact h3
    refine keeps_ite ?_ ?_
    · apply State.setEth_keeps
      exact h6
    · apply State.setEth_keeps
      exact h6

theorem execTxtailWrite_keeps {s t : State} (x1) (x2) (x3) (x4) (e : (execTxtailWrite x1 x2 x3 x4 s) = .next t) : Keeps s t := by
  unfold execTxtailWrite at e
  refine keeps_goesTo e ?_
  have h := keeps_refl s
  clear e
  apply tailWrite_keeps
  exact h

theorem execRxtailWrite_keeps {s t : State} (x1) (x2) (x3) (x4) (e : (execRxtailWrite x1 x2 x3 x4 s) = .next t) : Keeps s t := by
  unfold execRxtailWrite at e
  refine keeps_goesTo e ?_
  have h := keeps_refl s
  clear e
  apply tailWrite_keeps
  exact h

theorem State.txDone_keeps {s : State} (h : Keeps s₀ s) (x2) (x3) (x4) : Keeps s₀ (State.txDone s x2 x3 x4) := by
  unfold State.txDone
  extract_lets +onlyGivenNames y1
  extract_lets +onlyGivenNames y2
  have h3 : Keeps s₀ y2 := by
    dsimp -zeta only [y2]
    apply State.ringPass_keeps
    apply State.setWord_keeps
    exact h
  apply State.ethEvt_keeps
  exact h3

theorem State.txSend_keeps {s : State} (h : Keeps s₀ s) (x2) (x3) (x4) (x5) : Keeps s₀ (State.txSend s x2 x3 x4 x5) := by
  unfold State.txSend
  extract_lets +onlyGivenNames y1
  extract_lets +onlyGivenNames y2
  refine keeps_ite ?_ ?_
  · apply State.ethEvt_keeps
    apply State.txDone_keeps
    exact h
  · refine keeps_ite ?_ ?_
    · apply State.ethEvt_keeps
      apply State.txDone_keeps
      exact h
    · extract_lets +onlyGivenNames y3
      extract_lets +onlyGivenNames y4
      extract_lets +onlyGivenNames y5
      extract_lets +onlyGivenNames y6
      have h7 : Keeps s₀ y6 := by
        dsimp -zeta only [y6]
        apply State.setEth_keeps
        exact h
      extract_lets +onlyGivenNames y8
      have h9 : Keeps s₀ y8 := by
        dsimp -zeta only [y8]
        refine keeps_ite ?_ ?_
        · apply State.setWord_keeps
          exact h7
        · exact h7
      extract_lets +onlyGivenNames y10
      have h11 : Keeps s₀ y10 := by
        dsimp -zeta only [y10]
        apply State.inc_keeps
        exact h9
      extract_lets +onlyGivenNames y12
      have h13 : Keeps s₀ y12 := by
        dsimp -zeta only [y12]
        refine keeps_ite ?_ ?_
        · apply State.ethEvt_keeps
          apply State.inc_keeps
          exact h11
        · exact h11
      apply State.txDone_keeps
      exact h13

theorem ethFrameTransmit_keeps {s : State} (x1) (x2) (h : Keeps s₀ s) : Keeps s₀ (ethFrameTransmit x1 x2 s) := by
  unfold ethFrameTransmit
  extract_lets +onlyGivenNames y1
  have h2 : Keeps s₀ y1 := by
    dsimp -zeta only [y1]
    apply State.ethStopQueues_keeps
    apply State.ethSettle_keeps
    exact h
  split
  · refine keeps_ite ?_ ?_
    · apply State.txSend_keeps
      exact h2
    · exact h2
  · exact h2

theorem execEthFrameTransmit_keeps {s t : State} (x1) (x2) (e : (execEthFrameTransmit x1 x2 s) = .next t) : Keeps s t := by
  unfold execEthFrameTransmit at e
  refine keeps_goesTo e ?_
  have h := keeps_refl s
  clear e
  apply State.alive_keeps
  · exact h
  · apply ethFrameTransmit_keeps
    exact h

theorem launchTime_keeps {s : State} (x1) (x2) (h : Keeps s₀ s) : Keeps s₀ (launchTime x1 x2 s) := by
  unfold launchTime
  extract_lets +onlyGivenNames y1
  have h2 : Keeps s₀ y1 := by
    dsimp -zeta only [y1]
    apply State.ethStopQueues_keeps
    apply State.ethSettle_keeps
    exact h
  split
  · exact h2
  · extract_lets +onlyGivenNames y3
    extract_lets +onlyGivenNames y4
    extract_lets +onlyGivenNames y5
    extract_lets +onlyGivenNames y6
    refine keeps_ite ?_ ?_
    · exact h2
    · extract_lets +onlyGivenNames y7
      extract_lets +onlyGivenNames y8
      have h9 : Keeps s₀ y8 := by
        dsimp -zeta only [y8]
        apply State.advanceTo_keeps
        exact h2
      refine keeps_ite ?_ ?_
      · apply State.txSend_keeps
        exact h9
      · refine keeps_ite ?_ ?_
        · apply State.txSend_keeps
          exact h9
        · apply State.txDone_keeps
          apply State.ethEvt_keeps
          apply State.inc_keeps
          exact h9

theorem execLaunchTime_keeps {s t : State} (x1) (x2) (e : (execLaunchTime x1 x2 s) = .next t) : Keeps s t := by
  unfold execLaunchTime at e
  refine keeps_goesTo e ?_
  have h := keeps_refl s
  clear e
  apply State.alive_keeps
  · exact h
  · apply launchTime_keeps
    exact h

theorem ethFlush_keeps {s : State} (x1) (x2) (x3) (h : Keeps s₀ s) : Keeps s₀ (ethFlush x1 x2 x3 s) := by
  induction x3 generalizing s x1 x2
  · unfold ethFlush
    exact h
  · rename_i n0 ih
    unfold ethFlush
    refine keeps_ite ?_ ?_
    · apply ih
      apply State.txDone_keeps
      exact h
    · exact h

theorem ethAbort_keeps {s : State} (x1) (x2) (x3) (h : Keeps s₀ s) : Keeps s₀ (ethAbort x1 x2 x3 s) := by
  unfold ethAbort
  apply State.abort_keeps
  · apply State.ethSettle_keeps
    exact h
  · intro x1
    intro s2
    intro h3
    refine keeps_foldl ?_ ?_
    · exact h3
    · intro s4
      intro x5
      intro h6
      extract_lets +onlyGivenNames y7
      apply ethFlush_keeps
      apply State.setReg_keeps
      exact h6

theorem execEthAbort_keeps {s t : State} (x1) (x2) (x3) (e : (execEthAbort x1 x2 x3 s) = .next t) : Keeps s t := by
  unfold execEthAbort at e
  refine keeps_goesTo e ?_
  have h := keeps_refl s
  clear e
  apply ethAbort_keeps
  exact h

theorem ethFrameReceive_keeps {s : State} (x1) (x2) (x3) (h : Keeps s₀ s) : Keeps s₀ (ethFrameReceive x1 x2 x3 s) := by
  unfold ethFrameReceive
  extract_lets +onlyGivenNames y1
  have h2 : Keeps s₀ y1 := by
    dsimp -zeta only [y1]
    apply State.ethSettle_keeps
    exact h
  extract_lets +onlyGivenNames y3
  extract_lets +onlyGivenNames y4
  refine keeps_ite ?_ ?_
  · exact h2
  · refine keeps_ite ?_ ?_
    · apply State.inc_keeps
      exact h2
    · refine keeps_ite ?_ ?_
      · apply State.inc_keeps
        exact h2
      · refine keeps_ite ?_ ?_
        · apply State.setEth_keeps
          exact h2
        · refine keeps_ite ?_ ?_
          · exact h2
          · refine keeps_ite ?_ ?_
            · apply State.inc_keeps
              exact h2
            · extract_lets +onlyGivenNames y5
              have h6 : Keeps s₀ y5 := by
                dsimp -zeta only [y5]
                apply State.ethStopQueues_keeps
                exact h2
              extract_lets +onlyGivenNames y7
              extract_lets +onlyGivenNames y8
              extract_lets +onlyGivenNames y9
              extract_lets +onlyGivenNames y10
              extract_lets +onlyGivenNames y11
              refine keeps_ite ?_ ?_
              · apply State.ethEvt_keeps
                apply State.inc_keeps
                exact h6
              · extract_lets +onlyGivenNames y12
                extract_lets +onlyGivenNames y13
                extract_lets +onlyGivenNames y14
                have h15 : Keeps s₀ y14 := by
                  dsimp -zeta only [y14]
                  refine keeps_ite ?_ ?_
                  · apply State.setBytes_keeps
                    exact h6
                  · exact h6
                extract_lets +onlyGivenNames y16
                extract_lets +onlyGivenNames y17
                extract_lets +onlyGivenNames y18
                have h19 : Keeps s₀ y18 := by
                  dsimp -zeta only [y18]
                  apply State.ringPass_keeps
                  apply State.setWord_keeps
                  apply State.setWord_keeps
                  exact h15
                apply State.ethEvt_keeps
                apply State.inc_keeps
                exact h19

theorem execEthFrameReceive_keeps {s t : State} (x1) (x2) (x3) (e : (execEthFrameReceive x1 x2 x3 s) = .next t) : Keeps s t := by
  unfold execEthFrameReceive at e
  refine keeps_goesTo e ?_
  have h := keeps_refl s
  clear e
  apply State.alive_keeps
  · exact h
  · apply ethFrameReceive_keeps
    exact h

theorem State.ethWarm_keeps {s : State} (h : Keeps s₀ s) (x2) : Keeps s₀ (State.ethWarm s x2) := by
  unfold State.ethWarm
  extract_lets +onlyGivenNames y1
  extract_lets +onlyGivenNames y2
  have h3 : Keeps s₀ y2 := by
    dsimp -zeta only [y2]
    apply State.setEth_keeps
    exact h
  refine keeps_foldl ?_ ?_
  · exact h3
  · intro s4
    intro x5
    intro h6
    apply State.setRegs_keeps
    exact h6

theorem State.bootEvt_keeps {s : State} (h : Keeps s₀ s) (x2) : Keeps s₀ (State.bootEvt s x2) := by
  unfold State.bootEvt
  apply State.raiseEvt_keeps
  exact h

theorem byte_of_word (a b c d : Byte) (w : Word) : (((a ++ b ++ c ++ d : BitVec 32) ||| w).extractLsb' 0 8 = d ||| w.extractLsb' 0 8) ∧
  (((a ++ b ++ c ++ d : BitVec 32) ||| w).extractLsb' 8 8 = c ||| w.extractLsb' 8 8) ∧
  (((a ++ b ++ c ++ d : BitVec 32) ||| w).extractLsb' 16 8 = b ||| w.extractLsb' 16 8) ∧
  (((a ++ b ++ c ++ d : BitVec 32) ||| w).extractLsb' 24 8 = a ||| w.extractLsb' 24 8) := by
  refine ⟨?_, ?_, ?_, ?_⟩ <;> apply BitVec.eq_of_getLsbD_eq <;> intro i hi <;>
    simp only [BitVec.getLsbD_extractLsb', BitVec.getLsbD_or, BitVec.getLsbD_append, hi, decide_true, Bool.true_and] <;>
    congr 1 <;> (repeat' split) <;> (first | omega | (congr 1; omega))

theorem and_or_self (x y : Byte) : x &&& (x ||| y) = x := by ext i hi; simp; cases x[i] <;> simp

theorem State.otpOr_keeps {s : State} (h : Keeps s₀ s) (o : Nat) (w : Word) : Keeps s₀ (s.otpOr o w) := by
  refine keeps_trans h ⟨id, rfl, fun a => ?_⟩
  have hw : s.otpWord o = s.otpByte (o + 3) ++ s.otpByte (o + 2) ++ s.otpByte (o + 1) ++ s.otpByte o := rfl
  obtain ⟨e0, e1, e2, e3⟩ := byte_of_word (s.otpByte (o + 3)) (s.otpByte (o + 2)) (s.otpByte (o + 1)) (s.otpByte o) w
  have e : (s.otpOr o w).otpByte a =
      if a = o + 3 then s.otpByte (o + 3) ||| w.extractLsb' 24 8
      else if a = o + 2 then s.otpByte (o + 2) ||| w.extractLsb' 16 8
      else if a = o + 1 then s.otpByte (o + 1) ||| w.extractLsb' 8 8
      else if a = o then s.otpByte o ||| w.extractLsb' 0 8 else s.otpByte a := by
    rw [← e0, ← e1, ← e2, ← e3, ← hw]
    simp only [State.otpOr, State.otpByte, bytesOf, List.flatMap_cons, List.flatMap_nil, List.append_nil, List.zipIdx_cons,
      List.zipIdx_nil, List.foldl_cons, List.foldl_nil, smGet_set, Nat.add_zero, Nat.zero_add]
  rw [e]
  (repeat' split) <;> simp_all [and_or_self]

theorem State.bootTake_keeps {s : State} (h : Keeps s₀ s) : Keeps s₀ (State.bootTake s) := by
  unfold State.bootTake
  apply State.kecTake_keeps
  apply State.xspiTake_keeps
  exact h

theorem State.bootGive_keeps {s : State} (h : Keeps s₀ s) : Keeps s₀ (State.bootGive s) := by
  unfold State.bootGive
  apply State.kecGive_keeps
  apply State.xspiGive_keeps
  exact h

theorem bootVerify_keeps {s : State} (x1) (x2) (h : Keeps s₀ s) : Keeps s₀ (bootVerify x1 x2 s) := by
  unfold bootVerify
  apply State.command_keeps
  · exact h
  · intro s1
    intro h2
    apply State.bootTake_keeps
    apply State.setState_keeps
    exact h2

theorem execBootVerify_keeps {s t : State} (x1) (x2) (e : (execBootVerify x1 x2 s) = .next t) : Keeps s t := by
  unfold execBootVerify at e
  refine keeps_goesTo e ?_
  have h := keeps_refl s
  clear e
  apply bootVerify_keeps
  exact h

theorem State.verifyEnd_keeps {s : State} (h : Keeps s₀ s) (x2) (x3) : Keeps s₀ (State.verifyEnd s x2 x3) := by
  unfold State.verifyEnd
  extract_lets +onlyGivenNames y1
  extract_lets +onlyGivenNames y2
  extract_lets +onlyGivenNames y3
  have h4 : Keeps s₀ y3 := by
    dsimp -zeta only [y3]
    refine keeps_mk (s := s) ?_ rfl
    exact h
  apply State.bootEvt_keeps
  apply State.bootGive_keeps
  apply State.setReg_keeps
  exact h4

theorem verifyDone_keeps {s : State} (x1) (h : Keeps s₀ s) : Keeps s₀ (verifyDone x1 s) := by
  unfold verifyDone
  split
  · refine keeps_ite ?_ ?_
    · apply State.verifyEnd_keeps
      apply State.setState_keeps
      apply State.complete_keeps
      exact h
    · exact h
  · exact h

theorem execVerifyDone_keeps {s t : State} (x1) (e : (execVerifyDone x1 s) = .next t) : Keeps s t := by
  unfold execVerifyDone at e
  refine keeps_goesTo e ?_
  have h := keeps_refl s
  clear e
  apply verifyDone_keeps
  exact h

theorem State.attBegin_keeps {s : State} (h : Keeps s₀ s) : Keeps s₀ (State.attBegin s) := by
  unfold State.attBegin
  refine keeps_mk (s := s) ?_ rfl
  exact h

theorem bootAttest_keeps {s : State} (x1) (x2) (h : Keeps s₀ s) : Keeps s₀ (bootAttest x1 x2 s) := by
  unfold bootAttest
  apply State.command_keeps
  · exact h
  · intro s1
    intro h2
    extract_lets +onlyGivenNames y3
    have h4 : Keeps s₀ y3 := by
      dsimp -zeta only [y3]
      apply State.kecTake_keeps
      apply State.setState_keeps
      exact h2
    refine keeps_ite ?_ ?_
    · apply State.attBegin_keeps
      exact h4
    · exact h4

theorem execBootAttest_keeps {s t : State} (x1) (x2) (e : (execBootAttest x1 x2 s) = .next t) : Keeps s t := by
  unfold execBootAttest at e
  refine keeps_goesTo e ?_
  have h := keeps_refl s
  clear e
  apply bootAttest_keeps
  exact h

theorem attestDone_keeps {s : State} (h : Keeps s₀ s) : Keeps s₀ (attestDone s) := by
  unfold attestDone
  refine keeps_ite ?_ ?_
  · extract_lets +onlyGivenNames y1
    extract_lets +onlyGivenNames y2
    extract_lets +onlyGivenNames y3
    extract_lets +onlyGivenNames y4
    extract_lets +onlyGivenNames y5
    extract_lets +onlyGivenNames y6
    have h7 : Keeps s₀ y6 := by
      dsimp -zeta only [y6]
      apply State.memcWritten_keeps
      apply State.setBytes_keeps
      apply State.setBytes_keeps
      exact h
    apply State.bootEvt_keeps
    apply State.kecGive_keeps
    apply State.setState_keeps
    apply State.complete_keeps
    exact h7
  · exact h

theorem execAttestDone_keeps {s t : State} (e : (execAttestDone s) = .next t) : Keeps s t := by
  unfold execAttestDone at e
  refine keeps_goesTo e ?_
  have h := keeps_refl s
  clear e
  apply attestDone_keeps
  exact h

theorem identityKeyReady_keeps {s : State} (h : Keeps s₀ s) : Keeps s₀ (identityKeyReady s) := by
  unfold identityKeyReady
  extract_lets +onlyGivenNames y1
  refine keeps_ite ?_ ?_
  · exact h
  · extract_lets +onlyGivenNames y2
    extract_lets +onlyGivenNames y3
    have h4 : Keeps s₀ y3 := by
      dsimp -zeta only [y3]
      apply State.setRegs_keeps
      exact h
    refine keeps_ite ?_ ?_
    · apply State.attBegin_keeps
      exact h4
    · exact h4

theorem execIdentityKeyReady_keeps {s t : State} (e : (execIdentityKeyReady s) = .next t) : Keeps s t := by
  unfold execIdentityKeyReady at e
  refine keeps_goesTo e ?_
  have h := keeps_refl s
  clear e
  apply identityKeyReady_keeps
  exact h

theorem State.warmBegin_keeps {s : State} (h : Keeps s₀ s) (x2) (x3) : Keeps s₀ (State.warmBegin s x2 x3) := by
  unfold State.warmBegin
  extract_lets +onlyGivenNames y1
  extract_lets +onlyGivenNames y2
  have h3 : Keeps s₀ y2 := by
    dsimp -zeta only [y2]
    apply State.setReg_keeps
    exact h
  extract_lets +onlyGivenNames y4
  have h5 : Keeps s₀ y4 := by
    dsimp -zeta only [y4]
    apply State.setState_keeps
    apply State.setState_keeps
    exact h3
  extract_lets +onlyGivenNames y6
  have h7 : Keeps s₀ y6 := by
    dsimp -zeta only [y6]
    apply State.hutWarm_keeps
    apply State.schedWarm_keeps
    apply State.ethWarm_keeps
    apply State.ethWarm_keeps
    exact h5
  extract_lets +onlyGivenNames y8
  extract_lets +onlyGivenNames y9
  extract_lets +onlyGivenNames y10
  have h11 : Keeps s₀ y10 := by
    dsimp -zeta only [y10]
    refine keeps_mk (s := y6) ?_ rfl
    exact h7
  apply State.bootTake_keeps
  exact h11

theorem bootWarm_keeps {s : State} (x1) (x2) (h : Keeps s₀ s) : Keeps s₀ (bootWarm x1 x2 s) := by
  unfold bootWarm
  extract_lets +onlyGivenNames y1
  apply State.command_keeps
  · exact h
  · intro s2
    intro h3
    apply State.warmBegin_keeps
    exact h3

theorem execBootWarm_keeps {s t : State} (x1) (x2) (e : (execBootWarm x1 x2 s) = .next t) : Keeps s t := by
  unfold execBootWarm at e
  refine keeps_goesTo e ?_
  have h := keeps_refl s
  clear e
  apply bootWarm_keeps
  exact h

theorem bootCommit_keeps {s : State} (x1) (x2) (h : Keeps s₀ s) : Keeps s₀ (bootCommit x1 x2 s) := by
  unfold bootCommit
  extract_lets +onlyGivenNames y1
  extract_lets +onlyGivenNames y2
  apply State.command_keeps
  · exact h
  · intro s3
    intro h4
    apply State.warmBegin_keeps
    exact h4

theorem execBootCommit_keeps {s t : State} (x1) (x2) (e : (execBootCommit x1 x2 s) = .next t) : Keeps s t := by
  unfold execBootCommit at e
  refine keeps_goesTo e ?_
  have h := keeps_refl s
  clear e
  apply bootCommit_keeps
  exact h

theorem State.wdogWarm_keeps {s : State} (h : Keeps s₀ s) : Keeps s₀ (State.wdogWarm s) := by
  unfold State.wdogWarm
  extract_lets +onlyGivenNames y1
  have h2 : Keeps s₀ y1 := by
    dsimp -zeta only [y1]
    apply State.complete_keeps
    exact h
  extract_lets +onlyGivenNames y3
  have h4 : Keeps s₀ y3 := by
    dsimp -zeta only [y3]
    split
    · refine keeps_ite ?_ ?_
      · apply State.verifyEnd_keeps
        exact h2
      · refine keeps_ite ?_ ?_
        · apply State.kecGive_keeps
          exact h2
        · exact h2
    · assumption
  apply State.warmBegin_keeps
  exact h4

theorem appWatchdogExpiry_keeps {s : State} (h : Keeps s₀ s) : Keeps s₀ (appWatchdogExpiry s) := by
  unfold appWatchdogExpiry
  extract_lets +onlyGivenNames y1
  extract_lets +onlyGivenNames y2
  extract_lets +onlyGivenNames y3
  refine keeps_ite ?_ ?_
  · apply State.wdogWarm_keeps
    apply State.advanceTo_keeps
    exact h
  · exact h

theorem execAppWatchdogExpiry_keeps {s t : State} (e : (execAppWatchdogExpiry s) = .next t) : Keeps s t := by
  unfold execAppWatchdogExpiry at e
  refine keeps_goesTo e ?_
  have h := keeps_refl s
  clear e
  apply appWatchdogExpiry_keeps
  exact h

theorem wdogKick_keeps {s : State} (x1) (h : Keeps s₀ s) : Keeps s₀ (wdogKick x1 s) := by
  unfold wdogKick
  apply State.writeGranted_keeps
  · exact h
  · intro s1
    intro h2
    refine keeps_mk (s := s1) ?_ rfl
    exact h2

theorem execWdogKick_keeps {s t : State} (x1) (e : (execWdogKick x1 s) = .next t) : Keeps s t := by
  unfold execWdogKick at e
  refine keeps_goesTo e ?_
  have h := keeps_refl s
  clear e
  apply wdogKick_keeps
  exact h

theorem bootAbort_keeps {s : State} (x1) (x2) (h : Keeps s₀ s) : Keeps s₀ (bootAbort x1 x2 s) := by
  unfold bootAbort
  extract_lets +onlyGivenNames y1
  apply State.abort_keeps
  · exact h
  · intro x2
    intro s3
    intro h4
    split
    · refine keeps_ite ?_ ?_
      · apply State.verifyEnd_keeps
        apply State.setState_keeps
        exact h4
      · refine keeps_ite ?_ ?_
        · apply State.kecGive_keeps
          apply State.setState_keeps
          exact h4
        · exact h4
    · exact h4

theorem execBootAbort_keeps {s t : State} (x1) (x2) (e : (execBootAbort x1 x2 s) = .next t) : Keeps s t := by
  unfold execBootAbort at e
  refine keeps_goesTo e ?_
  have h := keeps_refl s
  clear e
  apply bootAbort_keeps
  exact h

theorem scProgram_keeps {s : State} (x1) (x2) (x3) (x4) (x5) (h : Keeps s₀ s) : Keeps s₀ (scProgram x1 x2 x3 x4 x5 s) := by
  unfold scProgram
  apply State.command_keeps
  · exact h
  · intro s1
    intro h2
    apply State.setReg_keeps
    exact h2

theorem keyProg_keeps {s : State} (x1) (x2) (h : Keeps s₀ s) : Keeps s₀ (keyProg x1 x2 s) := by
  unfold keyProg
  apply scProgram_keeps
  exact h

theorem execKeyProg_keeps {s t : State} (x1) (x2) (e : (execKeyProg x1 x2 s) = .next t) : Keeps s t := by
  unfold execKeyProg at e
  refine keeps_goesTo e ?_
  have h := keeps_refl s
  clear e
  apply keyProg_keeps
  exact h

theorem keyRevoke_keeps {s : State} (x1) (x2) (h : Keeps s₀ s) : Keeps s₀ (keyRevoke x1 x2 s) := by
  unfold keyRevoke
  apply scProgram_keeps
  exact h

theorem execKeyRevoke_keeps {s t : State} (x1) (x2) (e : (execKeyRevoke x1 x2 s) = .next t) : Keeps s t := by
  unfold execKeyRevoke at e
  refine keeps_goesTo e ?_
  have h := keeps_refl s
  clear e
  apply keyRevoke_keeps
  exact h

theorem rollfwd_keeps {s : State} (x1) (x2) (h : Keeps s₀ s) : Keeps s₀ (rollfwd x1 x2 s) := by
  unfold rollfwd
  extract_lets +onlyGivenNames y1
  extract_lets +onlyGivenNames y2
  apply State.command_keeps
  · exact h
  · intro s3
    intro h4
    refine keeps_ite ?_ ?_
    · apply State.complete_keeps
      exact h4
    · apply State.setReg_keeps
      exact h4

theorem execRollfwd_keeps {s t : State} (x1) (x2) (e : (execRollfwd x1 x2 s) = .next t) : Keeps s t := by
  unfold execRollfwd at e
  refine keeps_goesTo e ?_
  have h := keeps_refl s
  clear e
  apply rollfwd_keeps
  exact h

theorem svcProg_keeps {s : State} (x1) (x2) (h : Keeps s₀ s) : Keeps s₀ (svcProg x1 x2 s) := by
  unfold svcProg
  apply scProgram_keeps
  exact h

theorem execSvcProg_keeps {s t : State} (x1) (x2) (e : (execSvcProg x1 x2 s) = .next t) : Keeps s t := by
  unfold execSvcProg at e
  refine keeps_goesTo e ?_
  have h := keeps_refl s
  clear e
  apply svcProg_keeps
  exact h

theorem otpProg_keeps {s : State} (x1) (x2) (h : Keeps s₀ s) : Keeps s₀ (otpProg x1 x2 s) := by
  unfold otpProg
  apply scProgram_keeps
  exact h

theorem execOtpProg_keeps {s t : State} (x1) (x2) (e : (execOtpProg x1 x2 s) = .next t) : Keeps s t := by
  unfold execOtpProg at e
  refine keeps_goesTo e ?_
  have h := keeps_refl s
  clear e
  apply otpProg_keeps
  exact h

theorem dbgLock_keeps {s : State} (x1) (x2) (h : Keeps s₀ s) : Keeps s₀ (dbgLock x1 x2 s) := by
  unfold dbgLock
  apply scProgram_keeps
  exact h

theorem execDbgLock_keeps {s t : State} (x1) (x2) (e : (execDbgLock x1 x2 s) = .next t) : Keeps s t := by
  unfold execDbgLock at e
  refine keeps_goesTo e ?_
  have h := keeps_refl s
  clear e
  apply dbgLock_keeps
  exact h

theorem dbgOpen_keeps {s : State} (x1) (x2) (h : Keeps s₀ s) : Keeps s₀ (dbgOpen x1 x2 s) := by
  unfold dbgOpen
  apply State.command_keeps
  · exact h
  · intro s1
    intro h2
    refine keeps_mk (s := s1) ?_ rfl
    exact h2

theorem execDbgOpen_keeps {s t : State} (x1) (x2) (e : (execDbgOpen x1 x2 s) = .next t) : Keeps s t := by
  unfold execDbgOpen at e
  refine keeps_goesTo e ?_
  have h := keeps_refl s
  clear e
  apply dbgOpen_keeps
  exact h

theorem otpProgramDone_keeps {s : State} (h : Keeps s₀ s) : Keeps s₀ (otpProgramDone s) := by
  unfold otpProgramDone
  split
  · extract_lets +onlyGivenNames y1
    have h2 : Keeps s₀ y1 := by
      dsimp -zeta only [y1]
      refine keeps_foldl ?_ ?_
      · exact h
      · intro s3
        intro x4
        intro h5
        apply State.otpOr_keeps
        exact h5
    apply State.bootEvt_keeps
    apply State.setReg_keeps
    apply State.complete_keeps
    exact h2
  · exact h

theorem execOtpProgramDone_keeps {s t : State} (e : (execOtpProgramDone s) = .next t) : Keeps s t := by
  unfold execOtpProgramDone at e
  refine keeps_goesTo e ?_
  have h := keeps_refl s
  clear e
  apply otpProgramDone_keeps
  exact h

theorem bootScAbort_keeps {s : State} (x1) (x2) (h : Keeps s₀ s) : Keeps s₀ (bootScAbort x1 x2 s) := by
  unfold bootScAbort
  apply State.abort_keeps
  · exact h
  · intro x1
    intro s2
    intro h3
    split
    · extract_lets +onlyGivenNames y4
      have h5 : Keeps s₀ y4 := by
        dsimp -zeta only [y4]
        refine keeps_foldl ?_ ?_
        · exact h3
        · intro s6
          intro x7
          intro h8
          apply State.otpOr_keeps
          exact h8
      apply State.setReg_keeps
      exact h5
    · exact h3

theorem execBootScAbort_keeps {s t : State} (x1) (x2) (e : (execBootScAbort x1 x2 s) = .next t) : Keeps s t := by
  unfold execBootScAbort at e
  refine keeps_goesTo e ?_
  have h := keeps_refl s
  clear e
  apply bootScAbort_keeps
  exact h

theorem State.canEvt_keeps {s : State} (h : Keeps s₀ s) (x2) (x3) : Keeps s₀ (State.canEvt s x2 x3) := by
  unfold State.canEvt
  apply State.raiseEvt_keeps
  exact h

theorem State.canStat_keeps {s : State} (h : Keeps s₀ s) (x2) (x3) (x4) (x5) : Keeps s₀ (State.canStat s x2 x3 x4 x5) := by
  unfold State.canStat
  apply State.setReg_keeps
  exact h

theorem State.canIntegrate_keeps {s : State} (h : Keeps s₀ s) (x2) : Keeps s₀ (State.canIntegrate s x2) := by
  unfold State.canIntegrate
  extract_lets +onlyGivenNames y1
  apply State.setState_keeps
  refine keeps_mk (s := s) ?_ rfl
  exact h

theorem State.canWithdraw_keeps {s : State} (h : Keeps s₀ s) (x2) (x3) (x4) : Keeps s₀ (State.canWithdraw s x2 x3 x4) := by
  unfold State.canWithdraw
  apply State.canStat_keeps
  apply State.setCanBuf_keeps
  exact h

theorem State.canCfgChanged_keeps {s : State} (h : Keeps s₀ s) (x2) (x3) (x4) (x5) : Keeps s₀ (State.canCfgChanged s x2 x3 x4 x5) := by
  unfold State.canCfgChanged
  refine keeps_ite ?_ ?_
  · exact h
  · refine keeps_ite ?_ ?_
    · exact h
    · refine keeps_ite ?_ ?_
      · apply State.setCanBuf_keeps
        exact h
      · apply State.canWithdraw_keeps
        exact h

theorem State.canSettle_keeps {s : State} (h : Keeps s₀ s) (x2) : Keeps s₀ (State.canSettle s x2) := by
  unfold State.canSettle
  extract_lets +onlyGivenNames y1
  refine keeps_ite ?_ ?_
  · exact h
  · refine keeps_ite ?_ ?_
    · apply State.complete_keeps
      apply State.setState_keeps
      exact h
    · refine keeps_ite ?_ ?_
      · apply State.complete_keeps
        refine keeps_ite ?_ ?_
        · apply State.setState_keeps
          exact h
        · exact h
      · exact h

theorem State.canFrameEnd_keeps {s : State} (h : Keeps s₀ s) (x2) : Keeps s₀ (State.canFrameEnd s x2) := by
  unfold State.canFrameEnd
  extract_lets +onlyGivenNames y1
  extract_lets +onlyGivenNames y2
  have h3 : Keeps s₀ y2 := by
    dsimp -zeta only [y2]
    refine keeps_mk (s := s) ?_ rfl
    exact h
  extract_lets +onlyGivenNames y4
  have h5 : Keeps s₀ y4 := by
    dsimp -zeta only [y4]
    refine keeps_ite ?_ ?_
    · apply State.complete_keeps
      exact h3
    · exact h3
  apply State.canOffer_keeps
  apply State.canSettle_keeps
  exact h5

theorem State.canFails_keeps {s : State} (h : Keeps s₀ s) (x2) (x3) : Keeps s₀ (State.canFails s x2 x3) := by
  unfold State.canFails
  refine keeps_ite ?_ ?_
  · apply State.canWithdraw_keeps
    exact h
  · refine keeps_ite ?_ ?_
    · apply State.canWithdraw_keeps
      exact h
    · exact h

theorem canStart_keeps {s : State} (x1) (x2) (x3) (h : Keeps s₀ s) : Keeps s₀ (canStart x1 x2 x3 s) := by
  unfold canStart
  apply State.command_keeps
  · exact h
  · intro s1
    intro h2
    apply State.canIntegrate_keeps
    exact h2

theorem execCanStart_keeps {s t : State} (x1) (x2) (x3) (e : (execCanStart x1 x2 x3 s) = .next t) : Keeps s t := by
  unfold execCanStart at e
  refine keeps_goesTo e ?_
  have h := keeps_refl s
  clear e
  apply canStart_keeps
  exact h

theorem canStop_keeps {s : State} (x1) (x2) (x3) (h : Keeps s₀ s) : Keeps s₀ (canStop x1 x2 x3 s) := by
  unfold canStop
  apply State.command_keeps
  · exact h
  · intro s1
    intro h2
    apply State.canSettle_keeps
    exact h2

theorem execCanStop_keeps {s t : State} (x1) (x2) (x3) (e : (execCanStop x1 x2 x3 s) = .next t) : Keeps s t := by
  unfold execCanStop at e
  refine keeps_goesTo e ?_
  have h := keeps_refl s
  clear e
  apply canStop_keeps
  exact h

theorem canSleep_keeps {s : State} (x1) (x2) (x3) (h : Keeps s₀ s) : Keeps s₀ (canSleep x1 x2 x3 s) := by
  unfold canSleep
  extract_lets +onlyGivenNames y1
  apply State.command_keeps
  · exact h
  · intro s2
    intro h3
    apply State.canSettle_keeps
    exact h3

theorem execCanSleep_keeps {s t : State} (x1) (x2) (x3) (e : (execCanSleep x1 x2 x3 s) = .next t) : Keeps s t := by
  unfold execCanSleep at e
  refine keeps_goesTo e ?_
  have h := keeps_refl s
  clear e
  apply canSleep_keeps
  exact h

theorem State.canWakes_keeps {s : State} (h : Keeps s₀ s) (x2) : Keeps s₀ (State.canWakes s x2) := by
  unfold State.canWakes
  apply State.canEvt_keeps
  apply State.canIntegrate_keeps
  exact h

theorem canWake_keeps {s : State} (x1) (x2) (x3) (h : Keeps s₀ s) : Keeps s₀ (canWake x1 x2 x3 s) := by
  unfold canWake
  apply State.command_keeps
  · exact h
  · intro s1
    intro h2
    apply State.canWakes_keeps
    exact h2

theorem execCanWake_keeps {s t : State} (x1) (x2) (x3) (e : (execCanWake x1 x2 x3 s) = .next t) : Keeps s t := by
  unfold execCanWake at e
  refine keeps_goesTo e ?_
  have h := keeps_refl s
  clear e
  apply canWake_keeps
  exact h

theorem canRecover_keeps {s : State} (x1) (x2) (x3) (h : Keeps s₀ s) : Keeps s₀ (canRecover x1 x2 x3 s) := by
  unfold canRecover
  apply State.command_keeps
  · exact h
  · intro s1
    intro h2
    apply State.setState_keeps
    exact h2

theorem execCanRecover_keeps {s t : State} (x1) (x2) (x3) (e : (execCanRecover x1 x2 x3 s) = .next t) : Keeps s t := by
  unfold execCanRecover at e
  refine keeps_goesTo e ?_
  have h := keeps_refl s
  clear e
  apply canRecover_keeps
  exact h

theorem canTxreq_keeps {s : State} (x1) (x2) (x3) (h : Keeps s₀ s) : Keeps s₀ (canTxreq x1 x2 x3 s) := by
  unfold canTxreq
  extract_lets +onlyGivenNames y1
  apply State.command_keeps
  · exact h
  · intro s2
    intro h3
    apply State.canRequest_keeps
    exact h3

theorem execCanTxreq_keeps {s t : State} (x1) (x2) (x3) (e : (execCanTxreq x1 x2 x3 s) = .next t) : Keeps s t := by
  unfold execCanTxreq at e
  refine keeps_goesTo e ?_
  have h := keeps_refl s
  clear e
  apply canTxreq_keeps
  exact h

theorem canTxcancel_keeps {s : State} (x1) (x2) (x3) (h : Keeps s₀ s) : Keeps s₀ (canTxcancel x1 x2 x3 s) := by
  unfold canTxcancel
  extract_lets +onlyGivenNames y1
  apply State.command_keeps
  · exact h
  · intro s2
    intro h3
    refine keeps_ite ?_ ?_
    · apply State.setCanBuf_keeps
      exact h3
    · apply State.complete_keeps
      apply State.canWithdraw_keeps
      exact h3

theorem execCanTxcancel_keeps {s t : State} (x1) (x2) (x3) (e : (execCanTxcancel x1 x2 x3 s) = .next t) : Keeps s t := by
  unfold execCanTxcancel at e
  refine keeps_goesTo e ?_
  have h := keeps_refl s
  clear e
  apply canTxcancel_keeps
  exact h

theorem canAbort_keeps {s : State} (x1) (x2) (x3) (h : Keeps s₀ s) : Keeps s₀ (canAbort x1 x2 x3 s) := by
  unfold canAbort
  apply State.abort_keeps
  · exact h
  · intro x1
    intro s2
    intro h3
    refine keeps_foldl ?_ ?_
    · exact h3
    · intro s4
      intro x5
      intro h6
      refine keeps_ite ?_ ?_
      · apply State.setCanBuf_keeps
        exact h6
      · apply State.canWithdraw_keeps
        exact h6

theorem execCanAbort_keeps {s t : State} (x1) (x2) (x3) (e : (execCanAbort x1 x2 x3 s) = .next t) : Keeps s t := by
  unfold execCanAbort at e
  refine keeps_goesTo e ?_
  have h := keeps_refl s
  clear e
  apply canAbort_keeps
  exact h

theorem State.canClearStats_keeps {s : State} (h : Keeps s₀ s) (x2) : Keeps s₀ (State.canClearStats s x2) := by
  unfold State.canClearStats
  apply State.zeroRegs_keeps
  exact h

theorem periodicRequest_keeps {s : State} (x1) (x2) (h : Keeps s₀ s) : Keeps s₀ (periodicRequest x1 x2 s) := by
  unfold periodicRequest
  extract_lets +onlyGivenNames y1
  extract_lets +onlyGivenNames y2
  extract_lets +onlyGivenNames y3
  extract_lets +onlyGivenNames y4
  refine keeps_ite ?_ ?_
  · apply State.canRequest_keeps
    apply State.setCanBuf_keeps
    apply State.atOffset_keeps
    exact h
  · exact h

theorem execPeriodicRequest_keeps {s t : State} (x1) (x2) (e : (execPeriodicRequest x1 x2 s) = .next t) : Keeps s t := by
  unfold execPeriodicRequest at e
  refine keeps_goesTo e ?_
  have h := keeps_refl s
  clear e
  apply State.alive_keeps
  · exact h
  · apply periodicRequest_keeps
    exact h

theorem State.canAtT0_keeps {s : State} (h : Keeps s₀ s) : Keeps s₀ (State.canAtT0 s) := by
  unfold State.canAtT0
  extract_lets +onlyGivenNames y1
  refine keeps_mk (s := s) ?_ rfl
  exact h

theorem State.setCanErr_keeps {s : State} (h : Keeps s₀ s) (x2) (x3) (x4) : Keeps s₀ (State.setCanErr s x2 x3 x4) := by
  unfold State.setCanErr
  extract_lets +onlyGivenNames y1
  extract_lets +onlyGivenNames y2
  extract_lets +onlyGivenNames y3
  extract_lets +onlyGivenNames y4
  have h5 : Keeps s₀ y4 := by
    dsimp -zeta only [y4]
    refine keeps_mk (s := s) ?_ rfl
    exact h
  extract_lets +onlyGivenNames y6
  have h7 : Keeps s₀ y6 := by
    dsimp -zeta only [y6]
    apply State.setReg_keeps
    exact h5
  refine keeps_ite ?_ ?_
  · apply State.canEvt_keeps
    exact h7
  · exact h7

theorem State.canStore_keeps {s : State} (h : Keeps s₀ s) (x2) (x3) : Keeps s₀ (State.canStore s x2 x3) := by
  unfold State.canStore
  extract_lets +onlyGivenNames y1
  split
  · apply State.canEvt_keeps
    apply State.inc_keeps
    exact h
  · extract_lets +onlyGivenNames y2
    extract_lets +onlyGivenNames y3
    extract_lets +onlyGivenNames y4
    extract_lets +onlyGivenNames y5
    have h6 : Keeps s₀ y5 := by
      dsimp -zeta only [y5]
      apply State.setReg_keeps
      exact h
    extract_lets +onlyGivenNames y7
    have h8 : Keeps s₀ y7 := by
      dsimp -zeta only [y7]
      apply State.setReg_keeps
      exact h6
    extract_lets +onlyGivenNames y9
    have h10 : Keeps s₀ y9 := by
      dsimp -zeta only [y9]
      apply State.setReg_keeps
      exact h8
    extract_lets +onlyGivenNames y11
    have h12 : Keeps s₀ y11 := by
      dsimp -zeta only [y11]
      refine keeps_foldl ?_ ?_
      · exact h10
      · intro s13
        intro x14
        intro h15
        apply State.setReg_keeps
        exact h15
    extract_lets +onlyGivenNames y16
    have h17 : Keeps s₀ y16 := by
      dsimp -zeta only [y16]
      apply State.inc_keeps
      apply State.orReg_keeps
      exact h12
    extract_lets +onlyGivenNames y18
    have h19 : Keeps s₀ y18 := by
      dsimp -zeta only [y18]
      apply State.canEvt_keeps
      exact h17
    refine keeps_foldl ?_ ?_
    · exact h19
    · intro s20
      intro x21
      intro h22
      apply State.publish_keeps
      exact h22

theorem canFrameReceived_keeps {s : State} (x1) (x2) (h : Keeps s₀ s) : Keeps s₀ (canFrameReceived x1 x2 s) := by
  unfold canFrameReceived
  refine keeps_ite ?_ ?_
  · extract_lets +onlyGivenNames y1
    extract_lets +onlyGivenNames y2
    apply State.canFrameEnd_keeps
    apply State.canStore_keeps
    apply State.setCanErr_keeps
    exact h
  · exact h

theorem execCanFrameReceived_keeps {s t : State} (x1) (x2) (e : (execCanFrameReceived x1 x2 s) = .next t) : Keeps s t := by
  unfold execCanFrameReceived at e
  refine keeps_goesTo e ?_
  have h := keeps_refl s
  clear e
  apply State.alive_keeps
  · exact h
  · apply canFrameReceived_keeps
    exact h

theorem State.canTdc_keeps {s : State} (h : Keeps s₀ s) (x2) (x3) (x4) : Keeps s₀ (State.canTdc s x2 x3 x4) := by
  unfold State.canTdc
  extract_lets +onlyGivenNames y1
  extract_lets +onlyGivenNames y2
  refine keeps_ite ?_ ?_
  · extract_lets +onlyGivenNames y3
    have h4 : Keeps s₀ y3 := by
      dsimp -zeta only [y3]
      apply State.setReg_keeps
      exact h
    refine keeps_ite ?_ ?_
    · apply State.canEvt_keeps
      exact h4
    · exact h4
  · exact h

theorem canFrameSent_keeps {s : State} (x1) (x2) (x3) (h : Keeps s₀ s) : Keeps s₀ (canFrameSent x1 x2 x3 s) := by
  unfold canFrameSent
  split
  · exact h
  · split
    · apply State.canFrameEnd_keeps
      exact h
    · extract_lets +onlyGivenNames y1
      extract_lets +onlyGivenNames y2
      extract_lets +onlyGivenNames y3
      have h4 : Keeps s₀ y3 := by
        dsimp -zeta only [y3]
        apply State.canTdc_keeps
        exact h
      extract_lets +onlyGivenNames y5
      have h6 : Keeps s₀ y5 := by
        dsimp -zeta only [y5]
        apply State.setReg_keeps
        exact h4
      extract_lets +onlyGivenNames y7
      have h8 : Keeps s₀ y7 := by
        dsimp -zeta only [y7]
        apply State.setReg_keeps
        exact h6
      extract_lets +onlyGivenNames y9
      extract_lets +onlyGivenNames y10
      have h11 : Keeps s₀ y10 := by
        dsimp -zeta only [y10]
        apply State.setCanBuf_keeps
        exact h8
      extract_lets +onlyGivenNames y12
      have h13 : Keeps s₀ y12 := by
        dsimp -zeta only [y12]
        apply State.inc_keeps
        apply State.setCanErr_keeps
        exact h11
      extract_lets +onlyGivenNames y14
      have h15 : Keeps s₀ y14 := by
        dsimp -zeta only [y14]
        apply State.canEvt_keeps
        exact h13
      extract_lets +onlyGivenNames y16
      have h17 : Keeps s₀ y16 := by
        dsimp -zeta only [y16]
        refine keeps_ite ?_ ?_
        · apply State.canStore_keeps
          exact h15
        · exact h15
      apply State.canFrameEnd_keeps
      exact h17

theorem execCanFrameSent_keeps {s t : State} (x1) (x2) (x3) (e : (execCanFrameSent x1 x2 x3 s) = .next t) : Keeps s t := by
  unfold execCanFrameSent at e
  refine keeps_goesTo e ?_
  have h := keeps_refl s
  clear e
  apply State.alive_keeps
  · exact h
  · apply canFrameSent_keeps
    exact h

theorem arbitrationLost_keeps {s : State} (x1) (h : Keeps s₀ s) : Keeps s₀ (arbitrationLost x1 s) := by
  unfold arbitrationLost
  split
  · exact h
  · extract_lets +onlyGivenNames y1
    have h2 : Keeps s₀ y1 := by
      dsimp -zeta only [y1]
      apply State.canFails_keeps
      exact h
    extract_lets +onlyGivenNames y3
    have h4 : Keeps s₀ y3 := by
      dsimp -zeta only [y3]
      refine keeps_ite ?_ ?_
      · apply State.complete_keeps
        exact h2
      · exact h2
    refine keeps_mk (s := y3) ?_ rfl
    exact h4

theorem execArbitrationLost_keeps {s t : State} (x1) (e : (execArbitrationLost x1 s) = .next t) : Keeps s t := by
  unfold execArbitrationLost at e
  refine keeps_goesTo e ?_
  have h := keeps_refl s
  clear e
  apply State.alive_keeps
  · exact h
  · apply arbitrationLost_keeps
    exact h

theorem State.canCharge_keeps {s : State} (h : Keeps s₀ s) (x2) (x3) : Keeps s₀ (State.canCharge s x2 x3) := by
  unfold State.canCharge
  extract_lets +onlyGivenNames y1
  extract_lets +onlyGivenNames y2
  have h3 : Keeps s₀ y2 := by
    dsimp -zeta only [y2]
    dsimp -zeta only [y1]
    apply State.finding_keeps
    exact h
  refine keeps_ite ?_ ?_
  · extract_lets +onlyGivenNames y4
    have h5 : Keeps s₀ y4 := by
      dsimp -zeta only [y4]
      refine keeps_ite ?_ ?_
      · apply State.canWithdraw_keeps
        exact h3
      · exact h3
    extract_lets +onlyGivenNames y6
    have h7 : Keeps s₀ y6 := by
      dsimp -zeta only [y6]
      apply State.orReg_keeps
      apply State.canStat_keeps
      exact h5
    apply State.faultEvent_keeps
    apply State.canEvt_keeps
    exact h7
  · exact h3

theorem State.canUnretire_keeps {s : State} (h : Keeps s₀ s) (x2) (x3) : Keeps s₀ (State.canUnretire s x2 x3) := by
  unfold State.canUnretire
  extract_lets +onlyGivenNames y1
  apply State.setReg_keeps
  apply State.canStat_keeps
  exact h

theorem State.canPattern_keeps {s : State} (h : Keeps s₀ s) (x2) (x3) : Keeps s₀ (State.canPattern s x2 x3) := by
  unfold State.canPattern
  extract_lets +onlyGivenNames y1
  extract_lets +onlyGivenNames y2
  extract_lets +onlyGivenNames y3
  have h4 : Keeps s₀ y3 := by
    dsimp -zeta only [y3]
    apply State.setCanBuf_keeps
    exact h
  refine keeps_ite ?_ ?_
  · apply State.canEvt_keeps
    apply State.inc_keeps
    apply State.canStat_keeps
    exact h4
  · refine keeps_ite ?_ ?_
    · apply State.canCharge_keeps
      exact h4
    · exact h4

theorem canBusError_keeps {s : State} (x1) (x2) (x3) (x4) (x5) (h : Keeps s₀ s) : Keeps s₀ (canBusError x1 x2 x3 x4 x5 s) := by
  unfold canBusError
  refine keeps_ite ?_ ?_
  · exact h
  · refine keeps_ite ?_ ?_
    · apply State.canIntegrate_keeps
      refine keeps_mk (s := s) ?_ rfl
      exact h
    · extract_lets +onlyGivenNames y1
      extract_lets +onlyGivenNames y2
      have h3 : Keeps s₀ y2 := by
        dsimp -zeta only [y2]
        apply State.setReg_keeps
        exact h
      extract_lets +onlyGivenNames y4
      have h5 : Keeps s₀ y4 := by
        dsimp -zeta only [y4]
        apply State.setCanErr_keeps
        exact h3
      extract_lets +onlyGivenNames y6
      have h7 : Keeps s₀ y6 := by
        dsimp -zeta only [y6]
        split
        · extract_lets +onlyGivenNames y8
          have h9 : Keeps s₀ y8 := by
            dsimp -zeta only [y8]
            apply State.canFails_keeps
            exact h5
          refine keeps_ite ?_ ?_
          · apply State.canPattern_keeps
            exact h9
          · exact h9
        · apply State.setCanErr_keeps
          exact h3
      refine keeps_ite ?_ ?_
      · extract_lets +onlyGivenNames y10
        have h11 : Keeps s₀ y10 := by
          dsimp -zeta only [y10]
          apply State.canEvt_keeps
          apply State.setState_keeps
          apply State.inc_keeps
          exact h7
        extract_lets +onlyGivenNames y12
        have h13 : Keeps s₀ y12 := by
          dsimp -zeta only [y12]
          apply State.canFrameEnd_keeps
          exact h11
        refine keeps_ite ?_ ?_
        · apply State.setState_keeps
          exact h13
        · exact h13
      · apply State.canFrameEnd_keeps
        exact h7

theorem execCanBusError_keeps {s t : State} (x1) (x2) (x3) (x4) (x5) (e : (execCanBusError x1 x2 x3 x4 x5 s) = .next t) : Keeps s t := by
  unfold execCanBusError at e
  refine keeps_goesTo e ?_
  have h := keeps_refl s
  clear e
  apply State.alive_keeps
  · exact h
  · apply canBusError_keeps
    exact h

theorem busIntegrationComplete_keeps {s : State} (x1) (h : Keeps s₀ s) : Keeps s₀ (busIntegrationComplete x1 s) := by
  unfold busIntegrationComplete
  refine keeps_ite ?_ ?_
  · apply State.canOffer_keeps
    apply State.setState_keeps
    exact h
  · exact h

theorem execBusIntegrationComplete_keeps {s t : State} (x1) (e : (execBusIntegrationComplete x1 s) = .next t) : Keeps s t := by
  unfold execBusIntegrationComplete at e
  refine keeps_goesTo e ?_
  have h := keeps_refl s
  clear e
  apply State.alive_keeps
  · exact h
  · apply busIntegrationComplete_keeps
    exact h

theorem busoffRecoveryComplete_keeps {s : State} (x1) (h : Keeps s₀ s) : Keeps s₀ (busoffRecoveryComplete x1 s) := by
  unfold busoffRecoveryComplete
  refine keeps_ite ?_ ?_
  · apply State.canOffer_keeps
    apply State.setState_keeps
    apply State.canIntegrate_keeps
    apply State.setCanErr_keeps
    exact h
  · exact h

theorem execBusoffRecoveryComplete_keeps {s t : State} (x1) (e : (execBusoffRecoveryComplete x1 s) = .next t) : Keeps s t := by
  unfold execBusoffRecoveryComplete at e
  refine keeps_goesTo e ?_
  have h := keeps_refl s
  clear e
  apply State.alive_keeps
  · exact h
  · apply busoffRecoveryComplete_keeps
    exact h

theorem wakeDetected_keeps {s : State} (x1) (x2) (x3) (h : Keeps s₀ s) : Keeps s₀ (wakeDetected x1 x2 x3 s) := by
  unfold wakeDetected
  refine keeps_ite ?_ ?_
  · exact h
  · refine keeps_ite ?_ ?_
    · split
      · refine keeps_ite ?_ ?_
        · apply State.canStore_keeps
          apply State.canWakes_keeps
          exact h
        · exact h
      · exact h
    · refine keeps_ite ?_ ?_
      · apply State.canWakes_keeps
        exact h
      · exact h

theorem execWakeDetected_keeps {s t : State} (x1) (x2) (x3) (e : (execWakeDetected x1 x2 x3 s) = .next t) : Keeps s t := by
  unfold execWakeDetected at e
  refine keeps_goesTo e ?_
  have h := keeps_refl s
  clear e
  apply State.alive_keeps
  · exact h
  · apply wakeDetected_keeps
    exact h

end Sys2Proof.Machine
end

