-- ==== Sys2Proof/Laws/KeepsControl.lean ====
section
/-!
SUPPORT. What the operations keep: profiles, the control engine, safety and field I/O.
-/
namespace Sys2Proof.Machine

variable {s₀ : State}

theorem State.setGen_keeps {s : State} (h : Keeps s₀ s) (x2) (x3) : Keeps s₀ (State.setGen s x2 x3) := by
  unfold State.setGen
  refine keeps_mk (s := s) ?_ rfl
  exact h

theorem State.setGenSt_keeps {s : State} (h : Keeps s₀ s) (x2) (x3) : Keeps s₀ (State.setGenSt s x2 x3) := by
  unfold State.setGenSt
  apply State.setReg_keeps
  exact h

theorem State.setRunq_keeps {s : State} (h : Keeps s₀ s) (x2) (x3) : Keeps s₀ (State.setRunq s x2 x3) := by
  unfold State.setRunq
  apply State.setReg_keeps
  exact h

theorem State.genFlag_keeps {s : State} (h : Keeps s₀ s) (x2) (x3) : Keeps s₀ (State.genFlag s x2 x3) := by
  unfold State.genFlag
  extract_lets +onlyGivenNames y1
  apply State.raiseEvt_keeps
  apply State.orReg_keeps
  apply State.orReg_keeps
  exact h

theorem State.armLatch_keeps {s : State} (h : Keeps s₀ s) (x2) : Keeps s₀ (State.armLatch s x2) := by
  unfold State.armLatch
  apply State.orReg_keeps
  exact h

theorem State.takeSwitch_keeps {s : State} (h : Keeps s₀ s) (x2) : Keeps s₀ (State.takeSwitch s x2).1 := by
  unfold State.takeSwitch
  extract_lets +onlyGivenNames y1
  refine keeps_ite_fst ?_ ?_
  · dsimp -zeta only
    exact h
  · extract_lets +onlyGivenNames y2
    extract_lets +onlyGivenNames y3
    extract_lets +onlyGivenNames y4
    extract_lets +onlyGivenNames y5
    have h6 : Keeps s₀ y5 := by
      dsimp -zeta only [y5]
      apply State.setGen_keeps
      exact h
    refine keeps_ite_fst ?_ ?_
    · extract_lets +onlyGivenNames y7
      extract_lets +onlyGivenNames y8
      extract_lets +onlyGivenNames y9
      have h10 : Keeps s₀ y9 := by
        dsimp -zeta only [y9]
        apply State.setRegs_keeps
        exact h6
      dsimp -zeta only
      apply State.genFlag_keeps
      exact h10
    · dsimp -zeta only
      exact h6

theorem State.applyHofs_keeps {s : State} (h : Keeps s₀ s) (x2) : Keeps s₀ (State.applyHofs s x2) := by
  unfold State.applyHofs
  extract_lets +onlyGivenNames y1
  extract_lets +onlyGivenNames y2
  refine keeps_ite ?_ ?_
  · exact h
  · apply State.setGen_keeps
    exact h

theorem State.engage_keeps {s : State} (h : Keeps s₀ s) (x2) : Keeps s₀ (State.engage s x2) := by
  unfold State.engage
  extract_lets +onlyGivenNames y1
  extract_lets +onlyGivenNames y2
  extract_lets +onlyGivenNames y3
  extract_lets +onlyGivenNames y4
  split
  · apply State.setGen_keeps
    exact h
  · apply State.setGen_keeps
    exact h
  · apply State.armLatch_keeps
    apply State.setGen_keeps
    exact h
  · apply State.setGen_keeps
    exact h

theorem State.startTrav_keeps {s : State} (h : Keeps s₀ s) (x2) (x3) : Keeps s₀ (State.startTrav s x2 x3) := by
  unfold State.startTrav
  extract_lets +onlyGivenNames y1
  extract_lets +onlyGivenNames y2
  extract_lets +onlyGivenNames y3
  extract_lets +onlyGivenNames y4
  have h5 : Keeps s₀ y4 := by
    dsimp -zeta only [y4]
    apply State.setGenSt_keeps
    apply State.setReg_keeps
    exact h
  extract_lets +onlyGivenNames y6
  split
  · extract_lets +onlyGivenNames y7
    extract_lets +onlyGivenNames y8
    extract_lets +onlyGivenNames y9
    have h10 : Keeps s₀ y9 := by
      dsimp -zeta only [y9]
      refine keeps_ite ?_ ?_
      · exact h5
      · apply State.genFlag_keeps
        exact h5
    apply State.setGen_keeps
    exact h10
  · extract_lets +onlyGivenNames y11
    extract_lets +onlyGivenNames y12
    extract_lets +onlyGivenNames y13
    have h14 : Keeps s₀ y13 := by
      dsimp -zeta only [y13]
      refine keeps_ite ?_ ?_
      · exact h5
      · apply State.genFlag_keeps
        exact h5
    apply State.setGen_keeps
    exact h14
  · apply State.setGen_keeps
    exact h5
  · extract_lets +onlyGivenNames y15
    apply State.setGen_keeps
    exact h5
  · refine keeps_ite ?_ ?_
    · apply State.engage_keeps
      apply State.setGen_keeps
      exact h5
    · extract_lets +onlyGivenNames y16
      apply State.setGen_keeps
      exact h5

theorem State.beginStop_keeps {s : State} (h : Keeps s₀ s) (x2) (x3) : Keeps s₀ (State.beginStop s x2 x3) := by
  unfold State.beginStop
  extract_lets +onlyGivenNames y1
  extract_lets +onlyGivenNames y2
  apply State.setGen_keeps
  apply State.setGenSt_keeps
  apply State.setRunq_keeps
  exact h

theorem State.restHere_keeps {s : State} (h : Keeps s₀ s) (x2) : Keeps s₀ (State.restHere s x2) := by
  unfold State.restHere
  extract_lets +onlyGivenNames y1
  extract_lets +onlyGivenNames y2
  extract_lets +onlyGivenNames y3
  have h4 : Keeps s₀ y3 := by
    dsimp -zeta only [y3]
    apply State.setGen_keeps
    exact h
  refine keeps_ite ?_ ?_
  · apply State.setGenSt_keeps
    exact h4
  · apply State.setGenSt_keeps
    apply State.genFlag_keeps
    exact h4

theorem State.genDepth_keeps {s : State} (h : Keeps s₀ s) (x2) : Keeps s₀ (State.genDepth s x2) := by
  unfold State.genDepth
  apply State.setReg_keeps
  exact h

theorem State.takeNext_keeps {s : State} (h : Keeps s₀ s) (x2) (x3) : Keeps s₀ (State.takeNext s x2 x3) := by
  unfold State.takeNext
  extract_lets +onlyGivenNames y1
  extract_lets +onlyGivenNames y2
  have h3 : Keeps s₀ y2 := by
    dsimp -zeta only [y2]
    apply State.genDepth_keeps
    apply State.setGen_keeps
    exact h
  refine keeps_ite ?_ ?_
  · apply State.startTrav_keeps
    exact h3
  · extract_lets +onlyGivenNames y4
    have h5 : Keeps s₀ y4 := by
      dsimp -zeta only [y4]
      apply State.setRunq_keeps
      apply State.inc_keeps
      apply State.genFlag_keeps
      exact h3
    refine keeps_ite ?_ ?_
    · apply State.restHere_keeps
      exact h5
    · apply State.beginStop_keeps
      exact h5

theorem State.genMarks_keeps {s : State} (h : Keeps s₀ s) (x2) : Keeps s₀ (State.genMarks s x2) := by
  unfold State.genMarks
  extract_lets +onlyGivenNames y1
  split
  · extract_lets +onlyGivenNames y2
    extract_lets +onlyGivenNames y3
    have h4 : Keeps s₀ y3 := by
      dsimp -zeta only [y3]
      apply State.setGen_keeps
      exact h
    refine keeps_foldl ?_ ?_
    · exact h4
    · intro s5
      intro x6
      intro h7
      apply State.inc_keeps
      apply State.genFlag_keeps
      exact h7
  · exact h

theorem State.finish_keeps {s : State} (h : Keeps s₀ s) (x2) : Keeps s₀ (State.finish s x2).1 := by
  unfold State.finish
  extract_lets +onlyGivenNames y1
  extract_lets +onlyGivenNames y2
  split
  · extract_lets +onlyGivenNames y3
    dsimp -zeta only
    apply State.setReg_keeps
    exact h
  · dsimp -zeta only
    apply State.engage_keeps
    exact h
  · extract_lets +onlyGivenNames y4
    extract_lets +onlyGivenNames y5
    extract_lets +onlyGivenNames y6
    dsimp -zeta only
    apply State.setGen_keeps
    exact h
  · dsimp -zeta only
    apply State.applyHofs_keeps
    apply State.setReg_keeps
    exact h
  · dsimp -zeta only
    apply State.setRunq_keeps
    apply State.genFlag_keeps
    exact h
  · dsimp -zeta only
    exact h

theorem State.follow_keeps {s : State} (h : Keeps s₀ s) (x2) : Keeps s₀ (State.follow s x2) := by
  unfold State.follow
  extract_lets +onlyGivenNames y1
  extract_lets +onlyGivenNames y2
  split
  · apply State.takeNext_keeps
    exact h
  · refine keeps_ite ?_ ?_
    · apply State.beginStop_keeps
      apply State.genFlag_keeps
      exact h
    · refine keeps_ite ?_ ?_
      · extract_lets +onlyGivenNames y3
        extract_lets +onlyGivenNames y4
        apply State.inc_keeps
        apply State.genFlag_keeps
        apply State.setGen_keeps
        exact h
      · apply State.restHere_keeps
        exact h

theorem State.settle_keeps {s : State} (h : Keeps s₀ s) (x2) (x3) : Keeps s₀ (State.settle s x2 x3) := by
  induction x3 generalizing s x2
  · unfold State.settle
    exact h
  · rename_i n0 ih
    unfold State.settle
    refine keeps_ite ?_ ?_
    · extract_lets +onlyGivenNames y1
      refine keeps_ite ?_ ?_
      · apply ih
        apply State.follow_keeps
        dsimp -zeta only [y1]
        apply State.finish_keeps
        exact h
      · apply ih
        dsimp -zeta only [y1]
        apply State.finish_keeps
        exact h
    · exact h

theorem State.guardStop_keeps {s : State} (h : Keeps s₀ s) (x2) (x3) : Keeps s₀ (State.guardStop s x2 x3) := by
  unfold State.guardStop
  extract_lets +onlyGivenNames y1
  extract_lets +onlyGivenNames y2
  extract_lets +onlyGivenNames y3
  split
  · extract_lets +onlyGivenNames y4
    extract_lets +onlyGivenNames y5
    extract_lets +onlyGivenNames y6
    extract_lets +onlyGivenNames y7
    apply State.setGen_keeps
    exact h
  · extract_lets +onlyGivenNames y8
    extract_lets +onlyGivenNames y9
    extract_lets +onlyGivenNames y10
    extract_lets +onlyGivenNames y11
    apply State.setGen_keeps
    exact h
  · apply State.setGen_keeps
    exact h
  · apply State.setGen_keeps
    apply State.setRunq_keeps
    exact h
  · apply State.setGen_keeps
    apply State.setRunq_keeps
    exact h
  · apply State.setGen_keeps
    apply State.setRunq_keeps
    exact h
  · apply State.setGen_keeps
    apply State.setRunq_keeps
    exact h
  · apply State.setGen_keeps
    exact h

theorem State.homeSearch_keeps {s : State} (h : Keeps s₀ s) (x2) (x3) : Keeps s₀ (State.homeSearch s x2 x3) := by
  unfold State.homeSearch
  extract_lets +onlyGivenNames y1
  refine keeps_ite ?_ ?_
  · extract_lets +onlyGivenNames y2
    extract_lets +onlyGivenNames y3
    refine keeps_ite ?_ ?_
    · apply State.setGen_keeps
      exact h
    · refine keeps_ite ?_ ?_
      · apply State.setGen_keeps
        exact h
      · exact h
  · exact h

theorem State.dropGo_keeps {s : State} (h : Keeps s₀ s) (x2) : Keeps s₀ (State.dropGo s x2) := by
  unfold State.dropGo
  extract_lets +onlyGivenNames y1
  apply State.genFlag_keeps
  apply State.complete_keeps
  apply State.setGen_keeps
  exact h

theorem State.decideGen_keeps {s : State} (h : Keeps s₀ s) (x2) : Keeps s₀ (State.decideGen s x2) := by
  unfold State.decideGen
  split
  extract_lets +onlyGivenNames y1
  have h2 : Keeps s₀ y1 := by
    dsimp -zeta only [y1]
    refine keeps_mk (s := s) ?_ rfl
    exact h
  refine keeps_ite ?_ ?_
  · extract_lets +onlyGivenNames y3
    have h4 : Keeps s₀ y3 := by
      dsimp -zeta only [y3]
      refine keeps_ite ?_ ?_
      · apply State.dropGo_keeps
        exact h2
      · exact h2
    extract_lets +onlyGivenNames y5
    extract_lets +onlyGivenNames y6
    refine keeps_ite ?_ ?_
    · extract_lets +onlyGivenNames y7
      refine keeps_ite ?_ ?_
      · apply State.restHere_keeps
        dsimp -zeta only [y7]
        apply State.finish_keeps
        exact h4
      · apply State.beginStop_keeps
        refine keeps_ite ?_ ?_
        · dsimp -zeta only [y7]
          apply State.finish_keeps
          exact h4
        · apply State.genFlag_keeps
          dsimp -zeta only [y7]
          apply State.finish_keeps
          exact h4
    · refine keeps_ite ?_ ?_
      · apply State.beginStop_keeps
        refine keeps_ite ?_ ?_
        · exact h4
        · apply State.genFlag_keeps
          exact h4
      · exact h4
  · refine keeps_ite ?_ ?_
    · extract_lets +onlyGivenNames y8
      have h9 : Keeps s₀ y8 := by
        dsimp -zeta only [y8]
        refine keeps_ite ?_ ?_
        · apply State.finish_keeps
          exact h2
        · exact h2
      split
      · extract_lets +onlyGivenNames y10
        apply State.settle_keeps
        apply State.startTrav_keeps
        apply State.complete_keeps
        apply State.setGen_keeps
        exact h9
      · exact h9
    · extract_lets +onlyGivenNames y11
      extract_lets +onlyGivenNames y12
      extract_lets +onlyGivenNames y13
      extract_lets +onlyGivenNames y14
      extract_lets +onlyGivenNames y15
      clear_value y13
      split
      · refine keeps_ite ?_ ?_
        · apply State.settle_keeps
          apply State.takeNext_keeps
          exact h2
        · apply State.settle_keeps
          exact h2
      · refine keeps_ite ?_ ?_
        · apply State.follow_keeps
          exact h2
        · apply State.settle_keeps
          exact h2

theorem State.stepDisabled_keeps {s : State} (h : Keeps s₀ s) (x2) : Keeps s₀ (State.stepDisabled s x2) := by
  unfold State.stepDisabled
  extract_lets +onlyGivenNames y1
  extract_lets +onlyGivenNames y2
  extract_lets +onlyGivenNames y3
  extract_lets +onlyGivenNames y4
  have h5 : Keeps s₀ y4 := by
    dsimp -zeta only [y4]
    apply State.setGen_keeps
    exact h
  refine keeps_mk (s := y4) ?_ rfl
  exact h5

theorem State.stepLimits_keeps {s : State} (h : Keeps s₀ s) (x2) : Keeps s₀ (State.stepLimits s x2) := by
  unfold State.stepLimits
  extract_lets +onlyGivenNames y1
  extract_lets +onlyGivenNames y2
  have h3 : Keeps s₀ y2 := by
    dsimp -zeta only [y2]
    refine keeps_ite ?_ ?_
    · apply State.setGenSt_keeps
      exact h
    · exact h
  extract_lets +onlyGivenNames y4
  have h5 : Keeps s₀ y4 := by
    dsimp -zeta only [y4]
    refine keeps_ite ?_ ?_
    · apply State.setGen_keeps
      exact h3
    · exact h3
  split
  · apply State.guardStop_keeps
    exact h5
  · exact h5

theorem State.stepAdvance_keeps {s : State} (h : Keeps s₀ s) (x2) : Keeps s₀ (State.stepAdvance s x2) := by
  unfold State.stepAdvance
  extract_lets +onlyGivenNames y1
  have h2 : Keeps s₀ y1 := by
    dsimp -zeta only [y1]
    refine keeps_ite ?_ ?_
    · apply State.genFlag_keeps
      exact h
    · exact h
  extract_lets +onlyGivenNames y3
  apply State.setGen_keeps
  exact h2

theorem State.stepGen_keeps {s : State} (h : Keeps s₀ s) (x2) : Keeps s₀ (State.stepGen s x2) := by
  unfold State.stepGen
  extract_lets +onlyGivenNames y1
  have h2 : Keeps s₀ y1 := by
    dsimp -zeta only [y1]
    refine keeps_ite ?_ ?_
    · apply State.applyHofs_keeps
      exact h
    · exact h
  extract_lets +onlyGivenNames y3
  refine keeps_ite ?_ ?_
  · apply State.stepDisabled_keeps
    dsimp -zeta only [y3]
    apply State.takeSwitch_keeps
    exact h2
  · apply State.stepAdvance_keeps
    apply State.stepLimits_keeps
    apply State.decideGen_keeps
    apply State.homeSearch_keeps
    apply State.genMarks_keeps
    dsimp -zeta only [y3]
    apply State.takeSwitch_keeps
    exact h2

theorem State.pubGen_keeps {s : State} (h : Keeps s₀ s) (x2) : Keeps s₀ (State.pubGen s x2) := by
  unfold State.pubGen
  extract_lets +onlyGivenNames y1
  extract_lets +onlyGivenNames y2
  extract_lets +onlyGivenNames y3
  extract_lets +onlyGivenNames y4
  extract_lets +onlyGivenNames y5
  extract_lets +onlyGivenNames y6
  extract_lets +onlyGivenNames y7
  have h8 : Keeps s₀ y7 := by
    dsimp -zeta only [y7]
    apply State.setRegs_keeps
    exact h
  extract_lets +onlyGivenNames y9
  have h10 : Keeps s₀ y9 := by
    dsimp -zeta only [y9]
    apply State.pubInt_keeps
    exact h8
  extract_lets +onlyGivenNames y11
  have h12 : Keeps s₀ y11 := by
    dsimp -zeta only [y11]
    apply State.pubInt_keeps
    exact h10
  extract_lets +onlyGivenNames y13
  have h14 : Keeps s₀ y13 := by
    dsimp -zeta only [y13]
    apply State.pubBf_keeps
    apply State.pubBf_keeps
    apply State.pubBf_keeps
    exact h12
  extract_lets +onlyGivenNames y15
  have h16 : Keeps s₀ y15 := by
    dsimp -zeta only [y15]
    apply State.pubInt_keeps
    exact h14
  extract_lets +onlyGivenNames y17
  have h18 : Keeps s₀ y17 := by
    dsimp -zeta only [y17]
    apply State.pubInt_keeps
    exact h16
  apply State.pubInt_keeps
  exact h18

theorem profileAdvance_keeps {s : State} (h : Keeps s₀ s) : Keeps s₀ (profileAdvance s) := by
  unfold profileAdvance
  refine keeps_ite ?_ ?_
  · extract_lets +onlyGivenNames y1
    have h2 : Keeps s₀ y1 := by
      dsimp -zeta only [y1]
      apply State.atOffset_keeps
      exact h
    extract_lets +onlyGivenNames y3
    extract_lets +onlyGivenNames y4
    have h5 : Keeps s₀ y4 := by
      dsimp -zeta only [y4]
      refine keeps_mk (s := y1) ?_ rfl
      exact h2
    extract_lets +onlyGivenNames y6
    have h7 : Keeps s₀ y6 := by
      dsimp -zeta only [y6]
      refine keeps_foldl ?_ ?_
      · exact h5
      · intro s8
        intro x9
        intro h10
        apply State.stepGen_keeps
        exact h10
    extract_lets +onlyGivenNames y11
    have h12 : Keeps s₀ y11 := by
      dsimp -zeta only [y11]
      apply State.atOffset_keeps
      exact h7
    refine keeps_foldl ?_ ?_
    · exact h12
    · intro s13
      intro x14
      intro h15
      apply State.pubGen_keeps
      exact h15
  · exact h

theorem execProfileAdvance_keeps {s t : State} (e : (execProfileAdvance s) = .next t) : Keeps s t := by
  unfold execProfileAdvance at e
  refine keeps_goesTo e ?_
  have h := keeps_refl s
  clear e
  apply State.alive_keeps
  · exact h
  · apply profileAdvance_keeps
    exact h

theorem profEnable_keeps {s : State} (x1) (x2) (x3) (h : Keeps s₀ s) : Keeps s₀ (profEnable x1 x2 x3 s) := by
  unfold profEnable
  apply State.command_keeps
  · exact h
  · intro s1
    intro h2
    extract_lets +onlyGivenNames y3
    extract_lets +onlyGivenNames y4
    extract_lets +onlyGivenNames y5
    apply State.setGenSt_keeps
    apply State.setGen_keeps
    exact h2

theorem execProfEnable_keeps {s t : State} (x1) (x2) (x3) (e : (execProfEnable x1 x2 x3 s) = .next t) : Keeps s t := by
  unfold execProfEnable at e
  refine keeps_goesTo e ?_
  have h := keeps_refl s
  clear e
  apply profEnable_keeps
  exact h

theorem profDisable_keeps {s : State} (x1) (x2) (x3) (h : Keeps s₀ s) : Keeps s₀ (profDisable x1 x2 x3 s) := by
  unfold profDisable
  apply State.command_keeps
  · exact h
  · intro s1
    intro h2
    extract_lets +onlyGivenNames y3
    have h4 : Keeps s₀ y3 := by
      dsimp -zeta only [y3]
      refine keeps_ite ?_ ?_
      · apply State.acceptNow_keeps
        apply State.dropGo_keeps
        exact h2
      · exact h2
    apply State.setGenSt_keeps
    apply State.setGen_keeps
    exact h4

theorem execProfDisable_keeps {s t : State} (x1) (x2) (x3) (e : (execProfDisable x1 x2 x3 s) = .next t) : Keeps s t := by
  unfold execProfDisable at e
  refine keeps_goesTo e ?_
  have h := keeps_refl s
  clear e
  apply profDisable_keeps
  exact h

theorem profGo_keeps {s : State} (x1) (x2) (x3) (h : Keeps s₀ s) : Keeps s₀ (profGo x1 x2 x3 s) := by
  unfold profGo
  extract_lets +onlyGivenNames y1
  extract_lets +onlyGivenNames y2
  extract_lets +onlyGivenNames y3
  apply State.command_keeps
  · exact h
  · intro s4
    intro h5
    apply State.setGen_keeps
    exact h5

theorem execProfGo_keeps {s t : State} (x1) (x2) (x3) (e : (execProfGo x1 x2 x3 s) = .next t) : Keeps s t := by
  unfold execProfGo at e
  refine keeps_goesTo e ?_
  have h := keeps_refl s
  clear e
  apply profGo_keeps
  exact h

theorem profRunQueue_keeps {s : State} (x1) (x2) (x3) (h : Keeps s₀ s) : Keeps s₀ (profRunQueue x1 x2 x3 s) := by
  unfold profRunQueue
  apply State.command_keeps
  · exact h
  · intro s1
    intro h2
    apply State.setRunq_keeps
    refine keeps_ite ?_ ?_
    · exact h2
    · apply State.setGen_keeps
      exact h2

theorem execProfRunQueue_keeps {s t : State} (x1) (x2) (x3) (e : (execProfRunQueue x1 x2 x3 s) = .next t) : Keeps s t := by
  unfold execProfRunQueue at e
  refine keeps_goesTo e ?_
  have h := keeps_refl s
  clear e
  apply profRunQueue_keeps
  exact h

theorem State.askStop_keeps {s : State} (h : Keeps s₀ s) (x2) (x3) : Keeps s₀ (State.askStop s x2 x3) := by
  unfold State.askStop
  refine keeps_mk (s := s) ?_ rfl
  exact h

theorem profStop_keeps {s : State} (x1) (x2) (x3) (h : Keeps s₀ s) : Keeps s₀ (profStop x1 x2 x3 s) := by
  unfold profStop
  apply State.command_keeps
  · exact h
  · intro s1
    intro h2
    apply State.askStop_keeps
    exact h2

theorem execProfStop_keeps {s t : State} (x1) (x2) (x3) (e : (execProfStop x1 x2 x3 s) = .next t) : Keeps s t := by
  unfold execProfStop at e
  refine keeps_goesTo e ?_
  have h := keeps_refl s
  clear e
  apply profStop_keeps
  exact h

theorem profQstop_keeps {s : State} (x1) (x2) (x3) (h : Keeps s₀ s) : Keeps s₀ (profQstop x1 x2 x3 s) := by
  unfold profQstop
  apply State.command_keeps
  · exact h
  · intro s1
    intro h2
    apply State.askStop_keeps
    exact h2

theorem execProfQstop_keeps {s t : State} (x1) (x2) (x3) (e : (execProfQstop x1 x2 x3 s) = .next t) : Keeps s t := by
  unfold execProfQstop at e
  refine keeps_goesTo e ?_
  have h := keeps_refl s
  clear e
  apply profQstop_keeps
  exact h

theorem profFlush_keeps {s : State} (x1) (x2) (x3) (h : Keeps s₀ s) : Keeps s₀ (profFlush x1 x2 x3 s) := by
  unfold profFlush
  apply State.command_keeps
  · exact h
  · intro s1
    intro h2
    extract_lets +onlyGivenNames y3
    extract_lets +onlyGivenNames y4
    have h5 : Keeps s₀ y4 := by
      dsimp -zeta only [y4]
      apply State.genDepth_keeps
      apply State.setGen_keeps
      exact h2
    split
    · apply State.queClear_keeps
      exact h5
    · exact h5

theorem execProfFlush_keeps {s t : State} (x1) (x2) (x3) (e : (execProfFlush x1 x2 x3 s) = .next t) : Keeps s t := by
  unfold execProfFlush at e
  refine keeps_goesTo e ?_
  have h := keeps_refl s
  clear e
  apply profFlush_keeps
  exact h

theorem profLatchArm_keeps {s : State} (x1) (x2) (x3) (h : Keeps s₀ s) : Keeps s₀ (profLatchArm x1 x2 x3 s) := by
  unfold profLatchArm
  apply State.command_keeps
  · exact h
  · intro s1
    intro h2
    apply State.armLatch_keeps
    exact h2

theorem execProfLatchArm_keeps {s t : State} (x1) (x2) (x3) (e : (execProfLatchArm x1 x2 x3 s) = .next t) : Keeps s t := by
  unfold execProfLatchArm at e
  refine keeps_goesTo e ?_
  have h := keeps_refl s
  clear e
  apply profLatchArm_keeps
  exact h

theorem profGenAbort_keeps {s : State} (x1) (x2) (x3) (h : Keeps s₀ s) : Keeps s₀ (profGenAbort x1 x2 x3 s) := by
  unfold profGenAbort
  apply State.abort_keeps
  · exact h
  · intro x1
    intro s2
    intro h3
    extract_lets +onlyGivenNames y4
    extract_lets +onlyGivenNames y5
    have h6 : Keeps s₀ y5 := by
      dsimp -zeta only [y5]
      apply State.setGen_keeps
      exact h3
    refine keeps_ite ?_ ?_
    · apply State.askStop_keeps
      exact h6
    · exact h6

theorem execProfGenAbort_keeps {s t : State} (x1) (x2) (x3) (e : (execProfGenAbort x1 x2 x3 s) = .next t) : Keeps s t := by
  unfold execProfGenAbort at e
  refine keeps_goesTo e ?_
  have h := keeps_refl s
  clear e
  apply profGenAbort_keeps
  exact h

theorem State.askStopAll_keeps {s : State} (h : Keeps s₀ s) (x2) : Keeps s₀ (State.askStopAll s x2) := by
  unfold State.askStopAll
  refine keeps_foldl ?_ ?_
  · exact h
  · intro s1
    intro x2
    intro h3
    refine keeps_ite ?_ ?_
    · apply State.askStop_keeps
      exact h3
    · exact h3

theorem profStopAll_keeps {s : State} (x1) (x2) (h : Keeps s₀ s) : Keeps s₀ (profStopAll x1 x2 s) := by
  unfold profStopAll
  apply State.command_keeps
  · exact h
  · intro s1
    intro h2
    apply State.askStopAll_keeps
    exact h2

theorem execProfStopAll_keeps {s t : State} (x1) (x2) (e : (execProfStopAll x1 x2 s) = .next t) : Keeps s t := by
  unfold execProfStopAll at e
  refine keeps_goesTo e ?_
  have h := keeps_refl s
  clear e
  apply profStopAll_keeps
  exact h

theorem profAbort_keeps {s : State} (x1) (x2) (h : Keeps s₀ s) : Keeps s₀ (profAbort x1 x2 s) := by
  unfold profAbort
  apply State.abort_keeps
  · exact h
  · intro x1
    intro s2
    intro h3
    apply State.askStopAll_keeps
    refine keeps_foldl ?_ ?_
    · exact h3
    · intro s4
      intro x5
      intro h6
      apply State.setGen_keeps
      apply State.abortChannel_keeps
      exact h6

theorem execProfAbort_keeps {s t : State} (x1) (x2) (e : (execProfAbort x1 x2 s) = .next t) : Keeps s t := by
  unfold execProfAbort at e
  refine keeps_goesTo e ?_
  have h := keeps_refl s
  clear e
  apply profAbort_keeps
  exact h

theorem traverseRefill_keeps {s : State} (x1) (h : Keeps s₀ s) : Keeps s₀ (traverseRefill x1 s) := by
  unfold traverseRefill
  split
  · refine keeps_ite ?_ ?_
    · split
      · rename_i e1
        refine keeps_of_snd (s₀ := s₀) e1 ?_ (fun h2 => ?_)
        · apply State.quePop_keeps
          exact h
        clear e1
        apply State.genDepth_keeps
        apply State.setGen_keeps
        exact h2
      · rename_i e3
        refine keeps_of_snd (s₀ := s₀) e3 ?_ (fun h4 => ?_)
        · apply State.quePop_keeps
          exact h
        clear e3
        exact h4
    · exact h
  · exact h

theorem execTraverseRefill_keeps {s t : State} (x1) (e : (execTraverseRefill x1 s) = .next t) : Keeps s t := by
  unfold execTraverseRefill at e
  refine keeps_goesTo e ?_
  have h := keeps_refl s
  clear e
  apply State.alive_keeps
  · exact h
  · apply traverseRefill_keeps
    exact h

theorem hofsWrite_keeps {s : State} (x1) (x2) (x3) (h : Keeps s₀ s) : Keeps s₀ (hofsWrite x1 x2 x3 s) := by
  unfold hofsWrite
  apply State.writeGranted_keeps
  · exact h
  · intro s1
    intro h2
    extract_lets +onlyGivenNames y3
    have h4 : Keeps s₀ y3 := by
      dsimp -zeta only [y3]
      refine keeps_ite ?_ ?_
      · apply State.applyHofs_keeps
        exact h2
      · exact h2
    apply State.setGen_keeps
    apply State.setReg_keeps
    exact h4

theorem execHofsWrite_keeps {s t : State} (x1) (x2) (x3) (e : (execHofsWrite x1 x2 x3 s) = .next t) : Keeps s t := by
  unfold execHofsWrite at e
  refine keeps_goesTo e ?_
  have h := keeps_refl s
  clear e
  apply hofsWrite_keeps
  exact h

theorem camDataAccess_keeps {s : State} (x1) (x2) (h : Keeps s₀ s) : Keeps s₀ (camDataAccess x1 x2 s) := by
  unfold camDataAccess
  extract_lets +onlyGivenNames y1
  extract_lets +onlyGivenNames y2
  split
  · apply State.writeGranted_keeps
    · exact h
    · intro s3
      intro h4
      dsimp -zeta only [y2]
      apply State.setReg_keeps
      refine keeps_mk (s := s3) ?_ rfl
      exact h4
  · apply State.access_keeps
    · exact h
    · intro s5
      intro h6
      refine keeps_ite ?_ ?_
      · apply State.answer_keeps
        dsimp -zeta only [y2]
        apply State.setReg_keeps
        exact h6
      · apply State.answer_keeps
        exact h6

theorem execCamDataAccess_keeps {s t : State} (x1) (x2) (e : (execCamDataAccess x1 x2 s) = .next t) : Keeps s t := by
  unfold execCamDataAccess at e
  refine keeps_goesTo e ?_
  have h := keeps_refl s
  clear e
  apply camDataAccess_keeps
  exact h

theorem State.ceWr_keeps {s : State} (h : Keeps s₀ s) (x2) (x3) : Keeps s₀ (State.ceWr s x2 x3) := by
  unfold State.ceWr
  apply State.setWord_keeps
  exact h

theorem State.ceSetStatus_keeps {s : State} (h : Keeps s₀ s) (x2) (x3) (x4) : Keeps s₀ (State.ceSetStatus s x2 x3 x4) := by
  unfold State.ceSetStatus
  apply State.ceWr_keeps
  exact h

theorem State.ceIncStatus_keeps {s : State} (h : Keeps s₀ s) (x2) (x3) : Keeps s₀ (State.ceIncStatus s x2 x3) := by
  unfold State.ceIncStatus
  extract_lets +onlyGivenNames y1
  refine keeps_ite ?_ ?_
  · exact h
  · apply State.ceWr_keeps
    exact h

theorem State.ceSetSatc_keeps {s : State} (h : Keeps s₀ s) (x2) (x3) (x4) : Keeps s₀ (State.ceSetSatc s x2 x3 x4) := by
  unfold State.ceSetSatc
  extract_lets +onlyGivenNames y1
  apply State.ceWr_keeps
  exact h

theorem State.ceEvt_keeps {s : State} (h : Keeps s₀ s) (x2) : Keeps s₀ (State.ceEvt s x2) := by
  unfold State.ceEvt
  apply State.raiseEvt_keeps
  exact h

theorem State.ceSetRole_keeps {s : State} (h : Keeps s₀ s) (x2) (x3) : Keeps s₀ (State.ceSetRole s x2 x3) := by
  unfold State.ceSetRole
  apply State.pubReg_keeps
  apply State.setReg_keeps
  exact h

theorem State.ceMark_keeps {s : State} (h : Keeps s₀ s) (x2) (x3) : Keeps s₀ (State.ceMark s x2 x3) := by
  unfold State.ceMark
  refine keeps_mk (s := s) ?_ rfl
  exact h

theorem State.ceSupervise_keeps {s : State} (h : Keeps s₀ s) (x2) : Keeps s₀ (State.ceSupervise s x2) := by
  unfold State.ceSupervise
  extract_lets +onlyGivenNames y1
  extract_lets +onlyGivenNames y2
  extract_lets +onlyGivenNames y3
  extract_lets +onlyGivenNames y4
  refine keeps_ite ?_ ?_
  · exact h
  · extract_lets +onlyGivenNames y5
    extract_lets +onlyGivenNames y6
    extract_lets +onlyGivenNames y7
    have h8 : Keeps s₀ y7 := by
      dsimp -zeta only [y7]
      refine keeps_foldl ?_ ?_
      · exact h
      · intro s9
        intro x10
        intro h11
        extract_lets +onlyGivenNames y12
        extract_lets +onlyGivenNames y13
        extract_lets +onlyGivenNames y14
        extract_lets +onlyGivenNames y15
        extract_lets +onlyGivenNames y16
        have h17 : Keeps s₀ y16 := by
          dsimp -zeta only [y16]
          apply State.ceSetSatc_keeps
          exact h11
        extract_lets +onlyGivenNames y18
        have h19 : Keeps s₀ y18 := by
          dsimp -zeta only [y18]
          refine keeps_ite ?_ ?_
          · apply State.ceEvt_keeps
            apply State.ceSetStatus_keeps
            exact h17
          · exact h17
        refine keeps_ite ?_ ?_
        · extract_lets +onlyGivenNames y20
          have h21 : Keeps s₀ y20 := by
            dsimp -zeta only [y20]
            apply State.ceEvt_keeps
            apply State.orReg_keeps
            apply State.ceSetStatus_keeps
            exact h19
          refine keeps_mk (s := y20) ?_ rfl
          exact h21
        · exact h19
    extract_lets +onlyGivenNames y22
    have h23 : Keeps s₀ y22 := by
      dsimp -zeta only [y22]
      refine keeps_ite ?_ ?_
      · apply State.ceSetStatus_keeps
        exact h8
      · exact h8
    refine keeps_mk (s := y22) ?_ rfl
    exact h23

theorem State.ceMiss_keeps {s : State} (h : Keeps s₀ s) (x2) : Keeps s₀ (State.ceMiss s x2) := by
  unfold State.ceMiss
  extract_lets +onlyGivenNames y1
  have h2 : Keeps s₀ y1 := by
    dsimp -zeta only [y1]
    apply State.ceMark_keeps
    exact h
  extract_lets +onlyGivenNames y3
  extract_lets +onlyGivenNames y4
  extract_lets +onlyGivenNames y5
  have h6 : Keeps s₀ y5 := by
    dsimp -zeta only [y5]
    refine keeps_mk (s := y1) ?_ rfl
    exact h2
  extract_lets +onlyGivenNames y7
  have h8 : Keeps s₀ y7 := by
    dsimp -zeta only [y7]
    apply State.ceIncStatus_keeps
    apply State.ceSetStatus_keeps
    exact h6
  extract_lets +onlyGivenNames y9
  have h10 : Keeps s₀ y9 := by
    dsimp -zeta only [y9]
    apply State.orReg_keeps
    apply State.setReg_keeps
    apply State.inc_keeps
    exact h8
  apply State.ceEvt_keeps
  exact h10

theorem State.cePublish_keeps {s : State} (h : Keeps s₀ s) (x2) (x3) (x4) : Keeps s₀ (State.cePublish s x2 x3 x4).1 := by
  unfold State.cePublish
  extract_lets +onlyGivenNames y1
  refine keeps_foldl_fst ?_ ?_
  · dsimp -zeta only
    exact h
  · intro x2
    intro x3
    intro h4
    extract_lets +onlyGivenNames y5
    have h6 : Keeps s₀ y5 := by
      dsimp -zeta only [y5]
      exact h4
    extract_lets +onlyGivenNames y7
    extract_lets +onlyGivenNames y8
    extract_lets +onlyGivenNames y9
    split
    · refine keeps_ite_fst ?_ ?_
      · extract_lets +onlyGivenNames y10
        dsimp -zeta only
        dsimp -zeta only [y9]
        apply State.publish_keeps
        exact h6
      · exact h4
    · exact h4
    · refine keeps_ite_fst ?_ ?_
      · dsimp -zeta only
        dsimp -zeta only [y9]
        apply State.publish_keeps
        exact h6
      · exact h4

theorem State.ceCommit_keeps {s : State} (h : Keeps s₀ s) (x2) (x3) : Keeps s₀ (State.ceCommit s x2 x3) := by
  unfold State.ceCommit
  extract_lets +onlyGivenNames y1
  extract_lets +onlyGivenNames y2
  extract_lets +onlyGivenNames y3
  extract_lets +onlyGivenNames y4
  extract_lets +onlyGivenNames y5
  extract_lets +onlyGivenNames y6
  extract_lets +onlyGivenNames y7
  extract_lets +onlyGivenNames y8
  extract_lets +onlyGivenNames y9
  have h10 : Keeps s₀ y9 := by
    dsimp -zeta only [y9]
    refine keeps_ite ?_ ?_
    · refine keeps_mk (s := s) ?_ rfl
      exact h
    · exact h
  extract_lets +onlyGivenNames y11
  have h12 : Keeps s₀ y11 := by
    dsimp -zeta only [y11]
    apply State.advanceTo_keeps
    apply State.ceMark_keeps
    exact h10
  extract_lets +onlyGivenNames y13
  have h14 : Keeps s₀ y13 := by
    dsimp -zeta only [y13]
    refine keeps_foldl ?_ ?_
    · exact h12
    · intro s15
      intro x16
      intro h17
      apply State.ceWr_keeps
      exact h17
  extract_lets +onlyGivenNames y18
  extract_lets +onlyGivenNames y19
  have h20 : Keeps s₀ y19 := by
    dsimp -zeta only [y19]
    refine keeps_foldl ?_ ?_
    · exact h14
    · intro s21
      intro x22
      intro h23
      extract_lets +onlyGivenNames y24
      refine keeps_ite ?_ ?_
      · refine keeps_mk (s := s21) ?_ rfl
        exact h23
      · exact h23
  split
  rename_i e25
  refine keeps_of_fst (s₀ := s₀) e25 ?_ (fun h26 => ?_)
  · apply State.cePublish_keeps
    exact h20
  clear e25
  extract_lets +onlyGivenNames y27
  have h28 : Keeps s₀ y27 := by
    dsimp -zeta only [y27]
    refine keeps_ite ?_ ?_
    · apply State.ceEvt_keeps
      apply State.ceSetStatus_keeps
      exact h26
    · exact h26
  extract_lets +onlyGivenNames y29
  have h30 : Keeps s₀ y29 := by
    dsimp -zeta only [y29]
    apply State.ceSetStatus_keeps
    exact h28
  extract_lets +onlyGivenNames y31
  extract_lets +onlyGivenNames y32
  have h33 : Keeps s₀ y32 := by
    dsimp -zeta only [y32]
    refine keeps_ite ?_ ?_
    · refine keeps_mk (s := y29) ?_ rfl
      exact h30
    · exact h28
  extract_lets +onlyGivenNames y34
  have h35 : Keeps s₀ y34 := by
    dsimp -zeta only [y34]
    refine keeps_ite ?_ ?_
    · apply State.ceEvt_keeps
      apply State.inc_keeps
      apply State.ceIncStatus_keeps
      exact h33
    · exact h33
  extract_lets +onlyGivenNames y36
  extract_lets +onlyGivenNames y37
  have h38 : Keeps s₀ y37 := by
    dsimp -zeta only [y37]
    apply State.ceSetStatus_keeps
    exact h35
  extract_lets +onlyGivenNames y39
  have h40 : Keeps s₀ y39 := by
    dsimp -zeta only [y39]
    refine keeps_ite ?_ ?_
    · apply State.ceWr_keeps
      exact h38
    · exact h38
  extract_lets +onlyGivenNames y41
  extract_lets +onlyGivenNames y42
  have h43 : Keeps s₀ y42 := by
    dsimp -zeta only [y42]
    refine keeps_mk (s := y39) ?_ rfl
    exact h40
  extract_lets +onlyGivenNames y44
  have h45 : Keeps s₀ y44 := by
    dsimp -zeta only [y44]
    split
    · apply State.raiseEvt_keeps
      apply State.setReg_keeps
      exact h43
    · exact h43
  extract_lets +onlyGivenNames y46
  have h47 : Keeps s₀ y46 := by
    dsimp -zeta only [y46]
    refine keeps_ite ?_ ?_
    · apply State.raiseEvt_keeps
      exact h45
    · exact h45
  apply State.ceSupervise_keeps
  exact h47

theorem State.ceDoRun_keeps {s : State} (h : Keeps s₀ s) (x2) (x3) (x4) : Keeps s₀ (State.ceDoRun s x2 x3 x4) := by
  unfold State.ceDoRun
  split
  · refine keeps_ite ?_ ?_
    · apply State.ceSupervise_keeps
      apply State.ceMiss_keeps
      exact h
    · refine keeps_ite ?_ ?_
      · apply State.ceCommit_keeps
        exact h
      · exact h
  · exact h

theorem execCeFcRun_keeps {s t : State} (x1) (x2) (e : (execCeFcRun x1 x2 s) = .next t) : Keeps s t := by
  unfold execCeFcRun at e
  refine keeps_goesTo e ?_
  have h := keeps_refl s
  clear e
  apply State.alive_keeps
  · exact h
  · apply State.ceDoRun_keeps
    exact h

theorem execCeTickRun_keeps {s t : State} (x1) (x2) (x3) (e : (execCeTickRun x1 x2 x3 s) = .next t) : Keeps s t := by
  unfold execCeTickRun at e
  refine keeps_goesTo e ?_
  have h := keeps_refl s
  clear e
  apply State.alive_keeps
  · exact h
  · apply State.ceDoRun_keeps
    exact h

theorem runDeadlineMiss_keeps {s : State} (x1) (x2) (h : Keeps s₀ s) : Keeps s₀ (runDeadlineMiss x1 x2 s) := by
  unfold runDeadlineMiss
  split
  · apply State.ceSupervise_keeps
    apply State.ceMiss_keeps
    apply State.advanceTo_keeps
    exact h
  · exact h

theorem execRunDeadlineMiss_keeps {s t : State} (x1) (x2) (e : (execRunDeadlineMiss x1 x2 s) = .next t) : Keeps s t := by
  unfold execRunDeadlineMiss at e
  refine keeps_goesTo e ?_
  have h := keeps_refl s
  clear e
  apply State.alive_keeps
  · exact h
  · apply runDeadlineMiss_keeps
    exact h

theorem State.ceCloseFc_keeps {s : State} (h : Keeps s₀ s) : Keeps s₀ (State.ceCloseFc s) := by
  unfold State.ceCloseFc
  extract_lets +onlyGivenNames y1
  have h2 : Keeps s₀ y1 := by
    dsimp -zeta only [y1]
    refine keeps_foldl ?_ ?_
    · exact h
    · intro s3
      intro x4
      intro h5
      apply State.ceMiss_keeps
      exact h5
  extract_lets +onlyGivenNames y6
  have h7 : Keeps s₀ y6 := by
    dsimp -zeta only [y6]
    refine keeps_foldl ?_ ?_
    · exact h2
    · intro s8
      intro x9
      intro h10
      apply State.ceEvt_keeps
      apply State.inc_keeps
      exact h10
  extract_lets +onlyGivenNames y11
  extract_lets +onlyGivenNames y12
  have h13 : Keeps s₀ y12 := by
    dsimp -zeta only [y12]
    refine keeps_foldl ?_ ?_
    · exact h7
    · intro s14
      intro x15
      intro h16
      apply State.ceSetStatus_keeps
      apply State.ceSetStatus_keeps
      exact h16
  extract_lets +onlyGivenNames y17
  extract_lets +onlyGivenNames y18
  have h19 : Keeps s₀ y18 := by
    dsimp -zeta only [y18]
    refine keeps_ite ?_ ?_
    · exact h13
    · apply State.setReg_keeps
      exact h13
  refine keeps_mk (s := y18) ?_ rfl
  exact h19

theorem State.ceSwapAtT0_keeps {s : State} (h : Keeps s₀ s) : Keeps s₀ (State.ceSwapAtT0 s) := by
  unfold State.ceSwapAtT0
  refine keeps_ite ?_ ?_
  · extract_lets +onlyGivenNames y1
    have h2 : Keeps s₀ y1 := by
      dsimp -zeta only [y1]
      apply State.complete_keeps
      apply State.setReg_keeps
      exact h
    refine keeps_mk (s := y1) ?_ rfl
    exact h2
  · exact h

theorem State.ceLanesReturn_keeps {s : State} (h : Keeps s₀ s) : Keeps s₀ (State.ceLanesReturn s) := by
  unfold State.ceLanesReturn
  extract_lets +onlyGivenNames y1
  have h2 : Keeps s₀ y1 := by
    dsimp -zeta only [y1]
    refine keeps_foldl ?_ ?_
    · exact h
    · intro s3
      intro x4
      intro h5
      refine keeps_ite ?_ ?_
      · apply State.ceSetRole_keeps
        exact h5
      · exact h5
  refine keeps_ite ?_ ?_
  · exact h2
  · apply State.setState_keeps
    exact h2

theorem State.ceAtT0_keeps {s : State} (h : Keeps s₀ s) : Keeps s₀ (State.ceAtT0 s) := by
  unfold State.ceAtT0
  extract_lets +onlyGivenNames y1
  have h2 : Keeps s₀ y1 := by
    dsimp -zeta only [y1]
    apply State.ceLanesReturn_keeps
    apply State.ceSwapAtT0_keeps
    apply State.ceCloseFc_keeps
    exact h
  refine keeps_ite ?_ ?_
  · exact h2
  · extract_lets +onlyGivenNames y3
    have h4 : Keeps s₀ y3 := by
      dsimp -zeta only [y3]
      apply State.setReg_keeps
      exact h2
    refine keeps_mk (s := y3) ?_ rfl
    exact h4

theorem State.setSafeCh_keeps {s : State} (h : Keeps s₀ s) (x2) (x3) : Keeps s₀ (State.setSafeCh s x2 x3) := by
  unfold State.setSafeCh
  refine keeps_mk (s := s) ?_ rfl
  exact h

theorem State.setSafeGrp_keeps {s : State} (h : Keeps s₀ s) (x2) (x3) : Keeps s₀ (State.setSafeGrp s x2 x3) := by
  unfold State.setSafeGrp
  refine keeps_mk (s := s) ?_ rfl
  exact h

theorem State.setGroupSt_keeps {s : State} (h : Keeps s₀ s) (x2) (x3) : Keeps s₀ (State.setGroupSt s x2 x3) := by
  unfold State.setGroupSt
  refine keeps_ite ?_ ?_
  · exact h
  · extract_lets +onlyGivenNames y1
    have h2 : Keeps s₀ y1 := by
      dsimp -zeta only [y1]
      apply State.setReg_keeps
      exact h
    extract_lets +onlyGivenNames y3
    extract_lets +onlyGivenNames y4
    have h5 : Keeps s₀ y4 := by
      dsimp -zeta only [y4]
      refine keeps_ite ?_ ?_
      · apply State.setSafeGrp_keeps
        exact h2
      · exact h2
    apply State.pubInt_keeps
    exact h5

theorem State.safeHut_keeps {s : State} (h : Keeps s₀ s) (x2) (x3) : Keeps s₀ (State.safeHut s x2 x3) := by
  unfold State.safeHut
  extract_lets +onlyGivenNames y1
  apply State.hutRequest_keeps
  exact h

theorem State.safeEvt_keeps {s : State} (h : Keeps s₀ s) (x2) : Keeps s₀ (State.safeEvt s x2) := by
  unfold State.safeEvt
  apply State.raiseEvt_keeps
  exact h

theorem State.gatesOff_keeps {s : State} (h : Keeps s₀ s) (x2) : Keeps s₀ (State.gatesOff s x2) := by
  unfold State.gatesOff
  refine keeps_foldl ?_ ?_
  · exact h
  · intro s1
    intro x2
    intro h3
    refine keeps_ite ?_ ?_
    · apply State.axcSto_keeps
      exact h3
    · exact h3

theorem State.gatesFollow_keeps {s : State} (h : Keeps s₀ s) : Keeps s₀ (State.gatesFollow s) := by
  unfold State.gatesFollow
  refine keeps_foldl ?_ ?_
  · exact h
  · intro s1
    intro x2
    intro h3
    extract_lets +onlyGivenNames y4
    refine keeps_ite ?_ ?_
    · apply State.axcSto_keeps
      exact h3
    · apply State.axcStoEnd_keeps
      exact h3

theorem State.safeOuts_keeps {s : State} (h : Keeps s₀ s) : Keeps s₀ (State.safeOuts s) := by
  unfold State.safeOuts
  extract_lets +onlyGivenNames y1
  extract_lets +onlyGivenNames y2
  refine keeps_mk (s := s) ?_ rfl
  exact h

theorem State.setLive_keeps {s : State} (h : Keeps s₀ s) (x2) (x3) (x4) : Keeps s₀ (State.setLive s x2 x3 x4) := by
  unfold State.setLive
  refine keeps_foldl ?_ ?_
  · exact h
  · intro s1
    intro x2
    intro h3
    refine keeps_ite ?_ ?_
    · extract_lets +onlyGivenNames y4
      apply State.setReg_keeps
      exact h3
    · exact h3

theorem State.safeFault_keeps {s : State} (h : Keeps s₀ s) (x2) (x3) : Keeps s₀ (State.safeFault s x2 x3) := by
  unfold State.safeFault
  extract_lets +onlyGivenNames y1
  refine keeps_ite ?_ ?_
  · exact h
  · extract_lets +onlyGivenNames y2
    have h3 : Keeps s₀ y2 := by
      dsimp -zeta only [y2]
      refine keeps_foldl ?_ ?_
      · exact h
      · intro s4
        intro x5
        intro h6
        refine keeps_ite ?_ ?_
        · apply State.setGroupSt_keeps
          apply State.orReg_keeps
          exact h6
        · exact h6
    extract_lets +onlyGivenNames y7
    have h8 : Keeps s₀ y7 := by
      dsimp -zeta only [y7]
      apply State.safeOuts_keeps
      apply State.gatesOff_keeps
      apply State.setLive_keeps
      exact h3
    apply State.safeHut_keeps
    apply State.safeEvt_keeps
    apply State.inc_keeps
    exact h8

theorem State.safeCeVote_keeps {s : State} (h : Keeps s₀ s) (x2) : Keeps s₀ (State.safeCeVote s x2) := by
  unfold State.safeCeVote
  extract_lets +onlyGivenNames y1
  refine keeps_ite ?_ ?_
  · exact h
  · apply State.safeFault_keeps
    exact h

theorem State.safeOutTest_keeps {s : State} (h : Keeps s₀ s) (x2) : Keeps s₀ (State.safeOutTest s x2) := by
  unfold State.safeOutTest
  split
  · apply State.safeFault_keeps
    exact h
  · exact h

theorem State.safeNoCycle_keeps {s : State} (h : Keeps s₀ s) : Keeps s₀ (State.safeNoCycle s) := by
  unfold State.safeNoCycle
  refine keeps_ite ?_ ?_
  · apply State.safeOuts_keeps
    apply State.gatesFollow_keeps
    refine keeps_foldl ?_ ?_
    · exact h
    · intro s1
      intro x2
      intro h3
      refine keeps_ite ?_ ?_
      · exact h3
      · apply State.setGroupSt_keeps
        exact h3
  · exact h

theorem State.safeCrc_keeps {s : State} (h : Keeps s₀ s) : Keeps s₀ (State.safeCrc s) := by
  unfold State.safeCrc
  apply State.setReg_keeps
  exact h

theorem safeCrcCheck_keeps {s : State} (h : Keeps s₀ s) : Keeps s₀ (safeCrcCheck s) := by
  unfold safeCrcCheck
  extract_lets +onlyGivenNames y1
  have h2 : Keeps s₀ y1 := by
    dsimp -zeta only [y1]
    apply State.safeCrc_keeps
    exact h
  refine keeps_ite ?_ ?_
  · apply State.safeFault_keeps
    exact h2
  · exact h2

theorem execSafeCrcCheck_keeps {s t : State} (e : (execSafeCrcCheck s) = .next t) : Keeps s t := by
  unfold execSafeCrcCheck at e
  refine keeps_goesTo e ?_
  have h := keeps_refl s
  clear e
  apply State.alive_keeps
  · exact h
  · apply safeCrcCheck_keeps
    exact h

theorem State.safeStart_keeps {s : State} (h : Keeps s₀ s) : Keeps s₀ (State.safeStart s) := by
  unfold State.safeStart
  extract_lets +onlyGivenNames y1
  have h2 : Keeps s₀ y1 := by
    dsimp -zeta only [y1]
    apply State.safeCrc_keeps
    exact h
  refine keeps_ite ?_ ?_
  · extract_lets +onlyGivenNames y3
    have h4 : Keeps s₀ y3 := by
      dsimp -zeta only [y3]
      apply State.setState_keeps
      exact h2
    refine keeps_ite ?_ ?_
    · exact h4
    · apply State.safeEvt_keeps
      exact h4
  · extract_lets +onlyGivenNames y5
    have h6 : Keeps s₀ y5 := by
      dsimp -zeta only [y5]
      apply State.setState_keeps
      exact h2
    extract_lets +onlyGivenNames y7
    have h8 : Keeps s₀ y7 := by
      dsimp -zeta only [y7]
      refine keeps_foldl ?_ ?_
      · exact h6
      · intro s9
        intro x10
        intro h11
        apply State.setReg_keeps
        exact h11
    extract_lets +onlyGivenNames y12
    have h13 : Keeps s₀ y12 := by
      dsimp -zeta only [y12]
      apply State.gatesOff_keeps
      exact h8
    extract_lets +onlyGivenNames y14
    have h15 : Keeps s₀ y14 := by
      dsimp -zeta only [y14]
      refine keeps_ite ?_ ?_
      · exact h13
      · apply State.safeFault_keeps
        exact h13
    refine keeps_ite ?_ ?_
    · exact h15
    · apply State.safeFault_keeps
      exact h15

theorem strapSample_keeps {s : State} (x1) (h : Keeps s₀ s) : Keeps s₀ (strapSample x1 s) := by
  unfold strapSample
  extract_lets +onlyGivenNames y1
  have h2 : Keeps s₀ y1 := by
    dsimp -zeta only [y1]
    apply State.setReg_keeps
    exact h
  refine keeps_ite ?_ ?_
  · exact h2
  · apply State.safeFault_keeps
    exact h2

theorem execStrapSample_keeps {s t : State} (x1) (e : (execStrapSample x1 s) = .next t) : Keeps s t := by
  unfold execStrapSample at e
  refine keeps_goesTo e ?_
  have h := keeps_refl s
  clear e
  apply State.alive_keeps
  · exact h
  · apply strapSample_keeps
    exact h

theorem State.setStoIn_keeps {s : State} (h : Keeps s₀ s) (x2) (x3) : Keeps s₀ (State.setStoIn s x2 x3) := by
  unfold State.setStoIn
  extract_lets +onlyGivenNames y1
  extract_lets +onlyGivenNames y2
  extract_lets +onlyGivenNames y3
  have h4 : Keeps s₀ y3 := by
    dsimp -zeta only [y3]
    apply State.setReg_keeps
    refine keeps_mk (s := s) ?_ rfl
    exact h
  refine keeps_ite ?_ ?_
  · apply State.setLive_keeps
    exact h4
  · exact h4

theorem stoDemand_keeps {s : State} (x1) (x2) (h : Keeps s₀ s) : Keeps s₀ (stoDemand x1 x2 s) := by
  unfold stoDemand
  refine keeps_ite ?_ ?_
  · exact h
  · extract_lets +onlyGivenNames y1
    have h2 : Keeps s₀ y1 := by
      dsimp -zeta only [y1]
      apply State.setStoIn_keeps
      exact h
    extract_lets +onlyGivenNames y3
    have h4 : Keeps s₀ y3 := by
      dsimp -zeta only [y3]
      refine keeps_ite ?_ ?_
      · apply State.safeEvt_keeps
        exact h2
      · exact h2
    refine keeps_ite ?_ ?_
    · apply State.gatesOff_keeps
      exact h4
    · exact h4

theorem execStoDemand_keeps {s t : State} (x1) (x2) (e : (execStoDemand x1 x2 s) = .next t) : Keeps s t := by
  unfold execStoDemand at e
  refine keeps_goesTo e ?_
  have h := keeps_refl s
  clear e
  apply stoDemand_keeps
  exact h

theorem stoDemandEnd_keeps {s : State} (h : Keeps s₀ s) : Keeps s₀ (stoDemandEnd s) := by
  unfold stoDemandEnd
  refine keeps_ite ?_ ?_
  · exact h
  · apply State.setStoIn_keeps
    exact h

theorem execStoDemandEnd_keeps {s t : State} (e : (execStoDemandEnd s) = .next t) : Keeps s t := by
  unfold execStoDemandEnd at e
  refine keeps_goesTo e ?_
  have h := keeps_refl s
  clear e
  apply stoDemandEnd_keeps
  exact h

theorem stopathFault_keeps {s : State} (x1) (h : Keeps s₀ s) : Keeps s₀ (stopathFault x1 s) := by
  unfold stopathFault
  refine keeps_ite ?_ ?_
  · apply State.safeFault_keeps
    apply State.setReg_keeps
    exact h
  · exact h

theorem execStopathFault_keeps {s t : State} (x1) (e : (execStopathFault x1 s) = .next t) : Keeps s t := by
  unfold execStopathFault at e
  refine keeps_goesTo e ?_
  have h := keeps_refl s
  clear e
  apply stopathFault_keeps
  exact h

theorem safeEnrbFault_keeps {s : State} (x1) (h : Keeps s₀ s) : Keeps s₀ (safeEnrbFault x1 s) := by
  unfold safeEnrbFault
  refine keeps_ite ?_ ?_
  · exact h
  · apply State.safeFault_keeps
    exact h

theorem execSafeEnrbFault_keeps {s t : State} (x1) (e : (execSafeEnrbFault x1 s) = .next t) : Keeps s t := by
  unfold execSafeEnrbFault at e
  refine keeps_goesTo e ?_
  have h := keeps_refl s
  clear e
  apply safeEnrbFault_keeps
  exact h

theorem State.monitor_keeps {s : State} (h : Keeps s₀ s) (x2) : Keeps s₀ (State.monitor s x2).1 := by
  unfold State.monitor
  extract_lets +onlyGivenNames y1
  extract_lets +onlyGivenNames y2
  extract_lets +onlyGivenNames y3
  extract_lets +onlyGivenNames y4
  extract_lets +onlyGivenNames y5
  extract_lets +onlyGivenNames y6
  extract_lets +onlyGivenNames y7
  extract_lets +onlyGivenNames y8
  extract_lets +onlyGivenNames y9
  extract_lets +onlyGivenNames y10
  extract_lets +onlyGivenNames y11
  extract_lets +onlyGivenNames y12
  extract_lets +onlyGivenNames y13
  extract_lets +onlyGivenNames y14
  dsimp -zeta only
  apply State.setSafeCh_keeps
  exact h

theorem State.takeChannel_keeps {s : State} (h : Keeps s₀ s) (x2) : Keeps s₀ (State.takeChannel s x2).1 := by
  unfold State.takeChannel
  extract_lets +onlyGivenNames y1
  extract_lets +onlyGivenNames y2
  extract_lets +onlyGivenNames y3
  extract_lets +onlyGivenNames y4
  extract_lets +onlyGivenNames y5
  have h6 : Keeps s₀ y5 := by
    dsimp -zeta only [y5]
    apply State.setEncPort_keeps
    exact h
  refine keeps_ite_fst ?_ ?_
  · dsimp -zeta only
    apply State.setSafeCh_keeps
    exact h6
  · extract_lets +onlyGivenNames y7
    extract_lets +onlyGivenNames y8
    extract_lets +onlyGivenNames y9
    extract_lets +onlyGivenNames y10
    extract_lets +onlyGivenNames y11
    extract_lets +onlyGivenNames y12
    extract_lets +onlyGivenNames y13
    extract_lets +onlyGivenNames y14
    extract_lets +onlyGivenNames y15
    have h16 : Keeps s₀ y15 := by
      dsimp -zeta only [y15]
      apply State.setSafeCh_keeps
      exact h6
    extract_lets +onlyGivenNames y17
    extract_lets +onlyGivenNames y18
    extract_lets +onlyGivenNames y19
    extract_lets +onlyGivenNames y20
    have h21 : Keeps s₀ y20 := by
      dsimp -zeta only [y20]
      apply State.setReg_keeps
      exact h16
    dsimp -zeta only
    exact h21

theorem State.violate_keeps {s : State} (h : Keeps s₀ s) (x2) : Keeps s₀ (State.violate s x2) := by
  unfold State.violate
  refine keeps_ite ?_ ?_
  · exact h
  · extract_lets +onlyGivenNames y1
    have h2 : Keeps s₀ y1 := by
      dsimp -zeta only [y1]
      apply State.setReg_keeps
      exact h
    apply State.safeHut_keeps
    apply State.safeEvt_keeps
    apply State.inc_keeps
    exact h2

theorem State.takeV0_keeps {s : State} (h : Keeps s₀ s) (x2) : Keeps s₀ (State.takeV0 s x2) := by
  unfold State.takeV0
  refine keeps_foldl ?_ ?_
  · exact h
  · intro s1
    intro x2
    intro h3
    refine keeps_ite ?_ ?_
    · apply State.setSafeCh_keeps
      exact h3
    · exact h3

theorem State.evalGroup_keeps {s : State} (h : Keeps s₀ s) (x2) (x3) : Keeps s₀ (State.evalGroup s x2 x3) := by
  unfold State.evalGroup
  extract_lets +onlyGivenNames y1
  extract_lets +onlyGivenNames y2
  extract_lets +onlyGivenNames y3
  extract_lets +onlyGivenNames y4
  extract_lets +onlyGivenNames y5
  extract_lets +onlyGivenNames y6
  extract_lets +onlyGivenNames y7
  have h8 : Keeps s₀ y7 := by
    dsimp -zeta only [y7]
    apply State.setSafeGrp_keeps
    exact h
  extract_lets +onlyGivenNames y9
  have h10 : Keeps s₀ y9 := by
    dsimp -zeta only [y9]
    refine keeps_ite ?_ ?_
    · apply State.violate_keeps
      exact h8
    · exact h8
  clear_value y1
  split
  · refine keeps_ite ?_ ?_
    · apply State.setGroupSt_keeps
      exact h10
    · refine keeps_ite ?_ ?_
      · extract_lets +onlyGivenNames y11
        extract_lets +onlyGivenNames y12
        have h13 : Keeps s₀ y12 := by
          dsimp -zeta only [y12]
          apply State.takeV0_keeps
          apply State.setSafeGrp_keeps
          exact h10
        apply State.setGroupSt_keeps
        exact h13
      · exact h10
  · extract_lets +onlyGivenNames y14
    extract_lets +onlyGivenNames y15
    have h16 : Keeps s₀ y15 := by
      dsimp -zeta only [y15]
      apply State.setSafeGrp_keeps
      exact h10
    refine keeps_ite ?_ ?_
    · apply State.setGroupSt_keeps
      exact h16
    · exact h16
  · refine keeps_ite ?_ ?_
    · apply State.setGroupSt_keeps
      exact h10
    · exact h10
  · exact h10

theorem State.quickStops_keeps {s : State} (h : Keeps s₀ s) : Keeps s₀ (State.quickStops s) := by
  unfold State.quickStops
  refine keeps_foldl ?_ ?_
  · exact h
  · intro s1
    intro x2
    intro h3
    extract_lets +onlyGivenNames y4
    extract_lets +onlyGivenNames y5
    refine keeps_ite ?_ ?_
    · refine keeps_mk (s := s1) ?_ rfl
      exact h3
    · exact h3

theorem State.liveDecay_keeps {s : State} (h : Keeps s₀ s) : Keeps s₀ (State.liveDecay s) := by
  unfold State.liveDecay
  extract_lets +onlyGivenNames y1
  have h2 : Keeps s₀ y1 := by
    dsimp -zeta only [y1]
    apply State.setLive_keeps
    exact h
  extract_lets +onlyGivenNames y3
  extract_lets +onlyGivenNames y4
  have h5 : Keeps s₀ y4 := by
    dsimp -zeta only [y4]
    apply State.setLive_keeps
    exact h2
  extract_lets +onlyGivenNames y6
  extract_lets +onlyGivenNames y7
  have h8 : Keeps s₀ y7 := by
    dsimp -zeta only [y7]
    refine keeps_ite ?_ ?_
    · refine keeps_mk (s := y4) ?_ rfl
      exact h5
    · exact h2
  refine keeps_ite ?_ ?_
  · extract_lets +onlyGivenNames y9
    have h10 : Keeps s₀ y9 := by
      dsimp -zeta only [y9]
      apply State.setLive_keeps
      exact h8
    refine keeps_mk (s := y9) ?_ rfl
    exact h10
  · exact h8

theorem State.safeDiag_keeps {s : State} (h : Keeps s₀ s) : Keeps s₀ (State.safeDiag s) := by
  unfold State.safeDiag
  refine keeps_ite ?_ ?_
  · apply State.safeEvt_keeps
    exact h
  · exact h

theorem State.safeEvaluate_keeps {s : State} (h : Keeps s₀ s) : Keeps s₀ (State.safeEvaluate s) := by
  unfold State.safeEvaluate
  extract_lets +onlyGivenNames y1
  have h2 : Keeps s₀ y1 := by
    dsimp -zeta only [y1]
    apply State.liveDecay_keeps
    exact h
  extract_lets +onlyGivenNames y3
  extract_lets +onlyGivenNames y4
  have h5 : Keeps s₀ y4 := by
    dsimp -zeta only [y4]
    refine keeps_ite ?_ ?_
    · dsimp -zeta only [y3]
      refine keeps_foldl_fst ?_ ?_
      · dsimp -zeta only
        exact h2
      · intro x6
        intro x7
        intro h8
        extract_lets +onlyGivenNames y9
        dsimp -zeta only
        dsimp -zeta only [y9]
        apply State.takeChannel_keeps
        exact h8
    · apply State.safeFault_keeps
      dsimp -zeta only [y3]
      refine keeps_foldl_fst ?_ ?_
      · dsimp -zeta only
        exact h2
      · intro x10
        intro x11
        intro h12
        extract_lets +onlyGivenNames y13
        dsimp -zeta only
        dsimp -zeta only [y13]
        apply State.takeChannel_keeps
        exact h12
  extract_lets +onlyGivenNames y14
  have h15 : Keeps s₀ y14 := by
    dsimp -zeta only [y14]
    refine keeps_ite ?_ ?_
    · exact h5
    · apply State.safeFault_keeps
      exact h5
  extract_lets +onlyGivenNames y16
  have h17 : Keeps s₀ y16 := by
    dsimp -zeta only [y16]
    apply State.setLive_keeps
    apply State.setLive_keeps
    exact h15
  extract_lets +onlyGivenNames y18
  extract_lets +onlyGivenNames y19
  have h20 : Keeps s₀ y19 := by
    dsimp -zeta only [y19]
    refine keeps_foldl ?_ ?_
    · dsimp -zeta only [y18]
      refine keeps_foldl_fst ?_ ?_
      · dsimp -zeta only
        exact h17
      · intro x21
        intro x22
        intro h23
        refine keeps_ite_fst ?_ ?_
        · extract_lets +onlyGivenNames y24
          dsimp -zeta only
          dsimp -zeta only [y24]
          apply State.monitor_keeps
          exact h23
        · exact h23
    · intro s25
      intro x26
      intro h27
      apply State.evalGroup_keeps
      exact h27
  extract_lets +onlyGivenNames y28
  have h29 : Keeps s₀ y28 := by
    dsimp -zeta only [y28]
    apply State.quickStops_keeps
    apply State.safeOuts_keeps
    refine keeps_ite ?_ ?_
    · refine keeps_foldl ?_ ?_
      · apply State.safeDiag_keeps
        exact h20
      · intro s30
        intro x31
        intro h32
        refine keeps_ite ?_ ?_
        · exact h32
        · apply State.setGroupSt_keeps
          exact h32
    · apply State.safeDiag_keeps
      exact h20
  refine keeps_mk (s := y28) ?_ rfl
  exact h29

theorem safetyEvaluation_keeps {s : State} (h : Keeps s₀ s) : Keeps s₀ (safetyEvaluation s) := by
  unfold safetyEvaluation
  refine keeps_ite ?_ ?_
  · extract_lets +onlyGivenNames y1
    have h2 : Keeps s₀ y1 := by
      dsimp -zeta only [y1]
      apply State.atOffset_keeps
      exact h
    apply State.safeEvaluate_keeps
    refine keeps_mk (s := y1) ?_ rfl
    exact h2
  · exact h

theorem execSafetyEvaluation_keeps {s t : State} (e : (execSafetyEvaluation s) = .next t) : Keeps s t := by
  unfold execSafetyEvaluation at e
  refine keeps_goesTo e ?_
  have h := keeps_refl s
  clear e
  apply State.alive_keeps
  · exact h
  · apply safetyEvaluation_keeps
    exact h

theorem State.belayCount_keeps {s : State} (h : Keeps s₀ s) : Keeps s₀ (State.belayCount s).1 := by
  unfold State.belayCount
  refine keeps_foldl_fst ?_ ?_
  · dsimp -zeta only
    exact h
  · intro x1
    intro x2
    intro h3
    extract_lets +onlyGivenNames y4
    have h5 : Keeps s₀ y4 := by
      dsimp -zeta only [y4]
      exact h3
    refine keeps_ite_fst ?_ ?_
    · extract_lets +onlyGivenNames y6
      dsimp -zeta only
      apply State.setSafeGrp_keeps
      exact h5
    · exact h3

theorem belayComparison_keeps {s : State} (x1) (h : Keeps s₀ s) : Keeps s₀ (belayComparison x1 s) := by
  unfold belayComparison
  refine keeps_ite ?_ ?_
  · extract_lets +onlyGivenNames y1
    have h2 : Keeps s₀ y1 := by
      dsimp -zeta only [y1]
      apply State.atOffset_keeps
      exact h
    extract_lets +onlyGivenNames y3
    extract_lets +onlyGivenNames y4
    split
    · refine keeps_ite ?_ ?_
      · exact h2
      · split
        · refine keeps_mk (s := y1) ?_ rfl
          exact h2
        · apply State.safeFault_keeps
          refine keeps_mk (s := y1) ?_ rfl
          exact h2
        · apply State.safeFault_keeps
          exact h2
    · extract_lets +onlyGivenNames y5
      extract_lets +onlyGivenNames y6
      extract_lets +onlyGivenNames y7
      have h8 : Keeps s₀ y7 := by
        dsimp -zeta only [y7]
        refine keeps_ite ?_ ?_
        · apply State.safeFault_keeps
          dsimp -zeta only [y5]
          apply State.belayCount_keeps
          exact h2
        · refine keeps_ite ?_ ?_
          · dsimp -zeta only [y5]
            apply State.belayCount_keeps
            exact h2
          · apply State.setLive_keeps
            dsimp -zeta only [y5]
            apply State.belayCount_keeps
            exact h2
      dsimp -zeta only [y4]
      refine keeps_mk ?_ rfl
      apply State.gatesFollow_keeps
      exact h8
  · exact h

theorem execBelayComparison_keeps {s t : State} (x1) (e : (execBelayComparison x1 s) = .next t) : Keeps s t := by
  unfold execBelayComparison at e
  refine keeps_goesTo e ?_
  have h := keeps_refl s
  clear e
  apply State.alive_keeps
  · exact h
  · apply belayComparison_keeps
    exact h

theorem State.setResetPending_keeps {s : State} (h : Keeps s₀ s) (x2) : Keeps s₀ (State.setResetPending s x2) := by
  unfold State.setResetPending
  apply State.setState_keeps
  exact h

theorem State.resetAtEdge_keeps {s : State} (h : Keeps s₀ s) : Keeps s₀ (State.resetAtEdge s) := by
  unfold State.resetAtEdge
  extract_lets +onlyGivenNames y1
  extract_lets +onlyGivenNames y2
  extract_lets +onlyGivenNames y3
  have h4 : Keeps s₀ y3 := by
    dsimp -zeta only [y3]
    refine keeps_foldl ?_ ?_
    · exact h
    · intro s5
      intro x6
      intro h7
      refine keeps_ite ?_ ?_
      · apply State.setGroupSt_keeps
        apply State.setReg_keeps
        exact h7
      · exact h7
  extract_lets +onlyGivenNames y8
  have h9 : Keeps s₀ y8 := by
    dsimp -zeta only [y8]
    refine keeps_ite ?_ ?_
    · apply State.safeHut_keeps
      apply State.safeEvt_keeps
      apply State.inc_keeps
      exact h4
    · apply State.safeEvt_keeps
      apply State.inc_keeps
      exact h
  apply State.complete_keeps
  apply State.setResetPending_keeps
  exact h9

theorem safeAckEdge_keeps {s : State} (h : Keeps s₀ s) : Keeps s₀ (safeAckEdge s) := by
  unfold safeAckEdge
  extract_lets +onlyGivenNames y1
  have h2 : Keeps s₀ y1 := by
    dsimp -zeta only [y1]
    apply State.setReg_keeps
    exact h
  refine keeps_ite ?_ ?_
  · exact h2
  · extract_lets +onlyGivenNames y3
    extract_lets +onlyGivenNames y4
    extract_lets +onlyGivenNames y5
    extract_lets +onlyGivenNames y6
    have h7 : Keeps s₀ y6 := by
      dsimp -zeta only [y6]
      refine keeps_foldl ?_ ?_
      · exact h2
      · intro s8
        intro x9
        intro h10
        extract_lets +onlyGivenNames y11
        extract_lets +onlyGivenNames y12
        apply State.setReg_keeps
        exact h10
    extract_lets +onlyGivenNames y13
    have h14 : Keeps s₀ y13 := by
      dsimp -zeta only [y13]
      refine keeps_ite ?_ ?_
      · apply State.resetAtEdge_keeps
        exact h7
      · exact h7
    refine keeps_ite ?_ ?_
    · exact h14
    · apply State.safeEvt_keeps
      apply State.inc_keeps
      exact h14

theorem execSafeAckEdge_keeps {s t : State} (e : (execSafeAckEdge s) = .next t) : Keeps s t := by
  unfold execSafeAckEdge at e
  refine keeps_goesTo e ?_
  have h := keeps_refl s
  clear e
  apply State.alive_keeps
  · exact h
  · apply safeAckEdge_keeps
    exact h

theorem safeReset_keeps {s : State} (x1) (x2) (h : Keeps s₀ s) : Keeps s₀ (safeReset x1 x2 s) := by
  unfold safeReset
  extract_lets +onlyGivenNames y1
  apply State.command_keeps
  · exact h
  · intro s2
    intro h3
    apply State.setResetPending_keeps
    exact h3

theorem execSafeReset_keeps {s t : State} (x1) (x2) (e : (execSafeReset x1 x2 s) = .next t) : Keeps s t := by
  unfold execSafeReset at e
  refine keeps_goesTo e ?_
  have h := keeps_refl s
  clear e
  apply safeReset_keeps
  exact h

theorem safeResetTimeout_keeps {s : State} (h : Keeps s₀ s) : Keeps s₀ (safeResetTimeout s) := by
  unfold safeResetTimeout
  split
  · extract_lets +onlyGivenNames y1
    have h2 : Keeps s₀ y1 := by
      dsimp -zeta only [y1]
      apply State.advanceTo_keeps
      exact h
    apply State.complete_keeps
    apply State.setResetPending_keeps
    apply State.safeEvt_keeps
    apply State.inc_keeps
    exact h2
  · exact h

theorem execSafeResetTimeout_keeps {s t : State} (e : (execSafeResetTimeout s) = .next t) : Keeps s t := by
  unfold execSafeResetTimeout at e
  refine keeps_goesTo e ?_
  have h := keeps_refl s
  clear e
  apply State.alive_keeps
  · exact h
  · apply safeResetTimeout_keeps
    exact h

theorem safeConfig_keeps {s : State} (x1) (x2) (h : Keeps s₀ s) : Keeps s₀ (safeConfig x1 x2 s) := by
  unfold safeConfig
  extract_lets +onlyGivenNames y1
  apply State.command_keeps
  · exact h
  · intro s2
    intro h3
    apply State.safeOuts_keeps
    apply State.setState_keeps
    exact h3

theorem execSafeConfig_keeps {s t : State} (x1) (x2) (e : (execSafeConfig x1 x2 s) = .next t) : Keeps s t := by
  unfold execSafeConfig at e
  refine keeps_goesTo e ?_
  have h := keeps_refl s
  clear e
  apply safeConfig_keeps
  exact h

theorem leaveConfig_keeps {s : State} (x1) (x2) (h : Keeps s₀ s) : Keeps s₀ (leaveConfig x1 x2 s) := by
  unfold leaveConfig
  apply State.command_keeps
  · exact h
  · intro s1
    intro h2
    extract_lets +onlyGivenNames y3
    have h4 : Keeps s₀ y3 := by
      dsimp -zeta only [y3]
      apply State.setLive_keeps
      apply State.setState_keeps
      exact h2
    extract_lets +onlyGivenNames y5
    refine keeps_ite ?_ ?_
    · apply State.setLive_keeps
      exact h4
    · exact h4

theorem execLeaveConfig_keeps {s t : State} (x1) (x2) (e : (execLeaveConfig x1 x2 s) = .next t) : Keeps s t := by
  unfold execLeaveConfig at e
  refine keeps_goesTo e ?_
  have h := keeps_refl s
  clear e
  apply leaveConfig_keeps
  exact h

theorem safeDemand_keeps {s : State} (x1) (x2) (h : Keeps s₀ s) : Keeps s₀ (safeDemand x1 x2 s) := by
  unfold safeDemand
  apply State.command_keeps
  · exact h
  · intro s1
    intro h2
    apply State.safeEvt_keeps
    apply State.orReg_keeps
    exact h2

theorem execSafeDemand_keeps {s t : State} (x1) (x2) (e : (execSafeDemand x1 x2 s) = .next t) : Keeps s t := by
  unfold execSafeDemand at e
  refine keeps_goesTo e ?_
  have h := keeps_refl s
  clear e
  apply safeDemand_keeps
  exact h

theorem safeRelease_keeps {s : State} (x1) (x2) (h : Keeps s₀ s) : Keeps s₀ (safeRelease x1 x2 s) := by
  unfold safeRelease
  apply State.command_keeps
  · exact h
  · intro s1
    intro h2
    apply State.setReg_keeps
    exact h2

theorem execSafeRelease_keeps {s t : State} (x1) (x2) (e : (execSafeRelease x1 x2 s) = .next t) : Keeps s t := by
  unfold execSafeRelease at e
  refine keeps_goesTo e ?_
  have h := keeps_refl s
  clear e
  apply safeRelease_keeps
  exact h

theorem safeClearStats_keeps {s : State} (x1) (x2) (h : Keeps s₀ s) : Keeps s₀ (safeClearStats x1 x2 s) := by
  unfold safeClearStats
  apply State.command_keeps
  · exact h
  · intro s1
    intro h2
    apply State.zeroRegs_keeps
    exact h2

theorem safeAbort_keeps {s : State} (x1) (x2) (h : Keeps s₀ s) : Keeps s₀ (safeAbort x1 x2 s) := by
  unfold safeAbort
  apply State.abort_keeps
  · exact h
  · intro x1
    intro s2
    intro h3
    apply State.setResetPending_keeps
    exact h3

theorem execSafeAbort_keeps {s t : State} (x1) (x2) (e : (execSafeAbort x1 x2 s) = .next t) : Keeps s t := by
  unfold execSafeAbort at e
  refine keeps_goesTo e ?_
  have h := keeps_refl s
  clear e
  apply safeAbort_keeps
  exact h

theorem safeConfirmWrite_keeps {s : State} (x1) (x2) (h : Keeps s₀ s) : Keeps s₀ (safeConfirmWrite x1 x2 s) := by
  unfold safeConfirmWrite
  apply State.writeGranted_keeps
  · exact h
  · intro s1
    intro h2
    refine keeps_ite ?_ ?_
    · exact h2
    · refine keeps_ite ?_ ?_
      · extract_lets +onlyGivenNames y3
        extract_lets +onlyGivenNames y4
        have h5 : Keeps s₀ y4 := by
          dsimp -zeta only [y4]
          apply State.setReg_keeps
          refine keeps_mk (s := s1) ?_ rfl
          exact h2
        apply State.safeHut_keeps
        apply State.safeEvt_keeps
        exact h5
      · apply State.safeEvt_keeps
        exact h2

theorem execSafeConfirmWrite_keeps {s t : State} (x1) (x2) (e : (execSafeConfirmWrite x1 x2 s) = .next t) : Keeps s t := by
  unfold execSafeConfirmWrite at e
  refine keeps_goesTo e ?_
  have h := keeps_refl s
  clear e
  apply safeConfirmWrite_keeps
  exact h

theorem safeSelSetWrite_keeps {s : State} (x1) (x2) (h : Keeps s₀ s) : Keeps s₀ (safeSelSetWrite x1 x2 s) := by
  unfold safeSelSetWrite
  apply State.writeGranted_keeps
  · exact h
  · intro s1
    intro h2
    apply State.orReg_keeps
    exact h2

theorem execSafeSelSetWrite_keeps {s t : State} (x1) (x2) (e : (execSafeSelSetWrite x1 x2 s) = .next t) : Keeps s t := by
  unfold execSafeSelSetWrite at e
  refine keeps_goesTo e ?_
  have h := keeps_refl s
  clear e
  apply safeSelSetWrite_keeps
  exact h

theorem safeSelClrWrite_keeps {s : State} (x1) (x2) (h : Keeps s₀ s) : Keeps s₀ (safeSelClrWrite x1 x2 s) := by
  unfold safeSelClrWrite
  apply State.writeGranted_keeps
  · exact h
  · intro s1
    intro h2
    apply State.setReg_keeps
    exact h2

theorem execSafeSelClrWrite_keeps {s t : State} (x1) (x2) (e : (execSafeSelClrWrite x1 x2 s) = .next t) : Keeps s t := by
  unfold execSafeSelClrWrite at e
  refine keeps_goesTo e ?_
  have h := keeps_refl s
  clear e
  apply safeSelClrWrite_keeps
  exact h

theorem checkRun_keeps {s : State} (x1) (h : Keeps s₀ s) : Keeps s₀ (checkRun x1 s) := by
  unfold checkRun
  split
  · extract_lets +onlyGivenNames y1
    extract_lets +onlyGivenNames y2
    extract_lets +onlyGivenNames y3
    have h4 : Keeps s₀ y3 := by
      dsimp -zeta only [y3]
      refine keeps_mk (s := s) ?_ rfl
      exact h
    extract_lets +onlyGivenNames y5
    have h6 : Keeps s₀ y5 := by
      dsimp -zeta only [y5]
      apply State.ceWr_keeps
      exact h4
    refine keeps_ite ?_ ?_
    · exact h6
    · extract_lets +onlyGivenNames y7
      extract_lets +onlyGivenNames y8
      have h9 : Keeps s₀ y8 := by
        dsimp -zeta only [y8]
        refine keeps_mk (s := y5) ?_ rfl
        exact h6
      apply State.ceEvt_keeps
      apply State.ceSetStatus_keeps
      exact h9
  · exact h

theorem execCheckRun_keeps {s t : State} (x1) (e : (execCheckRun x1 s) = .next t) : Keeps s t := by
  unfold execCheckRun at e
  refine keeps_goesTo e ?_
  have h := keeps_refl s
  clear e
  apply State.alive_keeps
  · exact h
  · apply checkRun_keeps
    exact h

theorem State.ceFinding_keeps {s : State} (h : Keeps s₀ s) (x2) (x3) : Keeps s₀ (State.ceFinding s x2 x3) := by
  unfold State.ceFinding
  apply State.finding_keeps
  exact h

theorem State.ceCharge_keeps {s : State} (h : Keeps s₀ s) (x2) (x3) (x4) : Keeps s₀ (State.ceCharge s x2 x3 x4) := by
  unfold State.ceCharge
  apply State.ceFinding_keeps
  apply State.setReg_keeps
  apply State.inc_keeps
  exact h

theorem State.ceReplace_keeps {s : State} (h : Keeps s₀ s) (x2) (x3) : Keeps s₀ (State.ceReplace s x2 x3) := by
  unfold State.ceReplace
  refine keeps_ite ?_ ?_
  · exact h
  · refine keeps_foldl ?_ ?_
    · exact h
    · intro s1
      intro x2
      intro h3
      apply State.ceWr_keeps
      exact h3

theorem voteRun_keeps {s : State} (x1) (h : Keeps s₀ s) : Keeps s₀ (voteRun x1 s) := by
  unfold voteRun
  split
  · exact h
  · extract_lets +onlyGivenNames y1
    extract_lets +onlyGivenNames y2
    have h3 : Keeps s₀ y2 := by
      dsimp -zeta only [y2]
      refine keeps_mk (s := s) ?_ rfl
      exact h
    extract_lets +onlyGivenNames y4
    have h5 : Keeps s₀ y4 := by
      dsimp -zeta only [y4]
      apply State.ceSetStatus_keeps
      exact h3
    split
    · exact h5
    · extract_lets +onlyGivenNames y6
      refine keeps_ite ?_ ?_
      · apply State.ceCharge_keeps
        apply State.ceReplace_keeps
        exact h5
      · refine keeps_ite ?_ ?_
        · apply State.ceCharge_keeps
          exact h5
        · extract_lets +onlyGivenNames y7
          have h8 : Keeps s₀ y7 := by
            dsimp -zeta only [y7]
            apply State.ceEvt_keeps
            apply State.ceReplace_keeps
            exact h5
          extract_lets +onlyGivenNames y9
          have h10 : Keeps s₀ y9 := by
            dsimp -zeta only [y9]
            apply State.safeCeVote_keeps
            apply State.faultEvent_keeps
            exact h8
          refine keeps_foldl ?_ ?_
          · exact h10
          · intro s11
            intro x12
            intro h13
            apply State.ceCharge_keeps
            exact h13

theorem execVoteRun_keeps {s t : State} (x1) (e : (execVoteRun x1 s) = .next t) : Keeps s t := by
  unfold execVoteRun at e
  refine keeps_goesTo e ?_
  have h := keeps_refl s
  clear e
  apply State.alive_keeps
  · exact h
  · apply voteRun_keeps
    exact h

theorem residueError_keeps {s : State} (x1) (h : Keeps s₀ s) : Keeps s₀ (residueError x1 s) := by
  unfold residueError
  split
  · split
    · apply State.ceFinding_keeps
      apply State.ceSupervise_keeps
      apply State.ceMiss_keeps
      exact h
    · exact h
  · split
    · apply State.ceFinding_keeps
      apply State.ceEvt_keeps
      apply State.inc_keeps
      refine keeps_mk (s := s) ?_ rfl
      exact h
    · exact h
  · exact h

theorem execResidueError_keeps {s t : State} (x1) (e : (execResidueError x1 s) = .next t) : Keeps s t := by
  unfold execResidueError at e
  refine keeps_goesTo e ?_
  have h := keeps_refl s
  clear e
  apply State.alive_keeps
  · exact h
  · apply residueError_keeps
    exact h

theorem State.ceReplan_keeps {s : State} (h : Keeps s₀ s) : Keeps s₀ (State.ceReplan s) := by
  unfold State.ceReplan
  extract_lets +onlyGivenNames y1
  extract_lets +onlyGivenNames y2
  extract_lets +onlyGivenNames y3
  extract_lets +onlyGivenNames y4
  extract_lets +onlyGivenNames y5
  refine keeps_mk (s := s) ?_ rfl
  exact h

theorem laneRetirement_keeps {s : State} (x1) (h : Keeps s₀ s) : Keeps s₀ (laneRetirement x1 s) := by
  unfold laneRetirement
  extract_lets +onlyGivenNames y1
  refine keeps_ite ?_ ?_
  · exact h
  · extract_lets +onlyGivenNames y2
    extract_lets +onlyGivenNames y3
    extract_lets +onlyGivenNames y4
    have h5 : Keeps s₀ y4 := by
      dsimp -zeta only [y4]
      apply State.ceSetRole_keeps
      exact h
    extract_lets +onlyGivenNames y6
    have h7 : Keeps s₀ y6 := by
      dsimp -zeta only [y6]
      clear_value y2
      split
      · apply State.ceSetRole_keeps
        exact h5
      · exact h5
    extract_lets +onlyGivenNames y8
    extract_lets +onlyGivenNames y9
    have h10 : Keeps s₀ y9 := by
      dsimp -zeta only [y9]
      refine keeps_ite ?_ ?_
      · refine keeps_mk (s := y6) ?_ rfl
        exact h7
      · exact h7
    extract_lets +onlyGivenNames y11
    have h12 : Keeps s₀ y11 := by
      dsimp -zeta only [y11]
      apply State.ceEvt_keeps
      exact h10
    extract_lets +onlyGivenNames y13
    have h14 : Keeps s₀ y13 := by
      dsimp -zeta only [y13]
      refine keeps_ite ?_ ?_
      · exact h12
      · apply State.setState_keeps
        exact h12
    extract_lets +onlyGivenNames y15
    have h16 : Keeps s₀ y15 := by
      dsimp -zeta only [y15]
      apply State.faultEvent_keeps
      exact h14
    extract_lets +onlyGivenNames y17
    have h18 : Keeps s₀ y17 := by
      dsimp -zeta only [y17]
      clear_value y3
      split
      · apply State.ceSupervise_keeps
        apply State.ceMiss_keeps
        exact h16
      · exact h16
    extract_lets +onlyGivenNames y19
    have h20 : Keeps s₀ y19 := by
      dsimp -zeta only [y19]
      refine keeps_ite ?_ ?_
      · apply State.ceReplan_keeps
        exact h18
      · exact h18
    refine keeps_ite ?_ ?_
    · apply State.safeDiag_keeps
      exact h20
    · exact h20

theorem execLaneRetirement_keeps {s t : State} (x1) (e : (execLaneRetirement x1 s) = .next t) : Keeps s t := by
  unfold execLaneRetirement at e
  refine keeps_goesTo e ?_
  have h := keeps_refl s
  clear e
  apply State.alive_keeps
  · exact h
  · apply laneRetirement_keeps
    exact h

theorem State.ceLanesInit_keeps {s : State} (h : Keeps s₀ s) : Keeps s₀ (State.ceLanesInit s) := by
  unfold State.ceLanesInit
  extract_lets +onlyGivenNames y1
  refine keeps_foldl ?_ ?_
  · exact h
  · intro s2
    intro x3
    intro h4
    apply State.ceSetRole_keeps
    exact h4

theorem State.setFioIn_keeps {s : State} (h : Keeps s₀ s) (x2) (x3) : Keeps s₀ (State.setFioIn s x2 x3) := by
  unfold State.setFioIn
  refine keeps_mk (s := s) ?_ rfl
  exact h

theorem State.fioEvt_keeps {s : State} (h : Keeps s₀ s) (x2) : Keeps s₀ (State.fioEvt s x2) := by
  unfold State.fioEvt
  apply State.raiseEvt_keeps
  exact h

theorem State.setFioGroup_keeps {s : State} (h : Keeps s₀ s) (x2) (x3) : Keeps s₀ (State.setFioGroup s x2 x3) := by
  unfold State.setFioGroup
  extract_lets +onlyGivenNames y1
  have h2 : Keeps s₀ y1 := by
    dsimp -zeta only [y1]
    refine keeps_ite ?_ ?_
    · refine keeps_foldl ?_ ?_
      · exact h
      · intro s3
        intro x4
        intro h5
        apply State.setFioIn_keeps
        exact h5
    · exact h
  apply State.pubInt_keeps
  apply State.setState_keeps
  exact h2

theorem State.outStat_keeps {s : State} (h : Keeps s₀ s) (x2) (x3) (x4) : Keeps s₀ (State.outStat s x2 x3 x4) := by
  unfold State.outStat
  apply State.setReg_keeps
  exact h

theorem State.setOut_keeps {s : State} (h : Keeps s₀ s) (x2) (x3) : Keeps s₀ (State.setOut s x2 x3) := by
  unfold State.setOut
  refine keeps_ite ?_ ?_
  · exact h
  · extract_lets +onlyGivenNames y1
    have h2 : Keeps s₀ y1 := by
      dsimp -zeta only [y1]
      apply State.setReg_keeps
      exact h
    apply State.outStat_keeps
    apply State.setReg_keeps
    exact h2

theorem State.breakPulse_keeps {s : State} (h : Keeps s₀ s) (x2) : Keeps s₀ (State.breakPulse s x2) := by
  unfold State.breakPulse
  split
  · refine keeps_mk (s := s) ?_ rfl
    exact h
  · exact h

theorem State.forceOff_keeps {s : State} (h : Keeps s₀ s) (x2) (x3) : Keeps s₀ (State.forceOff s x2 x3) := by
  unfold State.forceOff
  extract_lets +onlyGivenNames y1
  have h2 : Keeps s₀ y1 := by
    dsimp -zeta only [y1]
    refine keeps_ite ?_ ?_
    · apply State.outStat_keeps
      exact h
    · exact h
  apply State.breakPulse_keeps
  apply State.setOut_keeps
  exact h2

theorem State.fioFail_keeps {s : State} (h : Keeps s₀ s) (x2) : Keeps s₀ (State.fioFail s x2) := by
  unfold State.fioFail
  extract_lets +onlyGivenNames y1
  have h2 : Keeps s₀ y1 := by
    dsimp -zeta only [y1]
    apply State.orReg_keeps
    exact h
  refine keeps_ite ?_ ?_
  · exact h2
  · apply State.forceOff_keeps
    apply State.outStat_keeps
    exact h2

theorem couplerFault_keeps {s : State} (x1) (h : Keeps s₀ s) : Keeps s₀ (couplerFault x1 s) := by
  unfold couplerFault
  refine keeps_ite ?_ ?_
  · exact h
  · extract_lets +onlyGivenNames y1
    extract_lets +onlyGivenNames y2
    have h3 : Keeps s₀ y2 := by
      dsimp -zeta only [y2]
      refine keeps_mk (s := s) ?_ rfl
      exact h
    extract_lets +onlyGivenNames y4
    have h5 : Keeps s₀ y4 := by
      dsimp -zeta only [y4]
      apply State.fioEvt_keeps
      apply State.fioFail_keeps
      exact h3
    extract_lets +onlyGivenNames y6
    refine keeps_ite ?_ ?_
    · apply State.faultEvent_keeps
      dsimp -zeta only [y6]
      apply State.finding_keeps
      exact h5
    · dsimp -zeta only [y6]
      apply State.finding_keeps
      exact h5

theorem execCouplerFault_keeps {s t : State} (x1) (e : (execCouplerFault x1 s) = .next t) : Keeps s t := by
  unfold execCouplerFault at e
  refine keeps_goesTo e ?_
  have h := keeps_refl s
  clear e
  apply State.alive_keeps
  · exact h
  · apply couplerFault_keeps
    exact h

theorem couplerHeartbeatReturn_keeps {s : State} (x1) (h : Keeps s₀ s) : Keeps s₀ (couplerHeartbeatReturn x1 s) := by
  unfold couplerHeartbeatReturn
  refine keeps_ite ?_ ?_
  · refine keeps_mk (s := s) ?_ rfl
    exact h
  · exact h

theorem execCouplerHeartbeatReturn_keeps {s t : State} (x1) (e : (execCouplerHeartbeatReturn x1 s) = .next t) : Keeps s t := by
  unfold execCouplerHeartbeatReturn at e
  refine keeps_goesTo e ?_
  have h := keeps_refl s
  clear e
  apply State.alive_keeps
  · exact h
  · apply couplerHeartbeatReturn_keeps
    exact h

theorem State.couplersAtT0_keeps {s : State} (h : Keeps s₀ s) : Keeps s₀ (State.couplersAtT0 s) := by
  unfold State.couplersAtT0
  extract_lets +onlyGivenNames y1
  have h2 : Keeps s₀ y1 := by
    dsimp -zeta only [y1]
    refine keeps_foldl ?_ ?_
    · exact h
    · intro s3
      intro x4
      intro h5
      refine keeps_ite ?_ ?_
      · exact h5
      · extract_lets +onlyGivenNames y6
        have h7 : Keeps s₀ y6 := by
          dsimp -zeta only [y6]
          apply State.setReg_keeps
          exact h5
        refine keeps_ite ?_ ?_
        · exact h7
        · apply State.outStat_keeps
          exact h7
  refine keeps_mk (s := y1) ?_ rfl
  exact h2

theorem State.showSupply_keeps {s : State} (h : Keeps s₀ s) (x2) (x3) : Keeps s₀ (State.showSupply s x2 x3) := by
  unfold State.showSupply
  apply State.setReg_keeps
  exact h

theorem State.supBit_keeps {s : State} (h : Keeps s₀ s) (x2) (x3) (x4) : Keeps s₀ (State.supBit s x2 x3 x4) := by
  unfold State.supBit
  apply State.setReg_keeps
  exact h

theorem State.supplyIsLow_keeps {s : State} (h : Keeps s₀ s) (x2) : Keeps s₀ (State.supplyIsLow s x2) := by
  unfold State.supplyIsLow
  extract_lets +onlyGivenNames y1
  have h2 : Keeps s₀ y1 := by
    dsimp -zeta only [y1]
    refine keeps_ite ?_ ?_
    · exact h
    · apply State.fioEvt_keeps
      exact h
  apply State.supBit_keeps
  apply State.supBit_keeps
  exact h2

theorem supplyLow_keeps {s : State} (x1) (x2) (h : Keeps s₀ s) : Keeps s₀ (supplyLow x1 x2 s) := by
  unfold supplyLow
  refine keeps_ite ?_ ?_
  · apply State.supplyIsLow_keeps
    apply State.showSupply_keeps
    exact h
  · exact h

theorem execSupplyLow_keeps {s t : State} (x1) (x2) (e : (execSupplyLow x1 x2 s) = .next t) : Keeps s t := by
  unfold execSupplyLow at e
  refine keeps_goesTo e ?_
  have h := keeps_refl s
  clear e
  apply State.alive_keeps
  · exact h
  · apply supplyLow_keeps
    exact h

theorem supplyLowClear_keeps {s : State} (x1) (x2) (h : Keeps s₀ s) : Keeps s₀ (supplyLowClear x1 x2 s) := by
  unfold supplyLowClear
  refine keeps_ite ?_ ?_
  · apply State.supBit_keeps
    apply State.supBit_keeps
    apply State.showSupply_keeps
    exact h
  · exact h

theorem execSupplyLowClear_keeps {s t : State} (x1) (x2) (e : (execSupplyLowClear x1 x2 s) = .next t) : Keeps s t := by
  unfold execSupplyLowClear at e
  refine keeps_goesTo e ?_
  have h := keeps_refl s
  clear e
  apply State.alive_keeps
  · exact h
  · apply supplyLowClear_keeps
    exact h

theorem supplyDip_keeps {s : State} (x1) (x2) (h : Keeps s₀ s) : Keeps s₀ (supplyDip x1 x2 s) := by
  unfold supplyDip
  refine keeps_ite ?_ ?_
  · extract_lets +onlyGivenNames y1
    extract_lets +onlyGivenNames y2
    have h3 : Keeps s₀ y2 := by
      dsimp -zeta only [y2]
      apply State.setReg_keeps
      exact h
    apply State.supBit_keeps
    apply State.supplyIsLow_keeps
    apply State.showSupply_keeps
    exact h3
  · exact h

theorem execSupplyDip_keeps {s t : State} (x1) (x2) (e : (execSupplyDip x1 x2 s) = .next t) : Keeps s t := by
  unfold execSupplyDip at e
  refine keeps_goesTo e ?_
  have h := keeps_refl s
  clear e
  apply State.alive_keeps
  · exact h
  · apply supplyDip_keeps
    exact h

theorem State.fioDown_keeps {s : State} (h : Keeps s₀ s) (x2) : Keeps s₀ (State.fioDown s x2) := by
  unfold State.fioDown
  extract_lets +onlyGivenNames y1
  extract_lets +onlyGivenNames y2
  extract_lets +onlyGivenNames y3
  have h4 : Keeps s₀ y3 := by
    dsimp -zeta only [y3]
    refine keeps_foldl ?_ ?_
    · apply State.setFioGroup_keeps
      exact h
    · intro s5
      intro x6
      intro h7
      apply State.forceOff_keeps
      exact h7
  refine keeps_ite ?_ ?_
  · apply State.complete_keeps
    exact h4
  · exact h4

theorem supplyLost_keeps {s : State} (x1) (x2) (h : Keeps s₀ s) : Keeps s₀ (supplyLost x1 x2 s) := by
  unfold supplyLost
  refine keeps_ite ?_ ?_
  · extract_lets +onlyGivenNames y1
    have h2 : Keeps s₀ y1 := by
      dsimp -zeta only [y1]
      apply State.fioEvt_keeps
      apply State.supBit_keeps
      apply State.supplyIsLow_keeps
      apply State.showSupply_keeps
      exact h
    refine keeps_ite ?_ ?_
    · exact h2
    · apply State.fioDown_keeps
      exact h2
  · exact h

theorem execSupplyLost_keeps {s t : State} (x1) (x2) (e : (execSupplyLost x1 x2 s) = .next t) : Keeps s t := by
  unfold execSupplyLost at e
  refine keeps_goesTo e ?_
  have h := keeps_refl s
  clear e
  apply State.alive_keeps
  · exact h
  · apply supplyLost_keeps
    exact h

theorem supplyRecovered_keeps {s : State} (x1) (x2) (h : Keeps s₀ s) : Keeps s₀ (supplyRecovered x1 x2 s) := by
  unfold supplyRecovered
  refine keeps_ite ?_ ?_
  · extract_lets +onlyGivenNames y1
    have h2 : Keeps s₀ y1 := by
      dsimp -zeta only [y1]
      apply State.supBit_keeps
      apply State.supBit_keeps
      apply State.showSupply_keeps
      exact h
    refine keeps_ite ?_ ?_
    · apply State.setFioGroup_keeps
      exact h2
    · exact h2
  · exact h

theorem execSupplyRecovered_keeps {s t : State} (x1) (x2) (e : (execSupplyRecovered x1 x2 s) = .next t) : Keeps s t := by
  unfold execSupplyRecovered at e
  refine keeps_goesTo e ?_
  have h := keeps_refl s
  clear e
  apply State.alive_keeps
  · exact h
  · apply supplyRecovered_keeps
    exact h

theorem rawInputEdge_keeps {s : State} (x1) (x2) (h : Keeps s₀ s) : Keeps s₀ (rawInputEdge x1 x2 s) := by
  unfold rawInputEdge
  refine keeps_ite ?_ ?_
  · exact h
  · extract_lets +onlyGivenNames y1
    apply State.setFioIn_keeps
    apply State.setReg_keeps
    exact h

theorem execRawInputEdge_keeps {s t : State} (x1) (x2) (e : (execRawInputEdge x1 x2 s) = .next t) : Keeps s t := by
  unfold execRawInputEdge at e
  refine keeps_goesTo e ?_
  have h := keeps_refl s
  clear e
  apply State.alive_keeps
  · exact h
  · apply rawInputEdge_keeps
    exact h

theorem State.setTsf_keeps {s : State} (h : Keeps s₀ s) (x2) : Keeps s₀ (State.setTsf s x2) := by
  unfold State.setTsf
  apply State.setReg_keeps
  refine keeps_mk (s := s) ?_ rfl
  exact h

theorem State.tsfPush_keeps {s : State} (h : Keeps s₀ s) (x2) (x3) : Keeps s₀ (State.tsfPush s x2 x3) := by
  unfold State.tsfPush
  refine keeps_ite ?_ ?_
  · exact h
  · refine keeps_ite ?_ ?_
    · apply State.fioEvt_keeps
      extract_lets +onlyGivenNames y1
      have h2 : Keeps s₀ y1 := by
        dsimp -zeta only [y1]
        apply State.inc_keeps
        exact h
      refine keeps_mk (s := y1) ?_ rfl
      exact h2
    · extract_lets +onlyGivenNames y3
      extract_lets +onlyGivenNames y4
      extract_lets +onlyGivenNames y5
      extract_lets +onlyGivenNames y6
      extract_lets +onlyGivenNames y7
      extract_lets +onlyGivenNames y8
      extract_lets +onlyGivenNames y9
      have h10 : Keeps s₀ y9 := by
        dsimp -zeta only [y9]
        apply State.setTsf_keeps
        refine keeps_mk (s := s) ?_ rfl
        exact h
      apply State.raiseEvt_keeps
      exact h10

theorem inputFilterTick_keeps {s : State} (x1) (h : Keeps s₀ s) : Keeps s₀ (inputFilterTick x1 s) := by
  unfold inputFilterTick
  extract_lets +onlyGivenNames y1
  extract_lets +onlyGivenNames y2
  have h3 : Keeps s₀ y2 := by
    dsimp -zeta only [y2]
    apply State.advanceTo_keeps
    exact h
  extract_lets +onlyGivenNames y4
  extract_lets +onlyGivenNames y5
  extract_lets +onlyGivenNames y6
  extract_lets +onlyGivenNames y7
  extract_lets +onlyGivenNames y8
  refine keeps_ite ?_ ?_
  · apply State.setFioIn_keeps
    exact h3
  · refine keeps_ite ?_ ?_
    · dsimp -zeta only [y8]
      apply State.setReg_keeps
      apply State.setFioIn_keeps
      exact h3
    · extract_lets +onlyGivenNames y9
      extract_lets +onlyGivenNames y10
      extract_lets +onlyGivenNames y11
      have h12 : Keeps s₀ y11 := by
        dsimp -zeta only [y11]
        apply State.setFioIn_keeps
        exact h3
      extract_lets +onlyGivenNames y13
      refine keeps_ite ?_ ?_
      · exact h12
      · apply State.tsfPush_keeps
        dsimp -zeta only [y8]
        apply State.setReg_keeps
        exact h12

theorem execInputFilterTick_keeps {s t : State} (x1) (e : (execInputFilterTick x1 s) = .next t) : Keeps s t := by
  unfold execInputFilterTick at e
  refine keeps_goesTo e ?_
  have h := keeps_refl s
  clear e
  apply State.alive_keeps
  · exact h
  · apply inputFilterTick_keeps
    exact h

theorem tsfRead_keeps {s : State} (x1) (h : Keeps s₀ s) : Keeps s₀ (tsfRead x1 s) := by
  unfold tsfRead
  apply State.access_keeps
  · exact h
  · intro s1
    intro h2
    split
    · apply State.answer_keeps
      apply State.latch_keeps
      apply State.setTsf_keeps
      exact h2
    · apply State.answer_keeps
      exact h2

theorem execTsfRead_keeps {s t : State} (x1) (e : (execTsfRead x1 s) = .next t) : Keeps s t := by
  unfold execTsfRead at e
  refine keeps_goesTo e ?_
  have h := keeps_refl s
  clear e
  apply tsfRead_keeps
  exact h

theorem State.outAtT0_keeps {s : State} (h : Keeps s₀ s) (x2) : Keeps s₀ (State.outAtT0 s x2) := by
  unfold State.outAtT0
  extract_lets +onlyGivenNames y1
  extract_lets +onlyGivenNames y2
  extract_lets +onlyGivenNames y3
  have h4 : Keeps s₀ y3 := by
    dsimp -zeta only [y3]
    refine keeps_ite ?_ ?_
    · apply State.outStat_keeps
      exact h
    · exact h
  extract_lets +onlyGivenNames y5
  extract_lets +onlyGivenNames y6
  refine keeps_ite ?_ ?_
  · refine keeps_ite ?_ ?_
    · exact h4
    · apply State.breakPulse_keeps
      exact h4
  · refine keeps_ite ?_ ?_
    · extract_lets +onlyGivenNames y7
      extract_lets +onlyGivenNames y8
      have h9 : Keeps s₀ y8 := by
        dsimp -zeta only [y8]
        refine keeps_mk (s := y3) ?_ rfl
        exact h4
      apply State.setOut_keeps
      exact h9
    · apply State.setOut_keeps
      exact h4

theorem State.fioAtT0_keeps {s : State} (h : Keeps s₀ s) : Keeps s₀ (State.fioAtT0 s) := by
  unfold State.fioAtT0
  extract_lets +onlyGivenNames y1
  have h2 : Keeps s₀ y1 := by
    dsimp -zeta only [y1]
    apply State.couplersAtT0_keeps
    exact h
  extract_lets +onlyGivenNames y3
  have h4 : Keeps s₀ y3 := by
    dsimp -zeta only [y3]
    apply State.complete_keeps
    exact h2
  extract_lets +onlyGivenNames y5
  have h6 : Keeps s₀ y5 := by
    dsimp -zeta only [y5]
    split
    · refine keeps_ite ?_ ?_
      · refine keeps_foldl ?_ ?_
        · exact h4
        · intro s7
          intro x8
          intro h9
          refine keeps_ite ?_ ?_
          · apply State.outStat_keeps
            apply State.setReg_keeps
            exact h9
          · exact h9
      · exact h4
    · dsimp -zeta only [y1]
      apply State.couplersAtT0_keeps
      exact h
  extract_lets +onlyGivenNames y10
  have h11 : Keeps s₀ y10 := by
    dsimp -zeta only [y10]
    refine keeps_foldl ?_ ?_
    · exact h6
    · intro s12
      intro x13
      intro h14
      refine keeps_ite ?_ ?_
      · refine keeps_foldl ?_ ?_
        · apply State.setFioGroup_keeps
          exact h14
        · intro s15
          intro x16
          intro h17
          refine keeps_ite ?_ ?_
          · apply State.outStat_keeps
            exact h17
          · exact h17
      · exact h14
  extract_lets +onlyGivenNames y18
  have h19 : Keeps s₀ y18 := by
    dsimp -zeta only [y18]
    refine keeps_foldl ?_ ?_
    · exact h11
    · intro s20
      intro x21
      intro h22
      apply State.outAtT0_keeps
      exact h22
  refine keeps_foldl ?_ ?_
  · exact h19
  · intro s23
    intro x24
    intro h25
    refine keeps_ite ?_ ?_
    · apply State.pubInt_keeps
      exact h25
    · exact h25

theorem State.fieldOff_keeps {s : State} (h : Keeps s₀ s) : Keeps s₀ (State.fieldOff s) := by
  unfold State.fieldOff
  refine keeps_foldl ?_ ?_
  · exact h
  · intro s1
    intro x2
    intro h3
    apply State.forceOff_keeps
    exact h3

theorem outputOverload_keeps {s : State} (x1) (h : Keeps s₀ s) : Keeps s₀ (outputOverload x1 s) := by
  unfold outputOverload
  refine keeps_ite ?_ ?_
  · extract_lets +onlyGivenNames y1
    have h2 : Keeps s₀ y1 := by
      dsimp -zeta only [y1]
      apply State.outStat_keeps
      apply State.orReg_keeps
      exact h
    apply State.forceOff_keeps
    apply State.fioEvt_keeps
    apply State.inc_keeps
    exact h2
  · exact h

theorem execOutputOverload_keeps {s t : State} (x1) (e : (execOutputOverload x1 s) = .next t) : Keeps s t := by
  unfold execOutputOverload at e
  refine keeps_goesTo e ?_
  have h := keeps_refl s
  clear e
  apply State.alive_keeps
  · exact h
  · apply outputOverload_keeps
    exact h

theorem State.toSafe_keeps {s : State} (h : Keeps s₀ s) (x2) : Keeps s₀ (State.toSafe s x2) := by
  unfold State.toSafe
  refine keeps_ite ?_ ?_
  · apply State.safeOutTest_keeps
    exact h
  · exact h

theorem readbackMismatch_keeps {s : State} (x1) (h : Keeps s₀ s) : Keeps s₀ (readbackMismatch x1 s) := by
  unfold readbackMismatch
  extract_lets +onlyGivenNames y1
  have h2 : Keeps s₀ y1 := by
    dsimp -zeta only [y1]
    apply State.setReg_keeps
    exact h
  apply State.toSafe_keeps
  apply State.fioEvt_keeps
  apply State.inc_keeps
  apply State.outStat_keeps
  exact h2

theorem execReadbackMismatch_keeps {s t : State} (x1) (e : (execReadbackMismatch x1 s) = .next t) : Keeps s t := by
  unfold execReadbackMismatch at e
  refine keeps_goesTo e ?_
  have h := keeps_refl s
  clear e
  apply State.alive_keeps
  · exact h
  · apply readbackMismatch_keeps
    exact h

theorem openLoad_keeps {s : State} (x1) (h : Keeps s₀ s) : Keeps s₀ (openLoad x1 s) := by
  unfold openLoad
  refine keeps_ite ?_ ?_
  · apply State.fioEvt_keeps
    apply State.outStat_keeps
    exact h
  · exact h

theorem execOpenLoad_keeps {s t : State} (x1) (e : (execOpenLoad x1 s) = .next t) : Keeps s t := by
  unfold execOpenLoad at e
  refine keeps_goesTo e ?_
  have h := keeps_refl s
  clear e
  apply State.alive_keeps
  · exact h
  · apply openLoad_keeps
    exact h

theorem State.tpFail_keeps {s : State} (h : Keeps s₀ s) (x2) : Keeps s₀ (State.tpFail s x2) := by
  unfold State.tpFail
  apply State.toSafe_keeps
  apply State.fioEvt_keeps
  apply State.outStat_keeps
  exact h

theorem testPulseCheck_keeps {s : State} (x1) (x2) (h : Keeps s₀ s) : Keeps s₀ (testPulseCheck x1 x2 s) := by
  unfold testPulseCheck
  split
  · extract_lets +onlyGivenNames y1
    refine keeps_ite ?_ ?_
    · extract_lets +onlyGivenNames y2
      have h3 : Keeps s₀ y2 := by
        dsimp -zeta only [y2]
        apply State.advanceTo_keeps
        exact h
      extract_lets +onlyGivenNames y4
      extract_lets +onlyGivenNames y5
      have h6 : Keeps s₀ y5 := by
        dsimp -zeta only [y5]
        dsimp -zeta only [y1]
        apply State.setReg_keeps
        refine keeps_mk (s := y2) ?_ rfl
        exact h3
      refine keeps_ite ?_ ?_
      · apply State.tpFail_keeps
        exact h6
      · exact h6
    · refine keeps_ite ?_ ?_
      · extract_lets +onlyGivenNames y7
        have h8 : Keeps s₀ y7 := by
          dsimp -zeta only [y7]
          apply State.advanceTo_keeps
          exact h
        extract_lets +onlyGivenNames y9
        extract_lets +onlyGivenNames y10
        have h11 : Keeps s₀ y10 := by
          dsimp -zeta only [y10]
          refine keeps_mk (s := y7) ?_ rfl
          exact h8
        refine keeps_ite ?_ ?_
        · exact h11
        · refine keeps_ite ?_ ?_
          · dsimp -zeta only [y1]
            apply State.setReg_keeps
            exact h11
          · apply State.tpFail_keeps
            dsimp -zeta only [y1]
            apply State.setReg_keeps
            exact h11
      · exact h
  · exact h

theorem execTestPulseCheck_keeps {s t : State} (x1) (x2) (e : (execTestPulseCheck x1 x2 s) = .next t) : Keeps s t := by
  unfold execTestPulseCheck at e
  refine keeps_goesTo e ?_
  have h := keeps_refl s
  clear e
  apply State.alive_keeps
  · exact h
  · apply testPulseCheck_keeps
    exact h

theorem testPulseEnd_keeps {s : State} (x1) (h : Keeps s₀ s) : Keeps s₀ (testPulseEnd x1 s) := by
  unfold testPulseEnd
  split
  · refine keeps_ite ?_ ?_
    · extract_lets +onlyGivenNames y1
      have h2 : Keeps s₀ y1 := by
        dsimp -zeta only [y1]
        apply State.advanceTo_keeps
        exact h
      refine keeps_ite ?_ ?_
      · refine keeps_mk (s := y1) ?_ rfl
        exact h2
      · apply State.setOut_keeps
        refine keeps_mk (s := y1) ?_ rfl
        exact h2
    · exact h
  · exact h

theorem execTestPulseEnd_keeps {s t : State} (x1) (e : (execTestPulseEnd x1 s) = .next t) : Keeps s t := by
  unfold execTestPulseEnd at e
  refine keeps_goesTo e ?_
  have h := keeps_refl s
  clear e
  apply State.alive_keeps
  · exact h
  · apply testPulseEnd_keeps
    exact h

theorem fioArm_keeps {s : State} (x1) (x2) (h : Keeps s₀ s) : Keeps s₀ (fioArm x1 x2 s) := by
  unfold fioArm
  extract_lets +onlyGivenNames y1
  extract_lets +onlyGivenNames y2
  apply State.command_keeps
  · exact h
  · intro s3
    intro h4
    refine keeps_foldl ?_ ?_
    · exact h4
    · intro s5
      intro x6
      intro h7
      refine keeps_ite ?_ ?_
      · apply State.setFioGroup_keeps
        exact h7
      · exact h7

theorem execFioArm_keeps {s t : State} (x1) (x2) (e : (execFioArm x1 x2 s) = .next t) : Keeps s t := by
  unfold execFioArm at e
  refine keeps_goesTo e ?_
  have h := keeps_refl s
  clear e
  apply fioArm_keeps
  exact h

theorem fioClearOut_keeps {s : State} (x1) (x2) (h : Keeps s₀ s) : Keeps s₀ (fioClearOut x1 x2 s) := by
  unfold fioClearOut
  extract_lets +onlyGivenNames y1
  extract_lets +onlyGivenNames y2
  apply State.command_keeps
  · exact h
  · intro s3
    intro h4
    exact h4

theorem execFioClearOut_keeps {s t : State} (x1) (x2) (e : (execFioClearOut x1 x2 s) = .next t) : Keeps s t := by
  unfold execFioClearOut at e
  refine keeps_goesTo e ?_
  have h := keeps_refl s
  clear e
  apply fioClearOut_keeps
  exact h

theorem fioFlushTsf_keeps {s : State} (x1) (x2) (h : Keeps s₀ s) : Keeps s₀ (fioFlushTsf x1 x2 s) := by
  unfold fioFlushTsf
  apply State.command_keeps
  · exact h
  · intro s1
    intro h2
    apply State.setTsf_keeps
    exact h2

theorem execFioFlushTsf_keeps {s t : State} (x1) (x2) (e : (execFioFlushTsf x1 x2 s) = .next t) : Keeps s t := by
  unfold execFioFlushTsf at e
  refine keeps_goesTo e ?_
  have h := keeps_refl s
  clear e
  apply fioFlushTsf_keeps
  exact h

theorem fioClearStats_keeps {s : State} (x1) (x2) (h : Keeps s₀ s) : Keeps s₀ (fioClearStats x1 x2 s) := by
  unfold fioClearStats
  apply State.command_keeps
  · exact h
  · intro s1
    intro h2
    extract_lets +onlyGivenNames y3
    have h4 : Keeps s₀ y3 := by
      dsimp -zeta only [y3]
      apply State.zeroRegs_keeps
      exact h2
    refine keeps_foldl ?_ ?_
    · exact h4
    · intro s5
      intro x6
      intro h7
      apply State.outStat_keeps
      apply State.outStat_keeps
      apply State.outStat_keeps
      exact h7

theorem fioAbort_keeps {s : State} (x1) (x2) (h : Keeps s₀ s) : Keeps s₀ (fioAbort x1 x2 s) := by
  unfold fioAbort
  apply State.abort_keeps
  · exact h
  · intro x1
    intro s2
    intro h3
    split
    · refine keeps_ite ?_ ?_
      · refine keeps_foldl ?_ ?_
        · exact h3
        · intro s4
          intro x5
          intro h6
          refine keeps_ite ?_ ?_
          · apply State.setFioGroup_keeps
            exact h6
          · exact h6
      · exact h3
    · exact h3

theorem execFioAbort_keeps {s t : State} (x1) (x2) (e : (execFioAbort x1 x2 s) = .next t) : Keeps s t := by
  unfold execFioAbort at e
  refine keeps_goesTo e ?_
  have h := keeps_refl s
  clear e
  apply fioAbort_keeps
  exact h

end Sys2Proof.Machine
end

