-- ==== Sys2Proof/Laws/KeepsRing.lean ====
section
/-!
SUPPORT. What the operations keep: the ring, interlocks, the recorder, PCIe and faults.
-/
namespace Sys2Proof.Machine

variable {s₀ : State}

theorem State.setOcuPort_keeps {s : State} (h : Keeps s₀ s) (x2) (x3) (x4) : Keeps s₀ (State.setOcuPort s x2 x3 x4) := by
  unfold State.setOcuPort
  apply State.setOcu_keeps
  exact h

theorem State.ocuEvt_keeps {s : State} (h : Keeps s₀ s) (x2) (x3) : Keeps s₀ (State.ocuEvt s x2 x3) := by
  unfold State.ocuEvt
  apply State.raiseEvt_keeps
  exact h

theorem State.setTim_keeps {s : State} (h : Keeps s₀ s) (x2) (x3) (x4) (x5) : Keeps s₀ (State.setTim s x2 x3 x4 x5) := by
  unfold State.setTim
  apply State.setReg_keeps
  exact h

theorem State.setOcuSt_keeps {s : State} (h : Keeps s₀ s) (x2) (x3) : Keeps s₀ (State.setOcuSt s x2 x3) := by
  unfold State.setOcuSt
  extract_lets +onlyGivenNames y1
  refine keeps_ite ?_ ?_
  · extract_lets +onlyGivenNames y2
    have h3 : Keeps s₀ y2 := by
      dsimp -zeta only [y2]
      apply State.setState_keeps
      apply State.setTim_keeps
      apply State.setTim_keeps
      exact h
    apply State.setOcu_keeps
    exact h3
  · apply State.setState_keeps
    exact h

theorem State.setHead_keeps {s : State} (h : Keeps s₀ s) (x2) (x3) (x4) : Keeps s₀ (State.setHead s x2 x3 x4) := by
  unfold State.setHead
  apply State.setTim_keeps
  apply State.setState_keeps
  exact h

theorem State.countFrame_keeps {s : State} (h : Keeps s₀ s) (x2) (x3) (x4) : Keeps s₀ (State.countFrame s x2 x3 x4) := by
  unfold State.countFrame
  split
  · apply State.inc_keeps
    exact h
  · apply State.ocuEvt_keeps
    apply State.inc_keeps
    exact h
  · apply State.ocuEvt_keeps
    apply State.inc_keeps
    exact h

theorem State.newEvent_keeps {s : State} (h : Keeps s₀ s) (x2) : Keeps s₀ (State.newEvent s x2) := by
  unfold State.newEvent
  apply State.setOcu_keeps
  exact h

theorem State.putFrame_keeps {s : State} (h : Keeps s₀ s) (x2) (x3) (x4) : Keeps s₀ (State.putFrame s x2 x3 x4) := by
  unfold State.putFrame
  refine keeps_ite ?_ ?_
  · apply State.setOcu_keeps
    exact h
  · exact h

theorem State.sendFrame_keeps {s : State} (h : Keeps s₀ s) (x2) (x3) (x4) : Keeps s₀ (State.sendFrame s x2 x3 x4) := by
  unfold State.sendFrame
  refine keeps_ite ?_ ?_
  · apply State.putFrame_keeps
    exact h
  · refine keeps_ite ?_ ?_
    · apply State.putFrame_keeps
      exact h
    · exact h

theorem State.within_keeps {s : State} {f3} (h : Keeps s₀ s) (x2) (g3 : ∀ a1, Keeps s₀ a1 → Keeps s₀ (f3 a1)) : Keeps s₀ (State.within s x2 f3) := by
  unfold State.within
  extract_lets +onlyGivenNames y1
  refine keeps_ite ?_ ?_
  · exact h
  · extract_lets +onlyGivenNames y2
    extract_lets +onlyGivenNames y3
    have h4 : Keeps s₀ y3 := by
      dsimp -zeta only [y3]
      apply State.advanceTo_keeps
      exact h
    apply g3
    refine keeps_ite ?_ ?_
    · apply State.moveTime_keeps
      exact h4
    · exact h4

theorem State.ringEvent_keeps {s : State} {f4} (h : Keeps s₀ s) (x2) (x3) (g4 : ∀ a1, Keeps s₀ a1 → Keeps s₀ (f4 a1)) : Keeps s₀ (State.ringEvent s x2 x3 f4) := by
  unfold State.ringEvent
  refine keeps_ite ?_ ?_
  · exact h
  · apply State.within_keeps
    · exact h
    · intro s1
      intro h2
      apply g4
      apply State.newEvent_keeps
      exact h2

theorem State.ocuDelays_keeps {s : State} (h : Keeps s₀ s) (x2) : Keeps s₀ (State.ocuDelays s x2) := by
  unfold State.ocuDelays
  extract_lets +onlyGivenNames y1
  have h2 : Keeps s₀ y1 := by
    dsimp -zeta only [y1]
    refine keeps_foldl ?_ ?_
    · exact h
    · intro s3
      intro x4
      intro h5
      apply State.setReg_keeps
      exact h5
  extract_lets +onlyGivenNames y6
  extract_lets +onlyGivenNames y7
  have h8 : Keeps s₀ y7 := by
    dsimp -zeta only [y7]
    dsimp -zeta only [y6]
    split
    · apply State.setTim_keeps
      apply State.setReg_keeps
      split
      · apply State.setTim_keeps
        apply State.setReg_keeps
        exact h2
      · apply State.setTim_keeps
        exact h2
    · apply State.setTim_keeps
      split
      · apply State.setTim_keeps
        apply State.setReg_keeps
        exact h2
      · apply State.setTim_keeps
        exact h2
  extract_lets +onlyGivenNames y9
  have h10 : Keeps s₀ y9 := by
    dsimp -zeta only [y9]
    apply State.setReg_keeps
    exact h8
  refine keeps_foldl ?_ ?_
  · exact h10
  · intro s11
    intro x12
    intro h13
    apply State.setReg_keeps
    exact h13

theorem ocuStart_keeps {s : State} (x1) (x2) (x3) (h : Keeps s₀ s) : Keeps s₀ (ocuStart x1 x2 x3 s) := by
  unfold ocuStart
  apply State.command_keeps
  · exact h
  · intro s1
    intro h2
    extract_lets +onlyGivenNames y3
    extract_lets +onlyGivenNames y4
    have h5 : Keeps s₀ y4 := by
      dsimp -zeta only [y4]
      apply State.setOcu_keeps
      exact h2
    extract_lets +onlyGivenNames y6
    apply State.setTim_keeps
    apply State.setOcuSt_keeps
    exact h5

theorem execOcuStart_keeps {s t : State} (x1) (x2) (x3) (e : (execOcuStart x1 x2 x3 s) = .next t) : Keeps s t := by
  unfold execOcuStart at e
  refine keeps_goesTo e ?_
  have h := keeps_refl s
  clear e
  apply ocuStart_keeps
  exact h

theorem ocuStop_keeps {s : State} (x1) (x2) (x3) (h : Keeps s₀ s) : Keeps s₀ (ocuStop x1 x2 x3 s) := by
  unfold ocuStop
  apply State.command_keeps
  · exact h
  · intro s1
    intro h2
    refine keeps_ite ?_ ?_
    · apply State.setState_keeps
      apply State.setOcu_keeps
      exact h2
    · exact h2

theorem execOcuStop_keeps {s t : State} (x1) (x2) (x3) (e : (execOcuStop x1 x2 x3 s) = .next t) : Keeps s t := by
  unfold execOcuStop at e
  refine keeps_goesTo e ?_
  have h := keeps_refl s
  clear e
  apply ocuStop_keeps
  exact h

theorem ocuLoadSched_keeps {s : State} (x1) (x2) (x3) (h : Keeps s₀ s) : Keeps s₀ (ocuLoadSched x1 x2 x3 s) := by
  unfold ocuLoadSched
  apply State.command_keeps
  · exact h
  · intro s1
    intro h2
    extract_lets +onlyGivenNames y3
    have h4 : Keeps s₀ y3 := by
      dsimp -zeta only [y3]
      refine keeps_foldl ?_ ?_
      · exact h2
      · intro s5
        intro x6
        intro h7
        apply State.setReg_keeps
        exact h7
    apply State.setOcu_keeps
    exact h4

theorem execOcuLoadSched_keeps {s t : State} (x1) (x2) (x3) (e : (execOcuLoadSched x1 x2 x3 s) = .next t) : Keeps s t := by
  unfold execOcuLoadSched at e
  refine keeps_goesTo e ?_
  have h := keeps_refl s
  clear e
  apply ocuLoadSched_keeps
  exact h

theorem State.queueOwn_keeps {s : State} (h : Keeps s₀ s) (x2) (x3) (x4) : Keeps s₀ (State.queueOwn s x2 x3 x4) := by
  unfold State.queueOwn
  apply State.setOcu_keeps
  exact h

theorem ocuMbSend_keeps {s : State} (x1) (x2) (x3) (h : Keeps s₀ s) : Keeps s₀ (ocuMbSend x1 x2 x3 s) := by
  unfold ocuMbSend
  extract_lets +onlyGivenNames y1
  apply State.command_keeps
  · exact h
  · intro s2
    intro h3
    extract_lets +onlyGivenNames y4
    extract_lets +onlyGivenNames y5
    extract_lets +onlyGivenNames y6
    extract_lets +onlyGivenNames y7
    extract_lets +onlyGivenNames y8
    have h9 : Keeps s₀ y8 := by
      dsimp -zeta only [y8]
      apply State.setReg_keeps
      apply State.queueOwn_keeps
      exact h3
    apply State.setOcu_keeps
    exact h9

theorem execOcuMbSend_keeps {s t : State} (x1) (x2) (x3) (e : (execOcuMbSend x1 x2 x3 s) = .next t) : Keeps s t := by
  unfold execOcuMbSend at e
  refine keeps_goesTo e ?_
  have h := keeps_refl s
  clear e
  apply ocuMbSend_keeps
  exact h

theorem ocuMbRelease_keeps {s : State} (x1) (x2) (x3) (h : Keeps s₀ s) : Keeps s₀ (ocuMbRelease x1 x2 x3 s) := by
  unfold ocuMbRelease
  extract_lets +onlyGivenNames y1
  apply State.command_keeps
  · exact h
  · intro s2
    intro h3
    apply State.setReg_keeps
    exact h3

theorem execOcuMbRelease_keeps {s t : State} (x1) (x2) (x3) (e : (execOcuMbRelease x1 x2 x3 s) = .next t) : Keeps s t := by
  unfold execOcuMbRelease at e
  refine keeps_goesTo e ?_
  have h := keeps_refl s
  clear e
  apply ocuMbRelease_keeps
  exact h

theorem ocuBulkSend_keeps {s : State} (x1) (x2) (x3) (h : Keeps s₀ s) : Keeps s₀ (ocuBulkSend x1 x2 x3 s) := by
  unfold ocuBulkSend
  extract_lets +onlyGivenNames y1
  extract_lets +onlyGivenNames y2
  apply State.command_keeps
  · exact h
  · intro s3
    intro h4
    extract_lets +onlyGivenNames y5
    extract_lets +onlyGivenNames y6
    extract_lets +onlyGivenNames y7
    have h8 : Keeps s₀ y7 := by
      dsimp -zeta only [y7]
      apply State.setReg_keeps
      apply State.setReg_keeps
      exact h4
    apply State.setOcu_keeps
    exact h8

theorem execOcuBulkSend_keeps {s t : State} (x1) (x2) (x3) (e : (execOcuBulkSend x1 x2 x3 s) = .next t) : Keeps s t := by
  unfold execOcuBulkSend at e
  refine keeps_goesTo e ?_
  have h := keeps_refl s
  clear e
  apply ocuBulkSend_keeps
  exact h

theorem State.mbEnd_keeps {s : State} (h : Keeps s₀ s) (x2) (x3) : Keeps s₀ (State.mbEnd s x2 x3) := by
  unfold State.mbEnd
  extract_lets +onlyGivenNames y1
  extract_lets +onlyGivenNames y2
  have h3 : Keeps s₀ y2 := by
    dsimp -zeta only [y2]
    apply State.setOcu_keeps
    exact h
  apply State.ocuEvt_keeps
  apply State.setReg_keeps
  exact h3

theorem State.bulkEnd_keeps {s : State} (h : Keeps s₀ s) (x2) (x3) (x4) : Keeps s₀ (State.bulkEnd s x2 x3 x4) := by
  unfold State.bulkEnd
  apply State.ocuEvt_keeps
  apply State.setReg_keeps
  apply State.setOcu_keeps
  exact h

theorem ocuAbort_keeps {s : State} (x1) (x2) (x3) (h : Keeps s₀ s) : Keeps s₀ (ocuAbort x1 x2 x3 s) := by
  unfold ocuAbort
  apply State.abort_keeps
  · exact h
  · intro x1
    intro s2
    intro h3
    extract_lets +onlyGivenNames y4
    extract_lets +onlyGivenNames y5
    have h6 : Keeps s₀ y5 := by
      dsimp -zeta only [y5]
      apply State.setState_keeps
      apply State.setOcu_keeps
      exact h3
    extract_lets +onlyGivenNames y7
    have h8 : Keeps s₀ y7 := by
      dsimp -zeta only [y7]
      refine keeps_ite ?_ ?_
      · apply State.mbEnd_keeps
        exact h6
      · exact h6
    refine keeps_ite ?_ ?_
    · apply State.bulkEnd_keeps
      exact h8
    · exact h8

theorem execOcuAbort_keeps {s t : State} (x1) (x2) (x3) (e : (execOcuAbort x1 x2 x3 s) = .next t) : Keeps s t := by
  unfold execOcuAbort at e
  refine keeps_goesTo e ?_
  have h := keeps_refl s
  clear e
  apply ocuAbort_keeps
  exact h

theorem State.ocuClearStats_keeps {s : State} (h : Keeps s₀ s) (x2) : Keeps s₀ (State.ocuClearStats s x2) := by
  unfold State.ocuClearStats
  extract_lets +onlyGivenNames y1
  apply State.zeroRegs_keeps
  exact h

theorem State.linkStat_keeps {s : State} (h : Keeps s₀ s) (x2) (x3) : Keeps s₀ (State.linkStat s x2 x3) := by
  unfold State.linkStat
  extract_lets +onlyGivenNames y1
  extract_lets +onlyGivenNames y2
  extract_lets +onlyGivenNames y3
  extract_lets +onlyGivenNames y4
  extract_lets +onlyGivenNames y5
  have h6 : Keeps s₀ y5 := by
    dsimp -zeta only [y5]
    apply State.setReg_keeps
    exact h
  extract_lets +onlyGivenNames y7
  have h8 : Keeps s₀ y7 := by
    dsimp -zeta only [y7]
    refine keeps_ite ?_ ?_
    · exact h6
    · apply State.setOcuPort_keeps
      exact h6
  refine keeps_ite ?_ ?_
  · apply State.ocuEvt_keeps
    exact h8
  · exact h8

theorem linkBlockReceived_keeps {s : State} (x1) (x2) (x3) (x4) (h : Keeps s₀ s) : Keeps s₀ (linkBlockReceived x1 x2 x3 x4 s) := by
  unfold linkBlockReceived
  apply State.ringEvent_keeps
  · exact h
  · intro s1
    intro h2
    extract_lets +onlyGivenNames y3
    refine keeps_ite ?_ ?_
    · exact h2
    · refine keeps_ite ?_ ?_
      · apply State.inc_keeps
        exact h2
      · extract_lets +onlyGivenNames y4
        extract_lets +onlyGivenNames y5
        extract_lets +onlyGivenNames y6
        extract_lets +onlyGivenNames y7
        have h8 : Keeps s₀ y7 := by
          dsimp -zeta only [y7]
          apply State.setReg_keeps
          exact h2
        extract_lets +onlyGivenNames y9
        extract_lets +onlyGivenNames y10
        extract_lets +onlyGivenNames y11
        apply State.linkStat_keeps
        apply State.setOcuPort_keeps
        exact h8

theorem execLinkBlockReceived_keeps {s t : State} (x1) (x2) (x3) (x4) (e : (execLinkBlockReceived x1 x2 x3 x4 s) = .next t) : Keeps s t := by
  unfold execLinkBlockReceived at e
  refine keeps_goesTo e ?_
  have h := keeps_refl s
  clear e
  apply linkBlockReceived_keeps
  exact h

theorem blockLockAcquired_keeps {s : State} (x1) (x2) (h : Keeps s₀ s) : Keeps s₀ (blockLockAcquired x1 x2 s) := by
  unfold blockLockAcquired
  apply State.ringEvent_keeps
  · exact h
  · intro s1
    intro h2
    apply State.linkStat_keeps
    apply State.setReg_keeps
    exact h2

theorem execBlockLockAcquired_keeps {s t : State} (x1) (x2) (e : (execBlockLockAcquired x1 x2 s) = .next t) : Keeps s t := by
  unfold execBlockLockAcquired at e
  refine keeps_goesTo e ?_
  have h := keeps_refl s
  clear e
  apply blockLockAcquired_keeps
  exact h

theorem blockLockLost_keeps {s : State} (x1) (x2) (h : Keeps s₀ s) : Keeps s₀ (blockLockLost x1 x2 s) := by
  unfold blockLockLost
  apply State.ringEvent_keeps
  · exact h
  · intro s1
    intro h2
    refine keeps_ite ?_ ?_
    · exact h2
    · extract_lets +onlyGivenNames y3
      have h4 : Keeps s₀ y3 := by
        dsimp -zeta only [y3]
        apply State.addSat_keeps
        exact h2
      extract_lets +onlyGivenNames y5
      extract_lets +onlyGivenNames y6
      have h7 : Keeps s₀ y6 := by
        dsimp -zeta only [y6]
        apply State.setOcuPort_keeps
        exact h4
      extract_lets +onlyGivenNames y8
      have h9 : Keeps s₀ y8 := by
        dsimp -zeta only [y8]
        apply State.setReg_keeps
        exact h7
      apply State.ocuDelays_keeps
      apply State.linkStat_keeps
      exact h9

theorem execBlockLockLost_keeps {s t : State} (x1) (x2) (e : (execBlockLockLost x1 x2 s) = .next t) : Keeps s t := by
  unfold execBlockLockLost at e
  refine keeps_goesTo e ?_
  have h := keeps_refl s
  clear e
  apply blockLockLost_keeps
  exact h

theorem linkBreak_keeps {s : State} (x1) (x2) (x3) (h : Keeps s₀ s) : Keeps s₀ (linkBreak x1 x2 x3 s) := by
  unfold linkBreak
  apply State.ringEvent_keeps
  · exact h
  · intro s1
    intro h2
    extract_lets +onlyGivenNames y3
    have h4 : Keeps s₀ y3 := by
      dsimp -zeta only [y3]
      apply State.linkStat_keeps
      exact h2
    extract_lets +onlyGivenNames y5
    extract_lets +onlyGivenNames y6
    refine keeps_ite ?_ ?_
    · exact h4
    · extract_lets +onlyGivenNames y7
      extract_lets +onlyGivenNames y8
      have h9 : Keeps s₀ y8 := by
        dsimp -zeta only [y8]
        apply State.setReg_keeps
        apply State.setOcuPort_keeps
        exact h4
      extract_lets +onlyGivenNames y10
      extract_lets +onlyGivenNames y11
      have h12 : Keeps s₀ y11 := by
        dsimp -zeta only [y11]
        dsimp -zeta only [y10]
        apply State.finding_keeps
        exact h9
      refine keeps_ite ?_ ?_
      · apply State.faultEvent_keeps
        apply State.orReg_keeps
        exact h12
      · exact h12

theorem execLinkBreak_keeps {s t : State} (x1) (x2) (x3) (e : (execLinkBreak x1 x2 x3 s) = .next t) : Keeps s t := by
  unfold execLinkBreak at e
  refine keeps_goesTo e ?_
  have h := keeps_refl s
  clear e
  apply linkBreak_keeps
  exact h

theorem State.loopAtT0_keeps {s : State} (h : Keeps s₀ s) (x2) (x3) : Keeps s₀ (State.loopAtT0 s x2 x3) := by
  unfold State.loopAtT0
  extract_lets +onlyGivenNames y1
  refine keeps_ite ?_ ?_
  · exact h
  · extract_lets +onlyGivenNames y2
    have h3 : Keeps s₀ y2 := by
      dsimp -zeta only [y2]
      apply State.orReg_keeps
      apply State.orReg_keeps
      apply State.setOcuPort_keeps
      exact h
    apply State.pubReg_keeps
    apply State.ocuEvt_keeps
    apply State.inc_keeps
    exact h3

theorem portRestore_keeps {s : State} (x1) (x2) (h : Keeps s₀ s) : Keeps s₀ (portRestore x1 x2 s) := by
  unfold portRestore
  apply State.ringEvent_keeps
  · exact h
  · intro s1
    intro h2
    extract_lets +onlyGivenNames y3
    have h4 : Keeps s₀ y3 := by
      dsimp -zeta only [y3]
      apply State.linkStat_keeps
      exact h2
    extract_lets +onlyGivenNames y5
    extract_lets +onlyGivenNames y6
    extract_lets +onlyGivenNames y7
    refine keeps_ite ?_ ?_
    · extract_lets +onlyGivenNames y8
      have h9 : Keeps s₀ y8 := by
        dsimp -zeta only [y8]
        apply State.setRegs_keeps
        apply State.setOcuPort_keeps
        exact h4
      apply State.ocuDelays_keeps
      apply State.pubReg_keeps
      apply State.ocuEvt_keeps
      exact h9
    · exact h4

theorem execPortRestore_keeps {s t : State} (x1) (x2) (e : (execPortRestore x1 x2 s) = .next t) : Keeps s t := by
  unfold execPortRestore at e
  refine keeps_goesTo e ?_
  have h := keeps_refl s
  clear e
  apply portRestore_keeps
  exact h

theorem State.emitCairn_keeps {s : State} (h : Keeps s₀ s) (x2) : Keeps s₀ (State.emitCairn s x2) := by
  unfold State.emitCairn
  apply State.sendFrame_keeps
  apply State.sendFrame_keeps
  exact h

theorem State.becomeHead_keeps {s : State} (h : Keeps s₀ s) (x2) : Keeps s₀ (State.becomeHead s x2) := by
  unfold State.becomeHead
  extract_lets +onlyGivenNames y1
  have h2 : Keeps s₀ y1 := by
    dsimp -zeta only [y1]
    apply State.setHead_keeps
    exact h
  extract_lets +onlyGivenNames y3
  have h4 : Keeps s₀ y3 := by
    dsimp -zeta only [y3]
    refine keeps_ite ?_ ?_
    · apply State.setOcuSt_keeps
      exact h2
    · exact h2
  apply State.ocuDelays_keeps
  apply State.emitCairn_keeps
  exact h4

theorem State.ocuYields_keeps {s : State} (h : Keeps s₀ s) (x2) : Keeps s₀ (State.ocuYields s x2) := by
  unfold State.ocuYields
  extract_lets +onlyGivenNames y1
  have h2 : Keeps s₀ y1 := by
    dsimp -zeta only [y1]
    apply State.setTim_keeps
    apply State.setHead_keeps
    exact h
  apply State.faultEvent_keeps
  apply State.ocuEvt_keeps
  exact h2

theorem State.noteCopy_keeps {s : State} (h : Keeps s₀ s) (x2) (x3) (x4) : Keeps s₀ (State.noteCopy s x2 x3 x4) := by
  unfold State.noteCopy
  extract_lets +onlyGivenNames y1
  extract_lets +onlyGivenNames y2
  have h3 : Keeps s₀ y2 := by
    dsimp -zeta only [y2]
    apply State.setOcu_keeps
    exact h
  extract_lets +onlyGivenNames y4
  extract_lets +onlyGivenNames y5
  have h6 : Keeps s₀ y5 := by
    dsimp -zeta only [y5]
    apply State.setReg_keeps
    exact h3
  extract_lets +onlyGivenNames y7
  have h8 : Keeps s₀ y7 := by
    dsimp -zeta only [y7]
    apply State.setReg_keeps
    exact h6
  apply State.setTim_keeps
  apply State.setTim_keeps
  apply State.setTim_keeps
  exact h8

theorem State.cairnAcquire_keeps {s : State} (h : Keeps s₀ s) (x2) (x3) (x4) : Keeps s₀ (State.cairnAcquire s x2 x3 x4) := by
  unfold State.cairnAcquire
  extract_lets +onlyGivenNames y1
  extract_lets +onlyGivenNames y2
  extract_lets +onlyGivenNames y3
  extract_lets +onlyGivenNames y4
  refine keeps_ite ?_ ?_
  · extract_lets +onlyGivenNames y5
    have h6 : Keeps s₀ y5 := by
      dsimp -zeta only [y5]
      refine keeps_ite ?_ ?_
      · apply State.ocuEvt_keeps
        apply State.inc_keeps
        exact h
      · exact h
    extract_lets +onlyGivenNames y7
    extract_lets +onlyGivenNames y8
    have h9 : Keeps s₀ y8 := by
      dsimp -zeta only [y8]
      apply State.setOcu_keeps
      exact h6
    refine keeps_mk (s := y8) ?_ rfl
    exact h9
  · refine keeps_ite ?_ ?_
    · refine keeps_mk (s := s) ?_ rfl
      exact h
    · extract_lets +onlyGivenNames y10
      extract_lets +onlyGivenNames y11
      have h12 : Keeps s₀ y11 := by
        dsimp -zeta only [y11]
        apply State.loadTime_keeps
        apply State.setRemain_keeps
        exact h
      extract_lets +onlyGivenNames y13
      extract_lets +onlyGivenNames y14
      have h15 : Keeps s₀ y14 := by
        dsimp -zeta only [y14]
        apply State.setReg_keeps
        apply State.noteCopy_keeps
        exact h12
      extract_lets +onlyGivenNames y16
      extract_lets +onlyGivenNames y17
      extract_lets +onlyGivenNames y18
      have h19 : Keeps s₀ y18 := by
        dsimp -zeta only [y18]
        refine keeps_mk (s := y14) ?_ rfl
        exact h15
      apply State.setState_keeps
      exact h19

theorem State.cairnTake_keeps {s : State} (h : Keeps s₀ s) (x2) (x3) (x4) : Keeps s₀ (State.cairnTake s x2 x3 x4) := by
  unfold State.cairnTake
  extract_lets +onlyGivenNames y1
  extract_lets +onlyGivenNames y2
  extract_lets +onlyGivenNames y3
  have h4 : Keeps s₀ y3 := by
    dsimp -zeta only [y3]
    apply State.noteCopy_keeps
    apply State.eraCheck_keeps
    apply State.servo_keeps
    exact h
  extract_lets +onlyGivenNames y5
  extract_lets +onlyGivenNames y6
  extract_lets +onlyGivenNames y7
  have h8 : Keeps s₀ y7 := by
    dsimp -zeta only [y7]
    refine keeps_mk (s := y3) ?_ rfl
    exact h4
  refine keeps_ite ?_ ?_
  · apply State.setState_keeps
    apply State.setReg_keeps
    exact h8
  · exact h8

theorem State.cairnTrack_keeps {s : State} (h : Keeps s₀ s) (x2) (x3) (x4) : Keeps s₀ (State.cairnTrack s x2 x3 x4) := by
  unfold State.cairnTrack
  extract_lets +onlyGivenNames y1
  extract_lets +onlyGivenNames y2
  extract_lets +onlyGivenNames y3
  extract_lets +onlyGivenNames y4
  extract_lets +onlyGivenNames y5
  refine keeps_ite ?_ ?_
  · dsimp -zeta only [y5]
    apply State.ocuEvt_keeps
    apply State.inc_keeps
    exact h
  · refine keeps_ite ?_ ?_
    · extract_lets +onlyGivenNames y6
      have h7 : Keeps s₀ y6 := by
        dsimp -zeta only [y6]
        refine keeps_ite ?_ ?_
        · dsimp -zeta only [y5]
          apply State.ocuEvt_keeps
          apply State.inc_keeps
          exact h
        · exact h
      apply State.tbRefuse_keeps
      apply State.ocuEvt_keeps
      apply State.inc_keeps
      exact h7
    · refine keeps_ite ?_ ?_
      · refine keeps_ite ?_ ?_
        · apply State.ocuEvt_keeps
          exact h
        · exact h
      · apply State.cairnTake_keeps
        exact h

theorem State.cairnTiming_keeps {s : State} (h : Keeps s₀ s) (x2) (x3) : Keeps s₀ (State.cairnTiming s x2 x3) := by
  unfold State.cairnTiming
  extract_lets +onlyGivenNames y1
  extract_lets +onlyGivenNames y2
  split
  · refine keeps_ite ?_ ?_
    · exact h
    · refine keeps_ite ?_ ?_
      · extract_lets +onlyGivenNames y3
        refine keeps_ite ?_ ?_
        · exact h
        · apply State.cairnAcquire_keeps
          exact h
      · refine keeps_ite ?_ ?_
        · apply State.cairnTrack_keeps
          exact h
        · exact h
  · exact h

theorem State.cairnSched_keeps {s : State} (h : Keeps s₀ s) (x2) (x3) : Keeps s₀ (State.cairnSched s x2 x3) := by
  unfold State.cairnSched
  extract_lets +onlyGivenNames y1
  extract_lets +onlyGivenNames y2
  extract_lets +onlyGivenNames y3
  have h4 : Keeps s₀ y3 := by
    dsimp -zeta only [y3]
    refine keeps_ite ?_ ?_
    · exact h
    · apply State.setOcu_keeps
      exact h
  extract_lets +onlyGivenNames y5
  extract_lets +onlyGivenNames y6
  extract_lets +onlyGivenNames y7
  refine keeps_ite ?_ ?_
  · apply State.ocuEvt_keeps
    apply State.setOcuSt_keeps
    exact h4
  · refine keeps_ite ?_ ?_
    · apply State.setOcuSt_keeps
      exact h4
    · refine keeps_ite ?_ ?_
      · apply State.setOcuSt_keeps
        exact h4
      · exact h4

theorem State.cairnHeard_keeps {s : State} (h : Keeps s₀ s) (x2) (x3) (x4) : Keeps s₀ (State.cairnHeard s x2 x3 x4) := by
  unfold State.cairnHeard
  extract_lets +onlyGivenNames y1
  extract_lets +onlyGivenNames y2
  have h3 : Keeps s₀ y2 := by
    dsimp -zeta only [y2]
    apply State.setOcu_keeps
    exact h
  refine keeps_ite ?_ ?_
  · exact h3
  · extract_lets +onlyGivenNames y4
    extract_lets +onlyGivenNames y5
    extract_lets +onlyGivenNames y6
    have h7 : Keeps s₀ y6 := by
      dsimp -zeta only [y6]
      apply State.setReg_keeps
      exact h3
    extract_lets +onlyGivenNames y8
    extract_lets +onlyGivenNames y9
    have h10 : Keeps s₀ y9 := by
      dsimp -zeta only [y9]
      refine keeps_ite ?_ ?_
      · apply State.ocuYields_keeps
        exact h7
      · exact h7
    extract_lets +onlyGivenNames y11
    have h12 : Keeps s₀ y11 := by
      dsimp -zeta only [y11]
      refine keeps_ite ?_ ?_
      · apply State.cairnTiming_keeps
        exact h10
      · exact h10
    apply State.cairnSched_keeps
    exact h12

theorem State.cairnReturned_keeps {s : State} (h : Keeps s₀ s) (x2) (x3) : Keeps s₀ (State.cairnReturned s x2 x3) := by
  unfold State.cairnReturned
  extract_lets +onlyGivenNames y1
  extract_lets +onlyGivenNames y2
  extract_lets +onlyGivenNames y3
  have h4 : Keeps s₀ y3 := by
    dsimp -zeta only [y3]
    apply State.setReg_keeps
    exact h
  split
  · extract_lets +onlyGivenNames y5
    refine keeps_ite ?_ ?_
    · apply State.ocuEvt_keeps
      exact h4
    · exact h4
  · exact h4

theorem cairnFrameReceived_keeps {s : State} (x1) (x2) (x3) (x4) (h : Keeps s₀ s) : Keeps s₀ (cairnFrameReceived x1 x2 x3 x4 s) := by
  unfold cairnFrameReceived
  apply State.ringEvent_keeps
  · exact h
  · intro s1
    intro h2
    refine keeps_ite ?_ ?_
    · exact h2
    · extract_lets +onlyGivenNames y3
      extract_lets +onlyGivenNames y4
      have h5 : Keeps s₀ y4 := by
        dsimp -zeta only [y4]
        apply State.countFrame_keeps
        exact h2
      clear_value y3
      split
      · refine keeps_ite ?_ ?_
        · refine keeps_ite ?_ ?_
          · apply State.cairnReturned_keeps
            exact h5
          · extract_lets +onlyGivenNames y6
            have h7 : Keeps s₀ y6 := by
              dsimp -zeta only [y6]
              apply State.ocuEvt_keeps
              apply State.inc_keeps
              exact h5
            refine keeps_ite ?_ ?_
            · apply State.setOcu_keeps
              exact h7
            · exact h7
        · apply State.cairnHeard_keeps
          apply State.sendFrame_keeps
          exact h5
      · apply State.sendFrame_keeps
        exact h5
      · apply State.sendFrame_keeps
        exact h5

theorem execCairnFrameReceived_keeps {s t : State} (x1) (x2) (x3) (x4) (e : (execCairnFrameReceived x1 x2 x3 x4 s) = .next t) : Keeps s t := by
  unfold execCairnFrameReceived at e
  refine keeps_goesTo e ?_
  have h := keeps_refl s
  clear e
  apply cairnFrameReceived_keeps
  exact h

theorem headEmissionStart_keeps {s : State} (h : Keeps s₀ s) : Keeps s₀ (headEmissionStart s) := by
  unfold headEmissionStart
  apply State.ringEvent_keeps
  · exact h
  · intro s1
    intro h2
    extract_lets +onlyGivenNames y3
    extract_lets +onlyGivenNames y4
    refine keeps_ite ?_ ?_
    · apply State.becomeHead_keeps
      exact h2
    · exact h2

theorem execHeadEmissionStart_keeps {s t : State} (e : (execHeadEmissionStart s) = .next t) : Keeps s t := by
  unfold execHeadEmissionStart at e
  refine keeps_goesTo e ?_
  have h := keeps_refl s
  clear e
  apply headEmissionStart_keeps
  exact h

theorem takeover_keeps {s : State} (h : Keeps s₀ s) : Keeps s₀ (takeover s) := by
  unfold takeover
  apply State.ringEvent_keeps
  · exact h
  · intro s1
    intro h2
    extract_lets +onlyGivenNames y3
    extract_lets +onlyGivenNames y4
    refine keeps_ite ?_ ?_
    · extract_lets +onlyGivenNames y5
      have h6 : Keeps s₀ y5 := by
        dsimp -zeta only [y5]
        apply State.setState_keeps
        apply State.setReg_keeps
        exact h2
      apply State.becomeHead_keeps
      apply State.ocuEvt_keeps
      apply State.inc_keeps
      exact h6
    · exact h2

theorem execTakeover_keeps {s t : State} (e : (execTakeover s) = .next t) : Keeps s t := by
  unfold execTakeover at e
  refine keeps_goesTo e ?_
  have h := keeps_refl s
  clear e
  apply takeover_keeps
  exact h

theorem State.slotTake_keeps {s : State} (h : Keeps s₀ s) (x2) (x3) (x4) : Keeps s₀ (State.slotTake s x2 x3 x4) := by
  unfold State.slotTake
  extract_lets +onlyGivenNames y1
  extract_lets +onlyGivenNames y2
  extract_lets +onlyGivenNames y3
  extract_lets +onlyGivenNames y4
  refine keeps_ite ?_ ?_
  · exact h
  · extract_lets +onlyGivenNames y5
    extract_lets +onlyGivenNames y6
    clear_value y6
    split
    · exact h
    · refine keeps_ite ?_ ?_
      · apply State.ocuEvt_keeps
        apply State.inc_keeps
        exact h
      · refine keeps_ite ?_ ?_
        · unfold State.slotTake.go
          extract_lets +onlyGivenNames y7
          extract_lets +onlyGivenNames y8
          have h9 : Keeps s₀ y8 := by
            dsimp -zeta only [y8]
            apply State.setOcu_keeps
            exact h
          extract_lets +onlyGivenNames y10
          refine keeps_foldl ?_ ?_
          · exact h9
          · intro s11
            intro x12
            intro h13
            refine keeps_ite ?_ ?_
            · apply State.publish_keeps
              exact h13
            · exact h13
        · exact h
    · refine keeps_ite ?_ ?_
      · unfold State.slotTake.go
        extract_lets +onlyGivenNames y14
        extract_lets +onlyGivenNames y15
        have h16 : Keeps s₀ y15 := by
          dsimp -zeta only [y15]
          apply State.setOcu_keeps
          exact h
        extract_lets +onlyGivenNames y17
        refine keeps_foldl ?_ ?_
        · exact h16
        · intro s18
          intro x19
          intro h20
          refine keeps_ite ?_ ?_
          · apply State.publish_keeps
            exact h20
          · exact h20
      · exact h

theorem State.slotTake.go_keeps {s : State} (x1) (x2) (h : Keeps s₀ s) (x4) (x5) : Keeps s₀ (State.slotTake.go x1 x2 s x4 x5) := by
  unfold State.slotTake.go
  extract_lets +onlyGivenNames y1
  extract_lets +onlyGivenNames y2
  have h3 : Keeps s₀ y2 := by
    dsimp -zeta only [y2]
    apply State.setOcu_keeps
    exact h
  extract_lets +onlyGivenNames y4
  refine keeps_foldl ?_ ?_
  · exact h3
  · intro s5
    intro x6
    intro h7
    refine keeps_ite ?_ ?_
    · apply State.publish_keeps
      exact h7
    · exact h7

theorem slotFrameReceived_keeps {s : State} (x1) (x2) (x3) (x4) (h : Keeps s₀ s) : Keeps s₀ (slotFrameReceived x1 x2 x3 x4 s) := by
  unfold slotFrameReceived
  apply State.ringEvent_keeps
  · exact h
  · intro s1
    intro h2
    refine keeps_ite ?_ ?_
    · exact h2
    · extract_lets +onlyGivenNames y3
      extract_lets +onlyGivenNames y4
      have h5 : Keeps s₀ y4 := by
        dsimp -zeta only [y4]
        apply State.countFrame_keeps
        exact h2
      extract_lets +onlyGivenNames y6
      extract_lets +onlyGivenNames y7
      clear_value y3
      split
      · refine keeps_ite ?_ ?_
        · exact h5
        · refine keeps_ite ?_ ?_
          · extract_lets +onlyGivenNames y8
            have h9 : Keeps s₀ y8 := by
              dsimp -zeta only [y8]
              refine keeps_ite ?_ ?_
              · exact h5
              · apply State.ocuEvt_keeps
                apply State.inc_keeps
                exact h5
            apply State.slotTake_keeps
            exact h9
          · refine keeps_ite ?_ ?_
            · apply State.ocuEvt_keeps
              apply State.inc_keeps
              exact h5
            · refine keeps_ite ?_ ?_
              · extract_lets +onlyGivenNames y10
                extract_lets +onlyGivenNames y11
                extract_lets +onlyGivenNames y12
                have h13 : Keeps s₀ y12 := by
                  dsimp -zeta only [y12]
                  apply State.setOcu_keeps
                  exact h5
                apply State.slotTake_keeps
                exact h13
              · apply State.slotTake_keeps
                apply State.sendFrame_keeps
                exact h5
      · apply State.sendFrame_keeps
        exact h5
      · apply State.sendFrame_keeps
        exact h5

theorem execSlotFrameReceived_keeps {s t : State} (x1) (x2) (x3) (x4) (e : (execSlotFrameReceived x1 x2 x3 x4 s) = .next t) : Keeps s t := by
  unfold execSlotFrameReceived at e
  refine keeps_goesTo e ?_
  have h := keeps_refl s
  clear e
  apply slotFrameReceived_keeps
  exact h

theorem State.slotSnap_keeps {s : State} (h : Keeps s₀ s) (x2) (x3) (x4) : Keeps s₀ (State.slotSnap s x2 x3 x4) := by
  unfold State.slotSnap
  split
  · refine keeps_ite ?_ ?_
    · exact h
    · unfold State.slotSnap.go
      extract_lets +onlyGivenNames y1
      extract_lets +onlyGivenNames y2
      have h3 : Keeps s₀ y2 := by
        dsimp -zeta only [y2]
        apply State.setOcu_keeps
        exact h
      refine keeps_ite ?_ ?_
      · apply State.raiseEvt_keeps
        exact h3
      · exact h3
  · unfold State.slotSnap.go
    extract_lets +onlyGivenNames y4
    extract_lets +onlyGivenNames y5
    have h6 : Keeps s₀ y5 := by
      dsimp -zeta only [y5]
      apply State.setOcu_keeps
      exact h
    refine keeps_ite ?_ ?_
    · apply State.raiseEvt_keeps
      exact h6
    · exact h6

theorem State.slotSnap.go_keeps {s : State} (x1) (x2) (x3) (h : Keeps s₀ s) : Keeps s₀ (State.slotSnap.go x1 x2 x3 s) := by
  unfold State.slotSnap.go
  extract_lets +onlyGivenNames y1
  extract_lets +onlyGivenNames y2
  have h3 : Keeps s₀ y2 := by
    dsimp -zeta only [y2]
    apply State.setOcu_keeps
    exact h
  refine keeps_ite ?_ ?_
  · apply State.raiseEvt_keeps
    exact h3
  · exact h3

theorem State.leaveEmpty_keeps {s : State} (h : Keeps s₀ s) (x2) : Keeps s₀ (State.leaveEmpty s x2) := by
  unfold State.leaveEmpty
  extract_lets +onlyGivenNames y1
  extract_lets +onlyGivenNames y2
  have h3 : Keeps s₀ y2 := by
    dsimp -zeta only [y2]
    apply State.setTim_keeps
    apply State.inc_keeps
    exact h
  refine keeps_ite ?_ ?_
  · apply State.ocuEvt_keeps
    exact h3
  · exact h3

theorem State.advancePs_keeps {s : State} {f3} (h : Keeps s₀ s) (x2) (g3 : ∀ a1, Keeps s₀ a1 → Keeps s₀ (f3 a1)) : Keeps s₀ (State.advancePs s x2 f3) := by
  unfold State.advancePs
  apply State.within_keeps
  · exact h
  · intro s1
    intro h2
    apply g3
    exact h2

theorem slotFill_keeps {s : State} (x1) (x2) (x3) (x4) (x5) (x6) (h : Keeps s₀ s) : Keeps s₀ (slotFill x1 x2 x3 x4 x5 x6 s) := by
  unfold slotFill
  apply State.ringEvent_keeps
  · exact h
  · intro s1
    intro h2
    extract_lets +onlyGivenNames y3
    refine keeps_ite ?_ ?_
    · exact h2
    · split
      · apply State.leaveEmpty_keeps
        exact h2
      · apply State.advancePs_keeps
        · exact h2
        · intro s4
          intro h5
          extract_lets +onlyGivenNames y6
          have h7 : Keeps s₀ y6 := by
            dsimp -zeta only [y6]
            apply State.slotSnap_keeps
            exact h5
          refine keeps_ite ?_ ?_
          · apply State.leaveEmpty_keeps
            exact h7
          · extract_lets +onlyGivenNames y8
            have h9 : Keeps s₀ y8 := by
              dsimp -zeta only [y8]
              apply State.setTim_keeps
              exact h7
            apply State.within_keeps
            · exact h9
            · intro s10
              intro h11
              refine keeps_ite ?_ ?_
              · apply State.inc_keeps
                exact h11
              · split
                · apply State.sendFrame_keeps
                  exact h11
                · exact h11

theorem execSlotFill_keeps {s t : State} (x1) (x2) (x3) (x4) (x5) (x6) (e : (execSlotFill x1 x2 x3 x4 x5 x6 s) = .next t) : Keeps s t := by
  unfold execSlotFill at e
  refine keeps_goesTo e ?_
  have h := keeps_refl s
  clear e
  apply slotFill_keeps
  exact h

theorem slotReinsertion_keeps {s : State} (x1) (x2) (x3) (h : Keeps s₀ s) : Keeps s₀ (slotReinsertion x1 x2 x3 s) := by
  unfold slotReinsertion
  apply State.ringEvent_keeps
  · exact h
  · intro s1
    intro h2
    split
    · extract_lets +onlyGivenNames y3
      refine keeps_ite ?_ ?_
      · apply State.advancePs_keeps
        · exact h2
        · intro s4
          intro h5
          apply State.sendFrame_keeps
          apply State.setOcu_keeps
          exact h5
      · exact h2
    · exact h2

theorem execSlotReinsertion_keeps {s t : State} (x1) (x2) (x3) (e : (execSlotReinsertion x1 x2 x3 s) = .next t) : Keeps s t := by
  unfold execSlotReinsertion at e
  refine keeps_goesTo e ?_
  have h := keeps_refl s
  clear e
  apply slotReinsertion_keeps
  exact h

theorem delayReqSend_keeps {s : State} (x1) (x2) (x3) (x4) (h : Keeps s₀ s) : Keeps s₀ (delayReqSend x1 x2 x3 x4 s) := by
  unfold delayReqSend
  apply State.ringEvent_keeps
  · exact h
  · intro s1
    intro h2
    extract_lets +onlyGivenNames y3
    extract_lets +onlyGivenNames y4
    refine keeps_ite ?_ ?_
    · extract_lets +onlyGivenNames y5
      extract_lets +onlyGivenNames y6
      extract_lets +onlyGivenNames y7
      have h8 : Keeps s₀ y7 := by
        dsimp -zeta only [y7]
        apply State.setOcuPort_keeps
        exact h2
      apply State.sendFrame_keeps
      exact h8
    · exact h2

theorem execDelayReqSend_keeps {s t : State} (x1) (x2) (x3) (x4) (e : (execDelayReqSend x1 x2 x3 x4 s) = .next t) : Keeps s t := by
  unfold execDelayReqSend at e
  refine keeps_goesTo e ?_
  have h := keeps_refl s
  clear e
  apply delayReqSend_keeps
  exact h

theorem State.delayLearn_keeps {s : State} (h : Keeps s₀ s) (x2) (x3) (x4) : Keeps s₀ (State.delayLearn s x2 x3 x4) := by
  unfold State.delayLearn
  refine keeps_ite ?_ ?_
  · apply State.setOcuPort_keeps
    exact h
  · exact h

theorem State.delayFrameReceived_keeps {s : State} {f7} (h : Keeps s₀ s) (x2) (x3) (x4) (x5) (x6) (g7 : ∀ a1, Keeps s₀ a1 → Keeps s₀ (f7 a1)) : Keeps s₀ (State.delayFrameReceived s x2 x3 x4 x5 x6 f7) := by
  unfold State.delayFrameReceived
  apply State.ringEvent_keeps
  · exact h
  · intro s1
    intro h2
    refine keeps_ite ?_ ?_
    · exact h2
    · extract_lets +onlyGivenNames y3
      have h4 : Keeps s₀ y3 := by
        dsimp -zeta only [y3]
        apply State.countFrame_keeps
        exact h2
      refine keeps_ite ?_ ?_
      · apply g7
        apply State.delayLearn_keeps
        exact h4
      · exact h4

theorem delayReqReceived_keeps {s : State} (x1) (x2) (x3) (x4) (x5) (x6) (h : Keeps s₀ s) : Keeps s₀ (delayReqReceived x1 x2 x3 x4 x5 x6 s) := by
  unfold delayReqReceived
  apply State.delayFrameReceived_keeps
  · exact h
  · intro s1
    intro h2
    apply State.ocuDelays_keeps
    apply State.within_keeps
    · exact h2
    · intro s3
      intro h4
      extract_lets +onlyGivenNames y5
      refine keeps_ite ?_ ?_
      · apply State.sendFrame_keeps
        apply State.setOcuPort_keeps
        exact h4
      · exact h4

theorem execDelayReqReceived_keeps {s t : State} (x1) (x2) (x3) (x4) (x5) (x6) (e : (execDelayReqReceived x1 x2 x3 x4 x5 x6 s) = .next t) : Keeps s t := by
  unfold execDelayReqReceived at e
  refine keeps_goesTo e ?_
  have h := keeps_refl s
  clear e
  apply delayReqReceived_keeps
  exact h

theorem delayRspReceived_keeps {s : State} (x1) (x2) (x3) (x4) (h : Keeps s₀ s) : Keeps s₀ (delayRspReceived x1 x2 x3 x4 s) := by
  unfold delayRspReceived
  apply State.delayFrameReceived_keeps
  · exact h
  · intro s1
    intro h2
    extract_lets +onlyGivenNames y3
    split
    · extract_lets +onlyGivenNames y4
      extract_lets +onlyGivenNames y5
      apply State.ocuDelays_keeps
      apply State.setOcuPort_keeps
      exact h2
    · apply State.ocuDelays_keeps
      exact h2

theorem execDelayRspReceived_keeps {s t : State} (x1) (x2) (x3) (x4) (e : (execDelayRspReceived x1 x2 x3 x4 s) = .next t) : Keeps s t := by
  unfold execDelayRspReceived at e
  refine keeps_goesTo e ?_
  have h := keeps_refl s
  clear e
  apply delayRspReceived_keeps
  exact h

theorem State.ocuListenAtT0_keeps {s : State} (h : Keeps s₀ s) : Keeps s₀ (State.ocuListenAtT0 s) := by
  unfold State.ocuListenAtT0
  extract_lets +onlyGivenNames y1
  extract_lets +onlyGivenNames y2
  extract_lets +onlyGivenNames y3
  have h4 : Keeps s₀ y3 := by
    dsimp -zeta only [y3]
    apply State.setOcu_keeps
    exact h
  extract_lets +onlyGivenNames y5
  extract_lets +onlyGivenNames y6
  have h7 : Keeps s₀ y6 := by
    dsimp -zeta only [y6]
    split
    · apply State.setOcu_keeps
      apply State.setHead_keeps
      exact h4
    · apply State.ocuYields_keeps
      exact h4
    · exact h4
  extract_lets +onlyGivenNames y8
  refine keeps_ite ?_ ?_
  · apply State.setOcu_keeps
    apply State.setTim_keeps
    exact h7
  · refine keeps_ite ?_ ?_
    · apply State.setTim_keeps
      exact h7
    · exact h7

theorem State.ocuStopAtT0_keeps {s : State} (h : Keeps s₀ s) (x2) : Keeps s₀ (State.ocuStopAtT0 s x2) := by
  unfold State.ocuStopAtT0
  extract_lets +onlyGivenNames y1
  extract_lets +onlyGivenNames y2
  have h3 : Keeps s₀ y2 := by
    dsimp -zeta only [y2]
    apply State.setOcu_keeps
    exact h
  refine keeps_ite ?_ ?_
  · extract_lets +onlyGivenNames y4
    have h5 : Keeps s₀ y4 := by
      dsimp -zeta only [y4]
      apply State.setOcuSt_keeps
      exact h3
    refine keeps_ite ?_ ?_
    · apply State.complete_keeps
      exact h5
    · exact h5
  · exact h3

theorem State.ocuEmitAtT0_keeps {s : State} (h : Keeps s₀ s) (x2) : Keeps s₀ (State.ocuEmitAtT0 s x2) := by
  unfold State.ocuEmitAtT0
  refine keeps_ite ?_ ?_
  · extract_lets +onlyGivenNames y1
    have h2 : Keeps s₀ y1 := by
      dsimp -zeta only [y1]
      apply State.emitCairn_keeps
      exact h
    extract_lets +onlyGivenNames y3
    extract_lets +onlyGivenNames y4
    extract_lets +onlyGivenNames y5
    have h6 : Keeps s₀ y5 := by
      dsimp -zeta only [y5]
      apply State.setOcu_keeps
      exact h2
    refine keeps_ite ?_ ?_
    · apply State.complete_keeps
      apply State.setOcuSt_keeps
      exact h6
    · exact h6
  · refine keeps_ite ?_ ?_
    · apply State.becomeHead_keeps
      exact h
    · exact h

theorem State.ocuAtT0_keeps {s : State} (h : Keeps s₀ s) (x2) : Keeps s₀ (State.ocuAtT0 s x2) := by
  unfold State.ocuAtT0
  refine keeps_ite ?_ ?_
  · exact h
  · extract_lets +onlyGivenNames y1
    have h2 : Keeps s₀ y1 := by
      dsimp -zeta only [y1]
      apply State.linkStat_keeps
      apply State.linkStat_keeps
      apply State.newEvent_keeps
      exact h
    extract_lets +onlyGivenNames y3
    extract_lets +onlyGivenNames y4
    have h5 : Keeps s₀ y4 := by
      dsimp -zeta only [y4]
      refine keeps_ite ?_ ?_
      · refine keeps_foldl ?_ ?_
        · exact h2
        · intro s6
          intro x7
          intro h8
          refine keeps_ite ?_ ?_
          · apply State.slotSnap_keeps
            exact h8
          · exact h8
      · exact h2
    extract_lets +onlyGivenNames y9
    have h10 : Keeps s₀ y9 := by
      dsimp -zeta only [y9]
      apply State.loopAtT0_keeps
      apply State.loopAtT0_keeps
      exact h5
    extract_lets +onlyGivenNames y11
    have h12 : Keeps s₀ y11 := by
      dsimp -zeta only [y11]
      refine keeps_ite ?_ ?_
      · apply State.ocuListenAtT0_keeps
        exact h10
      · exact h10
    extract_lets +onlyGivenNames y13
    have h14 : Keeps s₀ y13 := by
      dsimp -zeta only [y13]
      apply State.ocuEmitAtT0_keeps
      apply State.ocuStopAtT0_keeps
      exact h12
    extract_lets +onlyGivenNames y15
    have h16 : Keeps s₀ y15 := by
      dsimp -zeta only [y15]
      refine keeps_foldl ?_ ?_
      · exact h14
      · intro s17
        intro x18
        intro h19
        apply State.setOcuPort_keeps
        exact h19
    extract_lets +onlyGivenNames y20
    have h21 : Keeps s₀ y20 := by
      dsimp -zeta only [y20]
      refine keeps_ite ?_ ?_
      · apply State.setTim_keeps
        exact h16
      · exact h16
    apply State.ocuDelays_keeps
    exact h21

theorem State.setIlkDesc_keeps {s : State} (h : Keeps s₀ s) (x2) (x3) (x4) : Keeps s₀ (State.setIlkDesc s x2 x3 x4) := by
  unfold State.setIlkDesc
  extract_lets +onlyGivenNames y1
  refine keeps_mk (s := s) ?_ rfl
  exact h

theorem State.setIlkRule_keeps {s : State} (h : Keeps s₀ s) (x2) (x3) : Keeps s₀ (State.setIlkRule s x2 x3) := by
  unfold State.setIlkRule
  refine keeps_mk (s := s) ?_ rfl
  exact h

theorem State.setIlkAct_keeps {s : State} (h : Keeps s₀ s) (x2) (x3) : Keeps s₀ (State.setIlkAct s x2 x3) := by
  unfold State.setIlkAct
  apply State.setReg_keeps
  exact h

theorem State.setIlkLat_keeps {s : State} (h : Keeps s₀ s) (x2) (x3) : Keeps s₀ (State.setIlkLat s x2 x3) := by
  unfold State.setIlkLat
  apply State.setReg_keeps
  exact h

theorem State.ilkEvt_keeps {s : State} (h : Keeps s₀ s) (x2) : Keeps s₀ (State.ilkEvt s x2) := by
  unfold State.ilkEvt
  apply State.raiseEvt_keeps
  exact h

theorem State.ilkRelease_keeps {s : State} (h : Keeps s₀ s) (x2) : Keeps s₀ (State.ilkRelease s x2) := by
  unfold State.ilkRelease
  apply State.setIlkLat_keeps
  apply State.setIlkAct_keeps
  apply State.setIlkRule_keeps
  exact h

theorem State.ilkFire_keeps {s : State} (h : Keeps s₀ s) (x2) (x3) (x4) : Keeps s₀ (State.ilkFire s x2 x3 x4) := by
  unfold State.ilkFire
  extract_lets +onlyGivenNames y1
  extract_lets +onlyGivenNames y2
  have h3 : Keeps s₀ y2 := by
    dsimp -zeta only [y2]
    apply State.ilkEvt_keeps
    apply State.setReg_keeps
    apply State.inc_keeps
    exact h
  extract_lets +onlyGivenNames y4
  have h5 : Keeps s₀ y4 := by
    dsimp -zeta only [y4]
    refine keeps_ite ?_ ?_
    · refine keeps_foldl ?_ ?_
      · exact h3
      · intro s6
        intro x7
        intro h8
        apply State.seqIlkAbort_keeps
        exact h8
    · exact h3
  extract_lets +onlyGivenNames y9
  have h10 : Keeps s₀ y9 := by
    dsimp -zeta only [y9]
    refine keeps_ite ?_ ?_
    · refine keeps_foldl ?_ ?_
      · exact h5
      · intro s11
        intro x12
        intro h13
        refine keeps_mk (s := s11) ?_ rfl
        exact h13
    · exact h5
  refine keeps_ite ?_ ?_
  · extract_lets +onlyGivenNames y14
    apply State.hutRequest_keeps
    exact h10
  · exact h10

theorem State.ilkEval_keeps {s : State} (h : Keeps s₀ s) (x2) (x3) : Keeps s₀ (State.ilkEval s x2 x3) := by
  unfold State.ilkEval
  extract_lets +onlyGivenNames y1
  extract_lets +onlyGivenNames y2
  extract_lets +onlyGivenNames y3
  refine keeps_ite ?_ ?_
  · apply State.ilkRelease_keeps
    apply State.ilkEvt_keeps
    apply State.inc_keeps
    exact h
  · extract_lets +onlyGivenNames y4
    extract_lets +onlyGivenNames y5
    extract_lets +onlyGivenNames y6
    have h7 : Keeps s₀ y6 := by
      dsimp -zeta only [y6]
      apply State.setIlkRule_keeps
      exact h
    refine keeps_ite ?_ ?_
    · apply State.ilkFire_keeps
      apply State.setIlkLat_keeps
      apply State.setIlkAct_keeps
      exact h7
    · refine keeps_ite ?_ ?_
      · apply State.setIlkAct_keeps
        exact h7
      · exact h7

theorem State.ilkSync_keeps {s : State} (h : Keeps s₀ s) : Keeps s₀ (State.ilkSync s) := by
  unfold State.ilkSync
  extract_lets +onlyGivenNames y1
  extract_lets +onlyGivenNames y2
  extract_lets +onlyGivenNames y3
  extract_lets +onlyGivenNames y4
  have h5 : Keeps s₀ y4 := by
    dsimp -zeta only [y4]
    refine keeps_mk (s := s) ?_ rfl
    exact h
  extract_lets +onlyGivenNames y6
  extract_lets +onlyGivenNames y7
  have h8 : Keeps s₀ y7 := by
    dsimp -zeta only [y7]
    refine keeps_foldl ?_ ?_
    · exact h5
    · intro s9
      intro x10
      intro h11
      apply State.ilkEvt_keeps
      apply State.setReg_keeps
      apply State.inc_keeps
      exact h11
  extract_lets +onlyGivenNames y12
  extract_lets +onlyGivenNames y13
  have h14 : Keeps s₀ y13 := by
    dsimp -zeta only [y13]
    refine keeps_mk (s := y7) ?_ rfl
    exact h8
  refine keeps_foldl ?_ ?_
  · exact h14
  · intro s15
    intro x16
    intro h17
    apply State.seqRules_keeps
    exact h17

theorem ilkEvaluation_keeps {s : State} (h : Keeps s₀ s) : Keeps s₀ (ilkEvaluation s) := by
  unfold ilkEvaluation
  refine keeps_ite ?_ ?_
  · extract_lets +onlyGivenNames y1
    have h2 : Keeps s₀ y1 := by
      dsimp -zeta only [y1]
      apply State.atOffset_keeps
      exact h
    extract_lets +onlyGivenNames y3
    extract_lets +onlyGivenNames y4
    extract_lets +onlyGivenNames y5
    have h6 : Keeps s₀ y5 := by
      dsimp -zeta only [y5]
      refine keeps_mk (s := y1) ?_ rfl
      exact h2
    extract_lets +onlyGivenNames y7
    have h8 : Keeps s₀ y7 := by
      dsimp -zeta only [y7]
      refine keeps_foldl ?_ ?_
      · exact h6
      · intro s9
        intro x10
        intro h11
        refine keeps_ite ?_ ?_
        · apply State.ilkEval_keeps
          exact h11
        · refine keeps_ite ?_ ?_
          · apply State.ilkRelease_keeps
            exact h11
          · exact h11
    extract_lets +onlyGivenNames y12
    have h13 : Keeps s₀ y12 := by
      dsimp -zeta only [y12]
      apply State.atOffset_keeps
      apply State.ilkSync_keeps
      exact h8
    refine keeps_foldl ?_ ?_
    · exact h13
    · intro s14
      intro x15
      intro h16
      apply State.pubInt_keeps
      exact h16
  · exact h

theorem execIlkEvaluation_keeps {s t : State} (e : (execIlkEvaluation s) = .next t) : Keeps s t := by
  unfold execIlkEvaluation at e
  refine keeps_goesTo e ?_
  have h := keeps_refl s
  clear e
  apply State.alive_keeps
  · exact h
  · apply ilkEvaluation_keeps
    exact h

theorem State.ilkAtT0_keeps {s : State} (h : Keeps s₀ s) : Keeps s₀ (State.ilkAtT0 s) := by
  unfold State.ilkAtT0
  refine keeps_mk (s := s) ?_ rfl
  exact h

theorem ilkSwap_keeps {s : State} (x1) (x2) (h : Keeps s₀ s) : Keeps s₀ (ilkSwap x1 x2 s) := by
  unfold ilkSwap
  apply State.command_keeps
  · exact h
  · intro s1
    intro h2
    apply State.setState_keeps
    exact h2

theorem execIlkSwap_keeps {s t : State} (x1) (x2) (e : (execIlkSwap x1 x2 s) = .next t) : Keeps s t := by
  unfold execIlkSwap at e
  refine keeps_goesTo e ?_
  have h := keeps_refl s
  clear e
  apply ilkSwap_keeps
  exact h

theorem State.ilkSwapAtT0_keeps {s : State} (h : Keeps s₀ s) : Keeps s₀ (State.ilkSwapAtT0 s) := by
  unfold State.ilkSwapAtT0
  refine keeps_ite ?_ ?_
  · extract_lets +onlyGivenNames y1
    extract_lets +onlyGivenNames y2
    have h3 : Keeps s₀ y2 := by
      dsimp -zeta only [y2]
      apply State.setReg_keeps
      exact h
    extract_lets +onlyGivenNames y4
    have h5 : Keeps s₀ y4 := by
      dsimp -zeta only [y4]
      refine keeps_foldl ?_ ?_
      · exact h3
      · intro s6
        intro x7
        intro h8
        refine keeps_ite ?_ ?_
        · exact h8
        · extract_lets +onlyGivenNames y9
          extract_lets +onlyGivenNames y10
          have h11 : Keeps s₀ y10 := by
            dsimp -zeta only [y10]
            apply State.setIlkRule_keeps
            exact h8
          refine keeps_ite ?_ ?_
          · apply State.setIlkAct_keeps
            exact h11
          · exact h11
    apply State.complete_keeps
    apply State.setState_keeps
    exact h5
  · exact h

theorem ilkCopyActive_keeps {s : State} (x1) (x2) (h : Keeps s₀ s) : Keeps s₀ (ilkCopyActive x1 x2 s) := by
  unfold ilkCopyActive
  apply State.command_keeps
  · exact h
  · intro s1
    intro h2
    apply State.setState_keeps
    exact h2

theorem execIlkCopyActive_keeps {s t : State} (x1) (x2) (e : (execIlkCopyActive x1 x2 s) = .next t) : Keeps s t := by
  unfold execIlkCopyActive at e
  refine keeps_goesTo e ?_
  have h := keeps_refl s
  clear e
  apply ilkCopyActive_keeps
  exact h

theorem State.ilkCopy_keeps {s : State} (h : Keeps s₀ s) (x2) : Keeps s₀ (State.ilkCopy s x2) := by
  unfold State.ilkCopy
  refine keeps_foldl ?_ ?_
  · exact h
  · intro s1
    intro x2
    intro h3
    refine keeps_ite ?_ ?_
    · apply State.setIlkDesc_keeps
      exact h3
    · exact h3

theorem ilkCopyComplete_keeps {s : State} (h : Keeps s₀ s) : Keeps s₀ (ilkCopyComplete s) := by
  unfold ilkCopyComplete
  split
  · refine keeps_ite ?_ ?_
    · apply State.complete_keeps
      apply State.setState_keeps
      apply State.ilkCopy_keeps
      apply State.advanceTo_keeps
      exact h
    · exact h
  · exact h

theorem execIlkCopyComplete_keeps {s t : State} (e : (execIlkCopyComplete s) = .next t) : Keeps s t := by
  unfold execIlkCopyComplete at e
  refine keeps_goesTo e ?_
  have h := keeps_refl s
  clear e
  apply State.alive_keeps
  · exact h
  · apply ilkCopyComplete_keeps
    exact h

theorem ilkAck_keeps {s : State} (x1) (x2) (h : Keeps s₀ s) : Keeps s₀ (ilkAck x1 x2 s) := by
  unfold ilkAck
  extract_lets +onlyGivenNames y1
  apply State.command_keeps
  · exact h
  · intro s2
    intro h3
    refine keeps_ite ?_ ?_
    · apply State.ilkSync_keeps
      apply State.setIlkLat_keeps
      apply State.setIlkAct_keeps
      exact h3
    · exact h3

theorem execIlkAck_keeps {s t : State} (x1) (x2) (e : (execIlkAck x1 x2 s) = .next t) : Keeps s t := by
  unfold execIlkAck at e
  refine keeps_goesTo e ?_
  have h := keeps_refl s
  clear e
  apply ilkAck_keeps
  exact h

theorem ilkAbort_keeps {s : State} (x1) (x2) (h : Keeps s₀ s) : Keeps s₀ (ilkAbort x1 x2 s) := by
  unfold ilkAbort
  apply State.abort_keeps
  · exact h
  · intro x1
    intro s2
    intro h3
    extract_lets +onlyGivenNames y4
    have h5 : Keeps s₀ y4 := by
      dsimp -zeta only [y4]
      split
      · refine keeps_ite ?_ ?_
        · apply State.ilkCopy_keeps
          exact h3
        · exact h3
      · exact h3
    apply State.setState_keeps
    exact h5

theorem execIlkAbort_keeps {s t : State} (x1) (x2) (e : (execIlkAbort x1 x2 s) = .next t) : Keeps s t := by
  unfold execIlkAbort at e
  refine keeps_goesTo e ?_
  have h := keeps_refl s
  clear e
  apply ilkAbort_keeps
  exact h

theorem State.ilkIdx_keeps {s : State} {f4} (h : Keeps s₀ s) (x2) (x3) (g4 : ∀ a1, Keeps s₀ a1 → Keeps s₀ (f4 a1)) : Keeps s₀ (State.ilkIdx s x2 x3 f4) := by
  unfold State.ilkIdx
  apply State.access_keeps
  · exact h
  · intro s1
    intro h2
    refine keeps_ite ?_ ?_
    · apply State.setReg_keeps
      apply g4
      exact h2
    · apply State.noteDenied_keeps
      exact h2

theorem State.ilkShow_keeps {s : State} (h : Keeps s₀ s) (x2) : Keeps s₀ (State.ilkShow s x2) := by
  unfold State.ilkShow
  refine keeps_foldl ?_ ?_
  · exact h
  · intro s1
    intro x2
    intro h3
    apply State.setReg_keeps
    exact h3

theorem ilkRuleReadShadow_keeps {s : State} (x1) (x2) (h : Keeps s₀ s) : Keeps s₀ (ilkRuleReadShadow x1 x2 s) := by
  unfold ilkRuleReadShadow
  apply State.ilkIdx_keeps
  · exact h
  · intro s1
    intro h2
    apply State.ilkShow_keeps
    exact h2

theorem execIlkRuleReadShadow_keeps {s t : State} (x1) (x2) (e : (execIlkRuleReadShadow x1 x2 s) = .next t) : Keeps s t := by
  unfold execIlkRuleReadShadow at e
  refine keeps_goesTo e ?_
  have h := keeps_refl s
  clear e
  apply ilkRuleReadShadow_keeps
  exact h

theorem ilkRuleWriteShadow_keeps {s : State} (x1) (x2) (h : Keeps s₀ s) : Keeps s₀ (ilkRuleWriteShadow x1 x2 s) := by
  unfold ilkRuleWriteShadow
  apply State.ilkIdx_keeps
  · exact h
  · intro s1
    intro h2
    refine keeps_ite ?_ ?_
    · apply State.setReg_keeps
      exact h2
    · apply State.setIlkDesc_keeps
      exact h2

theorem execIlkRuleWriteShadow_keeps {s t : State} (x1) (x2) (e : (execIlkRuleWriteShadow x1 x2 s) = .next t) : Keeps s t := by
  unfold execIlkRuleWriteShadow at e
  refine keeps_goesTo e ?_
  have h := keeps_refl s
  clear e
  apply ilkRuleWriteShadow_keeps
  exact h

theorem ilkRuleReadActive_keeps {s : State} (x1) (x2) (h : Keeps s₀ s) : Keeps s₀ (ilkRuleReadActive x1 x2 s) := by
  unfold ilkRuleReadActive
  apply State.ilkIdx_keeps
  · exact h
  · intro s1
    intro h2
    apply State.ilkShow_keeps
    exact h2

theorem execIlkRuleReadActive_keeps {s t : State} (x1) (x2) (e : (execIlkRuleReadActive x1 x2 s) = .next t) : Keeps s t := by
  unfold execIlkRuleReadActive at e
  refine keeps_goesTo e ?_
  have h := keeps_refl s
  clear e
  apply ilkRuleReadActive_keeps
  exact h

theorem State.srecEvt_keeps {s : State} (h : Keeps s₀ s) (x2) : Keeps s₀ (State.srecEvt s x2) := by
  unfold State.srecEvt
  apply State.raiseEvt_keeps
  exact h

theorem State.setSrecSlot_keeps {s : State} (h : Keeps s₀ s) (x2) (x3) : Keeps s₀ (State.setSrecSlot s x2 x3) := by
  unfold State.setSrecSlot
  refine keeps_mk (s := s) ?_ rfl
  exact h

theorem State.srecShow_keeps {s : State} (h : Keeps s₀ s) : Keeps s₀ (State.srecShow s) := by
  unfold State.srecShow
  extract_lets +onlyGivenNames y1
  extract_lets +onlyGivenNames y2
  extract_lets +onlyGivenNames y3
  apply State.setRegs_keeps
  exact h

theorem State.srecCount_keeps {s : State} (h : Keeps s₀ s) (x2) : Keeps s₀ (State.srecCount s x2) := by
  unfold State.srecCount
  extract_lets +onlyGivenNames y1
  apply State.setRegs_keeps
  exact h

theorem State.srecOpen_keeps {s : State} (h : Keeps s₀ s) (x2) (x3) (x4) : Keeps s₀ (State.srecOpen s x2 x3 x4) := by
  unfold State.srecOpen
  extract_lets +onlyGivenNames y1
  have h2 : Keeps s₀ y1 := by
    dsimp -zeta only [y1]
    apply State.dramPut_keeps
    exact h
  extract_lets +onlyGivenNames y3
  extract_lets +onlyGivenNames y4
  have h5 : Keeps s₀ y4 := by
    dsimp -zeta only [y4]
    refine keeps_mk (s := y1) ?_ rfl
    exact h2
  apply State.srecShow_keeps
  apply State.setRegs_keeps
  exact h5

theorem State.capHold_keeps {s : State} (h : Keeps s₀ s) (x2) : Keeps s₀ (State.capHold s x2) := by
  unfold State.capHold
  extract_lets +onlyGivenNames y1
  extract_lets +onlyGivenNames y2
  extract_lets +onlyGivenNames y3
  extract_lets +onlyGivenNames y4
  extract_lets +onlyGivenNames y5
  have h6 : Keeps s₀ y5 := by
    dsimp -zeta only [y5]
    apply State.setRegs_keeps
    exact h
  apply State.srecEvt_keeps
  exact h6

theorem State.capClose_keeps {s : State} (h : Keeps s₀ s) (x2) (x3) (x4) : Keeps s₀ (State.capClose s x2 x3 x4) := by
  unfold State.capClose
  extract_lets +onlyGivenNames y1
  extract_lets +onlyGivenNames y2
  refine keeps_ite ?_ ?_
  · exact h
  · extract_lets +onlyGivenNames y3
    refine keeps_ite ?_ ?_
    · extract_lets +onlyGivenNames y4
      extract_lets +onlyGivenNames y5
      have h6 : Keeps s₀ y5 := by
        dsimp -zeta only [y5]
        apply State.setSrecSlot_keeps
        exact h
      refine keeps_ite ?_ ?_
      · exact h6
      · apply State.setReg_keeps
        exact h6
    · extract_lets +onlyGivenNames y7
      extract_lets +onlyGivenNames y8
      have h9 : Keeps s₀ y8 := by
        dsimp -zeta only [y8]
        apply State.setSrecSlot_keeps
        exact h
      refine keeps_ite ?_ ?_
      · apply State.capHold_keeps
        exact h9
      · refine keeps_ite ?_ ?_
        · apply State.capHold_keeps
          apply State.srecEvt_keeps
          apply State.setReg_keeps
          exact h9
        · exact h9

theorem State.srecClose_keeps {s : State} (h : Keeps s₀ s) : Keeps s₀ (State.srecClose s) := by
  unfold State.srecClose
  extract_lets +onlyGivenNames y1
  extract_lets +onlyGivenNames y2
  extract_lets +onlyGivenNames y3
  extract_lets +onlyGivenNames y4
  extract_lets +onlyGivenNames y5
  extract_lets +onlyGivenNames y6
  extract_lets +onlyGivenNames y7
  extract_lets +onlyGivenNames y8
  extract_lets +onlyGivenNames y9
  extract_lets +onlyGivenNames y10
  have h11 : Keeps s₀ y10 := by
    dsimp -zeta only [y10]
    apply State.srecCount_keeps
    apply State.dramPut_keeps
    exact h
  extract_lets +onlyGivenNames y12
  extract_lets +onlyGivenNames y13
  have h14 : Keeps s₀ y13 := by
    dsimp -zeta only [y13]
    refine keeps_mk (s := y10) ?_ rfl
    exact h11
  extract_lets +onlyGivenNames y15
  have h16 : Keeps s₀ y15 := by
    dsimp -zeta only [y15]
    refine keeps_ite ?_ ?_
    · refine keeps_foldl ?_ ?_
      · exact h14
      · intro s17
        intro x18
        intro h19
        apply State.capClose_keeps
        exact h19
    · exact h14
  apply State.srecShow_keeps
  exact h16

theorem State.srecAppend_keeps {s : State} (h : Keeps s₀ s) (x2) : Keeps s₀ (State.srecAppend s x2) := by
  unfold State.srecAppend
  extract_lets +onlyGivenNames y1
  have h2 : Keeps s₀ y1 := by
    dsimp -zeta only [y1]
    apply State.dramPut_keeps
    exact h
  extract_lets +onlyGivenNames y3
  extract_lets +onlyGivenNames y4
  extract_lets +onlyGivenNames y5
  have h6 : Keeps s₀ y5 := by
    dsimp -zeta only [y5]
    refine keeps_mk (s := y1) ?_ rfl
    exact h2
  apply State.setReg_keeps
  apply State.srecCount_keeps
  exact h6

theorem State.srecFrameRec_keeps {s : State} (h : Keeps s₀ s) (x2) (x3) : Keeps s₀ (State.srecFrameRec s x2 x3) := by
  unfold State.srecFrameRec
  extract_lets +onlyGivenNames y1
  have h2 : Keeps s₀ y1 := by
    dsimp -zeta only [y1]
    apply State.srecAppend_keeps
    exact h
  extract_lets +onlyGivenNames y3
  split
  · refine keeps_mk (s := y1) ?_ rfl
    exact h2
  · refine keeps_mk (s := y1) ?_ rfl
    exact h2

theorem State.srecRoll_keeps {s : State} (h : Keeps s₀ s) (x2) : Keeps s₀ (State.srecRoll s x2) := by
  unfold State.srecRoll
  extract_lets +onlyGivenNames y1
  have h2 : Keeps s₀ y1 := by
    dsimp -zeta only [y1]
    refine keeps_ite ?_ ?_
    · apply State.srecAppend_keeps
      exact h
    · exact h
  extract_lets +onlyGivenNames y3
  have h4 : Keeps s₀ y3 := by
    dsimp -zeta only [y3]
    apply State.srecClose_keeps
    exact h2
  extract_lets +onlyGivenNames y5
  have h6 : Keeps s₀ y5 := by
    dsimp -zeta only [y5]
    apply State.srecOpen_keeps
    exact h4
  split
  · apply State.srecFrameRec_keeps
    exact h6
  · exact h6

theorem State.srecPut_keeps {s : State} (h : Keeps s₀ s) (x2) (x3) : Keeps s₀ (State.srecPut s x2 x3) := by
  unfold State.srecPut
  refine keeps_ite ?_ ?_
  · apply State.srecAppend_keeps
    exact h
  · apply State.srecAppend_keeps
    apply State.srecRoll_keeps
    exact h

theorem State.setSrecHist_keeps {s : State} (h : Keeps s₀ s) (x2) (x3) : Keeps s₀ (State.setSrecHist s x2 x3) := by
  unfold State.setSrecHist
  refine keeps_mk (s := s) ?_ rfl
  exact h

theorem State.srecNote_keeps {s : State} (h : Keeps s₀ s) (x2) (x3) : Keeps s₀ (State.srecNote s x2 x3) := by
  unfold State.srecNote
  extract_lets +onlyGivenNames y1
  have h2 : Keeps s₀ y1 := by
    dsimp -zeta only [y1]
    refine keeps_foldl ?_ ?_
    · exact h
    · intro s3
      intro x4
      intro h5
      extract_lets +onlyGivenNames y6
      apply State.setSrecHist_keeps
      exact h5
  refine keeps_foldl ?_ ?_
  · exact h2
  · intro s7
    intro x8
    intro h9
    apply State.setSrecHist_keeps
    exact h9

theorem State.srecTurn_keeps {s : State} (h : Keeps s₀ s) (x2) (x3) : Keeps s₀ (State.srecTurn s x2 x3).1 := by
  unfold State.srecTurn
  extract_lets +onlyGivenNames y1
  have h2 : Keeps s₀ y1 := by
    dsimp -zeta only [y1]
    apply State.srecRoll_keeps
    exact h
  refine keeps_ite_fst ?_ ?_
  · dsimp -zeta only
    exact h2
  · dsimp -zeta only
    exact h2

theorem State.srecWrite_keeps {s : State} (h : Keeps s₀ s) (x2) (x3) (x4) : Keeps s₀ (State.srecWrite s x2 x3 x4) := by
  induction x3 generalizing s x2 x4
  · unfold State.srecWrite
    exact h
  · rename_i n0 ih
    unfold State.srecWrite
    split
    · refine keeps_ite ?_ ?_
      · extract_lets +onlyGivenNames y1
        have h2 : Keeps s₀ y1 := by
          dsimp -zeta only [y1]
          apply State.srecAppend_keeps
          exact h
        extract_lets +onlyGivenNames y3
        extract_lets +onlyGivenNames y4
        have h5 : Keeps s₀ y4 := by
          dsimp -zeta only [y4]
          apply State.setSrecHist_keeps
          exact h2
        apply ih
        exact h5
      · split
        rename_i e6
        refine keeps_of_fst (s₀ := s₀) e6 ?_ (fun h7 => ?_)
        · apply State.srecTurn_keeps
          exact h
        clear e6
        apply ih
        exact h7
    · extract_lets +onlyGivenNames y8
      extract_lets +onlyGivenNames y9
      split
      extract_lets +onlyGivenNames y10
      refine keeps_ite ?_ ?_
      · refine keeps_ite ?_ ?_
        · apply ih
          apply State.srecNote_keeps
          apply State.srecAppend_keeps
          exact h
        · split
          rename_i e11
          refine keeps_of_fst (s₀ := s₀) e11 ?_ (fun h12 => ?_)
          · apply State.srecTurn_keeps
            exact h
          clear e11
          apply ih
          exact h12
      · clear_value y8
        clear_value y9
        split
        · refine keeps_ite ?_ ?_
          · extract_lets +onlyGivenNames y13
            have h14 : Keeps s₀ y13 := by
              dsimp -zeta only [y13]
              apply State.srecNote_keeps
              apply State.srecAppend_keeps
              exact h
            apply ih
            exact h14
          · split
            rename_i e15
            refine keeps_of_fst (s₀ := s₀) e15 ?_ (fun h16 => ?_)
            · apply State.srecTurn_keeps
              exact h
            clear e15
            apply ih
            exact h16
        · apply ih
          exact h
    · exact h

theorem State.srecFrame_keeps {s : State} (h : Keeps s₀ s) (x2) : Keeps s₀ (State.srecFrame s x2) := by
  unfold State.srecFrame
  extract_lets +onlyGivenNames y1
  have h2 : Keeps s₀ y1 := by
    dsimp -zeta only [y1]
    apply State.setReg_keeps
    exact h
  extract_lets +onlyGivenNames y3
  have h4 : Keeps s₀ y3 := by
    dsimp -zeta only [y3]
    refine keeps_ite ?_ ?_
    · apply State.srecFrameRec_keeps
      exact h2
    · apply State.srecFrameRec_keeps
      apply State.srecRoll_keeps
      exact h2
  extract_lets +onlyGivenNames y5
  have h6 : Keeps s₀ y5 := by
    dsimp -zeta only [y5]
    apply State.srecPut_keeps
    exact h4
  extract_lets +onlyGivenNames y7
  extract_lets +onlyGivenNames y8
  have h9 : Keeps s₀ y8 := by
    dsimp -zeta only [y8]
    refine keeps_ite ?_ ?_
    · exact h4
    · apply State.srecEvt_keeps
      refine keeps_mk (s := y5) ?_ rfl
      exact h6
  extract_lets +onlyGivenNames y10
  extract_lets +onlyGivenNames y11
  extract_lets +onlyGivenNames y12
  have h13 : Keeps s₀ y12 := by
    dsimp -zeta only [y12]
    apply State.srecWrite_keeps
    exact h9
  extract_lets +onlyGivenNames y14
  have h15 : Keeps s₀ y14 := by
    dsimp -zeta only [y14]
    refine keeps_foldl ?_ ?_
    · exact h13
    · intro s16
      intro x17
      intro h18
      apply State.srecPut_keeps
      exact h18
  refine keeps_mk (s := y14) ?_ rfl
  exact h15

theorem State.srecStopped_keeps {s : State} (h : Keeps s₀ s) : Keeps s₀ (State.srecStopped s) := by
  unfold State.srecStopped
  refine keeps_ite ?_ ?_
  · apply State.setState_keeps
    apply State.complete_keeps
    apply State.srecClose_keeps
    exact h
  · exact h

theorem srecFrameWrite_keeps {s : State} (h : Keeps s₀ s) : Keeps s₀ (srecFrameWrite s) := by
  unfold srecFrameWrite
  extract_lets +onlyGivenNames y1
  extract_lets +onlyGivenNames y2
  have h3 : Keeps s₀ y2 := by
    dsimp -zeta only [y2]
    refine keeps_ite ?_ ?_
    · exact h
    · refine keeps_mk (s := s) ?_ rfl
      exact h
  refine keeps_ite ?_ ?_
  · exact h3
  · split
    · apply State.srecStopped_keeps
      exact h3
    · extract_lets +onlyGivenNames y4
      extract_lets +onlyGivenNames y5
      have h6 : Keeps s₀ y5 := by
        dsimp -zeta only [y5]
        refine keeps_mk (s := y2) ?_ rfl
        exact h3
      apply State.srecStopped_keeps
      apply State.srecFrame_keeps
      exact h6

theorem execSrecFrameWrite_keeps {s t : State} (e : (execSrecFrameWrite s) = .next t) : Keeps s t := by
  unfold execSrecFrameWrite at e
  refine keeps_goesTo e ?_
  have h := keeps_refl s
  clear e
  apply State.alive_keeps
  · exact h
  · apply srecFrameWrite_keeps
    exact h

theorem State.srecBegin_keeps {s : State} (h : Keeps s₀ s) : Keeps s₀ (State.srecBegin s) := by
  unfold State.srecBegin
  extract_lets +onlyGivenNames y1
  extract_lets +onlyGivenNames y2
  extract_lets +onlyGivenNames y3
  refine keeps_mk (s := s) ?_ rfl
  exact h

theorem State.recFrameAtT0_keeps {s : State} (h : Keeps s₀ s) : Keeps s₀ (State.recFrameAtT0 s) := by
  unfold State.recFrameAtT0
  split
  · extract_lets +onlyGivenNames y1
    extract_lets +onlyGivenNames y2
    have h3 : Keeps s₀ y2 := by
      dsimp -zeta only [y2]
      refine keeps_mk (s := s) ?_ rfl
      exact h
    refine keeps_ite ?_ ?_
    · apply State.srecBegin_keeps
      exact h3
    · exact h3
  · refine keeps_ite ?_ ?_
    · apply State.srecBegin_keeps
      exact h
    · exact h

theorem State.recAtT0_keeps {s : State} (h : Keeps s₀ s) : Keeps s₀ (State.recAtT0 s) := by
  unfold State.recAtT0
  refine keeps_ite ?_ ?_
  · exact h
  · extract_lets +onlyGivenNames y1
    extract_lets +onlyGivenNames y2
    have h3 : Keeps s₀ y2 := by
      dsimp -zeta only [y2]
      refine keeps_foldl ?_ ?_
      · exact h
      · intro s4
        intro x5
        intro h6
        refine keeps_ite ?_ ?_
        · extract_lets +onlyGivenNames y7
          apply State.recTake_keeps
          exact h6
        · exact h6
    extract_lets +onlyGivenNames y8
    extract_lets +onlyGivenNames y9
    refine keeps_ite ?_ ?_
    · refine keeps_foldl ?_ ?_
      · exact h3
      · intro s10
        intro x11
        intro h12
        split
        · rename_i e13
          refine keeps_of_snd (s₀ := s₀) e13 ?_ (fun h14 => ?_)
          · apply State.quePop_keeps
            exact h12
          clear e13
          apply State.recExtra_keeps
          exact h14
        · rename_i e15
          refine keeps_of_snd (s₀ := s₀) e15 ?_ (fun h16 => ?_)
          · apply State.quePop_keeps
            exact h12
          clear e15
          exact h16
    · exact h3

theorem srecStart_keeps {s : State} (x1) (x2) (h : Keeps s₀ s) : Keeps s₀ (srecStart x1 x2 s) := by
  unfold srecStart
  extract_lets +onlyGivenNames y1
  extract_lets +onlyGivenNames y2
  extract_lets +onlyGivenNames y3
  apply State.command_keeps
  · exact h
  · intro s4
    intro h5
    extract_lets +onlyGivenNames y6
    have h7 : Keeps s₀ y6 := by
      dsimp -zeta only [y6]
      apply State.setRegs_keeps
      exact h5
    extract_lets +onlyGivenNames y8
    have h9 : Keeps s₀ y8 := by
      dsimp -zeta only [y8]
      refine keeps_foldl ?_ ?_
      · exact h7
      · intro s10
        intro x11
        intro h12
        apply State.setRegs_keeps
        exact h12
    extract_lets +onlyGivenNames y13
    have h14 : Keeps s₀ y13 := by
      dsimp -zeta only [y13]
      apply State.srecOpen_keeps
      refine keeps_mk (s := y8) ?_ rfl
      exact h9
    apply State.setState_keeps
    refine keeps_ite ?_ ?_
    · apply State.srecBegin_keeps
      exact h14
    · exact h14

theorem execSrecStart_keeps {s t : State} (x1) (x2) (e : (execSrecStart x1 x2 s) = .next t) : Keeps s t := by
  unfold execSrecStart at e
  refine keeps_goesTo e ?_
  have h := keeps_refl s
  clear e
  apply srecStart_keeps
  exact h

theorem srecStop_keeps {s : State} (x1) (x2) (h : Keeps s₀ s) : Keeps s₀ (srecStop x1 x2 s) := by
  unfold srecStop
  apply State.command_keeps
  · exact h
  · intro s1
    intro h2
    apply State.srecStopped_keeps
    apply State.setState_keeps
    exact h2

theorem execSrecStop_keeps {s t : State} (x1) (x2) (e : (execSrecStop x1 x2 s) = .next t) : Keeps s t := by
  unfold execSrecStop at e
  refine keeps_goesTo e ?_
  have h := keeps_refl s
  clear e
  apply srecStop_keeps
  exact h

theorem srecArm_keeps {s : State} (x1) (x2) (h : Keeps s₀ s) : Keeps s₀ (srecArm x1 x2 s) := by
  unfold srecArm
  extract_lets +onlyGivenNames y1
  apply State.command_keeps
  · exact h
  · intro s2
    intro h3
    clear_value y1
    split
    · apply State.setReg_keeps
      apply State.setSrecSlot_keeps
      exact h3
    · exact h3

theorem execSrecArm_keeps {s t : State} (x1) (x2) (e : (execSrecArm x1 x2 s) = .next t) : Keeps s t := by
  unfold execSrecArm at e
  refine keeps_goesTo e ?_
  have h := keeps_refl s
  clear e
  apply srecArm_keeps
  exact h

theorem State.srecFire_keeps {s : State} (h : Keeps s₀ s) (x2) (x3) : Keeps s₀ (State.srecFire s x2 x3) := by
  unfold State.srecFire
  extract_lets +onlyGivenNames y1
  extract_lets +onlyGivenNames y2
  extract_lets +onlyGivenNames y3
  extract_lets +onlyGivenNames y4
  extract_lets +onlyGivenNames y5
  extract_lets +onlyGivenNames y6
  extract_lets +onlyGivenNames y7
  extract_lets +onlyGivenNames y8
  have h9 : Keeps s₀ y8 := by
    dsimp -zeta only [y8]
    apply State.setSrecSlot_keeps
    exact h
  extract_lets +onlyGivenNames y10
  have h11 : Keeps s₀ y10 := by
    dsimp -zeta only [y10]
    apply State.setReg_keeps
    exact h9
  extract_lets +onlyGivenNames y12
  have h13 : Keeps s₀ y12 := by
    dsimp -zeta only [y12]
    apply State.recExtra_keeps
    exact h11
  apply State.srecEvt_keeps
  apply State.srecShow_keeps
  exact h13

theorem srecTrigger_keeps {s : State} (x1) (x2) (h : Keeps s₀ s) : Keeps s₀ (srecTrigger x1 x2 s) := by
  unfold srecTrigger
  extract_lets +onlyGivenNames y1
  apply State.command_keeps
  · exact h
  · intro s2
    intro h3
    clear_value y1
    split
    · apply State.srecFire_keeps
      exact h3
    · exact h3

theorem execSrecTrigger_keeps {s t : State} (x1) (x2) (e : (execSrecTrigger x1 x2 s) = .next t) : Keeps s t := by
  unfold execSrecTrigger at e
  refine keeps_goesTo e ?_
  have h := keeps_refl s
  clear e
  apply srecTrigger_keeps
  exact h

theorem signalTriggerEvaluation_keeps {s : State} (h : Keeps s₀ s) : Keeps s₀ (signalTriggerEvaluation s) := by
  unfold signalTriggerEvaluation
  refine keeps_ite ?_ ?_
  · extract_lets +onlyGivenNames y1
    have h2 : Keeps s₀ y1 := by
      dsimp -zeta only [y1]
      apply State.atOffset_keeps
      exact h
    extract_lets +onlyGivenNames y3
    split
    · refine keeps_ite ?_ ?_
      · extract_lets +onlyGivenNames y4
        refine keeps_ite ?_ ?_
        · apply State.srecFire_keeps
          exact h2
        · exact h2
      · exact h2
    · exact h2
  · exact h

theorem execSignalTriggerEvaluation_keeps {s t : State} (e : (execSignalTriggerEvaluation s) = .next t) : Keeps s t := by
  unfold execSignalTriggerEvaluation at e
  refine keeps_goesTo e ?_
  have h := keeps_refl s
  clear e
  apply State.alive_keeps
  · exact h
  · apply signalTriggerEvaluation_keeps
    exact h

theorem srecRelease_keeps {s : State} (x1) (x2) (h : Keeps s₀ s) : Keeps s₀ (srecRelease x1 x2 s) := by
  unfold srecRelease
  extract_lets +onlyGivenNames y1
  apply State.command_keeps
  · exact h
  · intro s2
    intro h3
    apply State.srecShow_keeps
    apply State.setReg_keeps
    apply State.setSrecSlot_keeps
    exact h3

theorem execSrecRelease_keeps {s t : State} (x1) (x2) (e : (execSrecRelease x1 x2 s) = .next t) : Keeps s t := by
  unfold execSrecRelease at e
  refine keeps_goesTo e ?_
  have h := keeps_refl s
  clear e
  apply srecRelease_keeps
  exact h

theorem State.srecClearStats_keeps {s : State} (h : Keeps s₀ s) : Keeps s₀ (State.srecClearStats s) := by
  unfold State.srecClearStats
  apply State.zeroRegs_keeps
  exact h

theorem srecAbort_keeps {s : State} (x1) (x2) (h : Keeps s₀ s) : Keeps s₀ (srecAbort x1 x2 s) := by
  unfold srecAbort
  apply State.abort_keeps
  · exact h
  · intro x1
    intro s2
    intro h3
    split
    · apply State.setReg_keeps
      apply State.setSrecSlot_keeps
      exact h3
    · exact h3

theorem execSrecAbort_keeps {s t : State} (x1) (x2) (e : (execSrecAbort x1 x2 s) = .next t) : Keeps s t := by
  unfold execSrecAbort at e
  refine keeps_goesTo e ?_
  have h := keeps_refl s
  clear e
  apply srecAbort_keeps
  exact h

theorem State.readoutEnd_keeps {s : State} (h : Keeps s₀ s) (x2) (x3) (x4) (x5) : Keeps s₀ (State.readoutEnd s x2 x3 x4 x5) := by
  unfold State.readoutEnd
  extract_lets +onlyGivenNames y1
  apply State.srecEvt_keeps
  apply State.setReg_keeps
  refine keeps_mk (s := s) ?_ rfl
  exact h

theorem State.writeRdCtl_keeps {s : State} (h : Keeps s₀ s) (x2) : Keeps s₀ (State.writeRdCtl s x2) := by
  unfold State.writeRdCtl
  extract_lets +onlyGivenNames y1
  extract_lets +onlyGivenNames y2
  have h3 : Keeps s₀ y2 := by
    dsimp -zeta only [y2]
    apply State.setReg_keeps
    exact h
  extract_lets +onlyGivenNames y4
  extract_lets +onlyGivenNames y5
  extract_lets +onlyGivenNames y6
  extract_lets +onlyGivenNames y7
  have h8 : Keeps s₀ y7 := by
    dsimp -zeta only [y7]
    refine keeps_ite ?_ ?_
    · refine keeps_ite ?_ ?_
      · apply State.readoutEnd_keeps
        exact h3
      · apply State.setReg_keeps
        refine keeps_mk (s := y2) ?_ rfl
        exact h3
    · exact h3
  split
  · refine keeps_ite ?_ ?_
    · refine keeps_mk (s := y7) ?_ rfl
      exact h8
    · exact h8
  · exact h8

theorem rdCtlWrite_keeps {s : State} (x1) (x2) (h : Keeps s₀ s) : Keeps s₀ (rdCtlWrite x1 x2 s) := by
  unfold rdCtlWrite
  apply State.access_keeps
  · exact h
  · intro s1
    intro h2
    apply State.writeRdCtl_keeps
    exact h2

theorem execReadoutGo_keeps {s t : State} (x1) (x2) (e : (execReadoutGo x1 x2 s) = .next t) : Keeps s t := by
  unfold execReadoutGo at e
  refine keeps_goesTo e ?_
  have h := keeps_refl s
  clear e
  apply rdCtlWrite_keeps
  exact h

theorem execReadoutCancel_keeps {s t : State} (x1) (x2) (e : (execReadoutCancel x1 x2 s) = .next t) : Keeps s t := by
  unfold execReadoutCancel at e
  refine keeps_goesTo e ?_
  have h := keeps_refl s
  clear e
  apply rdCtlWrite_keeps
  exact h

theorem State.readoutBlock_keeps {s : State} (h : Keeps s₀ s) (x2) (x3) : Keeps s₀ (State.readoutBlock s x2 x3) := by
  unfold State.readoutBlock
  extract_lets +onlyGivenNames y1
  extract_lets +onlyGivenNames y2
  extract_lets +onlyGivenNames y3
  refine keeps_ite ?_ ?_
  · apply State.memcWritten_keeps
    apply State.setWords_keeps
    exact h
  · extract_lets +onlyGivenNames y4
    apply State.dramPut_keeps
    exact h

theorem readoutComplete_keeps {s : State} (x1) (x2) (h : Keeps s₀ s) : Keeps s₀ (readoutComplete x1 x2 s) := by
  unfold readoutComplete
  split
  · exact h
  · extract_lets +onlyGivenNames y1
    extract_lets +onlyGivenNames y2
    extract_lets +onlyGivenNames y3
    extract_lets +onlyGivenNames y4
    extract_lets +onlyGivenNames y5
    have h6 : Keeps s₀ y5 := by
      dsimp -zeta only [y5]
      refine keeps_ite ?_ ?_
      · refine keeps_foldl ?_ ?_
        · exact h
        · intro s7
          intro x8
          intro h9
          apply State.readoutBlock_keeps
          exact h9
      · exact h
    apply State.readoutEnd_keeps
    exact h6

theorem execReadoutComplete_keeps {s t : State} (x1) (x2) (e : (execReadoutComplete x1 x2 s) = .next t) : Keeps s t := by
  unfold execReadoutComplete at e
  refine keeps_goesTo e ?_
  have h := keeps_refl s
  clear e
  apply State.alive_keeps
  · exact h
  · apply readoutComplete_keeps
    exact h

theorem State.pcieEvt_keeps {s : State} (h : Keeps s₀ s) (x2) : Keeps s₀ (State.pcieEvt s x2) := by
  unfold State.pcieEvt
  apply State.raiseEvt_keeps
  exact h

theorem State.linkFalls_keeps {s : State} (h : Keeps s₀ s) : Keeps s₀ (State.linkFalls s) := by
  unfold State.linkFalls
  extract_lets +onlyGivenNames y1
  extract_lets +onlyGivenNames y2
  have h3 : Keeps s₀ y2 := by
    dsimp -zeta only [y2]
    apply State.setState_keeps
    apply State.setReg_keeps
    apply State.complete_keeps
    exact h
  refine keeps_ite ?_ ?_
  · apply State.pcieEvt_keeps
    exact h3
  · exact h3

theorem pciePerst_keeps {s : State} (h : Keeps s₀ s) : Keeps s₀ (pciePerst s) := by
  unfold pciePerst
  refine keeps_ite ?_ ?_
  · exact h
  · extract_lets +onlyGivenNames y1
    have h2 : Keeps s₀ y1 := by
      dsimp -zeta only [y1]
      apply State.setReg_keeps
      apply State.linkFalls_keeps
      exact h
    extract_lets +onlyGivenNames y3
    extract_lets +onlyGivenNames y4
    have h5 : Keeps s₀ y4 := by
      dsimp -zeta only [y4]
      refine keeps_mk (s := y1) ?_ rfl
      exact h2
    extract_lets +onlyGivenNames y6
    have h7 : Keeps s₀ y6 := by
      dsimp -zeta only [y6]
      split
      · refine keeps_ite ?_ ?_
        · exact h5
        · apply State.readoutEnd_keeps
          exact h5
      · exact h5
    apply State.pcieEvt_keeps
    apply State.inc_keeps
    exact h7

theorem execPciePerst_keeps {s t : State} (e : (execPciePerst s) = .next t) : Keeps s t := by
  unfold execPciePerst at e
  refine keeps_goesTo e ?_
  have h := keeps_refl s
  clear e
  apply State.alive_keeps
  · exact h
  · apply pciePerst_keeps
    exact h

theorem pcieLinkUp_keeps {s : State} (x1) (x2) (h : Keeps s₀ s) : Keeps s₀ (pcieLinkUp x1 x2 s) := by
  unfold pcieLinkUp
  extract_lets +onlyGivenNames y1
  refine keeps_ite ?_ ?_
  · extract_lets +onlyGivenNames y2
    apply State.pcieEvt_keeps
    apply State.setState_keeps
    apply State.setReg_keeps
    apply State.complete_keeps
    exact h
  · exact h

theorem execPcieLinkUp_keeps {s t : State} (x1) (x2) (e : (execPcieLinkUp x1 x2 s) = .next t) : Keeps s t := by
  unfold execPcieLinkUp at e
  refine keeps_goesTo e ?_
  have h := keeps_refl s
  clear e
  apply State.alive_keeps
  · exact h
  · apply pcieLinkUp_keeps
    exact h

theorem pcieLinkDown_keeps {s : State} (h : Keeps s₀ s) : Keeps s₀ (pcieLinkDown s) := by
  unfold pcieLinkDown
  refine keeps_ite ?_ ?_
  · apply State.linkFalls_keeps
    exact h
  · exact h

theorem execPcieLinkDown_keeps {s t : State} (e : (execPcieLinkDown s) = .next t) : Keeps s t := by
  unfold execPcieLinkDown at e
  refine keeps_goesTo e ?_
  have h := keeps_refl s
  clear e
  apply State.alive_keeps
  · exact h
  · apply pcieLinkDown_keeps
    exact h

theorem pcieRetrain_keeps {s : State} (x1) (x2) (h : Keeps s₀ s) : Keeps s₀ (pcieRetrain x1 x2 s) := by
  unfold pcieRetrain
  apply State.command_keeps
  · exact h
  · intro s1
    intro h2
    apply State.setState_keeps
    exact h2

theorem execPcieRetrain_keeps {s t : State} (x1) (x2) (e : (execPcieRetrain x1 x2 s) = .next t) : Keeps s t := by
  unfold execPcieRetrain at e
  refine keeps_goesTo e ?_
  have h := keeps_refl s
  clear e
  apply pcieRetrain_keeps
  exact h

theorem pcieAbort_keeps {s : State} (x1) (x2) (h : Keeps s₀ s) : Keeps s₀ (pcieAbort x1 x2 s) := by
  unfold pcieAbort
  apply State.abort_keeps
  · exact h
  · intro x1
    intro s2
    intro h3
    refine keeps_ite ?_ ?_
    · apply State.setState_keeps
      exact h3
    · exact h3

theorem execPcieAbort_keeps {s t : State} (x1) (x2) (e : (execPcieAbort x1 x2 s) = .next t) : Keeps s t := by
  unfold execPcieAbort at e
  refine keeps_goesTo e ?_
  have h := keeps_refl s
  clear e
  apply pcieAbort_keeps
  exact h

theorem State.pcieClearStats_keeps {s : State} (h : Keeps s₀ s) : Keeps s₀ (State.pcieClearStats s) := by
  unfold State.pcieClearStats
  apply State.setReg_keeps
  apply State.zeroRegs_keeps
  exact h

theorem State.setMailbox_keeps {s : State} (h : Keeps s₀ s) (x2) (x3) : Keeps s₀ (State.setMailbox s x2 x3) := by
  unfold State.setMailbox
  apply State.setReg_keeps
  refine keeps_mk (s := s) ?_ rfl
  exact h

theorem State.mbEnqueue_keeps {s : State} (h : Keeps s₀ s) (x2) (x3) : Keeps s₀ (State.mbEnqueue s x2 x3) := by
  unfold State.mbEnqueue
  extract_lets +onlyGivenNames y1
  extract_lets +onlyGivenNames y2
  refine keeps_ite ?_ ?_
  · exact h
  · refine keeps_ite ?_ ?_
    · apply State.quePut_keeps
      exact h
    · refine keeps_mk (s := s) ?_ rfl
      exact h

theorem State.fromHost_keeps {s : State} {f2} (h : Keeps s₀ s) (g2 : ∀ a1, Keeps s₀ a1 → Keeps s₀ (f2 a1)) : Keeps s₀ (State.fromHost s f2) := by
  unfold State.fromHost
  refine keeps_ite ?_ ?_
  · apply g2
    exact h
  · exact h

theorem mbDbWrite_keeps {s : State} (x1) (x2) (h : Keeps s₀ s) : Keeps s₀ (mbDbWrite x1 x2 s) := by
  unfold mbDbWrite
  extract_lets +onlyGivenNames y1
  extract_lets +onlyGivenNames y2
  refine keeps_ite ?_ ?_
  · apply State.pcieEvt_keeps
    apply State.inc_keeps
    apply State.setMailbox_keeps
    exact h
  · apply State.mbEnqueue_keeps
    apply State.pcieEvt_keeps
    apply State.setMailbox_keeps
    exact h

theorem execMbDbWrite_keeps {s t : State} (x1) (x2) (e : (execMbDbWrite x1 x2 s) = .next t) : Keeps s t := by
  unfold execMbDbWrite at e
  refine keeps_goesTo e ?_
  have h := keeps_refl s
  clear e
  apply State.alive_keeps
  · exact h
  · apply State.fromHost_keeps
    · exact h
    · intro s1
      intro h2
      apply mbDbWrite_keeps
      exact h2

theorem mbAnswerWrite_keeps {s : State} (x1) (x2) (h : Keeps s₀ s) : Keeps s₀ (mbAnswerWrite x1 x2 s) := by
  unfold mbAnswerWrite
  apply State.writeGranted_keeps
  · exact h
  · intro s1
    intro h2
    extract_lets +onlyGivenNames y3
    extract_lets +onlyGivenNames y4
    refine keeps_ite ?_ ?_
    · apply State.msixRaise_keeps
      apply State.setMailbox_keeps
      exact h2
    · exact h2

theorem execMbAnswerWrite_keeps {s t : State} (x1) (x2) (e : (execMbAnswerWrite x1 x2 s) = .next t) : Keeps s t := by
  unfold execMbAnswerWrite at e
  refine keeps_goesTo e ?_
  have h := keeps_refl s
  clear e
  apply mbAnswerWrite_keeps
  exact h

theorem pcieMbReset_keeps {s : State} (x1) (x2) (h : Keeps s₀ s) : Keeps s₀ (pcieMbReset x1 x2 s) := by
  unfold pcieMbReset
  extract_lets +onlyGivenNames y1
  extract_lets +onlyGivenNames y2
  apply State.command_keeps
  · exact h
  · intro s3
    intro h4
    refine keeps_foldl ?_ ?_
    · exact h4
    · intro s5
      intro x6
      intro h7
      refine keeps_ite ?_ ?_
      · apply State.setMailbox_keeps
        refine keeps_mk (s := s5) ?_ rfl
        exact h7
      · exact h7

theorem execPcieMbReset_keeps {s t : State} (x1) (x2) (e : (execPcieMbReset x1 x2 s) = .next t) : Keeps s t := by
  unfold execPcieMbReset at e
  refine keeps_goesTo e ?_
  have h := keeps_refl s
  clear e
  apply pcieMbReset_keeps
  exact h

theorem State.qdbStageWords_keeps {s : State} (h : Keeps s₀ s) (x2) (x3) (x4) : Keeps s₀ (State.qdbStageWords s x2 x3 x4) := by
  unfold State.qdbStageWords
  refine keeps_foldl ?_ ?_
  · exact h
  · intro s1
    intro x2
    intro h3
    refine keeps_mk (s := s1) ?_ rfl
    exact h3

theorem State.qdbDecide_keeps {s : State} (h : Keeps s₀ s) (x2) : Keeps s₀ (State.qdbDecide s x2) := by
  unfold State.qdbDecide
  extract_lets +onlyGivenNames y1
  split
  rename_i e2
  refine keeps_of_fst (s₀ := s₀) e2 ?_ (fun h3 => ?_)
  · refine keeps_ite_fst ?_ ?_
    · dsimp -zeta only
      exact h
    · refine keeps_ite_fst ?_ ?_
      · dsimp -zeta only
        apply State.trace_keeps
        apply State.queEvt_keeps
        apply State.inc_keeps
        exact h
      · dsimp -zeta only
        apply State.quePut_keeps
        exact h
  clear e2
  extract_lets +onlyGivenNames y4
  extract_lets +onlyGivenNames y5
  extract_lets +onlyGivenNames y6
  have h7 : Keeps s₀ y6 := by
    dsimp -zeta only [y6]
    refine keeps_mk ?_ rfl
    exact h3
  refine keeps_ite ?_ ?_
  · exact h7
  · apply State.pcieEvt_keeps
    exact h7

theorem qdbCommit_keeps {s : State} (x1) (x2) (h : Keeps s₀ s) : Keeps s₀ (qdbCommit x1 x2 s) := by
  unfold qdbCommit
  extract_lets +onlyGivenNames y1
  apply State.qdbDecide_keeps
  apply State.qdbStageWords_keeps
  exact h

theorem execQdbCommit_keeps {s t : State} (x1) (x2) (e : (execQdbCommit x1 x2 s) = .next t) : Keeps s t := by
  unfold execQdbCommit at e
  refine keeps_goesTo e ?_
  have h := keeps_refl s
  clear e
  apply State.alive_keeps
  · exact h
  · apply State.fromHost_keeps
    · exact h
    · intro s1
      intro h2
      apply qdbCommit_keeps
      exact h2

theorem msixRaiseWrite_keeps {s : State} (x1) (x2) (h : Keeps s₀ s) : Keeps s₀ (msixRaiseWrite x1 x2 s) := by
  unfold msixRaiseWrite
  apply State.writeGranted_keeps
  · exact h
  · intro s1
    intro h2
    refine keeps_ite ?_ ?_
    · apply State.msixRaise_keeps
      exact h2
    · exact h2

theorem execMsixRaiseWrite_keeps {s t : State} (x1) (x2) (e : (execMsixRaiseWrite x1 x2 s) = .next t) : Keeps s t := by
  unfold execMsixRaiseWrite at e
  refine keeps_goesTo e ?_
  have h := keeps_refl s
  clear e
  apply msixRaiseWrite_keeps
  exact h

theorem State.setMsixWord_keeps {s : State} (h : Keeps s₀ s) (x2) (x3) : Keeps s₀ (State.setMsixWord s x2 x3) := by
  unfold State.setMsixWord
  extract_lets +onlyGivenNames y1
  extract_lets +onlyGivenNames y2
  have h3 : Keeps s₀ y2 := by
    dsimp -zeta only [y2]
    refine keeps_mk (s := s) ?_ rfl
    exact h
  extract_lets +onlyGivenNames y4
  refine keeps_ite ?_ ?_
  · apply State.msixRaise_keeps
    refine keeps_mk (s := y2) ?_ rfl
    exact h3
  · exact h3

theorem msixUnmask_keeps {s : State} (x1) (h : Keeps s₀ s) : Keeps s₀ (msixUnmask x1 s) := by
  unfold msixUnmask
  apply State.setMsixWord_keeps
  exact h

theorem execMsixUnmask_keeps {s t : State} (x1) (e : (execMsixUnmask x1 s) = .next t) : Keeps s t := by
  unfold execMsixUnmask at e
  refine keeps_goesTo e ?_
  have h := keeps_refl s
  clear e
  apply State.alive_keeps
  · exact h
  · apply State.fromHost_keeps
    · exact h
    · intro s1
      intro h2
      apply msixUnmask_keeps
      exact h2

theorem State.windowError_keeps {s : State} (h : Keeps s₀ s) (x2) (x3) : Keeps s₀ (State.windowError s x2 x3) := by
  unfold State.windowError
  apply State.pcieEvt_keeps
  apply State.setReg_keeps
  apply State.inc_keeps
  exact h

theorem State.windowLatency_keeps {s : State} (h : Keeps s₀ s) (x2) : Keeps s₀ (State.windowLatency s x2) := by
  unfold State.windowLatency
  extract_lets +onlyGivenNames y1
  extract_lets +onlyGivenNames y2
  apply State.setReg_keeps
  exact h

theorem State.setRope_keeps {s : State} (h : Keeps s₀ s) (x2) (x3) : Keeps s₀ (State.setRope s x2 x3) := by
  unfold State.setRope
  extract_lets +onlyGivenNames y1
  apply State.setReg_keeps
  exact h

theorem State.fltShow_keeps {s : State} (h : Keeps s₀ s) : Keeps s₀ (State.fltShow s) := by
  unfold State.fltShow
  extract_lets +onlyGivenNames y1
  refine keeps_ite ?_ ?_
  · exact h
  · apply State.pubReg_keeps
    apply State.setReg_keeps
    exact h

theorem State.baseGates_keeps {s : State} (h : Keeps s₀ s) : Keeps s₀ (State.baseGates s) := by
  unfold State.baseGates
  refine keeps_ite ?_ ?_
  · refine keeps_foldl ?_ ?_
    · exact h
    · intro s1
      intro x2
      intro h3
      apply State.axcSto_keeps
      exact h3
  · refine keeps_ite ?_ ?_
    · apply State.gatesFollow_keeps
      exact h
    · refine keeps_foldl ?_ ?_
      · exact h
      · intro s4
        intro x5
        intro h6
        apply State.axcStoEnd_keeps
        exact h6

theorem State.outputsOff_keeps {s : State} (h : Keeps s₀ s) : Keeps s₀ (State.outputsOff s) := by
  unfold State.outputsOff
  refine keeps_foldl ?_ ?_
  · exact h
  · intro s1
    intro x2
    intro h3
    apply State.forceOff_keeps
    exact h3

theorem State.fatal_keeps {s : State} (h : Keeps s₀ s) (x2) : Keeps s₀ (State.fatal s x2) := by
  unfold State.fatal
  extract_lets +onlyGivenNames y1
  have h2 : Keeps s₀ y1 := by
    dsimp -zeta only [y1]
    apply State.setReg_keeps
    exact h
  apply State.outputsOff_keeps
  refine keeps_mk (s := y1) ?_ rfl
  exact h2

theorem State.coldReset_keeps {s : State} (h : Keeps s₀ s) (x2) : Keeps s₀ (State.coldReset s x2) :=
  keeps_trans h ⟨fun x => ⟨smCanon_filter _ _ x.1, smCanon_filter _ _ x.2⟩, rfl, fun _ => by
    simp [State.otpByte, State.coldReset]⟩

theorem State.islandsReset_keeps {s : State} (h : Keeps s₀ s) : Keeps s₀ (State.islandsReset s) :=
  keeps_trans h ⟨fun x => ⟨smCanon_filter _ _ x.1, smCanon_filter _ _ x.2⟩, rfl, fun _ => by
    simp [State.otpByte, State.islandsReset]⟩

theorem autocoldRestart_keeps {s : State} (h : Keeps s₀ s) : Keeps s₀ (autocoldRestart s) := by
  unfold autocoldRestart
  refine keeps_ite ?_ ?_
  · apply State.coldReset_keeps
    exact h
  · exact h

theorem execAutocoldRestart_keeps {s t : State} (e : (execAutocoldRestart s) = .next t) : Keeps s t := by
  unfold execAutocoldRestart at e
  refine keeps_goesTo e ?_
  have h := keeps_refl s
  clear e
  apply autocoldRestart_keeps
  exact h

theorem State.loopBoth_keeps {s : State} (h : Keeps s₀ s) (x2) : Keeps s₀ (State.loopBoth s x2) := by
  unfold State.loopBoth
  refine keeps_foldl ?_ ?_
  · exact h
  · intro s1
    intro x2
    intro h3
    refine keeps_ite ?_ ?_
    · exact h3
    · apply State.setOcuPort_keeps
      exact h3

theorem State.islandReaction_keeps {s : State} (h : Keeps s₀ s) (x2) : Keeps s₀ (State.islandReaction s x2) := by
  unfold State.islandReaction
  split
  · apply State.bivXtalFail_keeps
    exact h
  · extract_lets +onlyGivenNames y1
    extract_lets +onlyGivenNames y2
    have h3 : Keeps s₀ y2 := by
      dsimp -zeta only [y2]
      refine keeps_mk (s := s) ?_ rfl
      exact h
    extract_lets +onlyGivenNames y4
    have h5 : Keeps s₀ y4 := by
      dsimp -zeta only [y4]
      apply State.safeFault_keeps
      apply State.setRope_keeps
      exact h3
    apply State.baseGates_keeps
    extract_lets +onlyGivenNames y6
    have h7 : Keeps s₀ y6 := by
      dsimp -zeta only [y6]
      apply State.safeFault_keeps
      exact h5
    refine keeps_mk (s := y6) ?_ rfl
    exact h7
  · refine keeps_ite ?_ ?_
    · apply State.wdogWarm_keeps
      apply State.syncWsch_keeps
      exact h
    · apply State.syncWsch_keeps
      exact h
  · apply State.safeFault_keeps
    refine keeps_mk (s := s) ?_ rfl
    exact h
  · apply State.baseGates_keeps
    exact h
  · apply State.loopBoth_keeps
    exact h
  · apply State.loopBoth_keeps
    exact h
  · apply State.linkFalls_keeps
    exact h
  · apply State.outputsOff_keeps
    exact h
  · exact h

theorem State.islandFail_keeps {s : State} (h : Keeps s₀ s) (x2) : Keeps s₀ (State.islandFail s x2) := by
  unfold State.islandFail
  refine keeps_ite ?_ ?_
  · exact h
  · extract_lets +onlyGivenNames y1
    extract_lets +onlyGivenNames y2
    have h3 : Keeps s₀ y2 := by
      dsimp -zeta only [y2]
      refine keeps_mk (s := s) ?_ rfl
      exact h
    extract_lets +onlyGivenNames y4
    have h5 : Keeps s₀ y4 := by
      dsimp -zeta only [y4]
      apply State.setReg_keeps
      apply State.orReg_keeps
      exact h3
    extract_lets +onlyGivenNames y6
    have h7 : Keeps s₀ y6 := by
      dsimp -zeta only [y6]
      apply State.pubReg_keeps
      exact h5
    extract_lets +onlyGivenNames y8
    have h9 : Keeps s₀ y8 := by
      dsimp -zeta only [y8]
      apply State.faultEvent_keeps
      exact h7
    extract_lets +onlyGivenNames y10
    have h11 : Keeps s₀ y10 := by
      dsimp -zeta only [y10]
      apply State.fltShow_keeps
      apply State.islandReaction_keeps
      exact h9
    refine keeps_ite ?_ ?_
    · extract_lets +onlyGivenNames y12
      have h13 : Keeps s₀ y12 := by
        dsimp -zeta only [y12]
        apply State.fatal_keeps
        exact h11
      refine keeps_ite ?_ ?_
      · apply State.coldReset_keeps
        exact h13
      · exact h13
    · exact h11

theorem clockMonitorFailure_keeps {s : State} (x1) (h : Keeps s₀ s) : Keeps s₀ (clockMonitorFailure x1 s) := by
  unfold clockMonitorFailure
  apply State.islandFail_keeps
  exact h

theorem execClockMonitorFailure_keeps {s t : State} (x1) (e : (execClockMonitorFailure x1 s) = .next t) : Keeps s t := by
  unfold execClockMonitorFailure at e
  refine keeps_goesTo e ?_
  have h := keeps_refl s
  clear e
  apply clockMonitorFailure_keeps
  exact h

theorem State.coreFinding_keeps {s : State} (h : Keeps s₀ s) (x2) (x3) : Keeps s₀ (State.coreFinding s x2 x3) := by
  unfold State.coreFinding
  split
  · rename_i e1
    refine keeps_of_fst (s₀ := s₀) e1 ?_ (fun h2 => ?_)
    · apply State.finding_keeps
      exact h
    clear e1
    apply State.faultEvent_keeps
    exact h2
  · rename_i e3
    refine keeps_of_fst (s₀ := s₀) e3 ?_ (fun h4 => ?_)
    · apply State.finding_keeps
      exact h
    clear e3
    exact h4

theorem State.adcFinding_keeps {s : State} (h : Keeps s₀ s) (x2) (x3) : Keeps s₀ (State.adcFinding s x2 x3) := by
  unfold State.adcFinding
  split
  · rename_i e1
    refine keeps_of_fst (s₀ := s₀) e1 ?_ (fun h2 => ?_)
    · apply State.finding_keeps
      exact h
    clear e1
    apply State.adcOverflow_keeps
    exact h2
  · rename_i e3
    refine keeps_of_fst (s₀ := s₀) e3 ?_ (fun h4 => ?_)
    · apply State.finding_keeps
      exact h
    clear e3
    exact h4

theorem State.pairFinding_keeps {s : State} (h : Keeps s₀ s) (x2) (x3) : Keeps s₀ (State.pairFinding s x2 x3).1 := by
  unfold State.pairFinding
  split
  · rename_i e1
    refine keeps_of_fst (s₀ := s₀) e1 ?_ (fun h2 => ?_)
    · apply State.finding_keeps
      exact h
    clear e1
    dsimp -zeta only
    apply State.faultEvent_keeps
    exact h2
  · rename_i e3
    refine keeps_of_fst (s₀ := s₀) e3 ?_ (fun h4 => ?_)
    · apply State.finding_keeps
      exact h
    clear e3
    dsimp -zeta only
    exact h4

theorem State.lastPairFinding_keeps {s : State} (h : Keeps s₀ s) (x2) : Keeps s₀ (State.lastPairFinding s x2) := by
  unfold State.lastPairFinding
  refine keeps_ite ?_ ?_
  · apply State.faultEvent_keeps
    apply State.setBucket_keeps
    exact h
  · apply State.pairFinding_keeps
    exact h

theorem State.testFailed_keeps {s : State} (h : Keeps s₀ s) (x2) (x3) : Keeps s₀ (State.testFailed s x2 x3) := by
  unfold State.testFailed
  split
  · apply State.adcFinding_keeps
    exact h
  · apply State.ceFinding_keeps
    exact h
  · apply State.coreFinding_keeps
    exact h
  · refine keeps_ite ?_ ?_
    · apply State.lastPairFinding_keeps
      exact h
    · extract_lets +onlyGivenNames y1
      refine keeps_ite ?_ ?_
      · apply State.setRope_keeps
        extract_lets +onlyGivenNames y2
        have h3 : Keeps s₀ y2 := by
          dsimp -zeta only [y2]
          dsimp -zeta only [y1]
          apply State.pairFinding_keeps
          exact h
        refine keeps_mk (s := y2) ?_ rfl
        exact h3
      · dsimp -zeta only [y1]
        apply State.pairFinding_keeps
        exact h
  · exact h

theorem State.testRan_keeps {s : State} (h : Keeps s₀ s) (x2) (x3) : Keeps s₀ (State.testRan s x2 x3) := by
  unfold State.testRan
  apply State.setReg_keeps
  exact h

theorem machineCheck_keeps {s : State} (x1) (h : Keeps s₀ s) : Keeps s₀ (machineCheck x1 s) := by
  unfold machineCheck
  apply State.fltShow_keeps
  apply State.coreFinding_keeps
  exact h

theorem execMachineCheck_keeps {s t : State} (x1) (e : (execMachineCheck x1 s) = .next t) : Keeps s t := by
  unfold execMachineCheck at e
  refine keeps_goesTo e ?_
  have h := keeps_refl s
  clear e
  apply machineCheck_keeps
  exact h

theorem State.sramFinding_keeps {s : State} (h : Keeps s₀ s) (x2) (x3) : Keeps s₀ (State.sramFinding s x2 x3) := by
  unfold State.sramFinding
  extract_lets +onlyGivenNames y1
  split
  · rename_i e2
    refine keeps_of_fst (s₀ := s₀) e2 ?_ (fun h3 => ?_)
    · apply State.finding_keeps
      exact h
    clear e2
    refine keeps_ite ?_ ?_
    · apply State.faultEvent_keeps
      refine keeps_mk ?_ rfl
      exact h3
    · apply State.faultEvent_keeps
      apply State.raiseEvt_keeps
      exact h3
  · rename_i e4
    refine keeps_of_fst (s₀ := s₀) e4 ?_ (fun h5 => ?_)
    · apply State.finding_keeps
      exact h
    clear e4
    exact h5

theorem State.sramCheck_keeps {s : State} (h : Keeps s₀ s) (x2) (x3) : Keeps s₀ (State.sramCheck s x2 x3) := by
  unfold State.sramCheck
  refine keeps_ite ?_ ?_
  · extract_lets +onlyGivenNames y1
    extract_lets +onlyGivenNames y2
    have h3 : Keeps s₀ y2 := by
      dsimp -zeta only [y2]
      refine keeps_ite ?_ ?_
      · exact h
      · refine keeps_mk (s := s) ?_ rfl
        exact h
    apply State.sramFinding_keeps
    exact h3
  · refine keeps_ite ?_ ?_
    · apply State.sramFinding_keeps
      exact h
    · exact h

theorem sharedSramRead_keeps {s : State} (x1) (x2) (x3) (h : Keeps s₀ s) : Keeps s₀ (sharedSramRead x1 x2 x3 s) := by
  unfold sharedSramRead
  extract_lets +onlyGivenNames y1
  extract_lets +onlyGivenNames y2
  refine keeps_ite ?_ ?_
  · refine keeps_ite ?_ ?_
    · apply State.answer_keeps
      exact h
    · refine keeps_ite ?_ ?_
      · apply State.answer_keeps
        exact h
      · extract_lets +onlyGivenNames y3
        extract_lets +onlyGivenNames y4
        have h5 : Keeps s₀ y4 := by
          dsimp -zeta only [y4]
          apply State.sramCheck_keeps
          exact h
        apply State.answer_keeps
        exact h5
  · exact h

theorem execSharedSramRead_keeps {s t : State} (x1) (x2) (x3) (e : (execSharedSramRead x1 x2 x3 s) = .next t) : Keeps s t := by
  unfold execSharedSramRead at e
  refine keeps_goesTo e ?_
  have h := keeps_refl s
  clear e
  apply sharedSramRead_keeps
  exact h

theorem ropeDivergence_keeps {s : State} (x1) (h : Keeps s₀ s) : Keeps s₀ (ropeDivergence x1 s) := by
  unfold ropeDivergence
  extract_lets +onlyGivenNames y1
  extract_lets +onlyGivenNames y2
  refine keeps_ite ?_ ?_
  · exact h
  · refine keeps_ite ?_ ?_
    · refine keeps_ite ?_ ?_
      · extract_lets +onlyGivenNames y3
        apply State.fltShow_keeps
        apply State.setRope_keeps
        refine keeps_ite ?_ ?_
        · dsimp -zeta only [y3]
          apply State.pairFinding_keeps
          exact h
        · dsimp -zeta only [y2]
          refine keeps_mk ?_ rfl
          dsimp -zeta only [y3]
          apply State.pairFinding_keeps
          exact h
      · exact h
    · refine keeps_ite ?_ ?_
      · extract_lets +onlyGivenNames y4
        extract_lets +onlyGivenNames y5
        have h6 : Keeps s₀ y5 := by
          dsimp -zeta only [y5]
          refine keeps_ite ?_ ?_
          · dsimp -zeta only [y4]
            apply State.pairFinding_keeps
            exact h
          · dsimp -zeta only [y2]
            refine keeps_mk ?_ rfl
            dsimp -zeta only [y4]
            apply State.pairFinding_keeps
            exact h
        extract_lets +onlyGivenNames y7
        extract_lets +onlyGivenNames y8
        have h9 : Keeps s₀ y8 := by
          dsimp -zeta only [y8]
          apply State.setRope_keeps
          apply State.setReg_keeps
          exact h6
        apply State.fltShow_keeps
        refine keeps_mk (s := y8) ?_ rfl
        exact h9
      · extract_lets +onlyGivenNames y10
        have h11 : Keeps s₀ y10 := by
          dsimp -zeta only [y10]
          apply State.setRope_keeps
          dsimp -zeta only [y2]
          refine keeps_mk ?_ rfl
          apply State.lastPairFinding_keeps
          exact h
        extract_lets +onlyGivenNames y12
        extract_lets +onlyGivenNames y13
        have h14 : Keeps s₀ y13 := by
          dsimp -zeta only [y13]
          refine keeps_mk (s := y10) ?_ rfl
          exact h11
        apply State.fltShow_keeps
        apply State.baseGates_keeps
        apply State.safeFault_keeps
        exact h14

theorem execRopeDivergence_keeps {s t : State} (x1) (e : (execRopeDivergence x1 s) = .next t) : Keeps s t := by
  unfold execRopeDivergence at e
  refine keeps_goesTo e ?_
  have h := keeps_refl s
  clear e
  apply ropeDivergence_keeps
  exact h

theorem standbyPairReady_keeps {s : State} (x1) (h : Keeps s₀ s) : Keeps s₀ (standbyPairReady x1 s) := by
  unfold standbyPairReady
  extract_lets +onlyGivenNames y1
  refine keeps_ite ?_ ?_
  · exact h
  · refine keeps_ite ?_ ?_
    · extract_lets +onlyGivenNames y2
      extract_lets +onlyGivenNames y3
      extract_lets +onlyGivenNames y4
      have h5 : Keeps s₀ y4 := by
        dsimp -zeta only [y4]
        refine keeps_mk (s := s) ?_ rfl
        exact h
      apply State.fltShow_keeps
      apply State.baseGates_keeps
      exact h5
    · refine keeps_ite ?_ ?_
      · extract_lets +onlyGivenNames y6
        have h7 : Keeps s₀ y6 := by
          dsimp -zeta only [y6]
          apply State.testRan_keeps
          exact h
        refine keeps_ite ?_ ?_
        · apply State.fltShow_keeps
          apply State.testFailed_keeps
          exact h7
        · apply State.fltShow_keeps
          apply State.setRope_keeps
          refine keeps_mk (s := y6) ?_ rfl
          exact h7
      · exact h

theorem execStandbyPairReady_keeps {s t : State} (x1) (e : (execStandbyPairReady x1 s) = .next t) : Keeps s t := by
  unfold execStandbyPairReady at e
  refine keeps_goesTo e ?_
  have h := keeps_refl s
  clear e
  apply standbyPairReady_keeps
  exact h

theorem periodicSelfTest_keeps {s : State} (x1) (x2) (x3) (h : Keeps s₀ s) : Keeps s₀ (periodicSelfTest x1 x2 x3 s) := by
  unfold periodicSelfTest
  refine keeps_ite ?_ ?_
  · exact h
  · extract_lets +onlyGivenNames y1
    have h2 : Keeps s₀ y1 := by
      dsimp -zeta only [y1]
      apply State.testRan_keeps
      exact h
    refine keeps_ite ?_ ?_
    · exact h2
    · apply State.fltShow_keeps
      split
      · apply State.testFailed_keeps
        exact h2
      · apply State.testFailed_keeps
        exact h2
      · apply State.safeFault_keeps
        exact h2
      · apply State.islandFail_keeps
        apply State.faultEvent_keeps
        exact h2
      · apply State.faultEvent_keeps
        exact h2
      · apply State.testFailed_keeps
        exact h2
      · exact h2

theorem execPeriodicSelfTest_keeps {s t : State} (x1) (x2) (x3) (e : (execPeriodicSelfTest x1 x2 x3 s) = .next t) : Keeps s t := by
  unfold execPeriodicSelfTest at e
  refine keeps_goesTo e ?_
  have h := keeps_refl s
  clear e
  apply periodicSelfTest_keeps
  exact h

theorem fltSelftest_keeps {s : State} (x1) (x2) (h : Keeps s₀ s) : Keeps s₀ (fltSelftest x1 x2 s) := by
  unfold fltSelftest
  extract_lets +onlyGivenNames y1
  apply State.command_keeps
  · exact h
  · intro s2
    intro h3
    apply State.setState_keeps
    exact h3

theorem execFltSelftest_keeps {s t : State} (x1) (x2) (e : (execFltSelftest x1 x2 s) = .next t) : Keeps s t := by
  unfold execFltSelftest at e
  refine keeps_goesTo e ?_
  have h := keeps_refl s
  clear e
  apply fltSelftest_keeps
  exact h

theorem fltAbort_keeps {s : State} (x1) (x2) (h : Keeps s₀ s) : Keeps s₀ (fltAbort x1 x2 s) := by
  unfold fltAbort
  apply State.abort_keeps
  · exact h
  · intro x1
    intro s2
    intro h3
    apply State.setState_keeps
    exact h3

theorem execFltAbort_keeps {s t : State} (x1) (x2) (e : (execFltAbort x1 x2 s) = .next t) : Keeps s t := by
  unfold execFltAbort at e
  refine keeps_goesTo e ?_
  have h := keeps_refl s
  clear e
  apply fltAbort_keeps
  exact h

theorem State.fltClearStats_keeps {s : State} (h : Keeps s₀ s) : Keeps s₀ (State.fltClearStats s) := by
  unfold State.fltClearStats
  apply State.zeroRegs_keeps
  exact h

theorem clearRet_keeps {s : State} (x1) (x2) (h : Keeps s₀ s) : Keeps s₀ (clearRet x1 x2 s) := by
  unfold clearRet
  extract_lets +onlyGivenNames y1
  apply State.command_keeps
  · exact h
  · intro s2
    intro h3
    apply State.setReg_keeps
    refine keeps_mk (s := s2) ?_ rfl
    exact h3

theorem execClearRet_keeps {s t : State} (x1) (x2) (e : (execClearRet x1 x2 s) = .next t) : Keeps s t := by
  unfold execClearRet at e
  refine keeps_goesTo e ?_
  have h := keeps_refl s
  clear e
  apply clearRet_keeps
  exact h

theorem State.clearRetirement_keeps {s : State} (h : Keeps s₀ s) (x2) (x3) : Keeps s₀ (State.clearRetirement s x2 x3) := by
  unfold State.clearRetirement
  extract_lets +onlyGivenNames y1
  extract_lets +onlyGivenNames y2
  extract_lets +onlyGivenNames y3
  have h4 : Keeps s₀ y3 := by
    dsimp -zeta only [y3]
    refine keeps_mk (s := s) ?_ rfl
    exact h
  apply State.raiseEvt_keeps
  apply State.hutRequest_keeps
  apply State.setBucket_keeps
  exact h4

theorem selftestDone_keeps {s : State} (x1) (x2) (h : Keeps s₀ s) : Keeps s₀ (selftestDone x1 x2 s) := by
  unfold selftestDone
  refine keeps_ite ?_ ?_
  · refine keeps_ite ?_ ?_
    · extract_lets +onlyGivenNames y1
      extract_lets +onlyGivenNames y2
      extract_lets +onlyGivenNames y3
      extract_lets +onlyGivenNames y4
      have h5 : Keeps s₀ y4 := by
        dsimp -zeta only [y4]
        apply State.setReg_keeps
        exact h
      extract_lets +onlyGivenNames y6
      have h7 : Keeps s₀ y6 := by
        dsimp -zeta only [y6]
        clear_value y3
        split
        · apply State.testRan_keeps
          exact h5
        · exact h5
      refine keeps_ite ?_ ?_
      · apply State.completeFailed_keeps
        exact h7
      · apply State.fltShow_keeps
        apply State.clearRetirement_keeps
        apply State.complete_keeps
        exact h7
    · exact h
  · split
    · extract_lets +onlyGivenNames y8
      extract_lets +onlyGivenNames y9
      have h10 : Keeps s₀ y9 := by
        dsimp -zeta only [y9]
        apply State.setState_keeps
        apply State.complete_keeps
        exact h
      extract_lets +onlyGivenNames y11
      have h12 : Keeps s₀ y11 := by
        dsimp -zeta only [y11]
        split
        · apply State.testRan_keeps
          exact h10
        · dsimp -zeta only [y9]
          apply State.setState_keeps
          apply State.complete_keeps
          exact h
      refine keeps_ite ?_ ?_
      · apply State.fltShow_keeps
        apply State.testFailed_keeps
        exact h12
      · exact h12
    · exact h

theorem execSelftestDone_keeps {s t : State} (x1) (x2) (e : (execSelftestDone x1 x2 s) = .next t) : Keeps s t := by
  unfold execSelftestDone at e
  refine keeps_goesTo e ?_
  have h := keeps_refl s
  clear e
  apply selftestDone_keeps
  exact h

theorem State.backInService_keeps {s : State} (h : Keeps s₀ s) (x2) (x3) : Keeps s₀ (State.backInService s x2 x3) := by
  unfold State.backInService
  split
  · extract_lets +onlyGivenNames y1
    extract_lets +onlyGivenNames y2
    have h3 : Keeps s₀ y2 := by
      dsimp -zeta only [y2]
      refine keeps_mk (s := s) ?_ rfl
      exact h
    refine keeps_ite ?_ ?_
    · extract_lets +onlyGivenNames y4
      have h5 : Keeps s₀ y4 := by
        dsimp -zeta only [y4]
        apply State.setReg_keeps
        exact h3
      extract_lets +onlyGivenNames y6
      have h7 : Keeps s₀ y6 := by
        dsimp -zeta only [y6]
        refine keeps_foldl ?_ ?_
        · exact h5
        · intro s8
          intro x9
          intro h10
          refine keeps_ite ?_ ?_
          · apply State.setSpare_keeps
            exact h10
          · exact h10
      apply State.setReg_keeps
      apply State.setAdcConv_keeps
      exact h7
    · apply State.setSpare_keeps
      apply State.setReg_keeps
      exact h3
  · extract_lets +onlyGivenNames y11
    have h12 : Keeps s₀ y11 := by
      dsimp -zeta only [y11]
      apply State.ceSetRole_keeps
      exact h
    refine keeps_ite ?_ ?_
    · exact h12
    · apply State.setState_keeps
      exact h12
  · refine keeps_ite ?_ ?_
    · apply State.setCoreAct_keeps
      exact h
    · exact h
  · refine keeps_ite ?_ ?_
    · apply State.setRope_keeps
      exact h
    · exact h
  · extract_lets +onlyGivenNames y13
    apply State.setReg_keeps
    exact h
  · split
    · extract_lets +onlyGivenNames y14
      extract_lets +onlyGivenNames y15
      apply State.setReg_keeps
      refine keeps_mk (s := s) ?_ rfl
      exact h
    · exact h
  · apply State.canUnretire_keeps
    exact h
  · refine keeps_mk (s := s) ?_ rfl
    exact h
  · apply State.setReg_keeps
    exact h
  · refine keeps_mk (s := s) ?_ rfl
    exact h
  · exact h

theorem State.fltAtT0_keeps {s : State} (h : Keeps s₀ s) : Keeps s₀ (State.fltAtT0 s) := by
  unfold State.fltAtT0
  extract_lets +onlyGivenNames y1
  refine keeps_foldl ?_ ?_
  · refine keeps_mk (s := s) ?_ rfl
    exact h
  · intro s2
    intro x3
    intro h4
    apply State.backInService_keeps
    exact h4

theorem State.applyRetired_keeps {s : State} (h : Keeps s₀ s) (x2) (x3) : Keeps s₀ (State.applyRetired s x2 x3) := by
  unfold State.applyRetired
  split
  · extract_lets +onlyGivenNames y1
    have h2 : Keeps s₀ y1 := by
      dsimp -zeta only [y1]
      refine keeps_ite ?_ ?_
      · apply State.orReg_keeps
        exact h
      · apply State.orReg_keeps
        exact h
    refine keeps_mk (s := y1) ?_ rfl
    exact h2
  · apply State.orReg_keeps
    exact h
  · apply State.orReg_keeps
    apply State.canStat_keeps
    exact h
  · apply State.fioFail_keeps
    exact h
  · apply State.orReg_keeps
    exact h
  · exact h

theorem State.reapply_keeps {s : State} (h : Keeps s₀ s) (x2) : Keeps s₀ (State.reapply s x2) := by
  unfold State.reapply
  extract_lets +onlyGivenNames y1
  refine keeps_foldl ?_ ?_
  · exact h
  · intro s2
    intro x3
    intro h4
    refine keeps_ite ?_ ?_
    · apply State.applyRetired_keeps
      exact h4
    · exact h4

theorem State.reloadBlocks_keeps {s : State} (h : Keeps s₀ s) (x2) : Keeps s₀ (State.reloadBlocks s x2) := by
  unfold State.reloadBlocks
  refine keeps_foldl ?_ (fun x a hx => State.setReg_keeps hx _ _)
  exact keeps_trans h ⟨fun x => ⟨x.1, smCanon_filter _ _ x.2⟩, rfl, fun _ => by simp [State.otpByte]⟩

theorem State.islandBack_keeps {s : State} (h : Keeps s₀ s) (x2) : Keeps s₀ (State.islandBack s x2) := by
  unfold State.islandBack
  extract_lets +onlyGivenNames y1
  have h2 : Keeps s₀ y1 := by
    dsimp -zeta only [y1]
    refine keeps_mk (s := s) ?_ rfl
    exact h
  extract_lets +onlyGivenNames y3
  have h4 : Keeps s₀ y3 := by
    dsimp -zeta only [y3]
    apply State.pubReg_keeps
    apply State.setReg_keeps
    exact h2
  split
  · apply State.baseGates_keeps
    refine keeps_mk (s := y3) ?_ rfl
    exact h4
  · apply State.syncWsch_keeps
    exact h4
  · apply State.baseGates_keeps
    apply State.adcSync_keeps
    apply State.reapply_keeps
    extract_lets +onlyGivenNames y5
    have h6 : Keeps s₀ y5 := by
      dsimp -zeta only [y5]
      apply State.reloadBlocks_keeps
      exact h4
    refine keeps_mk (s := y5) ?_ rfl
    exact h6
  · apply State.reapply_keeps
    extract_lets +onlyGivenNames y7
    have h8 : Keeps s₀ y7 := by
      dsimp -zeta only [y7]
      apply State.reloadBlocks_keeps
      exact h4
    refine keeps_mk (s := y7) ?_ rfl
    exact h8
  · apply State.reapply_keeps
    extract_lets +onlyGivenNames y9
    have h10 : Keeps s₀ y9 := by
      dsimp -zeta only [y9]
      apply State.reloadBlocks_keeps
      exact h4
    refine keeps_mk (s := y9) ?_ rfl
    exact h10
  · apply State.reapply_keeps
    extract_lets +onlyGivenNames y11
    have h12 : Keeps s₀ y11 := by
      dsimp -zeta only [y11]
      apply State.reloadBlocks_keeps
      exact h4
    refine keeps_mk (s := y11) ?_ rfl
    exact h12
  · extract_lets +onlyGivenNames y13
    have h14 : Keeps s₀ y13 := by
      dsimp -zeta only [y13]
      apply State.reloadBlocks_keeps
      exact h4
    refine keeps_mk (s := y13) ?_ rfl
    exact h14
  · apply State.reapply_keeps
    extract_lets +onlyGivenNames y15
    have h16 : Keeps s₀ y15 := by
      dsimp -zeta only [y15]
      apply State.reloadBlocks_keeps
      exact h4
    refine keeps_mk (s := y15) ?_ rfl
    exact h16
  · exact h4

theorem islReset_keeps {s : State} (x1) (x2) (h : Keeps s₀ s) : Keeps s₀ (islReset x1 x2 s) := by
  unfold islReset
  extract_lets +onlyGivenNames y1
  extract_lets +onlyGivenNames y2
  apply State.command_keeps
  · exact h
  · intro s3
    intro h4
    apply State.setReg_keeps
    exact h4

theorem execIslReset_keeps {s t : State} (x1) (x2) (e : (execIslReset x1 x2 s) = .next t) : Keeps s t := by
  unfold execIslReset at e
  refine keeps_goesTo e ?_
  have h := keeps_refl s
  clear e
  apply islReset_keeps
  exact h

theorem islResetDone_keeps {s : State} (h : Keeps s₀ s) : Keeps s₀ (islResetDone s) := by
  unfold islResetDone
  refine keeps_ite ?_ ?_
  · extract_lets +onlyGivenNames y1
    apply State.fltShow_keeps
    apply State.islandBack_keeps
    apply State.setReg_keeps
    apply State.complete_keeps
    exact h
  · exact h

theorem execIslResetDone_keeps {s t : State} (e : (execIslResetDone s) = .next t) : Keeps s t := by
  unfold execIslResetDone at e
  refine keeps_goesTo e ?_
  have h := keeps_refl s
  clear e
  apply islResetDone_keeps
  exact h

theorem fltScAbort_keeps {s : State} (x1) (x2) (h : Keeps s₀ s) : Keeps s₀ (fltScAbort x1 x2 s) := by
  unfold fltScAbort
  apply State.abort_keeps
  · exact h
  · intro x1
    intro s2
    intro h3
    split
    · refine keeps_ite ?_ ?_
      · apply State.setReg_keeps
        exact h3
      · refine keeps_mk (s := s2) ?_ rfl
        exact h3
    · exact h3

theorem execFltScAbort_keeps {s t : State} (x1) (x2) (e : (execFltScAbort x1 x2 s) = .next t) : Keeps s t := by
  unfold execFltScAbort at e
  refine keeps_goesTo e ?_
  have h := keeps_refl s
  clear e
  apply fltScAbort_keeps
  exact h

theorem fltLogRead_keeps {s : State} (x1) (h : Keeps s₀ s) : Keeps s₀ (fltLogRead x1 s) := by
  unfold fltLogRead
  apply State.access_keeps
  · exact h
  · intro s1
    intro h2
    extract_lets +onlyGivenNames y3
    split
    · extract_lets +onlyGivenNames y4
      extract_lets +onlyGivenNames y5
      have h6 : Keeps s₀ y5 := by
        dsimp -zeta only [y5]
        apply State.setReg_keeps
        refine keeps_mk (s := s1) ?_ rfl
        exact h2
      apply State.answer_keeps
      refine keeps_foldl ?_ ?_
      · exact h6
      · intro s7
        intro x8
        intro h9
        apply State.latch_keeps
        exact h9
    · apply State.answer_keeps
      exact h2

theorem execFltLogRead_keeps {s t : State} (x1) (e : (execFltLogRead x1 s) = .next t) : Keeps s t := by
  unfold execFltLogRead at e
  refine keeps_goesTo e ?_
  have h := keeps_refl s
  clear e
  apply fltLogRead_keeps
  exact h

theorem supplyWarning_keeps {s : State} (x1) (x2) (h : Keeps s₀ s) : Keeps s₀ (supplyWarning x1 x2 s) := by
  unfold supplyWarning
  extract_lets +onlyGivenNames y1
  extract_lets +onlyGivenNames y2
  have h3 : Keeps s₀ y2 := by
    dsimp -zeta only [y2]
    apply State.setReg_keeps
    exact h
  apply State.fltShow_keeps
  refine keeps_ite ?_ ?_
  · apply State.faultEvent_keeps
    exact h3
  · exact h3

theorem execSupplyWarning_keeps {s t : State} (x1) (x2) (e : (execSupplyWarning x1 x2 s) = .next t) : Keeps s t := by
  unfold execSupplyWarning at e
  refine keeps_goesTo e ?_
  have h := keeps_refl s
  clear e
  apply supplyWarning_keeps
  exact h

theorem parityScan_keeps {s : State} (x1) (x2) (h : Keeps s₀ s) : Keeps s₀ (parityScan x1 x2 s) := by
  unfold parityScan
  extract_lets +onlyGivenNames y1
  extract_lets +onlyGivenNames y2
  refine keeps_ite ?_ ?_
  · exact h
  · extract_lets +onlyGivenNames y3
    extract_lets +onlyGivenNames y4
    have h5 : Keeps s₀ y4 := by
      dsimp -zeta only [y4]
      apply State.setReg_keeps
      refine keeps_mk (s := s) ?_ rfl
      exact h
    extract_lets +onlyGivenNames y6
    split
    · rename_i e7
      refine keeps_of_fst (s₀ := s₀) e7 ?_ (fun h8 => ?_)
      · apply State.finding_keeps
        exact h5
      clear e7
      apply State.fltShow_keeps
      apply State.faultEvent_keeps
      apply State.orReg_keeps
      exact h8
    · rename_i e9
      refine keeps_of_fst (s₀ := s₀) e9 ?_ (fun h10 => ?_)
      · apply State.finding_keeps
        exact h5
      clear e9
      assumption

theorem execParityScan_keeps {s t : State} (x1) (x2) (e : (execParityScan x1 x2 s) = .next t) : Keeps s t := by
  unfold execParityScan at e
  refine keeps_goesTo e ?_
  have h := keeps_refl s
  clear e
  apply parityScan_keeps
  exact h

theorem configReload_keeps {s : State} (x1) (h : Keeps s₀ s) : Keeps s₀ (configReload x1 s) := by
  unfold configReload
  refine keeps_ite ?_ ?_
  · exact h
  · extract_lets +onlyGivenNames y1
    refine keeps_foldl ?_ ?_
    · refine keeps_mk (s := s) ?_ rfl
      exact h
    · intro s2
      intro x3
      intro h4
      apply State.setReg_keeps
      exact h4

theorem execConfigReload_keeps {s t : State} (x1) (e : (execConfigReload x1 s) = .next t) : Keeps s t := by
  unfold execConfigReload at e
  refine keeps_goesTo e ?_
  have h := keeps_refl s
  clear e
  apply configReload_keeps
  exact h

theorem bootRetry_keeps {s : State} (x1) (x2) (h : Keeps s₀ s) : Keeps s₀ (bootRetry x1 x2 s) := by
  unfold bootRetry
  apply State.command_keeps
  · exact h
  · intro s1
    intro h2
    extract_lets +onlyGivenNames y3
    have h4 : Keeps s₀ y3 := by
      dsimp -zeta only [y3]
      apply State.setReg_keeps
      apply State.islandsReset_keeps
      exact h2
    refine keeps_mk (s := y3) ?_ rfl
    exact h4

theorem execBootRetry_keeps {s t : State} (x1) (x2) (e : (execBootRetry x1 x2 s) = .next t) : Keeps s t := by
  unfold execBootRetry at e
  refine keeps_goesTo e ?_
  have h := keeps_refl s
  clear e
  apply bootRetry_keeps
  exact h

end Sys2Proof.Machine
end

