-- ==== Sys2Proof/Laws/KeepsBus.lean ====
section
/-!
SUPPORT. What the operations keep: the register bus, the dynamic segment, the cycle and the start.
-/
namespace Sys2Proof.Machine

variable {s₀ : State}

theorem State.rraAnswer_keeps {s : State} (h : Keeps s₀ s) (x2) (x3) : Keeps s₀ (State.rraAnswer s x2 x3) := by
  unfold State.rraAnswer
  refine keeps_ite ?_ ?_
  · exact h
  · extract_lets +onlyGivenNames y1
    extract_lets +onlyGivenNames y2
    have h3 : Keeps s₀ y2 := by
      dsimp -zeta only [y2]
      refine keeps_foldl ?_ ?_
      · exact h
      · intro s4
        intro x5
        intro h6
        extract_lets +onlyGivenNames y7
        have h8 : Keeps s₀ y7 := by
          dsimp -zeta only [y7]
          apply State.answer_keeps
          exact h6
        refine keeps_ite ?_ ?_
        · apply State.windowError_keeps
          exact h8
        · exact h8
    refine keeps_ite ?_ ?_
    · apply State.windowLatency_keeps
      exact h3
    · exact h3

theorem State.rraStart_keeps {s : State} (h : Keeps s₀ s) (x2) (x3) : Keeps s₀ (State.rraStart s x2 x3) := by
  unfold State.rraStart
  extract_lets +onlyGivenNames y1
  extract_lets +onlyGivenNames y2
  extract_lets +onlyGivenNames y3
  extract_lets +onlyGivenNames y4
  have h5 : Keeps s₀ y4 := by
    dsimp -zeta only [y4]
    apply State.setOcu_keeps
    exact h
  apply State.queueOwn_keeps
  exact h5

theorem State.rraIssue_keeps {s : State} (h : Keeps s₀ s) (x2) : Keeps s₀ (State.rraIssue s x2) := by
  unfold State.rraIssue
  extract_lets +onlyGivenNames y1
  refine keeps_ite ?_ ?_
  · apply State.rraAnswer_keeps
    exact h
  · refine keeps_ite ?_ ?_
    · apply State.rraStart_keeps
      exact h
    · apply State.setOcu_keeps
      exact h

theorem State.rraNext_keeps {s : State} (h : Keeps s₀ s) (x2) (x3) : Keeps s₀ (State.rraNext s x2 x3) := by
  unfold State.rraNext
  split
  · refine keeps_ite ?_ ?_
    · apply State.rraStart_keeps
      apply State.setOcu_keeps
      exact h
    · exact h
  · exact h

theorem State.rraFinish_keeps {s : State} (h : Keeps s₀ s) (x2) (x3) (x4) : Keeps s₀ (State.rraFinish s x2 x3 x4) := by
  unfold State.rraFinish
  extract_lets +onlyGivenNames y1
  extract_lets +onlyGivenNames y2
  have h3 : Keeps s₀ y2 := by
    dsimp -zeta only [y2]
    apply State.setOcu_keeps
    exact h
  extract_lets +onlyGivenNames y4
  have h5 : Keeps s₀ y4 := by
    dsimp -zeta only [y4]
    apply State.rraAnswer_keeps
    exact h3
  refine keeps_foldl ?_ ?_
  · exact h5
  · intro s6
    intro x7
    intro h8
    apply State.rraNext_keeps
    exact h8

theorem State.remoteAccess_keeps {s : State} (h : Keeps s₀ s) (x2) (x3) (x4) (x5) (x6) (x7) (x8) : Keeps s₀ (State.remoteAccess s x2 x3 x4 x5 x6 x7 x8) := by
  unfold State.remoteAccess
  extract_lets +onlyGivenNames y1
  extract_lets +onlyGivenNames y2
  refine keeps_ite ?_ ?_
  · apply State.rraIssue_keeps
    exact h
  · apply State.rraAnswer_keeps
    apply State.decodeError_keeps
    exact h

theorem ceStart_keeps {s : State} (x1) (x2) (h : Keeps s₀ s) : Keeps s₀ (ceStart x1 x2 s) := by
  unfold ceStart
  apply State.command_keeps
  · exact h
  · intro s1
    intro h2
    apply State.setState_keeps
    exact h2

theorem execCeStart_keeps {s t : State} (x1) (x2) (e : (execCeStart x1 x2 s) = .next t) : Keeps s t := by
  unfold execCeStart at e
  refine keeps_goesTo e ?_
  have h := keeps_refl s
  clear e
  apply ceStart_keeps
  exact h

theorem ceStop_keeps {s : State} (x1) (x2) (h : Keeps s₀ s) : Keeps s₀ (ceStop x1 x2 s) := by
  unfold ceStop
  apply State.command_keeps
  · exact h
  · intro s1
    intro h2
    apply State.setState_keeps
    exact h2

theorem execCeStop_keeps {s t : State} (x1) (x2) (e : (execCeStop x1 x2 s) = .next t) : Keeps s t := by
  unfold execCeStop at e
  refine keeps_goesTo e ?_
  have h := keeps_refl s
  clear e
  apply ceStop_keeps
  exact h

theorem ceValidate_keeps {s : State} (x1) (x2) (h : Keeps s₀ s) : Keeps s₀ (ceValidate x1 x2 s) := by
  unfold ceValidate
  apply State.command_keeps
  · exact h
  · intro s1
    intro h2
    exact h2

theorem execCeValidate_keeps {s t : State} (x1) (x2) (e : (execCeValidate x1 x2 s) = .next t) : Keeps s t := by
  unfold execCeValidate at e
  refine keeps_goesTo e ?_
  have h := keeps_refl s
  clear e
  apply ceValidate_keeps
  exact h

theorem ceValidateDone_keeps {s : State} (h : Keeps s₀ s) : Keeps s₀ (ceValidateDone s) := by
  unfold ceValidateDone
  refine keeps_ite ?_ ?_
  · apply State.complete_keeps
    apply State.setReg_keeps
    exact h
  · exact h

theorem execCeValidateDone_keeps {s t : State} (e : (execCeValidateDone s) = .next t) : Keeps s t := by
  unfold execCeValidateDone at e
  refine keeps_goesTo e ?_
  have h := keeps_refl s
  clear e
  apply State.alive_keeps
  · exact h
  · apply ceValidateDone_keeps
    exact h

theorem ceSwap_keeps {s : State} (x1) (x2) (h : Keeps s₀ s) : Keeps s₀ (ceSwap x1 x2 s) := by
  unfold ceSwap
  apply State.command_keeps
  · exact h
  · intro s1
    intro h2
    exact h2

theorem execCeSwap_keeps {s t : State} (x1) (x2) (e : (execCeSwap x1 x2 s) = .next t) : Keeps s t := by
  unfold execCeSwap at e
  refine keeps_goesTo e ?_
  have h := keeps_refl s
  clear e
  apply ceSwap_keeps
  exact h

theorem ceAbort_keeps {s : State} (x1) (x2) (h : Keeps s₀ s) : Keeps s₀ (ceAbort x1 x2 s) := by
  unfold ceAbort
  apply State.abort_keeps
  · exact h
  · intro x1
    intro s2
    intro h3
    exact h3

theorem execCeAbort_keeps {s t : State} (x1) (x2) (e : (execCeAbort x1 x2 s) = .next t) : Keeps s t := by
  unfold execCeAbort at e
  refine keeps_goesTo e ?_
  have h := keeps_refl s
  clear e
  apply ceAbort_keeps
  exact h

theorem State.ceStore_keeps {s : State} (h : Keeps s₀ s) (x2) (x3) (x4) : Keeps s₀ (State.ceStore s x2 x3 x4) := by
  unfold State.ceStore
  extract_lets +onlyGivenNames y1
  refine keeps_ite ?_ ?_
  · refine keeps_ite ?_ ?_
    · apply State.ceEvt_keeps
      exact h
    · refine keeps_ite ?_ ?_
      · apply State.orReg_keeps
        exact h
      · extract_lets +onlyGivenNames y2
        have h3 : Keeps s₀ y2 := by
          dsimp -zeta only [y2]
          apply State.ceWr_keeps
          exact h
        refine keeps_ite ?_ ?_
        · exact h3
        · dsimp -zeta only [y1]
          apply State.setReg_keeps
          exact h3
  · refine keeps_ite ?_ ?_
    · apply State.ceEvt_keeps
      exact h
    · refine keeps_ite ?_ ?_
      · dsimp -zeta only [y1]
        apply State.setReg_keeps
        apply State.ceWr_keeps
        exact h
      · refine keeps_ite ?_ ?_
        · apply State.ceWr_keeps
          exact h
        · apply State.ceEvt_keeps
          exact h

theorem State.ceLocalWrite_keeps {s : State} (h : Keeps s₀ s) (x2) (x3) (x4) : Keeps s₀ (State.ceLocalWrite s x2 x3 x4) := by
  unfold State.ceLocalWrite
  refine keeps_ite ?_ ?_
  · apply State.ceStore_keeps
    exact h
  · apply State.noteDenied_keeps
    exact h

theorem ceLocalMemoryWrite_keeps {s : State} (x1) (x2) (x3) (h : Keeps s₀ s) : Keeps s₀ (ceLocalMemoryWrite x1 x2 x3 s) := by
  unfold ceLocalMemoryWrite
  apply State.access_keeps
  · exact h
  · intro s1
    intro h2
    apply State.ceLocalWrite_keeps
    exact h2

theorem execCeLocalMemoryWrite_keeps {s t : State} (x1) (x2) (x3) (e : (execCeLocalMemoryWrite x1 x2 x3 s) = .next t) : Keeps s t := by
  unfold execCeLocalMemoryWrite at e
  refine keeps_goesTo e ?_
  have h := keeps_refl s
  clear e
  apply ceLocalMemoryWrite_keeps
  exact h

theorem ctabCopy_keeps {s : State} (x1) (x2) (h : Keeps s₀ s) : Keeps s₀ (ctabCopy x1 x2 s) := by
  unfold ctabCopy
  extract_lets +onlyGivenNames y1
  extract_lets +onlyGivenNames y2
  apply State.command_keeps
  · exact h
  · intro s3
    intro h4
    extract_lets +onlyGivenNames y5
    apply State.setState_keeps
    refine keeps_mk (s := s3) ?_ rfl
    exact h4

theorem execCtabCopy_keeps {s t : State} (x1) (x2) (e : (execCtabCopy x1 x2 s) = .next t) : Keeps s t := by
  unfold execCtabCopy at e
  refine keeps_goesTo e ?_
  have h := keeps_refl s
  clear e
  apply ctabCopy_keeps
  exact h

theorem ctabCopyComplete_keeps {s : State} (h : Keeps s₀ s) : Keeps s₀ (ctabCopyComplete s) := by
  unfold ctabCopyComplete
  split
  · refine keeps_ite ?_ ?_
    · extract_lets +onlyGivenNames y1
      have h2 : Keeps s₀ y1 := by
        dsimp -zeta only [y1]
        refine keeps_foldl ?_ ?_
        · exact h
        · intro s3
          intro x4
          intro h5
          apply State.ceWr_keeps
          exact h5
      apply State.setState_keeps
      apply State.complete_keeps
      refine keeps_mk (s := y1) ?_ rfl
      exact h2
    · exact h
  · exact h

theorem execCtabCopyComplete_keeps {s t : State} (e : (execCtabCopyComplete s) = .next t) : Keeps s t := by
  unfold execCtabCopyComplete at e
  refine keeps_goesTo e ?_
  have h := keeps_refl s
  clear e
  apply State.alive_keeps
  · exact h
  · apply ctabCopyComplete_keeps
    exact h

theorem ctabCopyError_keeps {s : State} (h : Keeps s₀ s) : Keeps s₀ (ctabCopyError s) := by
  unfold ctabCopyError
  split
  · apply State.setState_keeps
    apply State.complete_keeps
    apply State.raiseEvt_keeps
    refine keeps_mk (s := s) ?_ rfl
    exact h
  · exact h

theorem execCtabCopyError_keeps {s t : State} (e : (execCtabCopyError s) = .next t) : Keeps s t := by
  unfold execCtabCopyError at e
  refine keeps_goesTo e ?_
  have h := keeps_refl s
  clear e
  apply State.alive_keeps
  · exact h
  · apply ctabCopyError_keeps
    exact h

theorem ctabAbort_keeps {s : State} (x1) (x2) (h : Keeps s₀ s) : Keeps s₀ (ctabAbort x1 x2 s) := by
  unfold ctabAbort
  apply State.abort_keeps
  · exact h
  · intro x1
    intro s2
    intro h3
    apply State.setState_keeps
    refine keeps_mk (s := s2) ?_ rfl
    exact h3

theorem execCtabAbort_keeps {s t : State} (x1) (x2) (e : (execCtabAbort x1 x2 s) = .next t) : Keeps s t := by
  unfold execCtabAbort at e
  refine keeps_goesTo e ?_
  have h := keeps_refl s
  clear e
  apply ctabAbort_keeps
  exact h

theorem State.cycMaster_keeps {s : State} (h : Keeps s₀ s) : Keeps s₀ (State.cycMaster s) := by
  unfold State.cycMaster
  apply State.setState_keeps
  refine keeps_mk (s := s) ?_ rfl
  exact h

theorem cycStart_keeps {s : State} (x1) (x2) (h : Keeps s₀ s) : Keeps s₀ (cycStart x1 x2 s) := by
  unfold cycStart
  apply State.command_keeps
  · exact h
  · intro s1
    intro h2
    extract_lets +onlyGivenNames y3
    have h4 : Keeps s₀ y3 := by
      dsimp -zeta only [y3]
      apply State.setState_keeps
      exact h2
    refine keeps_ite ?_ ?_
    · apply State.cycMaster_keeps
      exact h4
    · apply State.setState_keeps
      refine keeps_mk (s := y3) ?_ rfl
      exact h4

theorem execCycStart_keeps {s t : State} (x1) (x2) (e : (execCycStart x1 x2 s) = .next t) : Keeps s t := by
  unfold execCycStart at e
  refine keeps_goesTo e ?_
  have h := keeps_refl s
  clear e
  apply cycStart_keeps
  exact h

theorem cycSwap_keeps {s : State} (x1) (x2) (h : Keeps s₀ s) : Keeps s₀ (cycSwap x1 x2 s) := by
  unfold cycSwap
  extract_lets +onlyGivenNames y1
  apply State.command_keeps
  · exact h
  · intro s2
    intro h3
    exact h3

theorem execCycSwap_keeps {s t : State} (x1) (x2) (e : (execCycSwap x1 x2 s) = .next t) : Keeps s t := by
  unfold execCycSwap at e
  refine keeps_goesTo e ?_
  have h := keeps_refl s
  clear e
  apply cycSwap_keeps
  exact h

theorem State.cycSwapAtT0_keeps {s : State} (h : Keeps s₀ s) : Keeps s₀ (State.cycSwapAtT0 s) := by
  unfold State.cycSwapAtT0
  refine keeps_ite ?_ ?_
  · apply State.complete_keeps
    apply State.setReg_keeps
    exact h
  · exact h

theorem cycAbort_keeps {s : State} (x1) (x2) (h : Keeps s₀ s) : Keeps s₀ (cycAbort x1 x2 s) := by
  unfold cycAbort
  apply State.abort_keeps
  · exact h
  · intro x1
    intro s2
    intro h3
    exact h3

theorem execCycAbort_keeps {s t : State} (x1) (x2) (e : (execCycAbort x1 x2 s) = .next t) : Keeps s t := by
  unfold execCycAbort at e
  refine keeps_goesTo e ?_
  have h := keeps_refl s
  clear e
  apply cycAbort_keeps
  exact h

theorem cairnMissing_keeps {s : State} (h : Keeps s₀ s) : Keeps s₀ (cairnMissing s) := by
  unfold cairnMissing
  refine keeps_ite ?_ ?_
  · apply State.raiseEvt_keeps
    apply State.setState_keeps
    apply State.orReg_keeps
    refine keeps_mk (s := s) ?_ rfl
    exact h
  · exact h

theorem execCairnMissing_keeps {s t : State} (e : (execCairnMissing s) = .next t) : Keeps s t := by
  unfold execCairnMissing at e
  refine keeps_goesTo e ?_
  have h := keeps_refl s
  clear e
  apply State.alive_keeps
  · exact h
  · apply cairnMissing_keeps
    exact h

theorem holdoverLost_keeps {s : State} (h : Keeps s₀ s) : Keeps s₀ (holdoverLost s) := by
  unfold holdoverLost
  refine keeps_ite ?_ ?_
  · extract_lets +onlyGivenNames y1
    extract_lets +onlyGivenNames y2
    have h3 : Keeps s₀ y2 := by
      dsimp -zeta only [y2]
      apply State.raiseEvt_keeps
      refine keeps_mk (s := s) ?_ rfl
      exact h
    extract_lets +onlyGivenNames y4
    have h5 : Keeps s₀ y4 := by
      dsimp -zeta only [y4]
      apply State.faultEvent_keeps
      exact h3
    refine keeps_foldl ?_ ?_
    · exact h5
    · intro s6
      intro x7
      intro h8
      refine keeps_ite ?_ ?_
      · apply State.setState_keeps
        exact h8
      · exact h8
  · exact h

theorem execHoldoverLost_keeps {s t : State} (e : (execHoldoverLost s) = .next t) : Keeps s t := by
  unfold execHoldoverLost at e
  refine keeps_goesTo e ?_
  have h := keeps_refl s
  clear e
  apply State.alive_keeps
  · exact h
  · apply holdoverLost_keeps
    exact h

theorem State.setSdmCh_keeps {s : State} (h : Keeps s₀ s) (x2) (x3) : Keeps s₀ (State.setSdmCh s x2 x3) := by
  unfold State.setSdmCh
  refine keeps_mk (s := s) ?_ rfl
  exact h

theorem State.sdmEvt_keeps {s : State} (h : Keeps s₀ s) (x2) : Keeps s₀ (State.sdmEvt s x2) := by
  unfold State.sdmEvt
  apply State.raiseEvt_keeps
  exact h

theorem State.sdmTrip_keeps {s : State} (h : Keeps s₀ s) (x2) : Keeps s₀ (State.sdmTrip s x2) := by
  unfold State.sdmTrip
  extract_lets +onlyGivenNames y1
  apply State.axcTrip_keeps
  apply State.sdmEvt_keeps
  apply State.orReg_keeps
  apply State.inc_keeps
  exact h

theorem State.sdmStuck_keeps {s : State} (h : Keeps s₀ s) (x2) : Keeps s₀ (State.sdmStuck s x2) := by
  unfold State.sdmStuck
  extract_lets +onlyGivenNames y1
  apply State.sdmEvt_keeps
  apply State.orReg_keeps
  apply State.setSdmCh_keeps
  exact h

theorem stuckStream_keeps {s : State} (x1) (h : Keeps s₀ s) : Keeps s₀ (stuckStream x1 s) := by
  unfold stuckStream
  refine keeps_ite ?_ ?_
  · apply State.sdmStuck_keeps
    exact h
  · exact h

theorem execStuckStream_keeps {s t : State} (x1) (e : (execStuckStream x1 s) = .next t) : Keeps s t := by
  unfold execStuckStream at e
  refine keeps_goesTo e ?_
  have h := keeps_refl s
  clear e
  apply State.alive_keeps
  · exact h
  · apply stuckStream_keeps
    exact h

theorem stuckStreamRecovery_keeps {s : State} (x1) (h : Keeps s₀ s) : Keeps s₀ (stuckStreamRecovery x1 s) := by
  unfold stuckStreamRecovery
  refine keeps_ite ?_ ?_
  · apply State.setSdmCh_keeps
    exact h
  · exact h

theorem execStuckStreamRecovery_keeps {s t : State} (x1) (e : (execStuckStreamRecovery x1 s) = .next t) : Keeps s t := by
  unfold execStuckStreamRecovery at e
  refine keeps_goesTo e ?_
  have h := keeps_refl s
  clear e
  apply State.alive_keeps
  · exact h
  · apply stuckStreamRecovery_keeps
    exact h

theorem sdmOvercurrent_keeps {s : State} (x1) (x2) (h : Keeps s₀ s) : Keeps s₀ (sdmOvercurrent x1 x2 s) := by
  unfold sdmOvercurrent
  extract_lets +onlyGivenNames y1
  extract_lets +onlyGivenNames y2
  refine keeps_ite ?_ ?_
  · apply State.sdmTrip_keeps
    exact h
  · exact h

theorem execSdmOvercurrent_keeps {s t : State} (x1) (x2) (e : (execSdmOvercurrent x1 x2 s) = .next t) : Keeps s t := by
  unfold execSdmOvercurrent at e
  refine keeps_goesTo e ?_
  have h := keeps_refl s
  clear e
  apply State.alive_keeps
  · exact h
  · apply sdmOvercurrent_keeps
    exact h

theorem State.sdmCapture_keeps {s : State} (h : Keeps s₀ s) (x2) (x3) : Keeps s₀ (State.sdmCapture s x2 x3) := by
  unfold State.sdmCapture
  extract_lets +onlyGivenNames y1
  refine keeps_ite ?_ ?_
  · extract_lets +onlyGivenNames y2
    apply State.pubBf_keeps
    apply State.setReg_keeps
    exact h
  · exact h

theorem sdmSwap_keeps {s : State} (x1) (x2) (h : Keeps s₀ s) : Keeps s₀ (sdmSwap x1 x2 s) := by
  unfold sdmSwap
  extract_lets +onlyGivenNames y1
  apply State.command_keeps
  · exact h
  · intro s2
    intro h3
    apply State.setState_keeps
    exact h3

theorem execSdmSwap_keeps {s t : State} (x1) (x2) (e : (execSdmSwap x1 x2 s) = .next t) : Keeps s t := by
  unfold execSdmSwap at e
  refine keeps_goesTo e ?_
  have h := keeps_refl s
  clear e
  apply sdmSwap_keeps
  exact h

theorem State.sdmRenew_keeps {s : State} (h : Keeps s₀ s) (x2) (x3) : Keeps s₀ (State.sdmRenew s x2 x3) := by
  unfold State.sdmRenew
  refine keeps_ite ?_ ?_
  · exact h
  · extract_lets +onlyGivenNames y1
    have h2 : Keeps s₀ y1 := by
      dsimp -zeta only [y1]
      apply State.setSdmCh_keeps
      exact h
    refine keeps_ite ?_ ?_
    · extract_lets +onlyGivenNames y3
      have h4 : Keeps s₀ y3 := by
        dsimp -zeta only [y3]
        apply State.sdmStuck_keeps
        exact h2
      refine keeps_ite ?_ ?_
      · apply State.sdmTrip_keeps
        exact h4
      · exact h4
    · exact h2

theorem State.sdmSwapAtT0_keeps {s : State} (h : Keeps s₀ s) : Keeps s₀ (State.sdmSwapAtT0 s) := by
  unfold State.sdmSwapAtT0
  refine keeps_ite ?_ ?_
  · extract_lets +onlyGivenNames y1
    extract_lets +onlyGivenNames y2
    extract_lets +onlyGivenNames y3
    have h4 : Keeps s₀ y3 := by
      dsimp -zeta only [y3]
      refine keeps_foldl ?_ ?_
      · exact h
      · intro s5
        intro x6
        intro h7
        apply State.setReg_keeps
        exact h7
    extract_lets +onlyGivenNames y8
    have h9 : Keeps s₀ y8 := by
      dsimp -zeta only [y8]
      refine keeps_foldl ?_ ?_
      · exact h4
      · intro s10
        intro x11
        intro h12
        apply State.setReg_keeps
        exact h12
    extract_lets +onlyGivenNames y13
    have h14 : Keeps s₀ y13 := by
      dsimp -zeta only [y13]
      refine keeps_foldl ?_ ?_
      · exact h9
      · intro s15
        intro x16
        intro h17
        apply State.sdmRenew_keeps
        exact h17
    apply State.complete_keeps
    apply State.setState_keeps
    exact h14
  · exact h

theorem sdmAbort_keeps {s : State} (x1) (x2) (h : Keeps s₀ s) : Keeps s₀ (sdmAbort x1 x2 s) := by
  unfold sdmAbort
  apply State.abort_keeps
  · exact h
  · intro x1
    intro s2
    intro h3
    apply State.setState_keeps
    exact h3

theorem execSdmAbort_keeps {s t : State} (x1) (x2) (e : (execSdmAbort x1 x2 s) = .next t) : Keeps s t := by
  unfold execSdmAbort at e
  refine keeps_goesTo e ?_
  have h := keeps_refl s
  clear e
  apply sdmAbort_keeps
  exact h

theorem State.statsClear_keeps {s : State} (h : Keeps s₀ s) (x2) : Keeps s₀ (State.statsClear s x2) := by
  unfold State.statsClear
  split
  · apply State.fltClearStats_keeps
    exact h
  · apply State.hutClearStats_keeps
    exact h
  · apply State.setReg_keeps
    apply State.zeroRegs_keeps
    exact h
  · apply State.ocuClearStats_keeps
    exact h
  · apply State.ocuClearStats_keeps
    exact h
  · apply State.tbClearStats_keeps
    exact h
  · apply State.ethClearStats_keeps
    exact h
  · apply State.ethClearStats_keeps
    exact h
  · apply State.canClearStats_keeps
    exact h
  · apply State.canClearStats_keeps
    exact h
  · apply State.canClearStats_keeps
    exact h
  · apply State.canClearStats_keeps
    exact h
  · apply State.wschClearStats_keeps
    exact h
  · apply State.queClearStats_keeps
    exact h
  · apply State.memcClearStats_keeps
    exact h
  · apply State.srecClearStats_keeps
    exact h
  · apply State.pcieClearStats_keeps
    exact h
  · apply State.zeroRegs_keeps
    exact h

theorem clearStats_keeps {s : State} (x1) (x2) (x3) (h : Keeps s₀ s) : Keeps s₀ (clearStats x1 x2 x3 s) := by
  unfold clearStats
  split
  · apply fioClearStats_keeps
    exact h
  · apply safeClearStats_keeps
    exact h
  · apply State.command_keeps
    · exact h
    · intro s1
      intro h2
      apply State.statsClear_keeps
      exact h2
  · exact h

theorem execClearStats_keeps {s t : State} (x1) (x2) (x3) (e : (execClearStats x1 x2 x3 s) = .next t) : Keeps s t := by
  unfold execClearStats at e
  refine keeps_goesTo e ?_
  have h := keeps_refl s
  clear e
  apply clearStats_keeps
  exact h

theorem blockCmds_keeps {s : State} {b : Nat} {c : List CmdOp × CmdOp} (e : blockCmds b = some c) (h : Keeps s₀ s) (m) (a) :
    (∀ op ∈ c.1, Keeps s₀ (op m a s)) ∧ Keeps s₀ (c.2 m a s) := by
  have k {p : CmdOp → Prop} {x : CmdOp} {l : List CmdOp} : (∀ y ∈ x :: l, p y) ↔ p x ∧ ∀ y ∈ l, p y := List.forall_mem_cons
  unfold blockCmds at e
  split at e
  · cases e; exact ⟨k.2 ⟨sysApplyCoreEn_keeps _ _ h, k.2 ⟨sysClearCounters_keeps _ _ h, List.forall_mem_nil _⟩⟩,
      sysAbort_keeps _ _ h⟩
  · cases e; exact ⟨k.2 ⟨clkApplyPoolSel_keeps _ _ h, List.forall_mem_nil _⟩, clkAbort_keeps _ _ h⟩
  · cases e; exact ⟨k.2 ⟨bootWarm_keeps _ _ h, k.2 ⟨bootVerify_keeps _ _ h, k.2 ⟨bootCommit_keeps _ _ h, k.2
      ⟨bootAttest_keeps _ _ h, k.2 ⟨bootRetry_keeps _ _ h, List.forall_mem_nil _⟩⟩⟩⟩⟩, bootAbort_keeps _ _ h⟩
  · cases e; exact ⟨k.2 ⟨kecInit_keeps _ _ h, k.2 ⟨kecAbsorb_keeps _ _ h, k.2 ⟨kecFinal_keeps _ _ h,
      List.forall_mem_nil _⟩⟩⟩, kecAbort_keeps _ _ h⟩
  · cases e; exact ⟨k.2 ⟨fltSelftest_keeps _ _ h, k.2 ⟨clearStats_keeps _ _ _ h, List.forall_mem_nil _⟩⟩,
      fltAbort_keeps _ _ h⟩
  · cases e; exact ⟨k.2 ⟨bivSet_keeps _ _ h, List.forall_mem_nil _⟩, bivAbort_keeps _ _ h⟩
  · cases e; exact ⟨k.2 ⟨hutReserve_keeps _ _ h, k.2 ⟨hutCommit_keeps _ _ h, k.2 ⟨hutCancel_keeps _ _ h, k.2
      ⟨clearStats_keeps _ _ _ h, List.forall_mem_nil _⟩⟩⟩⟩, hutAbort_keeps _ _ h⟩
  · cases e; exact ⟨k.2 ⟨sigLoad_keeps _ _ h, k.2 ⟨sigSwap_keeps _ _ h, k.2 ⟨clearStats_keeps _ _ _ h,
      List.forall_mem_nil _⟩⟩⟩, sigAbort_keeps _ _ h⟩
  · cases e; exact ⟨k.2 ⟨cycStart_keeps _ _ h, k.2 ⟨cycSwap_keeps _ _ h, List.forall_mem_nil _⟩⟩,
      cycAbort_keeps _ _ h⟩
  · cases e; exact ⟨k.2 ⟨ceStart_keeps _ _ h, k.2 ⟨ceStop_keeps _ _ h, k.2 ⟨ceValidate_keeps _ _ h, k.2
      ⟨ceSwap_keeps _ _ h, k.2 ⟨clearStats_keeps _ _ _ h, List.forall_mem_nil _⟩⟩⟩⟩⟩, ceAbort_keeps _ _ h⟩
  · cases e; exact ⟨k.2 ⟨ctabCopy_keeps _ _ h, List.forall_mem_nil _⟩, ctabAbort_keeps _ _ h⟩
  · cases e; exact ⟨k.2 ⟨clearStats_keeps _ _ _ h, k.2 ⟨profStopAll_keeps _ _ h, List.forall_mem_nil _⟩⟩,
      profAbort_keeps _ _ h⟩
  · cases e; exact ⟨k.2 ⟨clearStats_keeps _ _ _ h, k.2 ⟨axcSwap_keeps _ _ _ h, List.forall_mem_nil _⟩⟩,
      axcAbort_keeps _ _ _ h⟩
  · cases e; exact ⟨k.2 ⟨clearStats_keeps _ _ _ h, k.2 ⟨axcSwap_keeps _ _ _ h, List.forall_mem_nil _⟩⟩,
      axcAbort_keeps _ _ _ h⟩
  · cases e; exact ⟨k.2 ⟨clearStats_keeps _ _ _ h, k.2 ⟨axcSwap_keeps _ _ _ h, List.forall_mem_nil _⟩⟩,
      axcAbort_keeps _ _ _ h⟩
  · cases e; exact ⟨k.2 ⟨clearStats_keeps _ _ _ h, k.2 ⟨axcSwap_keeps _ _ _ h, List.forall_mem_nil _⟩⟩,
      axcAbort_keeps _ _ _ h⟩
  · cases e; exact ⟨k.2 ⟨stepReshape_keeps _ _ h, k.2 ⟨clearStats_keeps _ _ _ h, List.forall_mem_nil _⟩⟩,
      stepAbort_keeps _ _ h⟩
  · cases e; exact ⟨k.2 ⟨encConfig_keeps _ _ h, k.2 ⟨encSsiRead_keeps _ _ h, k.2 ⟨clearStats_keeps _ _ _ h,
      List.forall_mem_nil _⟩⟩⟩, encAbort_keeps _ _ h⟩
  · cases e; exact ⟨k.2 ⟨clearStats_keeps _ _ _ h, List.forall_mem_nil _⟩, seqAbort_keeps _ _ h⟩
  · cases e; exact ⟨k.2 ⟨ilkSwap_keeps _ _ h, k.2 ⟨ilkCopyActive_keeps _ _ h, k.2 ⟨ilkAck_keeps _ _ h, k.2
      ⟨clearStats_keeps _ _ _ h, List.forall_mem_nil _⟩⟩⟩⟩, ilkAbort_keeps _ _ h⟩
  · cases e; exact ⟨k.2 ⟨adcTrigger_keeps _ _ h, k.2 ⟨adcSwap_keeps _ _ h, k.2 ⟨clearStats_keeps _ _ _ h,
      List.forall_mem_nil _⟩⟩⟩, adcAbort_keeps _ _ h⟩
  · cases e; exact ⟨k.2 ⟨sdmSwap_keeps _ _ h, k.2 ⟨clearStats_keeps _ _ _ h, List.forall_mem_nil _⟩⟩,
      sdmAbort_keeps _ _ h⟩
  · cases e; exact ⟨k.2 ⟨clearStats_keeps _ _ _ h, List.forall_mem_nil _⟩, dacAbort_keeps _ _ h⟩
  · cases e; exact ⟨k.2 ⟨fioArm_keeps _ _ h, k.2 ⟨fioClearOut_keeps _ _ h, k.2 ⟨fioFlushTsf_keeps _ _ h, k.2
      ⟨clearStats_keeps _ _ _ h, List.forall_mem_nil _⟩⟩⟩⟩, fioAbort_keeps _ _ h⟩
  · cases e; exact ⟨k.2 ⟨safeReset_keeps _ _ h, k.2 ⟨safeConfig_keeps _ _ h, k.2 ⟨leaveConfig_keeps _ _ h, k.2
      ⟨safeDemand_keeps _ _ h, k.2 ⟨safeRelease_keeps _ _ h, k.2 ⟨clearStats_keeps _ _ _ h,
      List.forall_mem_nil _⟩⟩⟩⟩⟩⟩, safeAbort_keeps _ _ h⟩
  · cases e; exact ⟨k.2 ⟨ocuStart_keeps _ _ _ h, k.2 ⟨ocuStop_keeps _ _ _ h, k.2 ⟨ocuLoadSched_keeps _ _ _ h, k.2
      ⟨clearStats_keeps _ _ _ h, k.2 ⟨ocuMbSend_keeps _ _ _ h, k.2 ⟨ocuMbRelease_keeps _ _ _ h, k.2
      ⟨ocuBulkSend_keeps _ _ _ h, List.forall_mem_nil _⟩⟩⟩⟩⟩⟩⟩, ocuAbort_keeps _ _ _ h⟩
  · cases e; exact ⟨k.2 ⟨ocuStart_keeps _ _ _ h, k.2 ⟨ocuStop_keeps _ _ _ h, k.2 ⟨ocuLoadSched_keeps _ _ _ h, k.2
      ⟨clearStats_keeps _ _ _ h, k.2 ⟨ocuMbSend_keeps _ _ _ h, k.2 ⟨ocuMbRelease_keeps _ _ _ h, k.2
      ⟨ocuBulkSend_keeps _ _ _ h, List.forall_mem_nil _⟩⟩⟩⟩⟩⟩⟩, ocuAbort_keeps _ _ _ h⟩
  · cases e; exact ⟨k.2 ⟨tbSet_keeps _ _ h, k.2 ⟨tbAdj_keeps _ _ h, k.2 ⟨tbSnapCal_keeps _ _ h, k.2
      ⟨clearStats_keeps _ _ _ h, List.forall_mem_nil _⟩⟩⟩⟩, tbAbort_keeps _ _ h⟩
  · cases e; exact ⟨k.2 ⟨ethStart_keeps _ _ _ h, k.2 ⟨ethStop_keeps _ _ _ h, k.2 ⟨clearStats_keeps _ _ _ h, k.2
      ⟨ethMdio_keeps _ _ _ h, List.forall_mem_nil _⟩⟩⟩⟩, ethAbort_keeps _ _ _ h⟩
  · cases e; exact ⟨k.2 ⟨ethStart_keeps _ _ _ h, k.2 ⟨ethStop_keeps _ _ _ h, k.2 ⟨clearStats_keeps _ _ _ h, k.2
      ⟨ethMdio_keeps _ _ _ h, List.forall_mem_nil _⟩⟩⟩⟩, ethAbort_keeps _ _ _ h⟩
  · cases e; exact ⟨k.2 ⟨canStart_keeps _ _ _ h, k.2 ⟨canStop_keeps _ _ _ h, k.2 ⟨canSleep_keeps _ _ _ h, k.2
      ⟨canWake_keeps _ _ _ h, k.2 ⟨canRecover_keeps _ _ _ h, k.2 ⟨canTxreq_keeps _ _ _ h, k.2
      ⟨canTxcancel_keeps _ _ _ h, k.2 ⟨clearStats_keeps _ _ _ h, List.forall_mem_nil _⟩⟩⟩⟩⟩⟩⟩⟩,
      canAbort_keeps _ _ _ h⟩
  · cases e; exact ⟨k.2 ⟨canStart_keeps _ _ _ h, k.2 ⟨canStop_keeps _ _ _ h, k.2 ⟨canSleep_keeps _ _ _ h, k.2
      ⟨canWake_keeps _ _ _ h, k.2 ⟨canRecover_keeps _ _ _ h, k.2 ⟨canTxreq_keeps _ _ _ h, k.2
      ⟨canTxcancel_keeps _ _ _ h, k.2 ⟨clearStats_keeps _ _ _ h, List.forall_mem_nil _⟩⟩⟩⟩⟩⟩⟩⟩,
      canAbort_keeps _ _ _ h⟩
  · cases e; exact ⟨k.2 ⟨canStart_keeps _ _ _ h, k.2 ⟨canStop_keeps _ _ _ h, k.2 ⟨canSleep_keeps _ _ _ h, k.2
      ⟨canWake_keeps _ _ _ h, k.2 ⟨canRecover_keeps _ _ _ h, k.2 ⟨canTxreq_keeps _ _ _ h, k.2
      ⟨canTxcancel_keeps _ _ _ h, k.2 ⟨clearStats_keeps _ _ _ h, List.forall_mem_nil _⟩⟩⟩⟩⟩⟩⟩⟩,
      canAbort_keeps _ _ _ h⟩
  · cases e; exact ⟨k.2 ⟨canStart_keeps _ _ _ h, k.2 ⟨canStop_keeps _ _ _ h, k.2 ⟨canSleep_keeps _ _ _ h, k.2
      ⟨canWake_keeps _ _ _ h, k.2 ⟨canRecover_keeps _ _ _ h, k.2 ⟨canTxreq_keeps _ _ _ h, k.2
      ⟨canTxcancel_keeps _ _ _ h, k.2 ⟨clearStats_keeps _ _ _ h, List.forall_mem_nil _⟩⟩⟩⟩⟩⟩⟩⟩,
      canAbort_keeps _ _ _ h⟩
  · cases e; exact ⟨k.2 ⟨wschApplyCfg_keeps _ _ h, k.2 ⟨clearStats_keeps _ _ _ h, List.forall_mem_nil _⟩⟩,
      wschAbort_keeps _ _ h⟩
  · cases e; exact ⟨k.2 ⟨queReset_keeps _ _ h, k.2 ⟨queResize_keeps _ _ h, k.2 ⟨clearStats_keeps _ _ _ h,
      List.forall_mem_nil _⟩⟩⟩, queAbort_keeps _ _ h⟩
  · cases e; exact ⟨k.2 ⟨memcScrubNow_keeps _ _ h, k.2 ⟨memcRemap_keeps _ _ h, k.2 ⟨clearStats_keeps _ _ _ h,
      List.forall_mem_nil _⟩⟩⟩, memcAbort_keeps _ _ h⟩
  · cases e; exact ⟨k.2 ⟨srecStart_keeps _ _ h, k.2 ⟨srecStop_keeps _ _ h, k.2 ⟨srecArm_keeps _ _ h, k.2
      ⟨srecTrigger_keeps _ _ h, k.2 ⟨srecRelease_keeps _ _ h, k.2 ⟨clearStats_keeps _ _ _ h,
      List.forall_mem_nil _⟩⟩⟩⟩⟩⟩, srecAbort_keeps _ _ h⟩
  · cases e; exact ⟨k.2 ⟨pcieRetrain_keeps _ _ h, k.2 ⟨pcieMbReset_keeps _ _ h, k.2 ⟨clearStats_keeps _ _ _ h,
      List.forall_mem_nil _⟩⟩⟩, pcieAbort_keeps _ _ h⟩
  · cases e; exact ⟨k.2 ⟨xspiRead_keeps _ _ h, k.2 ⟨xspiProgram_keeps _ _ h, k.2 ⟨xspiErase4k_keeps _ _ h, k.2
      ⟨xspiErase64k_keeps _ _ h, k.2 ⟨xspiResume_keeps _ _ h, List.forall_mem_nil _⟩⟩⟩⟩⟩, xspiAbort_keeps _ _ h⟩
  · cases e

theorem channelCmds_keeps {s : State} {b : Nat} {c : List CmdOp × CmdOp} (e : channelCmds b = some c) (h : Keeps s₀ s) (m) (a) :
    (∀ op ∈ c.1, Keeps s₀ (op m a s)) ∧ Keeps s₀ (c.2 m a s) := by
  have k {p : CmdOp → Prop} {x : CmdOp} {l : List CmdOp} : (∀ y ∈ x :: l, p y) ↔ p x ∧ ∀ y ∈ l, p y := List.forall_mem_cons
  unfold channelCmds at e
  dsimp only at e
  (repeat' split at e)
  · cases e; exact ⟨k.2 ⟨keyProg_keeps _ _ h, k.2 ⟨keyRevoke_keeps _ _ h, k.2 ⟨rollfwd_keeps _ _ h, k.2
      ⟨svcProg_keeps _ _ h, k.2 ⟨otpProg_keeps _ _ h, k.2 ⟨dbgLock_keeps _ _ h, k.2 ⟨dbgOpen_keeps _ _ h,
      List.forall_mem_nil _⟩⟩⟩⟩⟩⟩⟩, bootScAbort_keeps _ _ h⟩
  · cases e; exact ⟨k.2 ⟨clearRet_keeps _ _ h, k.2 ⟨islReset_keeps _ _ h, List.forall_mem_nil _⟩⟩,
      fltScAbort_keeps _ _ h⟩
  · cases e; exact ⟨k.2 ⟨hutNonce_keeps _ _ h, k.2 ⟨hutClear_keeps _ _ h, List.forall_mem_nil _⟩⟩,
      hutScAbort_keeps _ _ h⟩
  · cases e; exact ⟨k.2 ⟨profEnable_keeps _ _ _ h, k.2 ⟨profDisable_keeps _ _ _ h, k.2 ⟨profGo_keeps _ _ _ h, k.2
      ⟨profRunQueue_keeps _ _ _ h, k.2 ⟨profStop_keeps _ _ _ h, k.2 ⟨profQstop_keeps _ _ _ h, k.2
      ⟨profFlush_keeps _ _ _ h, k.2 ⟨profLatchArm_keeps _ _ _ h, List.forall_mem_nil _⟩⟩⟩⟩⟩⟩⟩⟩,
      profGenAbort_keeps _ _ _ h⟩
  · cases e; exact ⟨k.2 ⟨axcEnable_keeps _ _ _ h, k.2 ⟨axcDisable_keeps _ _ _ h, k.2 ⟨axcReset_keeps _ _ _ h,
      List.forall_mem_nil _⟩⟩⟩, axcChannelAbort_keeps _ _ _ h⟩
  · cases e; exact ⟨k.2 ⟨seqStart_keeps _ _ _ h, k.2 ⟨seqPause_keeps _ _ _ h, k.2 ⟨seqResume_keeps _ _ _ h, k.2
      ⟨seqRelease_keeps _ _ _ h, k.2 ⟨seqReset_keeps _ _ _ h, List.forall_mem_nil _⟩⟩⟩⟩⟩,
      seqChannelAbort_keeps _ _ _ h⟩
  · cases e

theorem cmdsAt_keeps {s : State} {b : Nat} {c : List CmdOp × CmdOp} (e : cmdsAt b = some c) (h : Keeps s₀ s) (m) (a) :
    (∀ op ∈ c.1, Keeps s₀ (op m a s)) ∧ Keeps s₀ (c.2 m a s) := by
  unfold cmdsAt at e
  split at e
  · exact blockCmds_keeps e h m a
  · exact channelCmds_keeps e h m a

theorem cmdWrite_keeps {s : State} (m) (reg) {c : List CmdOp × CmdOp} (hc : ∀ m a, (∀ op ∈ c.1,
      Keeps s₀ (op m a s)) ∧ Keeps s₀ (c.2 m a s))
    (w) (h : Keeps s₀ s) : Keeps s₀ (cmdWrite m reg c w s) := by
  unfold cmdWrite
  dsimp only
  have hu : ∀ (a : Sys2Proof.CmdArg) (k : Cmd), Keeps s₀ (s.command m a k fun s => s) :=
    fun a k => State.command_keeps h _ _ _ fun _ hx => hx
  refine keeps_ite (hc _ _).2 (keeps_ite (hu _ _) ?_)
  split
  · rename_i op e
    exact (hc _ _).1 op (List.mem_of_getElem? e)
  · exact hu _ _

theorem regRead_keeps {s : State} (x1) (x2) (h : Keeps s₀ s) : Keeps s₀ (regRead x1 x2 s) := by
  unfold regRead
  refine keeps_ite ?_ ?_
  · apply tbTimeRead_keeps
    exact h
  · refine keeps_ite ?_ ?_
    · apply calendarRead_keeps
      exact h
    · refine keeps_ite ?_ ?_
      · apply tsfRead_keeps
        exact h
      · refine keeps_ite ?_ ?_
        · apply fltLogRead_keeps
          exact h
        · refine keeps_ite ?_ ?_
          · apply camDataAccess_keeps
            exact h
          · apply State.access_keeps
            · exact h
            · intro s1
              intro h2
              extract_lets +onlyGivenNames y3
              split
              · apply State.answer_keeps
                exact h2
              · refine keeps_ite ?_ ?_
                · apply State.answer_keeps
                  exact h2
                · extract_lets +onlyGivenNames y4
                  extract_lets +onlyGivenNames y5
                  have h6 : Keeps s₀ y5 := by
                    dsimp -zeta only [y5]
                    refine keeps_ite ?_ ?_
                    · apply State.latch_keeps
                      exact h2
                    · exact h2
                  apply State.answer_keeps
                  refine keeps_ite ?_ ?_
                  · apply State.setReg_keeps
                    exact h6
                  · exact h6

theorem rwOp_tail_keeps {s : State} {k off : Nat} {m : Sys2Proof.Master} {op : Word → State → State} (e : rwOp.tail m k off = some op)
    (h : Keeps s₀ s) (w : Word) : Keeps s₀ (op w s) := by
  unfold rwOp.tail at e
  split at e <;> cases e
  exact tailWrite_keeps _ _ _ _ _ h

theorem rwOp_keeps {s : State} {m : Sys2Proof.Master} {a : Nat} {op : Word → State → State} (e : rwOp m a = some op) (h : Keeps s₀ s)
    (w : Word) : Keeps s₀ (op w s) := by
  unfold rwOp at e
  dsimp only at e
  (repeat' split at e)
  · cases e; exact hutCursorWrite_keeps _ _ h
  · cases e
  · cases e; exact sigPeek_keeps _ _ h
  · cases e
    exact keeps_ite (sigEntryRead_keeps _ _ h) (keeps_ite (sigEntryWrite_keeps _ _ h) (State.setReg_keeps h _ _))
  · cases e; exact keeps_mk h rfl
  · cases e
  · cases e; exact camDataAccess_keeps _ _ h
  · cases e; exact hofsWrite_keeps _ _ _ h
  · cases e
  · cases e
    dsimp only
    split
    · exact ilkRuleReadShadow_keeps _ _ h
    · exact ilkRuleWriteShadow_keeps _ _ h
    · exact ilkRuleReadActive_keeps _ _ h
    · exact State.setReg_keeps h _ _
  · cases e
  · cases e; exact tbtimeWrite_keeps _ _ _ h
  · cases e
  · cases e; exact safeConfirmWrite_keeps _ _ h
  · cases e
  · exact rwOp_tail_keeps e h w
  · exact rwOp_tail_keeps e h w
  · cases e; exact rdCtlWrite_keeps _ _ h
  · cases e
  · cases e

theorem State.regWritten_keeps {s : State} (h : Keeps s₀ s) (x2) (x3) (x4) : Keeps s₀ (State.regWritten s x2 x3 x4) := by
  unfold State.regWritten
  extract_lets +onlyGivenNames y1
  split
  · refine keeps_ite ?_ ?_
    · refine keeps_mk (s := s) ?_ rfl
      exact h
    · exact h
  · refine keeps_ite ?_ ?_
    · apply State.fltShow_keeps
      refine keeps_ite ?_ ?_
      · exact h
      · apply State.safeEvt_keeps
        exact h
    · exact h
  · refine keeps_ite ?_ ?_
    · refine keeps_foldl ?_ ?_
      · exact h
      · intro s2
        intro x3
        intro h4
        refine keeps_ite ?_ ?_
        · apply State.ceSetStatus_keeps
          exact h4
        · exact h4
    · exact h
  · refine keeps_ite ?_ ?_
    · apply State.ilkSync_keeps
      refine keeps_foldl ?_ ?_
      · exact h
      · intro s5
        intro x6
        intro h7
        refine keeps_ite ?_ ?_
        · apply State.ilkRelease_keeps
          exact h7
        · exact h7
    · exact h
  · refine keeps_ite ?_ ?_
    · apply State.adcSync_keeps
      exact h
    · refine keeps_ite ?_ ?_
      · apply State.setReg_keeps
        exact h
      · exact h
  · refine keeps_ite ?_ ?_
    · apply State.dacCfg_keeps
      exact h
    · exact h
  · unfold State.regWritten.eth
    refine keeps_ite ?_ ?_
    · apply State.setEth_keeps
      exact h
    · exact h
  · unfold State.regWritten.eth
    refine keeps_ite ?_ ?_
    · apply State.setEth_keeps
      exact h
    · exact h
  · unfold State.regWritten.can
    refine keeps_ite ?_ ?_
    · apply State.canCfgChanged_keeps
      exact h
    · exact h
  · unfold State.regWritten.can
    refine keeps_ite ?_ ?_
    · apply State.canCfgChanged_keeps
      exact h
    · exact h
  · unfold State.regWritten.can
    refine keeps_ite ?_ ?_
    · apply State.canCfgChanged_keeps
      exact h
    · exact h
  · unfold State.regWritten.can
    refine keeps_ite ?_ ?_
    · apply State.canCfgChanged_keeps
      exact h
    · exact h
  · refine keeps_ite ?_ ?_
    · apply State.queCfgChanged_keeps
      exact h
    · exact h
  · exact h

theorem State.regWritten.eth_keeps {s : State} (h : Keeps s₀ s) (x2) (x3) (x4) : Keeps s₀ (State.regWritten.eth s x2 x3 x4) := by
  unfold State.regWritten.eth
  refine keeps_ite ?_ ?_
  · apply State.setEth_keeps
    exact h
  · exact h

theorem State.regWritten.can_keeps {s : State} (h : Keeps s₀ s) (x2) (x3) (x4) (x5) : Keeps s₀ (State.regWritten.can s x2 x3 x4 x5) := by
  unfold State.regWritten.can
  refine keeps_ite ?_ ?_
  · apply State.canCfgChanged_keeps
    exact h
  · exact h

theorem State.regStore_keeps {s : State} (h : Keeps s₀ s) (x2) (x3) (x4) (x5) (x6) : Keeps s₀ (State.regStore s x2 x3 x4 x5 x6) := by
  unfold State.regStore
  split
  · apply State.setReg_keeps
    exact h
  · refine keeps_ite ?_ ?_
    · apply State.noteDenied_keeps
      exact h
    · split
      · rename_i e; exact rwOp_keeps e h _
      · extract_lets +onlyGivenNames y1
        extract_lets +onlyGivenNames y2
        extract_lets +onlyGivenNames y3
        extract_lets +onlyGivenNames y4
        extract_lets +onlyGivenNames y5
        have h6 : Keeps s₀ y5 := by
          dsimp -zeta only [y5]
          refine keeps_ite ?_ ?_
          · apply State.setPreg_keeps
            exact h
          · apply State.setReg_keeps
            exact h
        extract_lets +onlyGivenNames y7
        have h8 : Keeps s₀ y7 := by
          dsimp -zeta only [y7]
          split
          · refine keeps_ite ?_ ?_
            · apply State.setReg_keeps
              exact h6
            · exact h6
          · dsimp -zeta only [y5]
            refine keeps_ite ?_ ?_
            · apply State.setPreg_keeps
              exact h
            · apply State.setReg_keeps
              exact h
        extract_lets +onlyGivenNames y9
        have h10 : Keeps s₀ y9 := by
          dsimp -zeta only [y9]
          refine keeps_mk (s := y7) ?_ rfl
          exact h8
        extract_lets +onlyGivenNames y11
        have h12 : Keeps s₀ y11 := by
          dsimp -zeta only [y11]
          apply State.regWritten_keeps
          exact h10
        refine keeps_ite ?_ ?_
        · exact h12
        · apply State.setReg_keeps
          refine keeps_mk (s := y11) ?_ rfl
          exact h12

theorem woWrite_keeps {s : State} (x1) (x2) (x3) (h : Keeps s₀ s) : Keeps s₀ (woWrite x1 x2 x3 s) := by
  unfold woWrite
  refine keeps_ite ?_ ?_
  · apply sigWrValWrite_keeps
    exact h
  · refine keeps_ite ?_ ?_
    · apply safeSelSetWrite_keeps
      exact h
    · refine keeps_ite ?_ ?_
      · apply safeSelClrWrite_keeps
        exact h
      · refine keeps_ite ?_ ?_
        · apply wschCancelWrite_keeps
          exact h
        · refine keeps_ite ?_ ?_
          · apply wschDoneWrite_keeps
            exact h
          · refine keeps_ite ?_ ?_
            · apply queEnqCommit_keeps
              exact h
            · refine keeps_ite ?_ ?_
              · apply wdogKick_keeps
                exact h
              · refine keeps_ite ?_ ?_
                · apply mbAnswerWrite_keeps
                  exact h
                · refine keeps_ite ?_ ?_
                  · apply msixRaiseWrite_keeps
                    exact h
                  · refine keeps_ite ?_ ?_
                    · apply hutWrDataWrite_keeps
                      exact h
                    · exact h

theorem regWrite_keeps {s : State} (x1) (x2) (x3) (x4) (h : Keeps s₀ s) : Keeps s₀ (regWrite x1 x2 x3 x4 s) := by
  unfold regWrite
  extract_lets +onlyGivenNames y1
  have h2 : Keeps s₀ y1 := by
    dsimp -zeta only [y1]
    apply State.answer_keeps
    exact h
  split
  · apply State.access_keeps
    · exact h2
    · intro s3
      intro h4
      exact h4
  · refine keeps_ite ?_ ?_
    · refine keeps_ite ?_ ?_
      · apply State.access_keeps
        · exact h2
        · intro s5
          intro h6
          exact h6
      · split
        · rename_i e
          exact cmdWrite_keeps _ _ (fun m a => cmdsAt_keeps e h2 m a) _ h2
        · apply woWrite_keeps
          exact h2
    · apply State.writeGranted_keeps
      · exact h2
      · intro s7
        intro h8
        refine keeps_ite ?_ ?_
        · apply State.regStore_keeps
          exact h8
        · refine keeps_ite ?_ ?_
          · exact h8
          · extract_lets +onlyGivenNames y9
            apply State.regStore_keeps
            exact h8

theorem memRead_keeps {s : State} (x1) (x2) (h : Keeps s₀ s) : Keeps s₀ (memRead x1 x2 s) := by
  unfold memRead
  extract_lets +onlyGivenNames y1
  extract_lets +onlyGivenNames y2
  split
  · apply dramRead_keeps
    exact h
  · apply sharedSramRead_keeps
    exact h
  · refine keeps_ite ?_ ?_
    · apply State.answer_keeps
      exact h
    · refine keeps_ite ?_ ?_
      · apply State.answer_keeps
        exact h
      · split
        · apply State.answer_keeps
          exact h
        · apply State.answer_keeps
          exact h
        · apply State.answer_keeps
          exact h

theorem memWrite_keeps {s : State} (x1) (x2) (x3) (x4) (h : Keeps s₀ s) : Keeps s₀ (memWrite x1 x2 x3 x4 s) := by
  unfold memWrite
  extract_lets +onlyGivenNames y1
  extract_lets +onlyGivenNames y2
  refine keeps_ite ?_ ?_
  · apply State.answer_keeps
    exact h
  · refine keeps_ite ?_ ?_
    · apply State.answer_keeps
      apply State.noteDenied_keeps
      exact h
    · refine keeps_ite ?_ ?_
      · refine keeps_ite ?_ ?_
        · apply State.answer_keeps
          apply State.ceLocalWrite_keeps
          exact h
        · apply State.answer_keeps
          exact h
      · extract_lets +onlyGivenNames y3
        have h4 : Keeps s₀ y3 := by
          dsimp -zeta only [y3]
          refine keeps_ite ?_ ?_
          · apply State.memcTouch_keeps
            exact h
          · exact h
        apply State.answer_keeps
        apply State.memcWritten_keeps
        apply State.setBytes_keeps
        exact h4

theorem ownRead_keeps {s : State} (x1) (x2) (x3) (h : Keeps s₀ s) : Keeps s₀ (ownRead x1 x2 x3 s) := by
  unfold ownRead
  extract_lets +onlyGivenNames y1
  split
  · apply State.answer_keeps
    apply State.decodeError_keeps
    exact h
  · refine keeps_ite ?_ ?_
    · apply State.answer_keeps
      apply State.decodeError_keeps
      exact h
    · refine keeps_ite ?_ ?_
      · apply State.access_keeps
        · exact h
        · intro s2
          intro h3
          apply State.answer_keeps
          exact h3
      · unfold ownRead.part
        split
        · apply State.answer_keeps
          apply regRead_keeps
          exact h
        · apply regRead_keeps
          exact h
  · refine keeps_ite ?_ ?_
    · apply State.answer_keeps
      exact h
    · unfold ownRead.part
      split
      · apply State.answer_keeps
        apply memRead_keeps
        exact h
      · apply memRead_keeps
        exact h

theorem ownRead.part_keeps {s : State} (x1) (x2) (x3) (h : Keeps s₀ s) : Keeps s₀ (ownRead.part x1 x2 x3 s) := by
  unfold ownRead.part
  split
  · apply State.answer_keeps
    exact h
  · exact h

theorem ownWrite_keeps {s : State} (x1) (x2) (x3) (x4) (h : Keeps s₀ s) : Keeps s₀ (ownWrite x1 x2 x3 x4 s) := by
  unfold ownWrite
  extract_lets +onlyGivenNames y1
  split
  · apply State.answer_keeps
    apply State.decodeError_keeps
    exact h
  · refine keeps_ite ?_ ?_
    · apply State.answer_keeps
      apply State.decodeError_keeps
      exact h
    · refine keeps_ite ?_ ?_
      · apply State.access_keeps
        · exact h
        · intro s2
          intro h3
          apply State.answer_keeps
          exact h3
      · apply regWrite_keeps
        exact h
  · refine keeps_ite ?_ ?_
    · apply State.answer_keeps
      exact h
    · apply memWrite_keeps
      exact h

theorem State.ownWindow_keeps {s : State} {f5} (h : Keeps s₀ s) (x2) (x3) (x4) (g5 : ∀ a1 a2, Keeps s₀ a2 → Keeps s₀ (f5 a1 a2)) : Keeps s₀ (State.ownWindow s x2 x3 x4 f5) := by
  unfold State.ownWindow
  extract_lets +onlyGivenNames y1
  extract_lets +onlyGivenNames y2
  have h3 : Keeps s₀ y2 := by
    dsimp -zeta only [y2]
    split
    · apply g5
      exact h
    · apply State.answer_keeps
      apply State.decodeError_keeps
      exact h
  refine keeps_ite ?_ ?_
  · extract_lets +onlyGivenNames y4
    have h5 : Keeps s₀ y4 := by
      dsimp -zeta only [y4]
      refine keeps_ite ?_ ?_
      · apply State.windowError_keeps
        exact h3
      · exact h3
    refine keeps_ite ?_ ?_
    · apply State.windowLatency_keeps
      exact h5
    · exact h5
  · exact h3

theorem busRead_keeps {s : State} (x1) (x2) (x3) (h : Keeps s₀ s) : Keeps s₀ (busRead x1 x2 x3 s) := by
  unfold busRead
  split
  · refine keeps_ite ?_ ?_
    · apply State.ownWindow_keeps
      · exact h
      · intro x1
        intro s2
        intro h3
        apply ownRead_keeps
        exact h3
    · refine keeps_ite ?_ ?_
      · apply State.answer_keeps
        exact h
      · apply State.remoteAccess_keeps
        exact h
  · apply ownRead_keeps
    exact h

theorem busWrite_keeps {s : State} (x1) (x2) (x3) (x4) (h : Keeps s₀ s) : Keeps s₀ (busWrite x1 x2 x3 x4 s) := by
  unfold busWrite
  split
  · refine keeps_ite ?_ ?_
    · apply State.ownWindow_keeps
      · exact h
      · intro x1
        intro s2
        intro h3
        apply ownWrite_keeps
        exact h3
    · refine keeps_ite ?_ ?_
      · apply State.answer_keeps
        exact h
      · apply State.remoteAccess_keeps
        exact h
  · apply ownWrite_keeps
    exact h

theorem bar2Write_keeps {s : State} (x1) (x2) (h : Keeps s₀ s) : Keeps s₀ (bar2Write x1 x2 s) := by
  unfold bar2Write
  refine keeps_ite ?_ ?_
  · refine keeps_ite ?_ ?_
    · apply State.memcWritten_keeps
      apply State.setWord_keeps
      exact h
    · exact h
  · refine keeps_ite ?_ ?_
    · refine keeps_ite ?_ ?_
      · apply mbDbWrite_keeps
        exact h
      · exact h
    · refine keeps_ite ?_ ?_
      · extract_lets +onlyGivenNames y1
        extract_lets +onlyGivenNames y2
        refine keeps_ite ?_ ?_
        · apply qdbCommit_keeps
          exact h
        · apply State.qdbStageWords_keeps
          exact h
      · refine keeps_ite ?_ ?_
        · extract_lets +onlyGivenNames y3
          apply State.setMsixWord_keeps
          exact h
        · exact h

theorem State.hostMay_keeps {s t : State} (h : Keeps s₀ s) (x2) (h2 : Keeps s₀ t) : Keeps s₀ (State.hostMay s x2 t) := by
  unfold State.hostMay
  refine keeps_ite (State.alive_keeps h _ (State.fromHost_keeps h fun _ _ => h2)) h2

theorem placeRead_keeps {s : State} (x1) (x2) (x3) (h : Keeps s₀ s) : Keeps s₀ (placeRead x1 x2 x3 s) := by
  unfold placeRead
  split
  · refine keeps_ite ?_ ?_
    · apply busRead_keeps
      exact h
    · exact h
  · refine keeps_ite ?_ ?_
    · exact h
    · refine keeps_ite ?_ ?_
      · apply State.answer_keeps
        exact h
      · apply State.answer_keeps
        exact h

theorem placeWrite_keeps {s : State} (x1) (x2) (x3) (x4) (h : Keeps s₀ s) : Keeps s₀ (placeWrite x1 x2 x3 x4 s) := by
  unfold placeWrite
  extract_lets +onlyGivenNames y1
  refine keeps_ite ?_ ?_
  · apply State.answer_keeps
    apply State.pcieEvt_keeps
    apply State.inc_keeps
    exact h
  · split
    · refine keeps_ite ?_ ?_
      · apply busWrite_keeps
        exact h
      · exact h
    · refine keeps_ite ?_ ?_
      · exact h
      · refine keeps_ite ?_ ?_
        · apply State.answer_keeps
          exact h
        · apply State.answer_keeps
          apply bar2Write_keeps
          exact h

theorem execRegisterWrite_keeps {s t : State} (x1) (x2) (x3) (x4) (e : (execRegisterWrite x1 x2 x3 x4 s) = .next t) : Keeps s t := by
  unfold execRegisterWrite at e
  refine keeps_goesTo e ?_
  have h := keeps_refl s
  clear e
  apply State.hostMay_keeps
  · exact h
  · apply placeWrite_keeps
    exact h

theorem aliasWrite_keeps {s : State} (x1) (x2) (x3) (x4) (h : Keeps s₀ s) : Keeps s₀ (aliasWrite x1 x2 x3 x4 s) := by
  unfold aliasWrite
  extract_lets +onlyGivenNames y1
  apply ownWrite_keeps
  exact h

theorem execSetAliasWrite_keeps {s t : State} (x1) (x2) (x3) (e : (execSetAliasWrite x1 x2 x3 s) = .next t) : Keeps s t := by
  unfold execSetAliasWrite at e
  refine keeps_goesTo e ?_
  have h := keeps_refl s
  clear e
  apply State.hostMay_keeps
  · exact h
  · apply aliasWrite_keeps
    exact h

theorem execClearAliasWrite_keeps {s t : State} (x1) (x2) (x3) (e : (execClearAliasWrite x1 x2 x3 s) = .next t) : Keeps s t := by
  unfold execClearAliasWrite at e
  refine keeps_goesTo e ?_
  have h := keeps_refl s
  clear e
  apply State.hostMay_keeps
  · exact h
  · apply aliasWrite_keeps
    exact h

theorem execToggleAliasWrite_keeps {s t : State} (x1) (x2) (x3) (e : (execToggleAliasWrite x1 x2 x3 s) = .next t) : Keeps s t := by
  unfold execToggleAliasWrite at e
  refine keeps_goesTo e ?_
  have h := keeps_refl s
  clear e
  apply State.hostMay_keeps
  · exact h
  · apply aliasWrite_keeps
    exact h

theorem w1cWrite_keeps {s : State} (x1) (x2) (x3) (h : Keeps s₀ s) : Keeps s₀ (w1cWrite x1 x2 x3 s) := by
  unfold w1cWrite
  split
  · refine keeps_ite ?_ ?_
    · exact h
    · apply aliasWrite_keeps
      exact h
  · exact h

theorem execW1cWrite_keeps {s t : State} (x1) (x2) (x3) (e : (execW1cWrite x1 x2 x3 s) = .next t) : Keeps s t := by
  unfold execW1cWrite at e
  refine keeps_goesTo e ?_
  have h := keeps_refl s
  clear e
  apply State.hostMay_keeps
  · exact h
  · apply w1cWrite_keeps
    exact h

theorem execLoRegisterRead_keeps {s t : State} (x1) (x2) (x3) (e : (execLoRegisterRead x1 x2 x3 s) = .next t) : Keeps s t := by
  unfold execLoRegisterRead at e
  refine keeps_goesTo e ?_
  have h := keeps_refl s
  clear e
  apply State.hostMay_keeps
  · exact h
  · apply placeRead_keeps
    exact h

theorem resultReadAt_keeps {s : State} (x1) (x2) (h : Keeps s₀ s) : Keeps s₀ (resultReadAt x1 x2 s) := by
  unfold resultReadAt
  refine keeps_ite ?_ ?_
  · apply ownRead_keeps
    exact h
  · exact h

theorem execResultRegisterRead_keeps {s t : State} (x1) (x2) (e : (execResultRegisterRead x1 x2 s) = .next t) : Keeps s t := by
  unfold execResultRegisterRead at e
  refine keeps_goesTo e ?_
  have h := keeps_refl s
  clear e
  apply State.hostMay_keeps
  · exact h
  · apply resultReadAt_keeps
    exact h

theorem State.dynPass_keeps {s : State} (h : Keeps s₀ s) (x2) (x3) (x4) : Keeps s₀ (State.dynPass s x2 x3 x4) := by
  unfold State.dynPass
  extract_lets +onlyGivenNames y1
  extract_lets +onlyGivenNames y2
  refine keeps_ite ?_ ?_
  · apply State.setOcuPort_keeps
    exact h
  · refine keeps_ite ?_ ?_
    · apply State.sendFrame_keeps
      apply State.setOcuPort_keeps
      exact h
    · apply State.setOcuPort_keeps
      exact h

theorem State.dynRelay_keeps {s : State} (h : Keeps s₀ s) (x2) (x3) : Keeps s₀ (State.dynRelay s x2 x3) := by
  unfold State.dynRelay
  extract_lets +onlyGivenNames y1
  refine keeps_ite ?_ ?_
  · apply State.ocuEvt_keeps
    apply State.inc_keeps
    exact h
  · apply State.setOcu_keeps
    exact h

theorem State.rraWord_keeps {s : State} (h : Keeps s₀ s) (x2) (x3) (x4) : Keeps s₀ (State.rraWord s x2 x3 x4).1 := by
  unfold State.rraWord
  split
  · dsimp -zeta only
    apply State.decodeError_keeps
    exact h
  · extract_lets +onlyGivenNames y1
    have h2 : Keeps s₀ y1 := by
      dsimp -zeta only [y1]
      refine keeps_ite ?_ ?_
      · apply ownRead_keeps
        exact h
      · apply ownWrite_keeps
        exact h
    split
    · dsimp -zeta only
      exact h2
    · dsimp -zeta only
      exact h2

theorem State.rraServe_keeps {s : State} (h : Keeps s₀ s) (x2) (x3) (x4) : Keeps s₀ (State.rraServe s x2 x3 x4).1 := by
  induction x4 generalizing s x2 x3
  · unfold State.rraServe
    dsimp -zeta only
    exact h
  · rename_i x0 l0 ih
    unfold State.rraServe
    extract_lets +onlyGivenNames y1
    extract_lets +onlyGivenNames y2
    dsimp -zeta only
    dsimp -zeta only [y2]
    apply ih
    dsimp -zeta only [y1]
    apply State.rraWord_keeps
    exact h

theorem State.rraServed_keeps {s : State} (h : Keeps s₀ s) (x2) (x3) : Keeps s₀ (State.rraServed s x2 x3) := by
  unfold State.rraServed
  extract_lets +onlyGivenNames y1
  extract_lets +onlyGivenNames y2
  extract_lets +onlyGivenNames y3
  extract_lets +onlyGivenNames y4
  extract_lets +onlyGivenNames y5
  extract_lets +onlyGivenNames y6
  split
  · extract_lets +onlyGivenNames y7
    extract_lets +onlyGivenNames y8
    have h9 : Keeps s₀ y8 := by
      dsimp -zeta only [y8]
      apply State.setOcu_keeps
      exact h
    apply State.queueOwn_keeps
    apply State.inc_keeps
    exact h9
  · refine keeps_ite ?_ ?_
    · exact h
    · extract_lets +onlyGivenNames y10
      extract_lets +onlyGivenNames y11
      have h12 : Keeps s₀ y11 := by
        dsimp -zeta only [y11]
        dsimp -zeta only [y10]
        apply State.rraServe_keeps
        exact h
      extract_lets +onlyGivenNames y13
      extract_lets +onlyGivenNames y14
      extract_lets +onlyGivenNames y15
      extract_lets +onlyGivenNames y16
      have h17 : Keeps s₀ y16 := by
        dsimp -zeta only [y16]
        apply State.setOcu_keeps
        exact h12
      apply State.queueOwn_keeps
      apply State.inc_keeps
      exact h17

theorem State.rraAnswered_keeps {s : State} (h : Keeps s₀ s) (x2) (x3) : Keeps s₀ (State.rraAnswered s x2 x3) := by
  unfold State.rraAnswered
  split
  · exact h
  · extract_lets +onlyGivenNames y1
    extract_lets +onlyGivenNames y2
    extract_lets +onlyGivenNames y3
    have h4 : Keeps s₀ y3 := by
      dsimp -zeta only [y3]
      refine keeps_ite ?_ ?_
      · exact h
      · apply State.setReg_keeps
        apply State.addSat_keeps
        exact h
    apply State.rraFinish_keeps
    exact h4

theorem rraTimeout_keeps {s : State} (x1) (x2) (x3) (h : Keeps s₀ s) : Keeps s₀ (rraTimeout x1 x2 x3 s) := by
  unfold rraTimeout
  apply State.ringEvent_keeps
  · exact h
  · intro s1
    intro h2
    split
    · exact h2
    · apply State.advancePs_keeps
      · exact h2
      · intro s3
        intro h4
        extract_lets +onlyGivenNames y5
        extract_lets +onlyGivenNames y6
        refine keeps_ite ?_ ?_
        · extract_lets +onlyGivenNames y7
          extract_lets +onlyGivenNames y8
          have h9 : Keeps s₀ y8 := by
            dsimp -zeta only [y8]
            apply State.setOcu_keeps
            exact h4
          refine keeps_ite ?_ ?_
          · exact h9
          · apply State.queueOwn_keeps
            exact h9
        · extract_lets +onlyGivenNames y10
          have h11 : Keeps s₀ y10 := by
            dsimp -zeta only [y10]
            apply State.setOcu_keeps
            exact h4
          extract_lets +onlyGivenNames y12
          have h13 : Keeps s₀ y12 := by
            dsimp -zeta only [y12]
            apply State.setReg_keeps
            apply State.inc_keeps
            exact h11
          apply State.rraFinish_keeps
          apply State.ocuEvt_keeps
          exact h13

theorem execRraTimeout_keeps {s t : State} (x1) (x2) (x3) (e : (execRraTimeout x1 x2 x3 s) = .next t) : Keeps s t := by
  unfold execRraTimeout at e
  refine keeps_goesTo e ?_
  have h := keeps_refl s
  clear e
  apply rraTimeout_keeps
  exact h

theorem remoteWindowAccess_keeps {s : State} (x1) (x2) (x3) (x4) (x5) (h : Keeps s₀ s) : Keeps s₀ (remoteWindowAccess x1 x2 x3 x4 x5 s) := by
  unfold remoteWindowAccess
  extract_lets +onlyGivenNames y1
  extract_lets +onlyGivenNames y2
  extract_lets +onlyGivenNames y3
  refine keeps_ite ?_ ?_
  · exact h
  · refine keeps_ite ?_ ?_
    · refine keeps_foldl ?_ ?_
      · exact h
      · intro s4
        intro x5
        intro h6
        apply State.ownWindow_keeps
        · exact h6
        · intro x7
          intro s8
          intro h9
          refine keeps_ite ?_ ?_
          · apply ownRead_keeps
            exact h9
          · apply ownWrite_keeps
            exact h9
    · apply State.remoteAccess_keeps
      exact h

theorem execRemoteWindowAccess_keeps {s t : State} (x1) (x2) (x3) (x4) (x5) (e : (execRemoteWindowAccess x1 x2 x3 x4 x5 s) = .next t) : Keeps s t := by
  unfold execRemoteWindowAccess at e
  refine keeps_goesTo e ?_
  have h := keeps_refl s
  clear e
  apply State.hostMay_keeps
  · exact h
  · apply remoteWindowAccess_keeps
    exact h

theorem bar4ReadTimeout_keeps {s : State} (h : Keeps s₀ s) : Keeps s₀ (bar4ReadTimeout s) := by
  unfold bar4ReadTimeout
  split
  · exact h
  · split
    apply State.advancePs_keeps
    · exact h
    · intro s1
      intro h2
      extract_lets +onlyGivenNames y3
      extract_lets +onlyGivenNames y4
      extract_lets +onlyGivenNames y5
      have h6 : Keeps s₀ y5 := by
        dsimp -zeta only [y5]
        apply State.setOcu_keeps
        exact h2
      apply State.rraAnswer_keeps
      exact h6

theorem execBar4ReadTimeout_keeps {s t : State} (e : (execBar4ReadTimeout s) = .next t) : Keeps s t := by
  unfold execBar4ReadTimeout at e
  refine keeps_goesTo e ?_
  have h := keeps_refl s
  clear e
  apply State.alive_keeps
  · exact h
  · apply bar4ReadTimeout_keeps
    exact h

theorem State.mbStore_keeps {s : State} (h : Keeps s₀ s) (x2) (x3) (x4) : Keeps s₀ (State.mbStore s x2 x3 x4) := by
  unfold State.mbStore
  extract_lets +onlyGivenNames y1
  have h2 : Keeps s₀ y1 := by
    dsimp -zeta only [y1]
    refine keeps_foldl ?_ ?_
    · exact h
    · intro s3
      intro x4
      intro h5
      apply State.setReg_keeps
      exact h5
  apply State.ocuEvt_keeps
  apply State.setReg_keeps
  exact h2

theorem State.mbArrives_keeps {s : State} (h : Keeps s₀ s) (x2) (x3) : Keeps s₀ (State.mbArrives s x2 x3) := by
  unfold State.mbArrives
  extract_lets +onlyGivenNames y1
  extract_lets +onlyGivenNames y2
  extract_lets +onlyGivenNames y3
  refine keeps_ite ?_ ?_
  · dsimp -zeta only [y3]
    apply State.queueOwn_keeps
    exact h
  · dsimp -zeta only [y3]
    apply State.queueOwn_keeps
    apply State.mbStore_keeps
    exact h

theorem State.mbBroadcast_keeps {s : State} (h : Keeps s₀ s) (x2) (x3) : Keeps s₀ (State.mbBroadcast s x2 x3) := by
  unfold State.mbBroadcast
  extract_lets +onlyGivenNames y1
  refine keeps_ite ?_ ?_
  · apply State.ocuEvt_keeps
    apply State.inc_keeps
    exact h
  · apply State.mbStore_keeps
    exact h

theorem State.mbAnswered_keeps {s : State} (h : Keeps s₀ s) (x2) (x3) : Keeps s₀ (State.mbAnswered s x2 x3) := by
  unfold State.mbAnswered
  split
  · refine keeps_ite ?_ ?_
    · apply State.mbEnd_keeps
      exact h
    · exact h
  · exact h

theorem mboxTimeout_keeps {s : State} (x1) (h : Keeps s₀ s) : Keeps s₀ (mboxTimeout x1 s) := by
  unfold mboxTimeout
  apply State.ringEvent_keeps
  · exact h
  · intro s1
    intro h2
    split
    · apply State.advancePs_keeps
      · exact h2
      · intro s3
        intro h4
        apply State.mbEnd_keeps
        exact h4
    · exact h2

theorem execMboxTimeout_keeps {s t : State} (x1) (e : (execMboxTimeout x1 s) = .next t) : Keeps s t := by
  unfold execMboxTimeout at e
  refine keeps_goesTo e ?_
  have h := keeps_refl s
  clear e
  apply mboxTimeout_keeps
  exact h

theorem State.bulkArrives_keeps {s : State} (h : Keeps s₀ s) (x2) (x3) : Keeps s₀ (State.bulkArrives s x2 x3) := by
  unfold State.bulkArrives
  extract_lets +onlyGivenNames y1
  extract_lets +onlyGivenNames y2
  extract_lets +onlyGivenNames y3
  extract_lets +onlyGivenNames y4
  extract_lets +onlyGivenNames y5
  refine keeps_ite ?_ ?_
  · dsimp -zeta only [y5]
    apply State.queueOwn_keeps
    exact h
  · extract_lets +onlyGivenNames y6
    have h7 : Keeps s₀ y6 := by
      dsimp -zeta only [y6]
      refine keeps_ite ?_ ?_
      · apply State.setReg_keeps
        exact h
      · exact h
    refine keeps_ite ?_ ?_
    · dsimp -zeta only [y5]
      apply State.queueOwn_keeps
      exact h7
    · refine keeps_ite ?_ ?_
      · dsimp -zeta only [y5]
        apply State.queueOwn_keeps
        exact h7
      · extract_lets +onlyGivenNames y8
        have h9 : Keeps s₀ y8 := by
          dsimp -zeta only [y8]
          apply State.dramPut_keeps
          exact h7
        extract_lets +onlyGivenNames y10
        have h11 : Keeps s₀ y10 := by
          dsimp -zeta only [y10]
          apply State.setReg_keeps
          exact h9
        extract_lets +onlyGivenNames y12
        extract_lets +onlyGivenNames y13
        extract_lets +onlyGivenNames y14
        extract_lets +onlyGivenNames y15
        have h16 : Keeps s₀ y15 := by
          dsimp -zeta only [y15]
          apply State.setOcu_keeps
          exact h11
        refine keeps_ite ?_ ?_
        · dsimp -zeta only [y5]
          apply State.queueOwn_keeps
          exact h16
        · exact h16

theorem State.bulkAnswered_keeps {s : State} (h : Keeps s₀ s) (x2) (x3) : Keeps s₀ (State.bulkAnswered s x2 x3) := by
  unfold State.bulkAnswered
  split
  · exact h
  · extract_lets +onlyGivenNames y1
    extract_lets +onlyGivenNames y2
    refine keeps_ite ?_ ?_
    · exact h
    · refine keeps_ite ?_ ?_
      · apply State.bulkEnd_keeps
        exact h
      · refine keeps_ite ?_ ?_
        · extract_lets +onlyGivenNames y3
          extract_lets +onlyGivenNames y4
          have h5 : Keeps s₀ y4 := by
            dsimp -zeta only [y4]
            apply State.setOcu_keeps
            exact h
          extract_lets +onlyGivenNames y6
          have h7 : Keeps s₀ y6 := by
            dsimp -zeta only [y6]
            apply State.setReg_keeps
            exact h5
          refine keeps_ite ?_ ?_
          · apply State.bulkEnd_keeps
            exact h7
          · exact h7
        · exact h

theorem bulkTimeout_keeps {s : State} (x1) (h : Keeps s₀ s) : Keeps s₀ (bulkTimeout x1 s) := by
  unfold bulkTimeout
  apply State.ringEvent_keeps
  · exact h
  · intro s1
    intro h2
    split
    · exact h2
    · apply State.advancePs_keeps
      · exact h2
      · intro s3
        intro h4
        refine keeps_ite ?_ ?_
        · apply State.bulkEnd_keeps
          exact h4
        · apply State.setOcu_keeps
          exact h4

theorem execBulkTimeout_keeps {s t : State} (x1) (e : (execBulkTimeout x1 s) = .next t) : Keeps s t := by
  unfold execBulkTimeout at e
  refine keeps_goesTo e ?_
  have h := keeps_refl s
  clear e
  apply bulkTimeout_keeps
  exact h

theorem State.dynForMe_keeps {s : State} (h : Keeps s₀ s) (x2) (x3) : Keeps s₀ (State.dynForMe s x2 x3) := by
  unfold State.dynForMe
  extract_lets +onlyGivenNames y1
  refine keeps_ite ?_ ?_
  · apply State.rraServed_keeps
    exact h
  · refine keeps_ite ?_ ?_
    · exact h
    · clear_value y1
      split
      · apply State.rraAnswered_keeps
        exact h
      · apply State.mbArrives_keeps
        exact h
      · apply State.mbAnswered_keeps
        exact h
      · apply State.bulkArrives_keeps
        exact h
      · apply State.bulkAnswered_keeps
        exact h
      · exact h

theorem State.dynGood_keeps {s : State} (h : Keeps s₀ s) (x2) (x3) (x4) : Keeps s₀ (State.dynGood s x2 x3 x4) := by
  unfold State.dynGood
  extract_lets +onlyGivenNames y1
  extract_lets +onlyGivenNames y2
  refine keeps_ite ?_ ?_
  · refine keeps_ite ?_ ?_
    · split
      · refine keeps_ite ?_ ?_
        · apply State.mbEnd_keeps
          exact h
        · exact h
      · exact h
    · apply State.ocuEvt_keeps
      apply State.inc_keeps
      exact h
  · refine keeps_ite ?_ ?_
    · extract_lets +onlyGivenNames y3
      have h4 : Keeps s₀ y3 := by
        dsimp -zeta only [y3]
        apply State.dynPass_keeps
        exact h
      refine keeps_ite ?_ ?_
      · apply State.mbBroadcast_keeps
        exact h4
      · exact h4
    · refine keeps_ite ?_ ?_
      · apply State.dynForMe_keeps
        exact h
      · refine keeps_ite ?_ ?_
        · apply State.dynRelay_keeps
          exact h
        · apply State.dynPass_keeps
          exact h

theorem dynReceived_keeps {s : State} (x1) (x2) (x3) (x4) (x5) (h : Keeps s₀ s) : Keeps s₀ (dynReceived x1 x2 x3 x4 x5 s) := by
  unfold dynReceived
  apply State.ringEvent_keeps
  · exact h
  · intro s1
    intro h2
    extract_lets +onlyGivenNames y3
    refine keeps_ite ?_ ?_
    · exact h2
    · extract_lets +onlyGivenNames y4
      extract_lets +onlyGivenNames y5
      have h6 : Keeps s₀ y5 := by
        dsimp -zeta only [y5]
        apply State.countFrame_keeps
        exact h2
      clear_value y4
      split
      · apply State.dynGood_keeps
        exact h6
      · apply State.dynPass_keeps
        exact h6
      · apply State.dynPass_keeps
        exact h6

theorem execDynamicFrameReceived_keeps {s t : State} (x1) (x2) (x3) (x4) (e : (execDynamicFrameReceived x1 x2 x3 x4 s) = .next t) : Keeps s t := by
  unfold execDynamicFrameReceived at e
  refine keeps_goesTo e ?_
  have h := keeps_refl s
  clear e
  apply dynReceived_keeps
  exact h

theorem execRraReq_keeps {s t : State} (x1) (x2) (x3) (x4) (e : (execRraReq x1 x2 x3 x4 s) = .next t) : Keeps s t := by
  unfold execRraReq at e
  refine keeps_goesTo e ?_
  have h := keeps_refl s
  clear e
  apply dynReceived_keeps
  exact h

theorem execRraRsp_keeps {s t : State} (x1) (x2) (x3) (x4) (e : (execRraRsp x1 x2 x3 x4 s) = .next t) : Keeps s t := by
  unfold execRraRsp at e
  refine keeps_goesTo e ?_
  have h := keeps_refl s
  clear e
  apply dynReceived_keeps
  exact h

theorem execMbox_keeps {s t : State} (x1) (x2) (x3) (x4) (e : (execMbox x1 x2 x3 x4 s) = .next t) : Keeps s t := by
  unfold execMbox at e
  refine keeps_goesTo e ?_
  have h := keeps_refl s
  clear e
  apply dynReceived_keeps
  exact h

theorem execMboxAck_keeps {s t : State} (x1) (x2) (x3) (x4) (e : (execMboxAck x1 x2 x3 x4 s) = .next t) : Keeps s t := by
  unfold execMboxAck at e
  refine keeps_goesTo e ?_
  have h := keeps_refl s
  clear e
  apply dynReceived_keeps
  exact h

theorem execBulkData_keeps {s t : State} (x1) (x2) (x3) (x4) (e : (execBulkData x1 x2 x3 x4 s) = .next t) : Keeps s t := by
  unfold execBulkData at e
  refine keeps_goesTo e ?_
  have h := keeps_refl s
  clear e
  apply dynReceived_keeps
  exact h

theorem execBulkAck_keeps {s t : State} (x1) (x2) (x3) (x4) (e : (execBulkAck x1 x2 x3 x4 s) = .next t) : Keeps s t := by
  unfold execBulkAck at e
  refine keeps_goesTo e ?_
  have h := keeps_refl s
  clear e
  apply dynReceived_keeps
  exact h

theorem State.dynSend_keeps {s : State} (h : Keeps s₀ s) (x2) (x3) (x4) : Keeps s₀ (State.dynSend s x2 x3 x4) := by
  unfold State.dynSend
  apply State.sendFrame_keeps
  apply State.setOcuPort_keeps
  exact h

theorem State.dynSendOwn_keeps {s : State} (h : Keeps s₀ s) (x2) (x3) (x4) : Keeps s₀ (State.dynSendOwn s x2 x3 x4) := by
  unfold State.dynSendOwn
  extract_lets +onlyGivenNames y1
  extract_lets +onlyGivenNames y2
  have h3 : Keeps s₀ y2 := by
    dsimp -zeta only [y2]
    apply State.setOcuPort_keeps
    exact h
  extract_lets +onlyGivenNames y4
  have h5 : Keeps s₀ y4 := by
    dsimp -zeta only [y4]
    refine keeps_ite ?_ ?_
    · apply State.inc_keeps
      exact h3
    · exact h3
  apply State.dynSend_keeps
  exact h5

theorem State.dynBoundary_keeps {s : State} (h : Keeps s₀ s) (x2) (x3) (x4) : Keeps s₀ (State.dynBoundary s x2 x3 x4) := by
  unfold State.dynBoundary
  extract_lets +onlyGivenNames y1
  extract_lets +onlyGivenNames y2
  split
  · refine keeps_ite ?_ ?_
    · exact h
    · refine keeps_ite ?_ ?_
      · apply State.dynSend_keeps
        apply State.setOcuPort_keeps
        exact h
      · refine keeps_ite ?_ ?_
        · exact h
        · apply State.ocuEvt_keeps
          apply State.inc_keeps
          apply State.setOcuPort_keeps
          exact h
  · extract_lets +onlyGivenNames y3
    split
    · refine keeps_ite ?_ ?_
      · apply State.dynSend_keeps
        apply State.setOcu_keeps
        exact h
      · exact h
    · refine keeps_ite ?_ ?_
      · exact h
      · split
        · refine keeps_ite ?_ ?_
          · apply State.dynSendOwn_keeps
            apply State.setOcu_keeps
            exact h
          · exact h
        · refine keeps_ite ?_ ?_
          · exact h
          · split
            · refine keeps_ite ?_ ?_
              · apply State.dynSendOwn_keeps
                apply State.setOcu_keeps
                exact h
              · exact h
            · exact h

theorem dynFrameSend_keeps {s : State} (x1) (x2) (x3) (x4) (x5) (h : Keeps s₀ s) : Keeps s₀ (dynFrameSend x1 x2 x3 x4 x5 s) := by
  unfold dynFrameSend
  apply State.ringEvent_keeps
  · exact h
  · intro s1
    intro h2
    extract_lets +onlyGivenNames y3
    extract_lets +onlyGivenNames y4
    refine keeps_ite ?_ ?_
    · exact h2
    · split
      · apply State.advancePs_keeps
        · exact h2
        · intro s5
          intro h6
          dsimp -zeta only [y3]
          refine keeps_ite ?_ ?_
          · exact h6
          · apply State.dynBoundary_keeps
            exact h6
      · dsimp -zeta only [y3]
        refine keeps_ite ?_ ?_
        · exact h2
        · apply State.dynBoundary_keeps
          exact h2

theorem execDynFrameSend_keeps {s t : State} (x1) (x2) (x3) (x4) (x5) (e : (execDynFrameSend x1 x2 x3 x4 x5 s) = .next t) : Keeps s t := by
  unfold execDynFrameSend at e
  refine keeps_goesTo e ?_
  have h := keeps_refl s
  clear e
  apply dynFrameSend_keeps
  exact h

theorem State.blockDo_keeps {s : State} {f3} (h : Keeps s₀ s) (x2) (g3 : ∀ a1, Keeps s₀ a1 → Keeps s₀ (f3 a1)) : Keeps s₀ (State.blockDo s x2 f3) := by
  unfold State.blockDo
  refine keeps_ite ?_ ?_
  · exact h
  · apply g3
    exact h

theorem State.blockStatesAtT0_keeps {s : State} (h : Keeps s₀ s) : Keeps s₀ (State.blockStatesAtT0 s) := by
  unfold State.blockStatesAtT0
  extract_lets +onlyGivenNames y1
  refine keeps_foldl ?_ ?_
  · exact h
  · intro s2
    intro x3
    intro h4
    split
    · apply State.publish_keeps
      exact h4
    · exact h4

theorem State.slowAtT0_keeps {s : State} (h : Keeps s₀ s) : Keeps s₀ (State.slowAtT0 s) := by
  unfold State.slowAtT0
  extract_lets +onlyGivenNames y1
  extract_lets +onlyGivenNames y2
  refine keeps_ite ?_ ?_
  · apply State.blockItem_keeps
    exact h
  · exact h

theorem State.beginFc_keeps {s : State} (h : Keeps s₀ s) : Keeps s₀ (State.beginFc s) := by
  unfold State.beginFc
  extract_lets +onlyGivenNames y1
  have h2 : Keeps s₀ y1 := by
    dsimp -zeta only [y1]
    apply State.advanceTo_keeps
    exact h
  extract_lets +onlyGivenNames y3
  extract_lets +onlyGivenNames y4
  have h5 : Keeps s₀ y4 := by
    dsimp -zeta only [y4]
    apply State.setRegs_keeps
    exact h2
  extract_lets +onlyGivenNames y6
  extract_lets +onlyGivenNames y7
  extract_lets +onlyGivenNames y8
  have h9 : Keeps s₀ y8 := by
    dsimp -zeta only [y8]
    refine keeps_mk (s := y4) ?_ rfl
    exact h5
  extract_lets +onlyGivenNames y10
  extract_lets +onlyGivenNames y11
  extract_lets +onlyGivenNames y12
  extract_lets +onlyGivenNames y13
  extract_lets +onlyGivenNames y14
  have h15 : Keeps s₀ y14 := by
    dsimp -zeta only [y14]
    refine keeps_mk (s := y8) ?_ rfl
    exact h9
  refine keeps_ite ?_ ?_
  · apply State.inc_keeps
    exact h15
  · exact h15

theorem State.swapsAtT0_keeps {s : State} (h : Keeps s₀ s) : Keeps s₀ (State.swapsAtT0 s) := by
  unfold State.swapsAtT0
  extract_lets +onlyGivenNames y1
  have h2 : Keeps s₀ y1 := by
    dsimp -zeta only [y1]
    apply State.blockDo_keeps
    · exact h
    · intro s3
      intro h4
      apply State.sigSwapAtT0_keeps
      exact h4
  extract_lets +onlyGivenNames y5
  have h6 : Keeps s₀ y5 := by
    dsimp -zeta only [y5]
    apply State.cycSwapAtT0_keeps
    exact h2
  extract_lets +onlyGivenNames y7
  have h8 : Keeps s₀ y7 := by
    dsimp -zeta only [y7]
    refine keeps_foldl ?_ ?_
    · exact h6
    · intro s9
      intro x10
      intro h11
      apply State.axcSwapAtT0_keeps
      exact h11
  extract_lets +onlyGivenNames y12
  have h13 : Keeps s₀ y12 := by
    dsimp -zeta only [y12]
    apply State.blockDo_keeps
    · exact h8
    · intro s14
      intro h15
      apply State.ilkSwapAtT0_keeps
      exact h15
  extract_lets +onlyGivenNames y16
  have h17 : Keeps s₀ y16 := by
    dsimp -zeta only [y16]
    apply State.blockDo_keeps
    · exact h13
    · intro s18
      intro h19
      apply State.adcSwapAtT0_keeps
      exact h19
  extract_lets +onlyGivenNames y20
  have h21 : Keeps s₀ y20 := by
    dsimp -zeta only [y20]
    apply State.blockDo_keeps
    · exact h17
    · intro s22
      intro h23
      apply State.sdmSwapAtT0_keeps
      exact h23
  apply State.encConfigAtT0_keeps
  exact h21

theorem State.applyAtT0_keeps {s : State} (h : Keeps s₀ s) : Keeps s₀ (State.applyAtT0 s) := by
  unfold State.applyAtT0
  extract_lets +onlyGivenNames y1
  have h2 : Keeps s₀ y1 := by
    dsimp -zeta only [y1]
    apply State.blockDo_keeps
    · exact h
    · intro s3
      intro h4
      apply State.dacSync_keeps
      exact h4
  extract_lets +onlyGivenNames y5
  have h6 : Keeps s₀ y5 := by
    dsimp -zeta only [y5]
    refine keeps_foldl ?_ ?_
    · exact h2
    · intro s7
      intro x8
      intro h9
      apply State.axcAtT0_keeps
      exact h9
  apply State.blockDo_keeps
  · exact h6
  · intro s10
    intro h11
    apply State.fioAtT0_keeps
    exact h11

theorem State.sampleAtT0_keeps {s : State} (h : Keeps s₀ s) (x2) (x3) : Keeps s₀ (State.sampleAtT0 s x2 x3) := by
  unfold State.sampleAtT0
  extract_lets +onlyGivenNames y1
  have h2 : Keeps s₀ y1 := by
    dsimp -zeta only [y1]
    refine keeps_foldl ?_ ?_
    · exact h
    · intro s3
      intro x4
      intro h5
      apply State.encFrameAtT0_keeps
      apply State.encSample_keeps
      exact h5
  extract_lets +onlyGivenNames y6
  have h7 : Keeps s₀ y6 := by
    dsimp -zeta only [y6]
    apply State.blockDo_keeps
    · exact h2
    · intro s8
      intro h9
      refine keeps_foldl ?_ ?_
      · exact h9
      · intro s10
        intro x11
        intro h12
        apply State.sdmCapture_keeps
        exact h12
  apply State.blockDo_keeps
  · exact h7
  · intro s13
    intro h14
    apply State.adcAtT0_keeps
    exact h14

theorem State.linksAtT0_keeps {s : State} (h : Keeps s₀ s) : Keeps s₀ (State.linksAtT0 s) := by
  unfold State.linksAtT0
  extract_lets +onlyGivenNames y1
  have h2 : Keeps s₀ y1 := by
    dsimp -zeta only [y1]
    apply State.tbAtT0_keeps
    exact h
  extract_lets +onlyGivenNames y3
  have h4 : Keeps s₀ y3 := by
    dsimp -zeta only [y3]
    apply State.blockDo_keeps
    · exact h2
    · intro s5
      intro h6
      apply State.ocuAtT0_keeps
      exact h6
  extract_lets +onlyGivenNames y7
  have h8 : Keeps s₀ y7 := by
    dsimp -zeta only [y7]
    apply State.blockDo_keeps
    · exact h4
    · intro s9
      intro h10
      apply State.ocuAtT0_keeps
      exact h10
  apply State.blockDo_keeps
  · exact h8
  · intro s11
    intro h12
    apply State.ethSettle_keeps
    apply State.ethSettle_keeps
    apply State.canAtT0_keeps
    exact h12

theorem State.ceStartAtT0_keeps {s : State} (h : Keeps s₀ s) : Keeps s₀ (State.ceStartAtT0 s) := by
  unfold State.ceStartAtT0
  refine keeps_ite ?_ ?_
  · apply ceStart_keeps
    refine keeps_mk (s := s) ?_ rfl
    exact h
  · exact h

theorem fcStart_keeps {s : State} (x1) (x2) (h : Keeps s₀ s) : Keeps s₀ (fcStart x1 x2 s) := by
  unfold fcStart
  refine keeps_ite ?_ ?_
  · exact h
  · extract_lets +onlyGivenNames y1
    have h2 : Keeps s₀ y1 := by
      dsimp -zeta only [y1]
      apply State.beginFc_keeps
      apply State.hutPrune_keeps
      exact h
    extract_lets +onlyGivenNames y3
    have h4 : Keeps s₀ y3 := by
      dsimp -zeta only [y3]
      apply State.swapsAtT0_keeps
      apply State.fltAtT0_keeps
      exact h2
    extract_lets +onlyGivenNames y5
    have h6 : Keeps s₀ y5 := by
      dsimp -zeta only [y5]
      apply State.blockDo_keeps
      · exact h4
      · intro s7
        intro h8
        apply State.recFrameAtT0_keeps
        exact h8
    extract_lets +onlyGivenNames y9
    have h10 : Keeps s₀ y9 := by
      dsimp -zeta only [y9]
      apply State.blockDo_keeps
      · exact h6
      · intro s11
        intro h12
        refine keeps_foldl ?_ ?_
        · exact h12
        · intro s13
          intro x14
          intro h15
          apply State.seqAtT0_keeps
          exact h15
    extract_lets +onlyGivenNames y16
    have h17 : Keeps s₀ y16 := by
      dsimp -zeta only [y16]
      apply State.blockDo_keeps
      · exact h10
      · intro s18
        intro h19
        apply State.ilkAtT0_keeps
        exact h19
    extract_lets +onlyGivenNames y20
    have h21 : Keeps s₀ y20 := by
      dsimp -zeta only [y20]
      apply State.blockDo_keeps
      · exact h17
      · intro s22
        intro h23
        apply State.signalsAtT0_keeps
        exact h23
    extract_lets +onlyGivenNames y24
    have h25 : Keeps s₀ y24 := by
      dsimp -zeta only [y24]
      apply State.sampleAtT0_keeps
      apply State.applyAtT0_keeps
      exact h21
    extract_lets +onlyGivenNames y26
    have h27 : Keeps s₀ y26 := by
      dsimp -zeta only [y26]
      apply State.ceStartAtT0_keeps
      apply State.blockDo_keeps
      · exact h25
      · intro s28
        intro h29
        apply State.ceAtT0_keeps
        exact h29
    extract_lets +onlyGivenNames y30
    have h31 : Keeps s₀ y30 := by
      dsimp -zeta only [y30]
      apply State.linksAtT0_keeps
      exact h27
    extract_lets +onlyGivenNames y32
    have h33 : Keeps s₀ y32 := by
      dsimp -zeta only [y32]
      apply State.blockStatesAtT0_keeps
      exact h31
    extract_lets +onlyGivenNames y34
    have h35 : Keeps s₀ y34 := by
      dsimp -zeta only [y34]
      apply State.blockDo_keeps
      · exact h33
      · intro s36
        intro h37
        apply State.recAtT0_keeps
        exact h37
    apply State.fltShow_keeps
    apply State.slowAtT0_keeps
    exact h35

theorem execFcStart_keeps {s t : State} (x1) (x2) (e : (execFcStart x1 x2 s) = .next t) : Keeps s t := by
  unfold execFcStart at e
  refine keeps_goesTo e ?_
  have h := keeps_refl s
  clear e
  apply State.alive_keeps
  · exact h
  · apply fcStart_keeps
    exact h

theorem currentTickB_keeps {s : State} (x1) (x2) (h : Keeps s₀ s) : Keeps s₀ (currentTickB x1 x2 s) := by
  unfold currentTickB
  refine keeps_ite ?_ ?_
  · extract_lets +onlyGivenNames y1
    have h2 : Keeps s₀ y1 := by
      dsimp -zeta only [y1]
      apply State.atOffset_keeps
      exact h
    extract_lets +onlyGivenNames y3
    have h4 : Keeps s₀ y3 := by
      dsimp -zeta only [y3]
      apply State.blockDo_keeps
      · exact h2
      · intro s5
        intro h6
        apply State.dacSync_keeps
        exact h6
    extract_lets +onlyGivenNames y7
    have h8 : Keeps s₀ y7 := by
      dsimp -zeta only [y7]
      refine keeps_foldl ?_ ?_
      · exact h4
      · intro s9
        intro x10
        intro h11
        apply State.encSample_keeps
        exact h11
    apply State.blockDo_keeps
    · exact h8
    · intro s12
      intro h13
      refine keeps_foldl ?_ ?_
      · exact h13
      · intro s14
        intro x15
        intro h16
        apply State.sdmCapture_keeps
        exact h16
  · exact h

theorem execCurrentTickB_keeps {s t : State} (x1) (x2) (e : (execCurrentTickB x1 x2 s) = .next t) : Keeps s t := by
  unfold execCurrentTickB at e
  refine keeps_goesTo e ?_
  have h := keeps_refl s
  clear e
  apply State.alive_keeps
  · exact h
  · apply currentTickB_keeps
    exact h

theorem execPorstNAsserted_keeps {s t : State}  (e : execPorstNAsserted  s = .next t) : Keeps s t := keeps_next e (State.coldReset_keeps (keeps_refl s) _)

theorem execBrownOutReset_keeps {s t : State}  (e : execBrownOutReset  s = .next t) : Keeps s t := keeps_next e (State.coldReset_keeps (keeps_refl s) _)

theorem State.bivLost_keeps {s : State} (h : Keeps s₀ s) : Keeps s₀ (State.bivLost s) := by
  unfold State.bivLost
  extract_lets +onlyGivenNames y1
  have h2 : Keeps s₀ y1 := by
    dsimp -zeta only [y1]
    apply State.setRegs_keeps
    exact h
  apply State.bivEvt_keeps
  apply State.orReg_keeps
  apply State.setCalendar_keeps
  exact h2

theorem State.bivCold_keeps {s : State} (h : Keeps s₀ s) (x2) (x3) : Keeps s₀ (State.bivCold s x2 x3) := by
  unfold State.bivCold
  extract_lets +onlyGivenNames y1
  have h2 : Keeps s₀ y1 := by
    dsimp -zeta only [y1]
    refine keeps_ite ?_ ?_
    · apply State.bivLost_keeps
      exact h
    · exact h
  extract_lets +onlyGivenNames y3
  have h4 : Keeps s₀ y3 := by
    dsimp -zeta only [y3]
    apply State.setRegs_keeps
    exact h2
  extract_lets +onlyGivenNames y5
  extract_lets +onlyGivenNames y6
  have h7 : Keeps s₀ y6 := by
    dsimp -zeta only [y6]
    refine keeps_mk (s := y3) ?_ rfl
    exact h4
  extract_lets +onlyGivenNames y8
  have h9 : Keeps s₀ y8 := by
    dsimp -zeta only [y8]
    refine keeps_ite ?_ ?_
    · exact h7
    · apply State.bivXtalFail_keeps
      exact h7
  extract_lets +onlyGivenNames y10
  have h11 : Keeps s₀ y10 := by
    dsimp -zeta only [y10]
    apply State.hutRequest_keeps
    exact h9
  refine keeps_ite ?_ ?_
  · apply State.setReg_keeps
    apply State.hutRequest_keeps
    exact h11
  · exact h11

theorem State.ropeCold_keeps {s : State} (h : Keeps s₀ s) (x2) : Keeps s₀ (State.ropeCold s x2) := by
  unfold State.ropeCold
  extract_lets +onlyGivenNames y1
  refine keeps_ite ?_ ?_
  · extract_lets +onlyGivenNames y2
    have h3 : Keeps s₀ y2 := by
      dsimp -zeta only [y2]
      refine keeps_foldl ?_ ?_
      · exact h
      · intro s4
        intro x5
        intro h6
        apply State.pairFinding_keeps
        exact h6
    apply State.setRope_keeps
    exact h3
  · extract_lets +onlyGivenNames y7
    have h8 : Keeps s₀ y7 := by
      dsimp -zeta only [y7]
      refine keeps_foldl ?_ ?_
      · exact h
      · intro s9
        intro x10
        intro h11
        apply State.lastPairFinding_keeps
        exact h11
    apply State.setRope_keeps
    refine keeps_mk (s := y7) ?_ rfl
    exact h8

theorem State.selfTests_keeps {s : State} (h : Keeps s₀ s) (x2) : Keeps s₀ (State.selfTests s x2) := by
  unfold State.selfTests
  extract_lets +onlyGivenNames y1
  have h2 : Keeps s₀ y1 := by
    dsimp -zeta only [y1]
    refine keeps_foldl ?_ ?_
    · exact h
    · intro s3
      intro x4
      intro h5
      apply State.testRan_keeps
      exact h5
  extract_lets +onlyGivenNames y6
  have h7 : Keeps s₀ y6 := by
    dsimp -zeta only [y6]
    apply State.ropeCold_keeps
    exact h2
  extract_lets +onlyGivenNames y8
  have h9 : Keeps s₀ y8 := by
    dsimp -zeta only [y8]
    refine keeps_foldl ?_ ?_
    · exact h7
    · intro s10
      intro x11
      intro h12
      refine keeps_ite ?_ ?_
      · apply State.testFailed_keeps
        exact h12
      · exact h12
  extract_lets +onlyGivenNames y13
  have h14 : Keeps s₀ y13 := by
    dsimp -zeta only [y13]
    refine keeps_foldl ?_ ?_
    · exact h9
    · intro s15
      intro x16
      intro h17
      refine keeps_ite ?_ ?_
      · apply State.testFailed_keeps
        exact h17
      · exact h17
  extract_lets +onlyGivenNames y18
  have h19 : Keeps s₀ y18 := by
    dsimp -zeta only [y18]
    refine keeps_foldl ?_ ?_
    · exact h14
    · intro s20
      intro x21
      intro h22
      refine keeps_ite ?_ ?_
      · apply State.testFailed_keeps
        exact h22
      · exact h22
  extract_lets +onlyGivenNames y23
  extract_lets +onlyGivenNames y24
  extract_lets +onlyGivenNames y25
  have h26 : Keeps s₀ y25 := by
    dsimp -zeta only [y25]
    refine keeps_mk (s := y18) ?_ rfl
    exact h19
  refine keeps_foldl ?_ ?_
  · exact h26
  · intro s27
    intro x28
    intro h29
    refine keeps_ite ?_ ?_
    · apply State.faultEvent_keeps
      exact h29
    · exact h29

theorem State.startIslands_keeps {s : State} (h : Keeps s₀ s) (x2) : Keeps s₀ (State.startIslands s x2) := by
  unfold State.startIslands
  extract_lets +onlyGivenNames y1
  extract_lets +onlyGivenNames y2
  have h3 : Keeps s₀ y2 := by
    dsimp -zeta only [y2]
    apply State.setRegs_keeps
    exact h
  extract_lets +onlyGivenNames y4
  extract_lets +onlyGivenNames y5
  have h6 : Keeps s₀ y5 := by
    dsimp -zeta only [y5]
    refine keeps_mk (s := y2) ?_ rfl
    exact h3
  extract_lets +onlyGivenNames y7
  have h8 : Keeps s₀ y7 := by
    dsimp -zeta only [y7]
    apply State.adcSync_keeps
    apply State.reapply_keeps
    apply State.ceLanesInit_keeps
    apply State.hutLoad_keeps
    exact h6
  refine keeps_foldl ?_ ?_
  · exact h8
  · intro s9
    intro x10
    intro h11
    refine keeps_ite ?_ ?_
    · apply State.islandFail_keeps
      apply State.faultEvent_keeps
      exact h11
    · exact h11

theorem applyEntry_keeps {s t : State} (x1) (x2) (x3) (h : Keeps s₀ s) (e : applyEntry x1 x2 x3 s = some t) : Keeps s₀ t := by
  have hr : ∀ a, Keeps s₀ (ownRead x1 a 4 s) := fun a => ownRead_keeps _ _ _ h
  have hw : ∀ a w, Keeps s₀ (ownWrite x1 a 4 w s) := fun a w => ownWrite_keeps _ _ _ _ h
  have hrw : ∀ a b w, Keeps s₀ (ownWrite x1 b 4 w (ownRead x1 a 4 s)) := fun a b w => ownWrite_keeps _ _ _ _ (hr a)
  have some_ite : ∀ {c : Prop} [Decidable c] {a b : Option State}, (if c then a else b) = some t →
      a = some t ∨ b = some t := by
    intro c _ a b h
    split at h
    · exact .inl h
    · exact .inr h
  have no : ¬ (none : Option State) = some t := by simp
  have yes : ∀ {x}, Keeps s₀ x → some x = some t → Keeps s₀ t := fun hx hs => (Option.some.inj hs) ▸ hx
  unfold applyEntry at e
  extract_lets w0 ofs a op acc bad read r1 t1 t2 at e
  rcases some_ite e with e | e
  · exact yes h e
  rcases some_ite e with e | e
  · exact absurd e no
  rcases some_ite e with e | e
  · rcases some_ite e with e | e
    · exact absurd e no
    · exact yes (hr _) e
  rcases some_ite e with e | e
  · rcases some_ite e with e | e
    · exact absurd e no
    · exact yes (hw _ _) e
  rcases some_ite e with e | e
  · exact absurd e no
  rcases some_ite e with e | e
  · exact absurd e no
  · exact yes (hrw _ _ _) e

theorem applyList_keeps {s : State} (x1) (x2) (x3) (h : Keeps s₀ s) : Keeps s₀ (applyList x1 x2 x3 s).1 := by
  induction x3 generalizing s with
  | nil => exact h
  | cons e l ih =>
    unfold applyList
    split
    · rename_i t et
      exact ih (applyEntry_keeps _ _ _ h et)
    · exact h

theorem State.loadBytes_keeps {s : State} (h : Keeps s₀ s) (x2) (x3) : Keeps s₀ (State.loadBytes s x2 x3) := by
  unfold State.loadBytes
  refine keeps_ite ?_ ?_
  · extract_lets +onlyGivenNames y1
    refine keeps_foldl ?_ ?_
    · exact h
    · intro s2
      intro x3
      intro h4
      extract_lets +onlyGivenNames y5
      extract_lets +onlyGivenNames y6
      apply State.ceStore_keeps
      exact h4
  · apply State.memcWritten_keeps
    apply State.setBytes_keeps
    exact h

theorem State.applyRoutes_keeps {s : State} (h : Keeps s₀ s) (x2) : Keeps s₀ (State.applyRoutes s x2).1 := by
  unfold State.applyRoutes
  extract_lets +onlyGivenNames y1
  extract_lets +onlyGivenNames y2
  refine keeps_ite_fst ?_ ?_
  · dsimp -zeta only
    exact h
  · dsimp -zeta only
    refine keeps_foldl ?_ ?_
    · exact h
    · intro s3
      intro x4
      intro h5
      extract_lets +onlyGivenNames y6
      apply State.writeEntry_keeps
      exact h5

theorem State.applySection_keeps {s : State} (h : Keeps s₀ s) (x2) (x3) (x4) : Keeps s₀ (State.applySection s x2 x3 x4).1 := by
  unfold State.applySection
  extract_lets +onlyGivenNames y1
  refine keeps_ite_fst ?_ ?_
  · dsimp -zeta only
    exact h
  · split
    · extract_lets +onlyGivenNames y2
      dsimp -zeta only
      dsimp -zeta only [y2]
      apply State.applyRoutes_keeps
      exact h
    · dsimp -zeta only
      apply State.loadBytes_keeps
      exact h
    · dsimp -zeta only
      refine keeps_mk (s := s) ?_ rfl
      exact h
    · refine keeps_ite_fst ?_ ?_
      · dsimp -zeta only
        exact h
      · extract_lets +onlyGivenNames y3
        dsimp -zeta only
        dsimp -zeta only [y3]
        apply applyList_keeps
        exact h

theorem State.applySections_keeps {s : State} (h : Keeps s₀ s) (x2) (x3) (x4) : Keeps s₀ (State.applySections s x2 x3 x4).1 := by
  induction x4 generalizing s x2 x3
  · unfold State.applySections
    dsimp -zeta only
    exact h
  · rename_i x0 l0 ih
    unfold State.applySections
    extract_lets +onlyGivenNames y1
    refine keeps_ite_fst ?_ ?_
    · apply ih
      dsimp -zeta only [y1]
      apply State.applySection_keeps
      exact h
    · dsimp -zeta only [y1]
      apply State.applySection_keeps
      exact h

theorem State.applySlot_keeps {s : State} (h : Keeps s₀ s) (x2) : Keeps s₀ (State.applySlot s x2).1 := by
  unfold State.applySlot
  extract_lets +onlyGivenNames y1
  refine keeps_ite_fst ?_ ?_
  · dsimp -zeta only
    exact h
  · extract_lets +onlyGivenNames y2
    extract_lets +onlyGivenNames y3
    refine keeps_ite_fst ?_ ?_
    · dsimp -zeta only [y3]
      apply State.applySections_keeps
      exact h
    · dsimp -zeta only
      dsimp -zeta only [y3]
      apply State.applySections_keeps
      exact h

theorem State.gateRoles_keeps {s : State} (h : Keeps s₀ s) : Keeps s₀ (State.gateRoles s) := by
  unfold State.gateRoles
  extract_lets +onlyGivenNames y1
  extract_lets +onlyGivenNames y2
  have h3 : Keeps s₀ y2 := by
    dsimp -zeta only [y2]
    refine keeps_ite ?_ ?_
    · exact h
    · apply State.setRegs_keeps
      exact h
  refine keeps_ite ?_ ?_
  · exact h3
  · apply State.setState_keeps
    exact h3

theorem State.startSafe_keeps {s : State} (h : Keeps s₀ s) (x2) : Keeps s₀ (State.startSafe s x2) := by
  unfold State.startSafe
  extract_lets +onlyGivenNames y1
  have h2 : Keeps s₀ y1 := by
    dsimp -zeta only [y1]
    apply State.safeStart_keeps
    exact h
  extract_lets +onlyGivenNames y3
  extract_lets +onlyGivenNames y4
  have h5 : Keeps s₀ y4 := by
    dsimp -zeta only [y4]
    refine keeps_ite ?_ ?_
    · apply State.safeFault_keeps
      refine keeps_mk (s := y1) ?_ rfl
      exact h2
    · exact h2
  refine keeps_ite ?_ ?_
  · apply State.safeFault_keeps
    refine keeps_mk (s := y4) ?_ rfl
    exact h5
  · exact h5

theorem State.finalSteps_keeps {s : State} (h : Keeps s₀ s) (x2) (x3) (x4) : Keeps s₀ (State.finalSteps s x2 x3 x4) := by
  unfold State.finalSteps
  extract_lets +onlyGivenNames y1
  extract_lets +onlyGivenNames y2
  extract_lets +onlyGivenNames y3
  have h4 : Keeps s₀ y3 := by
    dsimp -zeta only [y3]
    apply State.startSafe_keeps
    apply State.gateRoles_keeps
    exact h
  extract_lets +onlyGivenNames y5
  have h6 : Keeps s₀ y5 := by
    dsimp -zeta only [y5]
    refine keeps_foldl ?_ ?_
    · exact h4
    · intro s7
      intro x8
      intro h9
      refine keeps_ite ?_ ?_
      · apply ocuStart_keeps
        apply ocuLoadSched_keeps
        exact h9
      · exact h9
  extract_lets +onlyGivenNames y10
  have h11 : Keeps s₀ y10 := by
    dsimp -zeta only [y10]
    apply cycStart_keeps
    exact h6
  extract_lets +onlyGivenNames y12
  extract_lets +onlyGivenNames y13
  have h14 : Keeps s₀ y13 := by
    dsimp -zeta only [y13]
    refine keeps_ite ?_ ?_
    · apply ceStart_keeps
      exact h11
    · refine keeps_mk (s := y10) ?_ rfl
      exact h11
  extract_lets +onlyGivenNames y15
  extract_lets +onlyGivenNames y16
  have h17 : Keeps s₀ y16 := by
    dsimp -zeta only [y16]
    apply State.setRegs_keeps
    exact h14
  extract_lets +onlyGivenNames y18
  extract_lets +onlyGivenNames y19
  extract_lets +onlyGivenNames y20
  have h21 : Keeps s₀ y20 := by
    dsimp -zeta only [y20]
    refine keeps_mk (s := y16) ?_ rfl
    exact h17
  extract_lets +onlyGivenNames y22
  have h23 : Keeps s₀ y22 := by
    dsimp -zeta only [y22]
    apply State.setState_keeps
    apply State.setState_keeps
    apply State.setCoreAct_keeps
    exact h21
  apply State.fltShow_keeps
  apply State.syncWsch_keeps
  apply State.hutRequest_keeps
  exact h23

theorem State.recovery_keeps {s : State} (h : Keeps s₀ s) : Keeps s₀ (State.recovery s) := by
  unfold State.recovery
  apply State.fltShow_keeps
  apply State.setState_keeps
  apply State.setReg_keeps
  exact h

theorem State.trySlots_keeps {s : State} (h : Keeps s₀ s) (x2) : Keeps s₀ (State.trySlots s x2) := by
  unfold State.trySlots
  extract_lets +onlyGivenNames y1
  refine keeps_ite ?_ ?_
  · apply State.recovery_keeps
    apply State.setRegs_keeps
    exact h
  · split
    extract_lets +onlyGivenNames y2
    refine keeps_ite ?_ ?_
    · apply State.finalSteps_keeps
      apply State.setRegs_keeps
      dsimp -zeta only [y2]
      apply State.applySlot_keeps
      exact h
    · extract_lets +onlyGivenNames y3
      have h4 : Keeps s₀ y3 := by
        dsimp -zeta only [y3]
        apply State.startIslands_keeps
        apply State.islandsReset_keeps
        apply State.setReg_keeps
        dsimp -zeta only [y2]
        apply State.applySlot_keeps
        exact h
      extract_lets +onlyGivenNames y5
      have h6 : Keeps s₀ y5 := by
        dsimp -zeta only [y5]
        apply State.bootEvt_keeps
        exact h4
      extract_lets +onlyGivenNames y7
      refine keeps_ite ?_ ?_
      · apply State.finalSteps_keeps
        apply State.setReg_keeps
        dsimp -zeta only [y7]
        apply State.applySlot_keeps
        exact h6
      · apply State.recovery_keeps
        apply State.startIslands_keeps
        apply State.islandsReset_keeps
        apply State.setReg_keeps
        dsimp -zeta only [y7]
        apply State.applySlot_keeps
        exact h6

theorem State.leaveReset_keeps {s : State} (h : Keeps s₀ s) : Keeps s₀ (State.leaveReset s) := by
  unfold State.leaveReset
  extract_lets +onlyGivenNames y1
  have h2 : Keeps s₀ y1 := by
    dsimp -zeta only [y1]
    refine keeps_ite ?_ ?_
    · exact h
    · apply State.coldReset_keeps
      exact h
  refine keeps_mk (s := y1) ?_ rfl
  exact h2

theorem State.baseCamp_keeps {s : State} (h : Keeps s₀ s) (x2) : Keeps s₀ (State.baseCamp s x2) := by
  unfold State.baseCamp
  extract_lets +onlyGivenNames y1
  have h2 : Keeps s₀ y1 := by
    dsimp -zeta only [y1]
    apply State.advanceTo_keeps
    exact h
  extract_lets +onlyGivenNames y3
  have h4 : Keeps s₀ y3 := by
    dsimp -zeta only [y3]
    refine keeps_ite ?_ ?_
    · exact h2
    · apply State.selfTests_keeps
      apply State.bivCold_keeps
      exact h2
  apply State.trySlots_keeps
  apply State.startIslands_keeps
  exact h4

theorem coldStart_keeps {s : State} (x1) (h : Keeps s₀ s) : Keeps s₀ (coldStart x1 s) := by
  unfold coldStart
  apply State.baseCamp_keeps
  apply State.leaveReset_keeps
  exact h

theorem execColdStart_keeps {s t : State} (x1) (e : execColdStart x1 s = .next t) : Keeps s t := keeps_next e (coldStart_keeps _ (keeps_refl s))

theorem State.resynchronise_keeps {s : State} (h : Keeps s₀ s) : Keeps s₀ (State.resynchronise s) := by
  unfold State.resynchronise
  extract_lets +onlyGivenNames y1
  refine keeps_foldl ?_ ?_
  · refine keeps_mk (s := s) ?_ rfl
    exact h
  · intro s2
    intro x3
    intro h4
    extract_lets +onlyGivenNames y5
    refine keeps_ite ?_ ?_
    · apply State.blockItem_keeps
      exact h4
    · exact h4

theorem State.warmRelease_keeps {s : State} (h : Keeps s₀ s) (x2) (x3) (x4) : Keeps s₀ (State.warmRelease s x2 x3 x4) := by
  unfold State.warmRelease
  extract_lets +onlyGivenNames y1
  extract_lets +onlyGivenNames y2
  extract_lets +onlyGivenNames y3
  extract_lets +onlyGivenNames y4
  have h5 : Keeps s₀ y4 := by
    dsimp -zeta only [y4]
    refine keeps_ite ?_ ?_
    · apply State.setRegs_keeps
      refine keeps_mk (s := s) ?_ rfl
      exact h
    · exact h
  extract_lets +onlyGivenNames y6
  have h7 : Keeps s₀ y6 := by
    dsimp -zeta only [y6]
    apply State.bootEvt_keeps
    apply State.setReg_keeps
    exact h5
  extract_lets +onlyGivenNames y8
  have h9 : Keeps s₀ y8 := by
    dsimp -zeta only [y8]
    apply State.setState_keeps
    apply State.setState_keeps
    apply State.complete_keeps
    exact h7
  extract_lets +onlyGivenNames y10
  extract_lets +onlyGivenNames y11
  have h12 : Keeps s₀ y11 := by
    dsimp -zeta only [y11]
    refine keeps_mk (s := y8) ?_ rfl
    exact h9
  apply State.resynchronise_keeps
  apply State.syncWsch_keeps
  apply State.bootGive_keeps
  exact h12

theorem State.warmFails_keeps {s : State} (h : Keeps s₀ s) (x2) : Keeps s₀ (State.warmFails s x2) := by
  unfold State.warmFails
  refine keeps_ite ?_ ?_
  · refine keeps_mk (s := s) ?_ rfl
    exact h
  · extract_lets +onlyGivenNames y1
    extract_lets +onlyGivenNames y2
    have h3 : Keeps s₀ y2 := by
      dsimp -zeta only [y2]
      apply State.bootGive_keeps
      refine keeps_mk (s := s) ?_ rfl
      exact h
    extract_lets +onlyGivenNames y4
    have h5 : Keeps s₀ y4 := by
      dsimp -zeta only [y4]
      apply State.bootEvt_keeps
      apply State.setState_keeps
      apply State.complete_keeps
      exact h3
    apply State.faultEvent_keeps
    exact h5

theorem warmRestartComplete_keeps {s : State} (x1) (x2) (h : Keeps s₀ s) : Keeps s₀ (warmRestartComplete x1 x2 s) := by
  unfold warmRestartComplete
  split
  · exact h
  · refine keeps_ite ?_ ?_
    · exact h
    · refine keeps_ite ?_ ?_
      · apply State.warmFails_keeps
        exact h
      · extract_lets +onlyGivenNames y1
        extract_lets +onlyGivenNames y2
        refine keeps_ite ?_ ?_
        · apply State.warmRelease_keeps
          dsimp -zeta only [y2]
          apply State.applySections_keeps
          exact h
        · apply State.warmFails_keeps
          dsimp -zeta only [y2]
          apply State.applySections_keeps
          exact h

theorem execWarmRestartComplete_keeps {s t : State} (x1) (x2) (e : (execWarmRestartComplete x1 x2 s) = .next t) : Keeps s t := by
  unfold execWarmRestartComplete at e
  refine keeps_goesTo e ?_
  have h := keeps_refl s
  clear e
  apply warmRestartComplete_keeps
  exact h

theorem dramCheckBitInit_keeps {s : State} (x1) (x2) (h : Keeps s₀ s) : Keeps s₀ (dramCheckBitInit x1 x2 s) := by
  unfold dramCheckBitInit
  extract_lets +onlyGivenNames y1
  refine keeps_ite ?_ ?_
  · exact h
  · apply State.setReg_keeps
    exact h

theorem execDramCheckBitInit_keeps {s t : State} (x1) (x2) (e : (execDramCheckBitInit x1 x2 s) = .next t) : Keeps s t := by
  unfold execDramCheckBitInit at e
  refine keeps_goesTo e ?_
  have h := keeps_refl s
  clear e
  apply State.alive_keeps
  · exact h
  · apply dramCheckBitInit_keeps
    exact h

end Sys2Proof.Machine
end

