-- ==== Sys2Proof/Laws/Ops.lean ====
section
/-!
SUPPORT. What each shared operation does, said once: reads after writes of registers, memory and per-port words, and what
becomes of a command or an ABORT that a block decides about (R62–R68).
-/
namespace Sys2Proof.Machine

/-! ### Registers and memory -/

theorem State.reg_setReg (s : State) (a b : Nat) (w : Word) : (s.setReg a w).reg b = if b = a then w else s.reg b :=
  smGet_set ..

@[simp] theorem State.reg_setReg_self (s : State) (a : Nat) (w : Word) : (s.setReg a w).reg a = w := by
  simp [State.reg_setReg]

theorem State.reg_setReg_ne (s : State) {a b : Nat} (w : Word) (h : b ≠ a) : (s.setReg a w).reg b = s.reg b := by
  simp [State.reg_setReg, h]

theorem State.byte_setByte (s : State) (a b : Nat) (x : Byte) : (s.setByte a x).byte b = if b = a then x else s.byte b :=
  smGet_set ..

theorem State.preg_setPreg_self (s : State) (p a : Nat) (w : Word) : (s.setPreg p a w).preg p a = w := by
  simp [State.preg, State.setPreg]

/-- Writing bytes leaves every byte outside them alone. -/
theorem State.byte_setBytes_out (s : State) (l : List Byte) {a b : Nat} (h : b < a ∨ a + l.length ≤ b) :
    (s.setBytes a l).byte b = s.byte b := by
  induction l generalizing s a with
  | nil => rfl
  | cons x l ih =>
    simp only [List.length_cons] at h
    rw [State.setBytes, ih _ (by omega), State.byte_setByte, if_neg (by omega)]

/-- Every byte of a list stands where it was written. -/
theorem State.byte_setBytes_in (s : State) (l : List Byte) {a i : Nat} (h : i < l.length) :
    (s.setBytes a l).byte (a + i) = l[i] := by
  induction l generalizing s a i with
  | nil => simp at h
  | cons x l ih =>
    cases i with
    | zero =>
      rw [State.setBytes, State.byte_setBytes_out _ _ (by omega), State.byte_setByte]
      simp
    | succ i =>
      simp only [List.length_cons] at h
      rw [State.setBytes, show a + (i + 1) = a + 1 + i by omega, ih _ (by omega)]
      rfl

/-! ### Outcomes -/

theorem State.goesTo_next {s : State} (t : State) (h : s.unspecified = false) : s.goesTo t = .next t := by
  simp [State.goesTo, h]

theorem State.goesTo_fault {s : State} (t : State) (h : s.unspecified = true) : s.goesTo t = .fault .reservedBitChanged := by
  simp [State.goesTo, h]

theorem State.alive_up {s : State} {isl : Nat} (t : State) (h : s.fenced.getLsbD isl = false) : s.alive isl t = t := by
  simp only [State.alive, h]
  rfl

/-! ### Commands (R62–R68) -/

theorem State.access_open {s : State} {m : Sys2Proof.Master} {a : Nat} {go : State → State} (h : s.opens a = true) :
    s.access m a go = go s := by
  simp only [State.opens, Bool.and_eq_true, Bool.not_eq_true'] at h
  simp only [State.access, h.1, h.2]
  rfl

/-- A granted write to a register whose window answers has its effect. -/
theorem State.writeGranted_open {s : State} {m : Sys2Proof.Master} {a : Nat} {p : Priv} {go : State → State}
    (h : s.opens a = true) (hg : s.granted m a p = true) : s.writeGranted m a p go = go s := by
  rw [State.writeGranted, State.access_open h, if_pos hg]

/-- An event of a ring block that runs, and that comes before the next t0, has its effect. -/
theorem State.ringEvent_open {s : State} {u dt : Nat} {go : State → State} (h : s.ringOpens u dt = true) :
    s.ringEvent u dt go = go (s.ringAt u dt) := by
  simp only [State.ringOpens, Bool.and_eq_true, Bool.not_eq_true'] at h
  rw [State.ringEvent, if_neg (by simp [h.1.1, h.1.2])]
  show State.within _ _ _ = _
  rw [State.within, if_neg (by rw [h.2]; decide)]
  rfl

/-- What a block does with a command, by its verdict. -/
theorem State.command_of {s : State} {m : Sys2Proof.Master} {a : Sys2Proof.CmdArg} {c : Cmd} {eff : State → State}
    (h : s.opens c.unit = true) : s.command m a c eff = match s.decideCommand m a c with
      | .rejPriv => s.rejectCmd m c.unit c.code stRejPriv
      | .rejCode => s.rejectCmd m c.unit c.code stRejCode
      | .rejState => s.rejectCmd m c.unit c.code stRejState
      | .accept => eff (if c.busy then s.acceptBusy m a c.unit c.code else s.acceptNow c.unit c.code) := by
  unfold State.command
  exact (State.access_open h).trans (by cases s.decideCommand m a c <;> rfl)

theorem State.command_accepted {s : State} {m : Sys2Proof.Master} {a : Sys2Proof.CmdArg} {c : Cmd} {eff : State → State}
    (hd : s.decideCommand m a c = .accept) (h : s.opens c.unit = true) :
    s.command m a c eff = eff (if c.busy then s.acceptBusy m a c.unit c.code else s.acceptNow c.unit c.code) := by
  rw [State.command_of h, hd]

/-- An accepted command with a BUSY phase turns BUSY, and has its effect. -/
theorem State.command_busy {s : State} {m : Sys2Proof.Master} {a : Sys2Proof.CmdArg} {c : Cmd} {eff : State → State}
    (hd : s.decideCommand m a c = .accept) (h : s.opens c.unit = true) (hb : c.busy = true) :
    s.command m a c eff = eff (s.acceptBusy m a c.unit c.code) := by
  rw [State.command_accepted hd h, if_pos hb]

/-- An accepted command without one is DONE at once, and has its effect. -/
theorem State.command_now {s : State} {m : Sys2Proof.Master} {a : Sys2Proof.CmdArg} {c : Cmd} {eff : State → State}
    (hd : s.decideCommand m a c = .accept) (h : s.opens c.unit = true) (hb : c.busy = false) :
    s.command m a c eff = eff (s.acceptNow c.unit c.code) := by
  rw [State.command_accepted hd h, if_neg (by simp [hb])]

theorem State.abort_accepted {s : State} {m : Sys2Proof.Master} {a : Sys2Proof.CmdArg} {unit : Nat} {acc : Priv}
    {eff : Option Busy → State → State} (hg : s.granted m unit acc = true) (h : s.opens unit = true) (hr : a.rsv = 0)
    (ha : a.arg = 0) : s.abort m a unit acc eff = eff (smFind s.busy unit) (s.aborted unit) := by
  rw [State.abort, State.access_open h]
  simp [hg, hr, ha, State.aborted]

/-- An accepted row's command is accepted, whatever table gives it. -/
theorem Accepted.of {i : Sys2Proof.Instr} {s : State} {w : Written} (h : Accepted i s) (hw : commandOf i s = some w) :
    w.st.opens w.c.unit = true ∧ w.st.decideCommand w.m w.a w.c = .accept := by
  obtain ⟨v, hv, h1, h2⟩ := h
  rw [hw] at hv
  cases hv
  exact ⟨h1, h2⟩

theorem AbortAccepted.of {i : Sys2Proof.Instr} {s : State} {w : AbortWritten} (h : AbortAccepted i s)
    (hw : abortOf i s = some w) :
    w.st.opens w.unit = true ∧ w.st.granted w.m w.unit w.acc = true ∧ w.a.rsv = 0 ∧ w.a.arg = 0 := by
  obtain ⟨v, hv, h1⟩ := h
  rw [hw] at hv
  cases hv
  exact h1

end Sys2Proof.Machine
end

