-- ==== Sys2Proof/WellFormed.lean ====
section
/-!
DEFINITION. Well-formed commands: the relations between operands that the operand types do not give. The meanings are
total; a claim about a command of the outside world may take its well-formedness as a premise.
-/
namespace Sys2Proof

/-- Only the host has BAR2 (R504). -/
def placeOk (m : Master) : Place → Bool
  | .bus _ => true
  | .bar2 _ => m == .host

/-- A register offset of 22 bits is that of a word (R40). -/
def wordOffset (ofs : BitVec 22) : Bool := ofs.toNat % 4 == 0

/-- Bytes of data a frame's DLC gives: in CAN FD, DLC 9 to 15 mean 12 to 64 (R408). -/
def CanRx.len (f : CanRx) : Nat :=
  let d := f.dlc.toNat
  if f.rtr then 0
  else if d ≤ 8 then d
  else if f.fdf then [12, 16, 20, 24, 32, 48, 64].getD (d - 9) 64
  else 8

/-- A frame as a CAN bus can show it: a base identifier has 11 bits, BRS and ESI are CAN FD's, a remote frame is classical,
and there is no data beyond the DLC (R408). -/
def CanRx.ok (f : CanRx) : Bool :=
  (f.ide || f.id.toNat < 2048) && (f.fdf || !(f.brs || f.esi)) && !(f.fdf && f.rtr) &&
    f.data.toNat / 2 ^ (8 * f.len) == 0

/-- Is the command well formed? -/
def WellFormed : Instr → Bool
  | .registerWrite m p _ _ | .loRegisterRead m p _ => placeOk m p
  | .setAliasWrite _ ofs _ | .clearAliasWrite _ ofs _ | .toggleAliasWrite _ ofs _ | .w1cWrite _ ofs _
  | .resultRegisterRead _ ofs => wordOffset ofs
  | .parityScan a flip => wordOffset a && flip != 0
  | .fcStart ain sdm | .currentTickB ain sdm => ain.length ≤ 32 && sdm.length ≤ 48
  | .remoteWindowAccess _ _ ofs count data =>
    ofs.toNat % 4 == 0 && data.all (fun l => l.length == count.toNat + 1)
  | .cairnFrameReceived _ _ _ f | .slotFrameReceived _ _ _ f | .delayReqReceived _ _ _ f _ _ | .delayRspReceived _ _ _ f
  | .dynamicFrameReceived _ _ _ f | .rraReq _ _ _ f | .rraRsp _ _ _ f | .mbox _ _ _ f | .mboxAck _ _ _ f
  | .bulkData _ _ _ f | .bulkAck _ _ _ f => !f.isEmpty
  | .qdbCommit _ ws => 1 ≤ ws.length && ws.length ≤ 16
  | .ethFrameReceive _ f _ => !f.isEmpty
  | .canFrameReceived _ f => f.ok
  | .wakeDetected _ _ f => f.all CanRx.ok
  | .dramRead _ a _ => 0x100000000 ≤ a.toNat && a.toNat % 4 == 0
  | .patrolScrub a _ _ => 0x100000000 ≤ a.toNat && a.toNat % 8 == 0
  | .sharedSramRead _ a _ => a.toNat % 4 == 0
  | .coldStart e => decide e.fails.Nodup
  | _ => true

end Sys2Proof
end

