-- ==== Sys2Proof/Laws/State.lean ====
section
/-!
SUPPORT. What the basic updates of the state leave alone, one lemma per field and update, each true by unfolding.
-/
namespace Sys2Proof.Machine

variable (s : State)

/-! ### A register -/

@[simp] theorem State.setReg_pending (a : Nat) (w : Word) : (s.setReg a w).pending = s.pending := by rw [State.setReg]
@[simp] theorem State.setReg_portRegs (a : Nat) (w : Word) : (s.setReg a w).portRegs = s.portRegs := by rw [State.setReg]
@[simp] theorem State.setReg_held (a : Nat) (w : Word) : (s.setReg a w).held = s.held := by rw [State.setReg]
@[simp] theorem State.setReg_answers (a : Nat) (w : Word) : (s.setReg a w).answers = s.answers := by rw [State.setReg]
@[simp] theorem State.setReg_mem (a : Nat) (w : Word) : (s.setReg a w).mem = s.mem := by rw [State.setReg]
@[simp] theorem State.setReg_busy (a : Nat) (w : Word) : (s.setReg a w).busy = s.busy := by rw [State.setReg]
@[simp] theorem State.setReg_shadow (a : Nat) (w : Word) : (s.setReg a w).shadow = s.shadow := by rw [State.setReg]
@[simp] theorem State.setReg_fenced (a : Nat) (w : Word) : (s.setReg a w).fenced = s.fenced := by rw [State.setReg]
@[simp] theorem State.setReg_unspecified (a : Nat) (w : Word) : (s.setReg a w).unspecified = s.unspecified := by rw [State.setReg]
@[simp] theorem State.setReg_sig (a : Nat) (w : Word) : (s.setReg a w).sig = s.sig := by rw [State.setReg]
@[simp] theorem State.setReg_que (a : Nat) (w : Word) : (s.setReg a w).que = s.que := by rw [State.setReg]
@[simp] theorem State.setReg_wsch (a : Nat) (w : Word) : (s.setReg a w).wsch = s.wsch := by rw [State.setReg]
@[simp] theorem State.setReg_memc (a : Nat) (w : Word) : (s.setReg a w).memc = s.memc := by rw [State.setReg]
@[simp] theorem State.setReg_srec (a : Nat) (w : Word) : (s.setReg a w).srec = s.srec := by rw [State.setReg]
@[simp] theorem State.setReg_flt (a : Nat) (w : Word) : (s.setReg a w).flt = s.flt := by rw [State.setReg]
@[simp] theorem State.setReg_hut (a : Nat) (w : Word) : (s.setReg a w).hut = s.hut := by rw [State.setReg]
@[simp] theorem State.setReg_tb (a : Nat) (w : Word) : (s.setReg a w).tb = s.tb := by rw [State.setReg]
@[simp] theorem State.setReg_pcie (a : Nat) (w : Word) : (s.setReg a w).pcie = s.pcie := by rw [State.setReg]
@[simp] theorem State.setReg_eth (a : Nat) (w : Word) : (s.setReg a w).eth = s.eth := by rw [State.setReg]
@[simp] theorem State.setReg_can (a : Nat) (w : Word) : (s.setReg a w).can = s.can := by rw [State.setReg]
@[simp] theorem State.setReg_dac (a : Nat) (w : Word) : (s.setReg a w).dac = s.dac := by rw [State.setReg]
@[simp] theorem State.setReg_clk (a : Nat) (w : Word) : (s.setReg a w).clk = s.clk := by rw [State.setReg]
@[simp] theorem State.setReg_cyc (a : Nat) (w : Word) : (s.setReg a w).cyc = s.cyc := by rw [State.setReg]
@[simp] theorem State.setReg_ocu (a : Nat) (w : Word) : (s.setReg a w).ocu = s.ocu := by rw [State.setReg]
@[simp] theorem State.setReg_ce (a : Nat) (w : Word) : (s.setReg a w).ce = s.ce := by rw [State.setReg]
@[simp] theorem State.setReg_ctab (a : Nat) (w : Word) : (s.setReg a w).ctab = s.ctab := by rw [State.setReg]
@[simp] theorem State.setReg_stopReq (a : Nat) (w : Word) : (s.setReg a w).stopReq = s.stopReq := by rw [State.setReg]
@[simp] theorem State.setReg_prof (a : Nat) (w : Word) : (s.setReg a w).prof = s.prof := by rw [State.setReg]
@[simp] theorem State.setReg_axc (a : Nat) (w : Word) : (s.setReg a w).axc = s.axc := by rw [State.setReg]
@[simp] theorem State.setReg_step (a : Nat) (w : Word) : (s.setReg a w).step = s.step := by rw [State.setReg]
@[simp] theorem State.setReg_enc (a : Nat) (w : Word) : (s.setReg a w).enc = s.enc := by rw [State.setReg]
@[simp] theorem State.setReg_seq (a : Nat) (w : Word) : (s.setReg a w).seq = s.seq := by rw [State.setReg]
@[simp] theorem State.setReg_ilk (a : Nat) (w : Word) : (s.setReg a w).ilk = s.ilk := by rw [State.setReg]
@[simp] theorem State.setReg_adc (a : Nat) (w : Word) : (s.setReg a w).adc = s.adc := by rw [State.setReg]
@[simp] theorem State.setReg_sdm (a : Nat) (w : Word) : (s.setReg a w).sdm = s.sdm := by rw [State.setReg]
@[simp] theorem State.setReg_fio (a : Nat) (w : Word) : (s.setReg a w).fio = s.fio := by rw [State.setReg]
@[simp] theorem State.setReg_safe (a : Nat) (w : Word) : (s.setReg a w).safe = s.safe := by rw [State.setReg]
@[simp] theorem State.setReg_boot (a : Nat) (w : Word) : (s.setReg a w).boot = s.boot := by rw [State.setReg]
@[simp] theorem State.setReg_kec (a : Nat) (w : Word) : (s.setReg a w).kec = s.kec := by rw [State.setReg]
@[simp] theorem State.setReg_xspi (a : Nat) (w : Word) : (s.setReg a w).xspi = s.xspi := by rw [State.setReg]
@[simp] theorem State.setReg_biv (a : Nat) (w : Word) : (s.setReg a w).biv = s.biv := by rw [State.setReg]

/-! ### A register of a port -/

@[simp] theorem State.setPreg_pending (p a : Nat) (w : Word) : (s.setPreg p a w).pending = s.pending := by rw [State.setPreg]
@[simp] theorem State.setPreg_regs (p a : Nat) (w : Word) : (s.setPreg p a w).regs = s.regs := by rw [State.setPreg]
@[simp] theorem State.setPreg_held (p a : Nat) (w : Word) : (s.setPreg p a w).held = s.held := by rw [State.setPreg]
@[simp] theorem State.setPreg_answers (p a : Nat) (w : Word) : (s.setPreg p a w).answers = s.answers := by rw [State.setPreg]
@[simp] theorem State.setPreg_mem (p a : Nat) (w : Word) : (s.setPreg p a w).mem = s.mem := by rw [State.setPreg]
@[simp] theorem State.setPreg_busy (p a : Nat) (w : Word) : (s.setPreg p a w).busy = s.busy := by rw [State.setPreg]
@[simp] theorem State.setPreg_shadow (p a : Nat) (w : Word) : (s.setPreg p a w).shadow = s.shadow := by rw [State.setPreg]
@[simp] theorem State.setPreg_fenced (p a : Nat) (w : Word) : (s.setPreg p a w).fenced = s.fenced := by rw [State.setPreg]
@[simp] theorem State.setPreg_unspecified (p a : Nat) (w : Word) : (s.setPreg p a w).unspecified = s.unspecified := by rw [State.setPreg]
@[simp] theorem State.setPreg_sig (p a : Nat) (w : Word) : (s.setPreg p a w).sig = s.sig := by rw [State.setPreg]
@[simp] theorem State.setPreg_que (p a : Nat) (w : Word) : (s.setPreg p a w).que = s.que := by rw [State.setPreg]
@[simp] theorem State.setPreg_wsch (p a : Nat) (w : Word) : (s.setPreg p a w).wsch = s.wsch := by rw [State.setPreg]
@[simp] theorem State.setPreg_memc (p a : Nat) (w : Word) : (s.setPreg p a w).memc = s.memc := by rw [State.setPreg]
@[simp] theorem State.setPreg_srec (p a : Nat) (w : Word) : (s.setPreg p a w).srec = s.srec := by rw [State.setPreg]
@[simp] theorem State.setPreg_flt (p a : Nat) (w : Word) : (s.setPreg p a w).flt = s.flt := by rw [State.setPreg]
@[simp] theorem State.setPreg_hut (p a : Nat) (w : Word) : (s.setPreg p a w).hut = s.hut := by rw [State.setPreg]
@[simp] theorem State.setPreg_tb (p a : Nat) (w : Word) : (s.setPreg p a w).tb = s.tb := by rw [State.setPreg]
@[simp] theorem State.setPreg_pcie (p a : Nat) (w : Word) : (s.setPreg p a w).pcie = s.pcie := by rw [State.setPreg]
@[simp] theorem State.setPreg_eth (p a : Nat) (w : Word) : (s.setPreg p a w).eth = s.eth := by rw [State.setPreg]
@[simp] theorem State.setPreg_can (p a : Nat) (w : Word) : (s.setPreg p a w).can = s.can := by rw [State.setPreg]
@[simp] theorem State.setPreg_dac (p a : Nat) (w : Word) : (s.setPreg p a w).dac = s.dac := by rw [State.setPreg]
@[simp] theorem State.setPreg_clk (p a : Nat) (w : Word) : (s.setPreg p a w).clk = s.clk := by rw [State.setPreg]
@[simp] theorem State.setPreg_cyc (p a : Nat) (w : Word) : (s.setPreg p a w).cyc = s.cyc := by rw [State.setPreg]
@[simp] theorem State.setPreg_ocu (p a : Nat) (w : Word) : (s.setPreg p a w).ocu = s.ocu := by rw [State.setPreg]
@[simp] theorem State.setPreg_ce (p a : Nat) (w : Word) : (s.setPreg p a w).ce = s.ce := by rw [State.setPreg]
@[simp] theorem State.setPreg_ctab (p a : Nat) (w : Word) : (s.setPreg p a w).ctab = s.ctab := by rw [State.setPreg]
@[simp] theorem State.setPreg_stopReq (p a : Nat) (w : Word) : (s.setPreg p a w).stopReq = s.stopReq := by rw [State.setPreg]
@[simp] theorem State.setPreg_prof (p a : Nat) (w : Word) : (s.setPreg p a w).prof = s.prof := by rw [State.setPreg]
@[simp] theorem State.setPreg_axc (p a : Nat) (w : Word) : (s.setPreg p a w).axc = s.axc := by rw [State.setPreg]
@[simp] theorem State.setPreg_step (p a : Nat) (w : Word) : (s.setPreg p a w).step = s.step := by rw [State.setPreg]
@[simp] theorem State.setPreg_enc (p a : Nat) (w : Word) : (s.setPreg p a w).enc = s.enc := by rw [State.setPreg]
@[simp] theorem State.setPreg_seq (p a : Nat) (w : Word) : (s.setPreg p a w).seq = s.seq := by rw [State.setPreg]
@[simp] theorem State.setPreg_ilk (p a : Nat) (w : Word) : (s.setPreg p a w).ilk = s.ilk := by rw [State.setPreg]
@[simp] theorem State.setPreg_adc (p a : Nat) (w : Word) : (s.setPreg p a w).adc = s.adc := by rw [State.setPreg]
@[simp] theorem State.setPreg_sdm (p a : Nat) (w : Word) : (s.setPreg p a w).sdm = s.sdm := by rw [State.setPreg]
@[simp] theorem State.setPreg_fio (p a : Nat) (w : Word) : (s.setPreg p a w).fio = s.fio := by rw [State.setPreg]
@[simp] theorem State.setPreg_safe (p a : Nat) (w : Word) : (s.setPreg p a w).safe = s.safe := by rw [State.setPreg]
@[simp] theorem State.setPreg_boot (p a : Nat) (w : Word) : (s.setPreg p a w).boot = s.boot := by rw [State.setPreg]
@[simp] theorem State.setPreg_kec (p a : Nat) (w : Word) : (s.setPreg p a w).kec = s.kec := by rw [State.setPreg]
@[simp] theorem State.setPreg_xspi (p a : Nat) (w : Word) : (s.setPreg p a w).xspi = s.xspi := by rw [State.setPreg]
@[simp] theorem State.setPreg_biv (p a : Nat) (w : Word) : (s.setPreg p a w).biv = s.biv := by rw [State.setPreg]

/-! ### A latched word -/

@[simp] theorem State.latch_pending (p a : Nat) (w : Word) : (s.latch p a w).pending = s.pending := by rw [State.latch]
@[simp] theorem State.latch_regs (p a : Nat) (w : Word) : (s.latch p a w).regs = s.regs := by rw [State.latch]
@[simp] theorem State.latch_portRegs (p a : Nat) (w : Word) : (s.latch p a w).portRegs = s.portRegs := by rw [State.latch]
@[simp] theorem State.latch_answers (p a : Nat) (w : Word) : (s.latch p a w).answers = s.answers := by rw [State.latch]
@[simp] theorem State.latch_mem (p a : Nat) (w : Word) : (s.latch p a w).mem = s.mem := by rw [State.latch]
@[simp] theorem State.latch_busy (p a : Nat) (w : Word) : (s.latch p a w).busy = s.busy := by rw [State.latch]
@[simp] theorem State.latch_shadow (p a : Nat) (w : Word) : (s.latch p a w).shadow = s.shadow := by rw [State.latch]
@[simp] theorem State.latch_fenced (p a : Nat) (w : Word) : (s.latch p a w).fenced = s.fenced := by rw [State.latch]
@[simp] theorem State.latch_unspecified (p a : Nat) (w : Word) : (s.latch p a w).unspecified = s.unspecified := by rw [State.latch]
@[simp] theorem State.latch_sig (p a : Nat) (w : Word) : (s.latch p a w).sig = s.sig := by rw [State.latch]
@[simp] theorem State.latch_que (p a : Nat) (w : Word) : (s.latch p a w).que = s.que := by rw [State.latch]
@[simp] theorem State.latch_wsch (p a : Nat) (w : Word) : (s.latch p a w).wsch = s.wsch := by rw [State.latch]
@[simp] theorem State.latch_memc (p a : Nat) (w : Word) : (s.latch p a w).memc = s.memc := by rw [State.latch]
@[simp] theorem State.latch_srec (p a : Nat) (w : Word) : (s.latch p a w).srec = s.srec := by rw [State.latch]
@[simp] theorem State.latch_flt (p a : Nat) (w : Word) : (s.latch p a w).flt = s.flt := by rw [State.latch]
@[simp] theorem State.latch_hut (p a : Nat) (w : Word) : (s.latch p a w).hut = s.hut := by rw [State.latch]
@[simp] theorem State.latch_tb (p a : Nat) (w : Word) : (s.latch p a w).tb = s.tb := by rw [State.latch]
@[simp] theorem State.latch_pcie (p a : Nat) (w : Word) : (s.latch p a w).pcie = s.pcie := by rw [State.latch]
@[simp] theorem State.latch_eth (p a : Nat) (w : Word) : (s.latch p a w).eth = s.eth := by rw [State.latch]
@[simp] theorem State.latch_can (p a : Nat) (w : Word) : (s.latch p a w).can = s.can := by rw [State.latch]
@[simp] theorem State.latch_dac (p a : Nat) (w : Word) : (s.latch p a w).dac = s.dac := by rw [State.latch]
@[simp] theorem State.latch_clk (p a : Nat) (w : Word) : (s.latch p a w).clk = s.clk := by rw [State.latch]
@[simp] theorem State.latch_cyc (p a : Nat) (w : Word) : (s.latch p a w).cyc = s.cyc := by rw [State.latch]
@[simp] theorem State.latch_ocu (p a : Nat) (w : Word) : (s.latch p a w).ocu = s.ocu := by rw [State.latch]
@[simp] theorem State.latch_ce (p a : Nat) (w : Word) : (s.latch p a w).ce = s.ce := by rw [State.latch]
@[simp] theorem State.latch_ctab (p a : Nat) (w : Word) : (s.latch p a w).ctab = s.ctab := by rw [State.latch]
@[simp] theorem State.latch_stopReq (p a : Nat) (w : Word) : (s.latch p a w).stopReq = s.stopReq := by rw [State.latch]
@[simp] theorem State.latch_prof (p a : Nat) (w : Word) : (s.latch p a w).prof = s.prof := by rw [State.latch]
@[simp] theorem State.latch_axc (p a : Nat) (w : Word) : (s.latch p a w).axc = s.axc := by rw [State.latch]
@[simp] theorem State.latch_step (p a : Nat) (w : Word) : (s.latch p a w).step = s.step := by rw [State.latch]
@[simp] theorem State.latch_enc (p a : Nat) (w : Word) : (s.latch p a w).enc = s.enc := by rw [State.latch]
@[simp] theorem State.latch_seq (p a : Nat) (w : Word) : (s.latch p a w).seq = s.seq := by rw [State.latch]
@[simp] theorem State.latch_ilk (p a : Nat) (w : Word) : (s.latch p a w).ilk = s.ilk := by rw [State.latch]
@[simp] theorem State.latch_adc (p a : Nat) (w : Word) : (s.latch p a w).adc = s.adc := by rw [State.latch]
@[simp] theorem State.latch_sdm (p a : Nat) (w : Word) : (s.latch p a w).sdm = s.sdm := by rw [State.latch]
@[simp] theorem State.latch_fio (p a : Nat) (w : Word) : (s.latch p a w).fio = s.fio := by rw [State.latch]
@[simp] theorem State.latch_safe (p a : Nat) (w : Word) : (s.latch p a w).safe = s.safe := by rw [State.latch]
@[simp] theorem State.latch_boot (p a : Nat) (w : Word) : (s.latch p a w).boot = s.boot := by rw [State.latch]
@[simp] theorem State.latch_kec (p a : Nat) (w : Word) : (s.latch p a w).kec = s.kec := by rw [State.latch]
@[simp] theorem State.latch_xspi (p a : Nat) (w : Word) : (s.latch p a w).xspi = s.xspi := by rw [State.latch]
@[simp] theorem State.latch_biv (p a : Nat) (w : Word) : (s.latch p a w).biv = s.biv := by rw [State.latch]

/-! ### An answer -/

@[simp] theorem State.answer_pending (p : Nat) (w : Word) (e : Bool) : (s.answer p w e).pending = s.pending := by rw [State.answer]
@[simp] theorem State.answer_regs (p : Nat) (w : Word) (e : Bool) : (s.answer p w e).regs = s.regs := by rw [State.answer]
@[simp] theorem State.answer_portRegs (p : Nat) (w : Word) (e : Bool) : (s.answer p w e).portRegs = s.portRegs := by rw [State.answer]
@[simp] theorem State.answer_held (p : Nat) (w : Word) (e : Bool) : (s.answer p w e).held = s.held := by rw [State.answer]
@[simp] theorem State.answer_mem (p : Nat) (w : Word) (e : Bool) : (s.answer p w e).mem = s.mem := by rw [State.answer]
@[simp] theorem State.answer_busy (p : Nat) (w : Word) (e : Bool) : (s.answer p w e).busy = s.busy := by rw [State.answer]
@[simp] theorem State.answer_shadow (p : Nat) (w : Word) (e : Bool) : (s.answer p w e).shadow = s.shadow := by rw [State.answer]
@[simp] theorem State.answer_fenced (p : Nat) (w : Word) (e : Bool) : (s.answer p w e).fenced = s.fenced := by rw [State.answer]
@[simp] theorem State.answer_unspecified (p : Nat) (w : Word) (e : Bool) : (s.answer p w e).unspecified = s.unspecified := by rw [State.answer]
@[simp] theorem State.answer_sig (p : Nat) (w : Word) (e : Bool) : (s.answer p w e).sig = s.sig := by rw [State.answer]
@[simp] theorem State.answer_que (p : Nat) (w : Word) (e : Bool) : (s.answer p w e).que = s.que := by rw [State.answer]
@[simp] theorem State.answer_wsch (p : Nat) (w : Word) (e : Bool) : (s.answer p w e).wsch = s.wsch := by rw [State.answer]
@[simp] theorem State.answer_memc (p : Nat) (w : Word) (e : Bool) : (s.answer p w e).memc = s.memc := by rw [State.answer]
@[simp] theorem State.answer_srec (p : Nat) (w : Word) (e : Bool) : (s.answer p w e).srec = s.srec := by rw [State.answer]
@[simp] theorem State.answer_flt (p : Nat) (w : Word) (e : Bool) : (s.answer p w e).flt = s.flt := by rw [State.answer]
@[simp] theorem State.answer_hut (p : Nat) (w : Word) (e : Bool) : (s.answer p w e).hut = s.hut := by rw [State.answer]
@[simp] theorem State.answer_tb (p : Nat) (w : Word) (e : Bool) : (s.answer p w e).tb = s.tb := by rw [State.answer]
@[simp] theorem State.answer_pcie (p : Nat) (w : Word) (e : Bool) : (s.answer p w e).pcie = s.pcie := by rw [State.answer]
@[simp] theorem State.answer_eth (p : Nat) (w : Word) (e : Bool) : (s.answer p w e).eth = s.eth := by rw [State.answer]
@[simp] theorem State.answer_can (p : Nat) (w : Word) (e : Bool) : (s.answer p w e).can = s.can := by rw [State.answer]
@[simp] theorem State.answer_dac (p : Nat) (w : Word) (e : Bool) : (s.answer p w e).dac = s.dac := by rw [State.answer]
@[simp] theorem State.answer_clk (p : Nat) (w : Word) (e : Bool) : (s.answer p w e).clk = s.clk := by rw [State.answer]
@[simp] theorem State.answer_cyc (p : Nat) (w : Word) (e : Bool) : (s.answer p w e).cyc = s.cyc := by rw [State.answer]
@[simp] theorem State.answer_ocu (p : Nat) (w : Word) (e : Bool) : (s.answer p w e).ocu = s.ocu := by rw [State.answer]
@[simp] theorem State.answer_ce (p : Nat) (w : Word) (e : Bool) : (s.answer p w e).ce = s.ce := by rw [State.answer]
@[simp] theorem State.answer_ctab (p : Nat) (w : Word) (e : Bool) : (s.answer p w e).ctab = s.ctab := by rw [State.answer]
@[simp] theorem State.answer_stopReq (p : Nat) (w : Word) (e : Bool) : (s.answer p w e).stopReq = s.stopReq := by rw [State.answer]
@[simp] theorem State.answer_prof (p : Nat) (w : Word) (e : Bool) : (s.answer p w e).prof = s.prof := by rw [State.answer]
@[simp] theorem State.answer_axc (p : Nat) (w : Word) (e : Bool) : (s.answer p w e).axc = s.axc := by rw [State.answer]
@[simp] theorem State.answer_step (p : Nat) (w : Word) (e : Bool) : (s.answer p w e).step = s.step := by rw [State.answer]
@[simp] theorem State.answer_enc (p : Nat) (w : Word) (e : Bool) : (s.answer p w e).enc = s.enc := by rw [State.answer]
@[simp] theorem State.answer_seq (p : Nat) (w : Word) (e : Bool) : (s.answer p w e).seq = s.seq := by rw [State.answer]
@[simp] theorem State.answer_ilk (p : Nat) (w : Word) (e : Bool) : (s.answer p w e).ilk = s.ilk := by rw [State.answer]
@[simp] theorem State.answer_adc (p : Nat) (w : Word) (e : Bool) : (s.answer p w e).adc = s.adc := by rw [State.answer]
@[simp] theorem State.answer_sdm (p : Nat) (w : Word) (e : Bool) : (s.answer p w e).sdm = s.sdm := by rw [State.answer]
@[simp] theorem State.answer_fio (p : Nat) (w : Word) (e : Bool) : (s.answer p w e).fio = s.fio := by rw [State.answer]
@[simp] theorem State.answer_safe (p : Nat) (w : Word) (e : Bool) : (s.answer p w e).safe = s.safe := by rw [State.answer]
@[simp] theorem State.answer_boot (p : Nat) (w : Word) (e : Bool) : (s.answer p w e).boot = s.boot := by rw [State.answer]
@[simp] theorem State.answer_kec (p : Nat) (w : Word) (e : Bool) : (s.answer p w e).kec = s.kec := by rw [State.answer]
@[simp] theorem State.answer_xspi (p : Nat) (w : Word) (e : Bool) : (s.answer p w e).xspi = s.xspi := by rw [State.answer]
@[simp] theorem State.answer_biv (p : Nat) (w : Word) (e : Bool) : (s.answer p w e).biv = s.biv := by rw [State.answer]

/-! ### A byte of memory -/

@[simp] theorem State.setByte_pending (a : Nat) (b : Byte) : (s.setByte a b).pending = s.pending := by rw [State.setByte]
@[simp] theorem State.setByte_regs (a : Nat) (b : Byte) : (s.setByte a b).regs = s.regs := by rw [State.setByte]
@[simp] theorem State.setByte_portRegs (a : Nat) (b : Byte) : (s.setByte a b).portRegs = s.portRegs := by rw [State.setByte]
@[simp] theorem State.setByte_held (a : Nat) (b : Byte) : (s.setByte a b).held = s.held := by rw [State.setByte]
@[simp] theorem State.setByte_answers (a : Nat) (b : Byte) : (s.setByte a b).answers = s.answers := by rw [State.setByte]
@[simp] theorem State.setByte_busy (a : Nat) (b : Byte) : (s.setByte a b).busy = s.busy := by rw [State.setByte]
@[simp] theorem State.setByte_shadow (a : Nat) (b : Byte) : (s.setByte a b).shadow = s.shadow := by rw [State.setByte]
@[simp] theorem State.setByte_fenced (a : Nat) (b : Byte) : (s.setByte a b).fenced = s.fenced := by rw [State.setByte]
@[simp] theorem State.setByte_unspecified (a : Nat) (b : Byte) : (s.setByte a b).unspecified = s.unspecified := by rw [State.setByte]
@[simp] theorem State.setByte_sig (a : Nat) (b : Byte) : (s.setByte a b).sig = s.sig := by rw [State.setByte]
@[simp] theorem State.setByte_que (a : Nat) (b : Byte) : (s.setByte a b).que = s.que := by rw [State.setByte]
@[simp] theorem State.setByte_wsch (a : Nat) (b : Byte) : (s.setByte a b).wsch = s.wsch := by rw [State.setByte]
@[simp] theorem State.setByte_memc (a : Nat) (b : Byte) : (s.setByte a b).memc = s.memc := by rw [State.setByte]
@[simp] theorem State.setByte_srec (a : Nat) (b : Byte) : (s.setByte a b).srec = s.srec := by rw [State.setByte]
@[simp] theorem State.setByte_flt (a : Nat) (b : Byte) : (s.setByte a b).flt = s.flt := by rw [State.setByte]
@[simp] theorem State.setByte_hut (a : Nat) (b : Byte) : (s.setByte a b).hut = s.hut := by rw [State.setByte]
@[simp] theorem State.setByte_tb (a : Nat) (b : Byte) : (s.setByte a b).tb = s.tb := by rw [State.setByte]
@[simp] theorem State.setByte_pcie (a : Nat) (b : Byte) : (s.setByte a b).pcie = s.pcie := by rw [State.setByte]
@[simp] theorem State.setByte_eth (a : Nat) (b : Byte) : (s.setByte a b).eth = s.eth := by rw [State.setByte]
@[simp] theorem State.setByte_can (a : Nat) (b : Byte) : (s.setByte a b).can = s.can := by rw [State.setByte]
@[simp] theorem State.setByte_dac (a : Nat) (b : Byte) : (s.setByte a b).dac = s.dac := by rw [State.setByte]
@[simp] theorem State.setByte_clk (a : Nat) (b : Byte) : (s.setByte a b).clk = s.clk := by rw [State.setByte]
@[simp] theorem State.setByte_cyc (a : Nat) (b : Byte) : (s.setByte a b).cyc = s.cyc := by rw [State.setByte]
@[simp] theorem State.setByte_ocu (a : Nat) (b : Byte) : (s.setByte a b).ocu = s.ocu := by rw [State.setByte]
@[simp] theorem State.setByte_ce (a : Nat) (b : Byte) : (s.setByte a b).ce = s.ce := by rw [State.setByte]
@[simp] theorem State.setByte_ctab (a : Nat) (b : Byte) : (s.setByte a b).ctab = s.ctab := by rw [State.setByte]
@[simp] theorem State.setByte_stopReq (a : Nat) (b : Byte) : (s.setByte a b).stopReq = s.stopReq := by rw [State.setByte]
@[simp] theorem State.setByte_prof (a : Nat) (b : Byte) : (s.setByte a b).prof = s.prof := by rw [State.setByte]
@[simp] theorem State.setByte_axc (a : Nat) (b : Byte) : (s.setByte a b).axc = s.axc := by rw [State.setByte]
@[simp] theorem State.setByte_step (a : Nat) (b : Byte) : (s.setByte a b).step = s.step := by rw [State.setByte]
@[simp] theorem State.setByte_enc (a : Nat) (b : Byte) : (s.setByte a b).enc = s.enc := by rw [State.setByte]
@[simp] theorem State.setByte_seq (a : Nat) (b : Byte) : (s.setByte a b).seq = s.seq := by rw [State.setByte]
@[simp] theorem State.setByte_ilk (a : Nat) (b : Byte) : (s.setByte a b).ilk = s.ilk := by rw [State.setByte]
@[simp] theorem State.setByte_adc (a : Nat) (b : Byte) : (s.setByte a b).adc = s.adc := by rw [State.setByte]
@[simp] theorem State.setByte_sdm (a : Nat) (b : Byte) : (s.setByte a b).sdm = s.sdm := by rw [State.setByte]
@[simp] theorem State.setByte_fio (a : Nat) (b : Byte) : (s.setByte a b).fio = s.fio := by rw [State.setByte]
@[simp] theorem State.setByte_safe (a : Nat) (b : Byte) : (s.setByte a b).safe = s.safe := by rw [State.setByte]
@[simp] theorem State.setByte_boot (a : Nat) (b : Byte) : (s.setByte a b).boot = s.boot := by rw [State.setByte]
@[simp] theorem State.setByte_kec (a : Nat) (b : Byte) : (s.setByte a b).kec = s.kec := by rw [State.setByte]
@[simp] theorem State.setByte_xspi (a : Nat) (b : Byte) : (s.setByte a b).xspi = s.xspi := by rw [State.setByte]
@[simp] theorem State.setByte_biv (a : Nat) (b : Byte) : (s.setByte a b).biv = s.biv := by rw [State.setByte]

/-! ### A command that turns BUSY -/

@[simp] theorem State.acceptBusy_pending (m : Sys2Proof.Master) (a : Sys2Proof.CmdArg) (u c : Nat) : (s.acceptBusy m a u c).pending = s.pending := by
  rw [State.acceptBusy, State.setReg_pending]
@[simp] theorem State.acceptBusy_portRegs (m : Sys2Proof.Master) (a : Sys2Proof.CmdArg) (u c : Nat) : (s.acceptBusy m a u c).portRegs = s.portRegs := by
  rw [State.acceptBusy, State.setReg_portRegs]
@[simp] theorem State.acceptBusy_held (m : Sys2Proof.Master) (a : Sys2Proof.CmdArg) (u c : Nat) : (s.acceptBusy m a u c).held = s.held := by
  rw [State.acceptBusy, State.setReg_held]
@[simp] theorem State.acceptBusy_answers (m : Sys2Proof.Master) (a : Sys2Proof.CmdArg) (u c : Nat) : (s.acceptBusy m a u c).answers = s.answers := by
  rw [State.acceptBusy, State.setReg_answers]
@[simp] theorem State.acceptBusy_mem (m : Sys2Proof.Master) (a : Sys2Proof.CmdArg) (u c : Nat) : (s.acceptBusy m a u c).mem = s.mem := by
  rw [State.acceptBusy, State.setReg_mem]
@[simp] theorem State.acceptBusy_shadow (m : Sys2Proof.Master) (a : Sys2Proof.CmdArg) (u c : Nat) : (s.acceptBusy m a u c).shadow = s.shadow := by
  rw [State.acceptBusy, State.setReg_shadow]
@[simp] theorem State.acceptBusy_fenced (m : Sys2Proof.Master) (a : Sys2Proof.CmdArg) (u c : Nat) : (s.acceptBusy m a u c).fenced = s.fenced := by
  rw [State.acceptBusy, State.setReg_fenced]
@[simp] theorem State.acceptBusy_unspecified (m : Sys2Proof.Master) (a : Sys2Proof.CmdArg) (u c : Nat) : (s.acceptBusy m a u c).unspecified = s.unspecified := by
  rw [State.acceptBusy, State.setReg_unspecified]
@[simp] theorem State.acceptBusy_sig (m : Sys2Proof.Master) (a : Sys2Proof.CmdArg) (u c : Nat) : (s.acceptBusy m a u c).sig = s.sig := by
  rw [State.acceptBusy, State.setReg_sig]
@[simp] theorem State.acceptBusy_que (m : Sys2Proof.Master) (a : Sys2Proof.CmdArg) (u c : Nat) : (s.acceptBusy m a u c).que = s.que := by
  rw [State.acceptBusy, State.setReg_que]
@[simp] theorem State.acceptBusy_wsch (m : Sys2Proof.Master) (a : Sys2Proof.CmdArg) (u c : Nat) : (s.acceptBusy m a u c).wsch = s.wsch := by
  rw [State.acceptBusy, State.setReg_wsch]
@[simp] theorem State.acceptBusy_memc (m : Sys2Proof.Master) (a : Sys2Proof.CmdArg) (u c : Nat) : (s.acceptBusy m a u c).memc = s.memc := by
  rw [State.acceptBusy, State.setReg_memc]
@[simp] theorem State.acceptBusy_srec (m : Sys2Proof.Master) (a : Sys2Proof.CmdArg) (u c : Nat) : (s.acceptBusy m a u c).srec = s.srec := by
  rw [State.acceptBusy, State.setReg_srec]
@[simp] theorem State.acceptBusy_flt (m : Sys2Proof.Master) (a : Sys2Proof.CmdArg) (u c : Nat) : (s.acceptBusy m a u c).flt = s.flt := by
  rw [State.acceptBusy, State.setReg_flt]
@[simp] theorem State.acceptBusy_hut (m : Sys2Proof.Master) (a : Sys2Proof.CmdArg) (u c : Nat) : (s.acceptBusy m a u c).hut = s.hut := by
  rw [State.acceptBusy, State.setReg_hut]
@[simp] theorem State.acceptBusy_tb (m : Sys2Proof.Master) (a : Sys2Proof.CmdArg) (u c : Nat) : (s.acceptBusy m a u c).tb = s.tb := by
  rw [State.acceptBusy, State.setReg_tb]
@[simp] theorem State.acceptBusy_pcie (m : Sys2Proof.Master) (a : Sys2Proof.CmdArg) (u c : Nat) : (s.acceptBusy m a u c).pcie = s.pcie := by
  rw [State.acceptBusy, State.setReg_pcie]
@[simp] theorem State.acceptBusy_eth (m : Sys2Proof.Master) (a : Sys2Proof.CmdArg) (u c : Nat) : (s.acceptBusy m a u c).eth = s.eth := by
  rw [State.acceptBusy, State.setReg_eth]
@[simp] theorem State.acceptBusy_can (m : Sys2Proof.Master) (a : Sys2Proof.CmdArg) (u c : Nat) : (s.acceptBusy m a u c).can = s.can := by
  rw [State.acceptBusy, State.setReg_can]
@[simp] theorem State.acceptBusy_dac (m : Sys2Proof.Master) (a : Sys2Proof.CmdArg) (u c : Nat) : (s.acceptBusy m a u c).dac = s.dac := by
  rw [State.acceptBusy, State.setReg_dac]
@[simp] theorem State.acceptBusy_clk (m : Sys2Proof.Master) (a : Sys2Proof.CmdArg) (u c : Nat) : (s.acceptBusy m a u c).clk = s.clk := by
  rw [State.acceptBusy, State.setReg_clk]
@[simp] theorem State.acceptBusy_cyc (m : Sys2Proof.Master) (a : Sys2Proof.CmdArg) (u c : Nat) : (s.acceptBusy m a u c).cyc = s.cyc := by
  rw [State.acceptBusy, State.setReg_cyc]
@[simp] theorem State.acceptBusy_ocu (m : Sys2Proof.Master) (a : Sys2Proof.CmdArg) (u c : Nat) : (s.acceptBusy m a u c).ocu = s.ocu := by
  rw [State.acceptBusy, State.setReg_ocu]
@[simp] theorem State.acceptBusy_ce (m : Sys2Proof.Master) (a : Sys2Proof.CmdArg) (u c : Nat) : (s.acceptBusy m a u c).ce = s.ce := by
  rw [State.acceptBusy, State.setReg_ce]
@[simp] theorem State.acceptBusy_ctab (m : Sys2Proof.Master) (a : Sys2Proof.CmdArg) (u c : Nat) : (s.acceptBusy m a u c).ctab = s.ctab := by
  rw [State.acceptBusy, State.setReg_ctab]
@[simp] theorem State.acceptBusy_stopReq (m : Sys2Proof.Master) (a : Sys2Proof.CmdArg) (u c : Nat) : (s.acceptBusy m a u c).stopReq = s.stopReq := by
  rw [State.acceptBusy, State.setReg_stopReq]
@[simp] theorem State.acceptBusy_prof (m : Sys2Proof.Master) (a : Sys2Proof.CmdArg) (u c : Nat) : (s.acceptBusy m a u c).prof = s.prof := by
  rw [State.acceptBusy, State.setReg_prof]
@[simp] theorem State.acceptBusy_axc (m : Sys2Proof.Master) (a : Sys2Proof.CmdArg) (u c : Nat) : (s.acceptBusy m a u c).axc = s.axc := by
  rw [State.acceptBusy, State.setReg_axc]
@[simp] theorem State.acceptBusy_step (m : Sys2Proof.Master) (a : Sys2Proof.CmdArg) (u c : Nat) : (s.acceptBusy m a u c).step = s.step := by
  rw [State.acceptBusy, State.setReg_step]
@[simp] theorem State.acceptBusy_enc (m : Sys2Proof.Master) (a : Sys2Proof.CmdArg) (u c : Nat) : (s.acceptBusy m a u c).enc = s.enc := by
  rw [State.acceptBusy, State.setReg_enc]
@[simp] theorem State.acceptBusy_seq (m : Sys2Proof.Master) (a : Sys2Proof.CmdArg) (u c : Nat) : (s.acceptBusy m a u c).seq = s.seq := by
  rw [State.acceptBusy, State.setReg_seq]
@[simp] theorem State.acceptBusy_ilk (m : Sys2Proof.Master) (a : Sys2Proof.CmdArg) (u c : Nat) : (s.acceptBusy m a u c).ilk = s.ilk := by
  rw [State.acceptBusy, State.setReg_ilk]
@[simp] theorem State.acceptBusy_adc (m : Sys2Proof.Master) (a : Sys2Proof.CmdArg) (u c : Nat) : (s.acceptBusy m a u c).adc = s.adc := by
  rw [State.acceptBusy, State.setReg_adc]
@[simp] theorem State.acceptBusy_sdm (m : Sys2Proof.Master) (a : Sys2Proof.CmdArg) (u c : Nat) : (s.acceptBusy m a u c).sdm = s.sdm := by
  rw [State.acceptBusy, State.setReg_sdm]
@[simp] theorem State.acceptBusy_fio (m : Sys2Proof.Master) (a : Sys2Proof.CmdArg) (u c : Nat) : (s.acceptBusy m a u c).fio = s.fio := by
  rw [State.acceptBusy, State.setReg_fio]
@[simp] theorem State.acceptBusy_safe (m : Sys2Proof.Master) (a : Sys2Proof.CmdArg) (u c : Nat) : (s.acceptBusy m a u c).safe = s.safe := by
  rw [State.acceptBusy, State.setReg_safe]
@[simp] theorem State.acceptBusy_boot (m : Sys2Proof.Master) (a : Sys2Proof.CmdArg) (u c : Nat) : (s.acceptBusy m a u c).boot = s.boot := by
  rw [State.acceptBusy, State.setReg_boot]
@[simp] theorem State.acceptBusy_kec (m : Sys2Proof.Master) (a : Sys2Proof.CmdArg) (u c : Nat) : (s.acceptBusy m a u c).kec = s.kec := by
  rw [State.acceptBusy, State.setReg_kec]
@[simp] theorem State.acceptBusy_xspi (m : Sys2Proof.Master) (a : Sys2Proof.CmdArg) (u c : Nat) : (s.acceptBusy m a u c).xspi = s.xspi := by
  rw [State.acceptBusy, State.setReg_xspi]
@[simp] theorem State.acceptBusy_biv (m : Sys2Proof.Master) (a : Sys2Proof.CmdArg) (u c : Nat) : (s.acceptBusy m a u c).biv = s.biv := by
  rw [State.acceptBusy, State.setReg_biv]

/-! ### A command that is DONE at once -/

@[simp] theorem State.acceptNow_pending (u c : Nat) : (s.acceptNow u c).pending = s.pending := by
  rw [State.acceptNow, State.setReg_pending]
@[simp] theorem State.acceptNow_portRegs (u c : Nat) : (s.acceptNow u c).portRegs = s.portRegs := by
  rw [State.acceptNow, State.setReg_portRegs]
@[simp] theorem State.acceptNow_held (u c : Nat) : (s.acceptNow u c).held = s.held := by
  rw [State.acceptNow, State.setReg_held]
@[simp] theorem State.acceptNow_answers (u c : Nat) : (s.acceptNow u c).answers = s.answers := by
  rw [State.acceptNow, State.setReg_answers]
@[simp] theorem State.acceptNow_mem (u c : Nat) : (s.acceptNow u c).mem = s.mem := by
  rw [State.acceptNow, State.setReg_mem]
@[simp] theorem State.acceptNow_busy (u c : Nat) : (s.acceptNow u c).busy = s.busy := by
  rw [State.acceptNow, State.setReg_busy]
@[simp] theorem State.acceptNow_shadow (u c : Nat) : (s.acceptNow u c).shadow = s.shadow := by
  rw [State.acceptNow, State.setReg_shadow]
@[simp] theorem State.acceptNow_fenced (u c : Nat) : (s.acceptNow u c).fenced = s.fenced := by
  rw [State.acceptNow, State.setReg_fenced]
@[simp] theorem State.acceptNow_unspecified (u c : Nat) : (s.acceptNow u c).unspecified = s.unspecified := by
  rw [State.acceptNow, State.setReg_unspecified]
@[simp] theorem State.acceptNow_sig (u c : Nat) : (s.acceptNow u c).sig = s.sig := by
  rw [State.acceptNow, State.setReg_sig]
@[simp] theorem State.acceptNow_que (u c : Nat) : (s.acceptNow u c).que = s.que := by
  rw [State.acceptNow, State.setReg_que]
@[simp] theorem State.acceptNow_wsch (u c : Nat) : (s.acceptNow u c).wsch = s.wsch := by
  rw [State.acceptNow, State.setReg_wsch]
@[simp] theorem State.acceptNow_memc (u c : Nat) : (s.acceptNow u c).memc = s.memc := by
  rw [State.acceptNow, State.setReg_memc]
@[simp] theorem State.acceptNow_srec (u c : Nat) : (s.acceptNow u c).srec = s.srec := by
  rw [State.acceptNow, State.setReg_srec]
@[simp] theorem State.acceptNow_flt (u c : Nat) : (s.acceptNow u c).flt = s.flt := by
  rw [State.acceptNow, State.setReg_flt]
@[simp] theorem State.acceptNow_hut (u c : Nat) : (s.acceptNow u c).hut = s.hut := by
  rw [State.acceptNow, State.setReg_hut]
@[simp] theorem State.acceptNow_tb (u c : Nat) : (s.acceptNow u c).tb = s.tb := by
  rw [State.acceptNow, State.setReg_tb]
@[simp] theorem State.acceptNow_pcie (u c : Nat) : (s.acceptNow u c).pcie = s.pcie := by
  rw [State.acceptNow, State.setReg_pcie]
@[simp] theorem State.acceptNow_eth (u c : Nat) : (s.acceptNow u c).eth = s.eth := by
  rw [State.acceptNow, State.setReg_eth]
@[simp] theorem State.acceptNow_can (u c : Nat) : (s.acceptNow u c).can = s.can := by
  rw [State.acceptNow, State.setReg_can]
@[simp] theorem State.acceptNow_dac (u c : Nat) : (s.acceptNow u c).dac = s.dac := by
  rw [State.acceptNow, State.setReg_dac]
@[simp] theorem State.acceptNow_clk (u c : Nat) : (s.acceptNow u c).clk = s.clk := by
  rw [State.acceptNow, State.setReg_clk]
@[simp] theorem State.acceptNow_cyc (u c : Nat) : (s.acceptNow u c).cyc = s.cyc := by
  rw [State.acceptNow, State.setReg_cyc]
@[simp] theorem State.acceptNow_ocu (u c : Nat) : (s.acceptNow u c).ocu = s.ocu := by
  rw [State.acceptNow, State.setReg_ocu]
@[simp] theorem State.acceptNow_ce (u c : Nat) : (s.acceptNow u c).ce = s.ce := by
  rw [State.acceptNow, State.setReg_ce]
@[simp] theorem State.acceptNow_ctab (u c : Nat) : (s.acceptNow u c).ctab = s.ctab := by
  rw [State.acceptNow, State.setReg_ctab]
@[simp] theorem State.acceptNow_stopReq (u c : Nat) : (s.acceptNow u c).stopReq = s.stopReq := by
  rw [State.acceptNow, State.setReg_stopReq]
@[simp] theorem State.acceptNow_prof (u c : Nat) : (s.acceptNow u c).prof = s.prof := by
  rw [State.acceptNow, State.setReg_prof]
@[simp] theorem State.acceptNow_axc (u c : Nat) : (s.acceptNow u c).axc = s.axc := by
  rw [State.acceptNow, State.setReg_axc]
@[simp] theorem State.acceptNow_step (u c : Nat) : (s.acceptNow u c).step = s.step := by
  rw [State.acceptNow, State.setReg_step]
@[simp] theorem State.acceptNow_enc (u c : Nat) : (s.acceptNow u c).enc = s.enc := by
  rw [State.acceptNow, State.setReg_enc]
@[simp] theorem State.acceptNow_seq (u c : Nat) : (s.acceptNow u c).seq = s.seq := by
  rw [State.acceptNow, State.setReg_seq]
@[simp] theorem State.acceptNow_ilk (u c : Nat) : (s.acceptNow u c).ilk = s.ilk := by
  rw [State.acceptNow, State.setReg_ilk]
@[simp] theorem State.acceptNow_adc (u c : Nat) : (s.acceptNow u c).adc = s.adc := by
  rw [State.acceptNow, State.setReg_adc]
@[simp] theorem State.acceptNow_sdm (u c : Nat) : (s.acceptNow u c).sdm = s.sdm := by
  rw [State.acceptNow, State.setReg_sdm]
@[simp] theorem State.acceptNow_fio (u c : Nat) : (s.acceptNow u c).fio = s.fio := by
  rw [State.acceptNow, State.setReg_fio]
@[simp] theorem State.acceptNow_safe (u c : Nat) : (s.acceptNow u c).safe = s.safe := by
  rw [State.acceptNow, State.setReg_safe]
@[simp] theorem State.acceptNow_boot (u c : Nat) : (s.acceptNow u c).boot = s.boot := by
  rw [State.acceptNow, State.setReg_boot]
@[simp] theorem State.acceptNow_kec (u c : Nat) : (s.acceptNow u c).kec = s.kec := by
  rw [State.acceptNow, State.setReg_kec]
@[simp] theorem State.acceptNow_xspi (u c : Nat) : (s.acceptNow u c).xspi = s.xspi := by
  rw [State.acceptNow, State.setReg_xspi]
@[simp] theorem State.acceptNow_biv (u c : Nat) : (s.acceptNow u c).biv = s.biv := by
  rw [State.acceptNow, State.setReg_biv]

/-! ### An accepted ABORT -/

@[simp] theorem State.aborted_pending (u : Nat) : (s.aborted u).pending = s.pending := by
  rw [State.aborted, State.setReg_pending]
@[simp] theorem State.aborted_portRegs (u : Nat) : (s.aborted u).portRegs = s.portRegs := by
  rw [State.aborted, State.setReg_portRegs]
@[simp] theorem State.aborted_held (u : Nat) : (s.aborted u).held = s.held := by
  rw [State.aborted, State.setReg_held]
@[simp] theorem State.aborted_answers (u : Nat) : (s.aborted u).answers = s.answers := by
  rw [State.aborted, State.setReg_answers]
@[simp] theorem State.aborted_mem (u : Nat) : (s.aborted u).mem = s.mem := by
  rw [State.aborted, State.setReg_mem]
@[simp] theorem State.aborted_shadow (u : Nat) : (s.aborted u).shadow = s.shadow := by
  rw [State.aborted, State.setReg_shadow]
@[simp] theorem State.aborted_fenced (u : Nat) : (s.aborted u).fenced = s.fenced := by
  rw [State.aborted, State.setReg_fenced]
@[simp] theorem State.aborted_unspecified (u : Nat) : (s.aborted u).unspecified = s.unspecified := by
  rw [State.aborted, State.setReg_unspecified]
@[simp] theorem State.aborted_sig (u : Nat) : (s.aborted u).sig = s.sig := by
  rw [State.aborted, State.setReg_sig]
@[simp] theorem State.aborted_que (u : Nat) : (s.aborted u).que = s.que := by
  rw [State.aborted, State.setReg_que]
@[simp] theorem State.aborted_wsch (u : Nat) : (s.aborted u).wsch = s.wsch := by
  rw [State.aborted, State.setReg_wsch]
@[simp] theorem State.aborted_memc (u : Nat) : (s.aborted u).memc = s.memc := by
  rw [State.aborted, State.setReg_memc]
@[simp] theorem State.aborted_srec (u : Nat) : (s.aborted u).srec = s.srec := by
  rw [State.aborted, State.setReg_srec]
@[simp] theorem State.aborted_flt (u : Nat) : (s.aborted u).flt = s.flt := by
  rw [State.aborted, State.setReg_flt]
@[simp] theorem State.aborted_hut (u : Nat) : (s.aborted u).hut = s.hut := by
  rw [State.aborted, State.setReg_hut]
@[simp] theorem State.aborted_tb (u : Nat) : (s.aborted u).tb = s.tb := by
  rw [State.aborted, State.setReg_tb]
@[simp] theorem State.aborted_pcie (u : Nat) : (s.aborted u).pcie = s.pcie := by
  rw [State.aborted, State.setReg_pcie]
@[simp] theorem State.aborted_eth (u : Nat) : (s.aborted u).eth = s.eth := by
  rw [State.aborted, State.setReg_eth]
@[simp] theorem State.aborted_can (u : Nat) : (s.aborted u).can = s.can := by
  rw [State.aborted, State.setReg_can]
@[simp] theorem State.aborted_dac (u : Nat) : (s.aborted u).dac = s.dac := by
  rw [State.aborted, State.setReg_dac]
@[simp] theorem State.aborted_clk (u : Nat) : (s.aborted u).clk = s.clk := by
  rw [State.aborted, State.setReg_clk]
@[simp] theorem State.aborted_cyc (u : Nat) : (s.aborted u).cyc = s.cyc := by
  rw [State.aborted, State.setReg_cyc]
@[simp] theorem State.aborted_ocu (u : Nat) : (s.aborted u).ocu = s.ocu := by
  rw [State.aborted, State.setReg_ocu]
@[simp] theorem State.aborted_ce (u : Nat) : (s.aborted u).ce = s.ce := by
  rw [State.aborted, State.setReg_ce]
@[simp] theorem State.aborted_ctab (u : Nat) : (s.aborted u).ctab = s.ctab := by
  rw [State.aborted, State.setReg_ctab]
@[simp] theorem State.aborted_stopReq (u : Nat) : (s.aborted u).stopReq = s.stopReq := by
  rw [State.aborted, State.setReg_stopReq]
@[simp] theorem State.aborted_prof (u : Nat) : (s.aborted u).prof = s.prof := by
  rw [State.aborted, State.setReg_prof]
@[simp] theorem State.aborted_axc (u : Nat) : (s.aborted u).axc = s.axc := by
  rw [State.aborted, State.setReg_axc]
@[simp] theorem State.aborted_step (u : Nat) : (s.aborted u).step = s.step := by
  rw [State.aborted, State.setReg_step]
@[simp] theorem State.aborted_enc (u : Nat) : (s.aborted u).enc = s.enc := by
  rw [State.aborted, State.setReg_enc]
@[simp] theorem State.aborted_seq (u : Nat) : (s.aborted u).seq = s.seq := by
  rw [State.aborted, State.setReg_seq]
@[simp] theorem State.aborted_ilk (u : Nat) : (s.aborted u).ilk = s.ilk := by
  rw [State.aborted, State.setReg_ilk]
@[simp] theorem State.aborted_adc (u : Nat) : (s.aborted u).adc = s.adc := by
  rw [State.aborted, State.setReg_adc]
@[simp] theorem State.aborted_sdm (u : Nat) : (s.aborted u).sdm = s.sdm := by
  rw [State.aborted, State.setReg_sdm]
@[simp] theorem State.aborted_fio (u : Nat) : (s.aborted u).fio = s.fio := by
  rw [State.aborted, State.setReg_fio]
@[simp] theorem State.aborted_safe (u : Nat) : (s.aborted u).safe = s.safe := by
  rw [State.aborted, State.setReg_safe]
@[simp] theorem State.aborted_boot (u : Nat) : (s.aborted u).boot = s.boot := by
  rw [State.aborted, State.setReg_boot]
@[simp] theorem State.aborted_kec (u : Nat) : (s.aborted u).kec = s.kec := by
  rw [State.aborted, State.setReg_kec]
@[simp] theorem State.aborted_xspi (u : Nat) : (s.aborted u).xspi = s.xspi := by
  rw [State.aborted, State.setReg_xspi]
@[simp] theorem State.aborted_biv (u : Nat) : (s.aborted u).biv = s.biv := by
  rw [State.aborted, State.setReg_biv]

/-! ### Registers -/

@[simp] theorem State.reg_setPreg (p a b : Nat) (w : Word) : (s.setPreg p a w).reg b = s.reg b := by
  rw [State.reg, State.setPreg_regs, State.reg]
@[simp] theorem State.reg_latch (p a b : Nat) (w : Word) : (s.latch p a w).reg b = s.reg b := by
  rw [State.reg, State.latch_regs, State.reg]
@[simp] theorem State.reg_answer (p b : Nat) (w : Word) (e : Bool) : (s.answer p w e).reg b = s.reg b := by
  rw [State.reg, State.answer_regs, State.reg]
@[simp] theorem State.reg_setByte (a b : Nat) (x : Byte) : (s.setByte a x).reg b = s.reg b := by
  rw [State.reg, State.setByte_regs, State.reg]
@[simp] theorem State.byte_setReg (a b : Nat) (w : Word) : (s.setReg a w).byte b = s.byte b := by
  rw [State.byte, State.setReg_mem, State.byte]
@[simp] theorem State.byte_answer (p b : Nat) (w : Word) (e : Bool) : (s.answer p w e).byte b = s.byte b := by
  rw [State.byte, State.answer_mem, State.byte]

/-- _CMDSTAT after a command turned BUSY (R61). -/
theorem State.reg_acceptBusy (m : Sys2Proof.Master) (a : Sys2Proof.CmdArg) (u c b : Nat) :
    (s.acceptBusy m a u c).reg b = if b = statOf u then cmdstatBusy (s.reg (statOf u)) c else s.reg b := by
  rw [State.acceptBusy, State.reg_setReg]
  simp only [State.reg]

/-- _CMDSTAT after a command was DONE at once (R64). -/
theorem State.reg_acceptNow (u c b : Nat) :
    (s.acceptNow u c).reg b = if b = statOf u then cmdstatAtOnce (s.reg (statOf u)) c else s.reg b := by
  rw [State.acceptNow, State.reg_setReg]

/-- _CMDSTAT after an accepted ABORT (R67). -/
theorem State.reg_aborted (u b : Nat) :
    (s.aborted u).reg b = if b = statOf u then cmdstatAbort (s.reg (statOf u)) else s.reg b := by
  rw [State.aborted, State.reg_setReg]
  simp only [State.reg]

/-- A command register whose command turned BUSY has it in progress. -/
theorem State.acceptBusy_inProgress (m : Sys2Proof.Master) (a : Sys2Proof.CmdArg) (u c : Nat) :
    (s.acceptBusy m a u c).inProgress u = true := by
  rw [State.inProgress, State.acceptBusy, State.setReg_busy, smFind_put_self, Option.isSome_some]

/-- A command register whose command was aborted has none in progress. -/
theorem State.aborted_inProgress (u : Nat) : (s.aborted u).inProgress u = false := by
  rw [State.inProgress, State.aborted, State.setReg_busy, smFind_del_self, Option.isSome_none]

end Sys2Proof.Machine
end

