-- ==== Sys2Proof/Tests/Slice0.lean ====
section
/-!
SUPPORT. The model's own tests: well-formedness, a few commands on small states with results read from the spec, and for
every statement a state and operands that meet the premises of each of its clauses.
-/
namespace Sys2Proof.Tests
set_option Elab.async false
open Sys2Proof Sys2Proof.Machine

/-- Base camp, a secure master. -/
def bc : Master := .baseCamp
/-- A privileged core. -/
def c0 : Master := .core 0 false
/-- A command with an ARG. -/
def arg (n : Nat) : CmdArg := ⟨0, BitVec.ofNat 16 n⟩

/-- A state with these registers written. -/
def put (s : State) (l : List (Nat × Word)) : State := l.foldl (fun s p => s.setReg p.1 p.2) s

/-- A part with no island gated and CYC in MASTER, 5 µs after a t0. -/
def live : State :=
  put { State.reset with cyc := { begun := true, next := 31250 } }
    [(Reg.CLK_ISL_GATE, 0), (Reg.SYS_STATE, 2), (Reg.CYC_STATE, 1)]

/-- The command a row writes is accepted. -/
def accepts (i : Instr) (s : State) : Bool :=
  !s.unspecified && match commandOf i s with
  | some w => w.st.opens w.c.unit && w.st.decideCommand w.m w.a w.c == .accept
  | none => false

/-- The ABORT a row writes is accepted. -/
def aborts (i : Instr) (s : State) : Bool :=
  !s.unspecified && match abortOf i s with
  | some w => w.st.opens w.unit && w.st.granted w.m w.unit w.acc && w.a.rsv == 0 && w.a.arg == 0
  | none => false

theorem accepted {i : Instr} {s : State} (h : accepts i s = true) : s.unspecified = false ∧ Accepted i s := by
  unfold accepts at h
  split at h
  · next w hw => simp at h; exact ⟨h.1, w, hw, h.2.1, h.2.2⟩
  · simp at h

theorem abortAccepted {i : Instr} {s : State} (h : aborts i s = true) : s.unspecified = false ∧ AbortAccepted i s := by
  unfold aborts at h
  split at h
  · next w hw => simp at h; exact ⟨h.1, w, hw, h.2.1.1.1, h.2.1.1.2, h.2.1.2, h.2.2⟩
  · simp at h

/-! ### Worked examples of the spec -/

/-- The state after a command. -/
def after (i : Instr) (s : State) : State := match exec i s with
  | .next t => t
  | _ => s

/-- The CMDSTAT words of the core-enable example, with the refusals of checks 4 and 1 (after R66). -/
theorem test_core_enable_example :
    let a := put { live with wsch := { running := [(23, ⟨0, []⟩)] } }
      [(Reg.SYS_CORE_EN, 0xFFFFF), (Reg.SYS_CORE_ACT, 0xFFFFFF), (Reg.SYS_CMDSTAT, 0)];
    let b := after (.sysApplyCoreEn (.core 0 false) (arg 0)) a;
    let c := after (.sysApplyCoreEn (.core 1 false) (arg 0)) b;
    let d := after (.sysAbort (.core 5 true) (arg 0)) c;
    let e := after (.wschDoneWrite (.core 23 false)) d;
    b.reg Reg.SYS_CMDSTAT = 0x112 ∧ c.reg Reg.SYS_CMDSTAT = 0x10114 ∧ d.reg Reg.SYS_CMDSTAT = 0x20F15 ∧
    e.reg Reg.SYS_CMDSTAT = 0x20101 ∧ e.reg Reg.SYS_CORE_ACT = 0xFFFFF := by
  decide +kernel

/-- The recorder example: three robot positions as one CDATA record (after R458). -/
theorem test_srec_cdata_example :
    let h (a b : Word) (k : Nat) : SrecHist := { x1 := some a, x2 := some b, k := some k };
    let s := put { State.reset with srec := { hist := [(0x300, h 120016 120000 3), (0x301, h (-5008) (-5000) 2), (0x302, h 77 77 0)] } }
      [(Reg.SREC_CFG, 4)];
    s.srecCdata [[⟨0x300, 120031, false, 0⟩, ⟨0x301, -5017, false, 0⟩, ⟨0x302, 77, false, 0⟩]] =
      ([0x30004002, 0x88004300, 0], [(0x300, 2), (0x301, 1), (0x302, 0)]) := by
  decide +kernel

/-- The accumulator, the normalisation and the port of the PI example (after R141). -/
theorem test_ce_pi_example :
    let w : CeOp := ⟨0x788000, 7, none, false⟩;
    let y : CeOp := ⟨0x754000, 7, none, false⟩;
    let kp : CeOp := ⟨0x600000, 0, none, false⟩;
    let ki : CeOp := ⟨0x0147AE, 0, none, false⟩;
    let i : CeOp := ⟨0x500000, 6, none, false⟩;
    let ti := [ceMul ki w 1, ceMul ki y (-1), ceAdd i 1];
    let r := ceNormalise [ceAcc ([ceMul kp w 1, ceMul kp y (-1)] ++ ti), ceAcc ti] (-128) 127;
    r = ([0x54F0A4, 0x5010A4], 6, false) ∧ ceWord 0x54F0A4 = 0x54F0A400 ∧ ceToPort ⟨0x54F0A4, 6, none, false⟩ false = 0x4229E148 ∧
    ceBfIn 0x42F10000 = (w, false, false) := by
  decide +kernel

/-- Setting the clock (after R544). -/
theorem test_biv_set_example :
    let s := put live [(Reg.BIV_STATE, 1), (Reg.BIV_SET_DATE, 0x07EF030E), (Reg.BIV_SET_TIME, 0x91A35)];
    let b := after (.bivSet c0 (arg 1)) s;
    let t := after .calendarLoad b;
    b.reg Reg.BIV_CMDSTAT = 0x112 ∧ t.reg Reg.BIV_CMDSTAT = 0x101 ∧
    t.reg Reg.BIV_CAL_LO = 0x3AAF395D ∧ t.reg Reg.BIV_CAL_HI = 0x80000000 ∧ t.reg Reg.BIV_VIEW_DATE = 0x07EF530E ∧
    t.reg Reg.BIV_VIEW_TIME = 0x91A35 := by
  decide +kernel

/-- Coil targets at q = 2, k = 160, half of full scale (after R215). -/
theorem test_step_target_example :
    let s := put State.reset [(Reg.STEP_CH_STAT 4, 0x08000000)];
    (s.stepTargets 4 100000).1 = -2276 * 2048 ∧ (s.stepTargets 4 100000).2 = -3406 * 2048 := by
  decide +kernel

/-- 0.3 of a half of 3,125 ticks (after R189). -/
theorem test_carrier_example :
    let s := put State.reset [(Reg.AXC_CH_DLIM 0 0, 0xFFFF0000), (Reg.AXC_CH_DT 0 0, 0x142828)];
    s.onTicks 0 3125 (qq 3 10) = 938 ∧ halfWave true 3125 938 = [(0, false), (2187, true)] := by
  decide +kernel

/-- A linear ramp at a quarter, and an S-ramp at a quarter, of the deposition example (R238). -/
theorem test_seq_ramp_example :
    rampBf32 0 0x43480000 1 8000 32000 = 0x42480000 ∧ rampBf32 0x43480000 0 2 4000 16000 = 0x4328C000 := by
  decide +kernel

/-- The SS1 envelope of the ramp example equals the speed at k = 128 and falls below it at k = 129 (R311). -/
theorem test_safe_envelope_example :
    envelopeViolated 32 1 (32 * 8) 128 0x20000 0x400 = false ∧ envelopeViolated 32 1 (32 * 8) 129 0x20000 0x400 = true := by
  decide +kernel

/-- Seven queues of one level, one item each. -/
def busyQueues : State :=
  let q (g : Word) : Word := 0x88000000 + g <<< 20 + 0xFC000
  put { live with que := { queues := [0, 1, 2, 3, 4, 5, 20].map (fun n => (n, { head := [([], 0), ([], 0)] })) } }
    ([0, 1, 2, 3, 4, 5].map (fun n => (Reg.QUE_Q_CFG n, q 0)) ++ [(Reg.QUE_Q_CFG 20, q 1)])

/-- The queues that n arbitrations choose. -/
def chosen : Nat → State → List Nat
  | 0, _ => []
  | n + 1, s => match s.arbitrate s.candidates with
    | (some c, t) => c.q :: chosen n t
    | (none, _) => []

/-- One round with and without deficit compensation (R434). -/
theorem test_wsch_share_example :
    chosen 7 (put busyQueues [(Reg.WSCH_CFG, 0x40000000)]) = [0, 1, 2, 3, 4, 5, 20] ∧
    chosen 6 (put busyQueues [(Reg.WSCH_CFG, 0)]) = [0, 20, 1, 20, 2, 20] := by
  decide +kernel

/-- A mailbox request answered after a second doorbell (after R512): DONE, OVR, SEQ 0x12, RSPLEN 64. -/
theorem test_mailbox_example :
    let s := put { live with pcie := { mbox := [(2, { seq := 0x11 })] } } [(Reg.PCIE_STATE, 2)];
    let a := after (.mbDbWrite 2 0x700C8) s;
    let b := after (.mbDbWrite 2 0x700C8) a;
    b.reg Reg.PCIE_MB_PEND = 4 ∧ mbStat ((after (.mbAnswerWrite c0 0x20040) b).mailbox 2) = 0x401206 := by
  decide +kernel

/-- A live state with DRAM. -/
def withDram : State := put live [(Reg.MEMC_USABLE, 0x1000)]

/-- Step 1 of the deposition example as it stands in memory (R230–R232). -/
theorem test_seq_record_example :
    let b := 0x100000000;
    let s := ((withDram.setWords b [0x5EC10006, 0x00050000, 0, 0x100]).setWord (b + 68) 0x20).setWords (b + 0x200)
      [0x04200011, 0x0009C400, 0x00050000, 0, 0x00000405, 1, 0, 0, 0x40000480, 0x43480000, 0x7D00, 0,
       0x30000002, 0x1F400100, 0x3FF9999A, 0x40033333];
    (match s.seqHeader b with
      | .ok h => h.nstep == 6 && h.abortStep == 5 && h.first == 0 && (match s.seqFetchRec h 1 with
        | .ok r => r == ⟨0x11, 640000, 5, [⟨0, 0x405, 1, 0⟩, ⟨1, 0x480, 0x43480000, 32000⟩],
            [⟨3, 0, 64000, false, 2, 0x100, 0x3FF9999A, 0x40033333⟩], []⟩
        | .error _ => false)
      | .error _ => false) = true := by
  decide +kernel

/-- Rule 40 of the deposition example: 3.25 Torr, true three times, trips it; 2.0 Torr with the lid closed does not. -/
theorem test_ilk_rule_example :
    let e (enc : Nat) : BitVec 128 := BitVec.ofNat 128 (2 ^ 127 + enc * 2 ^ 120 + 0x8000 * 2 ^ 64);
    let d : List Word := [0x90000200, 0x94000001, 0x405, 0, 0x20000100, 0x40400000, 0x50000603, 0, 0, 0, 0, 0, 0, 0, 0, 0];
    let sig (p : Word) : SigState := { routes := [(0x100, e 2), (0x603, e 0)], recs := [(0x100, ⟨p, 1, 0, true, false, none⟩), (0x603, ⟨1, 1, 0, true, false, none⟩)] };
    let s (p : Word) := { live with sig := sig p, ilk := { banks := [(40, d)] } };
    let hi := ((s 0x40500000).ilkEval [] 40).ilkEval [] 40;
    let lo := (((s 0x40000000).ilkEval [] 40).ilkEval [] 40).ilkEval [] 40;
    hi.ilkAct 40 = false ∧ (hi.ilkEval [] 40).ilkAct 40 = true ∧ (hi.ilkEval [] 40).ilkLat 40 = true ∧ lo.ilkAct 40 = false := by
  decide +kernel

/-- The schedule of the valve segment meets R329; with 118 minislots it does not. -/
theorem test_ocu_schedule_example :
    let s (len : Word) := put live [(Reg.OCU_SCH_ID_S 1, 0x10A31), (Reg.OCU_SCH_NODE_S 1, 0), (Reg.OCU_SCH_TS_S 1, 0x64),
      (Reg.OCU_SCH_LEN_S 1, len), (Reg.OCU_SCH_OWN_S 1 0, 0x82818080), (Reg.OCU_SCH_OWN_S 1 1, 0x8483)];
    (s 0x40740006).schedOk 1 = true ∧ (s 0x40760006).schedOk 1 = false := by
  decide +kernel

/-- The converter of the fault example: three failed checks with no leak between them retire it; each charges 1. -/
theorem test_bucket_example :
    let s := put live [(Reg.FLT_BKT_CFG 1, 0xE1003)];
    let f := Instr.referenceCheck 4 1000 1000;
    let a := after f s; let b := after f a; let c := after f b;
    a.bucket 1 4 = 1 ∧ b.bucket 1 4 = 2 ∧ c.bucket 1 4 = 0 ∧ c.isRetired 1 4 = true ∧ c.adc.retiring = [4] := by
  decide +kernel

/-- A leak tick at operating second 1,200. -/
theorem test_leak_example :
    let s := (put live [(Reg.FLT_BKT_CFG 1, 0xE1003), (Reg.BIV_OPS, 1198)]).setBucket 1 4 2;
    let a := after .operatingSecond s;
    a.bucket 1 4 = 2 ∧ (after .operatingSecond a).bucket 1 4 = 1 := by
  decide +kernel

/-- The supply example: FO1 goes off and latches off when FSUP_A is lost, and waits for 0 after ARM. -/
theorem test_supply_example :
    let s := put { live with sig := { latched := [(0x4011, ⟨1, 1, true⟩)] } }
      [(Reg.FIO_STATE, 0x33), (Reg.FIO_OUT_CFG 1, 0xC0000000), (Reg.FIO_OUT_SET, 2)];
    let d := after (.supplyLost false 15000) s;
    let r := after (.supplyRecovered false 24000) d;
    let g := (after (.fioArm c0 (arg 1)) r).fioAtT0;
    let z := { g with sig := { g.sig with latched := [(0x4011, ⟨0, 1, true⟩)] } }.fioAtT0;
    let o := { z with sig := { z.sig with latched := [(0x4011, ⟨1, 1, true⟩)] } }.fioAtT0;
    d.reg Reg.FIO_OUT_SET = 0 ∧ d.reg Reg.FIO_STATE = 0x30 ∧ r.reg Reg.FIO_STATE = 0x31 ∧ g.reg Reg.FIO_STATE = 0x33 ∧
    g.reg Reg.FIO_OUT_SET = 0 ∧ z.reg Reg.FIO_OUT_SET = 0 ∧ o.reg Reg.FIO_OUT_SET = 2 := by
  decide +kernel

/-- The one-step Sync with a launch time: TS = L + 3, correctionField += 3 × 2^16, the descriptor written back. -/
theorem test_eth_sync_example :
    let d := 0x100000000;
    let r := ethRing 0 7 true;
    let t : Nat := 0x77359400 - 3000;
    let s := put { live with tb := { ofs := -(t : Int) }, cyc := { begun := true, next := 31250 } }
      [(Reg.MEMC_USABLE, 0x1000), (Reg.TB_TIME_LO, BitVec.ofNat 32 t), (Reg.CYC_T0_LAST, BitVec.ofNat 32 t),
       (Reg.ETH_CFG 0, 0x20), (Reg.ETH_STATE 0, 1), (r, 0), (r + 4, 1), (r + 8, 8), (r + 16, 1), (r + 20, 3)];
    let s := s.setWords d [0x1000, 0xF03A0001, 0x77359400, 0xE, 0, 0, 0, 0];
    let u := after (.launchTime false 3) s;
    u.word (d + 16) = 0x77359403 ∧ u.word (d + 20) = 5 ∧ u.word (d + 4) = 0x703A0001 ∧
    ((u.ethMac 0).sent.drop 22).take 8 = [0, 0, 0, 0, 0, 3, 0, 0] ∧ (u.ethMac 0).sent.length = 64 ∧
    (u.ethMac 0).wireTill = 3000 + 512 + 96 := by
  decide +kernel

/-- STALE_LIM = 4 and a last update in FC n: five t0 later the age is 4, at the sixth it is 5 and STALE is set (R81). -/
theorem test_stale_example :
    let e : BitVec 128 := BitVec.ofNat 128 (2 ^ 127 + 4 * 2 ^ 102 + 0x8000 * 2 ^ 64);
    let s := { live with sig := { routes := [(0x10, e)], recs := [(0x10, ⟨7, 1, 0, true, false, none⟩)] } };
    let f (s : State) := s.ageSignal 0x10;
    let a := f (f (f (f (f s))));
    ((f s).sigRec 0x10).age = 0 ∧ ((f (f s)).sigRec 0x10).age = 1 ∧ (a.sigRec 0x10).age = 4 ∧ (a.sigRec 0x10).st = 1 ∧
    ((f a).sigRec 0x10).age = 5 ∧ stHas ((f a).sigRec 0x10).st sSTALE = true := by
  decide +kernel

/-- The gates of the half-pair example around the rising command: HS follows LS by DTR = 40 ticks (R188). -/
theorem test_gates_example :
    let s := put { live with axc := [(0, { en := true, sw := true, before := [(false, 256)], wave := [halfWave true 3125 938] })] }
      [(Reg.AXC_CH_DT 0 0, 0x142828), (Reg.AXC_CH_CFG 0 0, 0x22)];
    s.gates 0 0 2186 = (false, true) ∧ s.gates 0 0 2187 = (false, false) ∧ s.gates 0 0 2226 = (false, false) ∧
    s.gates 0 0 2227 = (true, false) := by
  decide +kernel

/-- The affinity example: CLASS 5 last ran on core 3; core 3 takes A by affinity, then the aged B goes to core 6. -/
theorem test_affinity_example :
    let item (t : Word) : List Word := (0x50000 + t) :: List.replicate 15 0;
    let s := put { live with que := { queues := [(10, { head := [(item 0x101, 5), (item 0x102, 5)] })] },
                             wsch := { running := [0, 1, 2, 4, 5, 7].map (fun n => (n, ⟨0, []⟩)) } }
      [(Reg.QUE_Q_CFG 10, 0x8800C000), (Reg.SYS_CORE_ACT, 0xFF), (Reg.SYS_CORE_EN, 0xFF), (Reg.WSCH_CONF, 1),
       (Reg.WSCH_STATE, 1), (Reg.WSCH_AFF 1, 0x8300), (Reg.WSCH_CFG, 200)];
    let a := after .dispatchDecision s;
    let b := after .dispatchDecision a;
    a.wsch.running.map (fun p => p.1) = [0, 1, 2, 3, 4, 5, 7] ∧ a.reg Reg.WSCH_AFF_HIT_CNT = 1 ∧ b = a ∧
    (after .dispatchDecision (b.advanceTo 2100)).wsch.running.map (fun p => p.1) = [0, 1, 2, 3, 4, 5, 6, 7] := by
  decide +kernel

/-! ### Well-formedness: each check refuses an ill-formed command -/

/-- A cold start with these failing tests. -/
def cold (f : List (Fin 10 × BitVec 24)) : ColdEnv := ⟨0, 0, 0, false, true, 0, f, 0⟩
/-- A CAN frame. -/
def canRx (id : BitVec 29) (ide rtr fdf brs : Bool) (dlc : BitVec 4) (data : BitVec 512) : CanRx := ⟨id, ide, rtr, fdf, brs, false, dlc, data, 0⟩

theorem test_wf_refuses_places :
    WellFormed (.registerWrite c0 (.bar2 0) .word 0) = false ∧ WellFormed (.loRegisterRead bc (.bar2 0) .word) = false ∧
    WellFormed (.registerWrite .host (.bar2 0) .word 0) = true := by decide

theorem test_wf_refuses_offsets :
    WellFormed (.setAliasWrite c0 2 0) = false ∧ WellFormed (.clearAliasWrite c0 1 0) = false ∧
    WellFormed (.toggleAliasWrite c0 3 0) = false ∧ WellFormed (.w1cWrite c0 0x11 0) = false ∧
    WellFormed (.resultRegisterRead c0 2) = false ∧ WellFormed (.setAliasWrite c0 4 0) = true ∧
    WellFormed (.parityScan 2 1) = false ∧ WellFormed (.parityScan 4 0) = false ∧
    WellFormed (.remoteWindowAccess c0 1 2 0 none) = false ∧ WellFormed (.remoteWindowAccess c0 1 4 1 (some [0])) = false ∧
    WellFormed (.remoteWindowAccess c0 1 4 1 (some [0, 0])) = true := by decide

theorem test_wf_refuses_sizes :
    WellFormed (.fcStart (List.replicate 33 0) []) = false ∧ WellFormed (.currentTickB [] (List.replicate 49 0)) = false ∧
    WellFormed (.fcStart [0] [0]) = true ∧ WellFormed (.qdbCommit 0 []) = false ∧
    WellFormed (.qdbCommit 0 (List.replicate 17 0)) = false ∧ WellFormed (.qdbCommit 0 [0]) = true ∧
    WellFormed (.ethFrameReceive false [] 0) = false := by decide

theorem test_wf_refuses_empty_frames :
    WellFormed (.cairnFrameReceived true true 0 []) = false ∧ WellFormed (.slotFrameReceived true true 0 []) = false ∧
    WellFormed (.delayReqReceived true true 0 [] 0 false) = false ∧ WellFormed (.delayRspReceived true true 0 []) = false ∧
    WellFormed (.dynamicFrameReceived true true 0 []) = false ∧ WellFormed (.rraReq true true 0 []) = false ∧
    WellFormed (.rraRsp true true 0 []) = false ∧ WellFormed (.mbox true true 0 []) = false ∧
    WellFormed (.mboxAck true true 0 []) = false ∧ WellFormed (.bulkData true true 0 []) = false ∧
    WellFormed (.bulkAck true true 0 []) = false ∧ WellFormed (.bulkAck true true 0 [0]) = true := by decide

theorem test_wf_refuses_can :
    WellFormed (.canFrameReceived 0 (canRx 2048 false false false false 0 0)) = false ∧
    WellFormed (.canFrameReceived 0 (canRx 1 false false false true 0 0)) = false ∧
    WellFormed (.canFrameReceived 0 (canRx 1 false true true false 0 0)) = false ∧
    WellFormed (.canFrameReceived 0 (canRx 1 false false false false 1 0x100)) = false ∧
    WellFormed (.wakeDetected 0 0 (some (canRx 2048 false false false false 0 0))) = false ∧
    WellFormed (.canFrameReceived 0 (canRx 2048 true false false false 1 0xFF)) = true := by decide +kernel

theorem test_wf_refuses_memory :
    WellFormed (.dramRead c0 0 0) = false ∧ WellFormed (.dramRead c0 0x100000002 0) = false ∧
    WellFormed (.patrolScrub 0x100000004 0 0) = false ∧ WellFormed (.patrolScrub 8 0 0) = false ∧
    WellFormed (.sharedSramRead c0 1 0) = false ∧ WellFormed (.dramRead c0 0x100000004 0) = true ∧
    WellFormed (.coldStart (cold [(1, 2), (1, 2)])) = false ∧ WellFormed (.coldStart (cold [(1, 2), (1, 3)])) = true := by decide +kernel

/-- No word spells a command of this block. -/
theorem test_no_word_spells_a_command : decodeTableWord 32 0x112 = none := by decide

/-- An empty queue: the tick leaves the queue empty and takes no command. -/
theorem test_reset_queue_empty : State.reset.pending = [] := by decide

/-- A command in progress on a command register since the present instant. -/
def busy (s : State) (unit code : Nat) (arg : Nat := 0) : State :=
  { s with busy := smPut s.busy unit ⟨code, arg, mport bc, 0, s.now⟩ }

/-! ### Premises of the statements, clause by clause -/

theorem witness_CorePool :
    accepts (.sysApplyCoreEn bc (arg 0)) live ∧ accepts (.sysClearCounters bc (arg 0)) live ∧ aborts (.sysAbort bc (arg 0)) live ∧
    accepts (.clkApplyPoolSel bc (arg 0)) live ∧
    (busy live Reg.CLK_CMD 1).busyWith Reg.CLK_CMD 1 ∧ (busy live Reg.CLK_CMD 1).wsch.running = [] ∧
    aborts (.clkAbort bc (arg 0)) (busy live Reg.CLK_CMD 1) ∧ (busy live Reg.CLK_CMD 1).inProgress Reg.CLK_CMD := by
  decide +kernel

/-- A bulk load of one entry in progress. -/
def loading : State := { busy live Reg.SIG_CMD 1 with sig := { load := some ⟨0, 0, 1, 0⟩ } }

theorem witness_Signals :
    live.opens Reg.SIG_ENT_IDX ∧ accGranted (mclass bc) .priv ∧ accepts (.sigLoad bc (arg 0)) (put live [(Reg.SIG_LOAD_CNT, 1)]) ∧
    loading.up 4 ∧ loading.sig.load.isSome ∧ (smFind loading.busy Reg.SIG_CMD).isSome ∧ accepts (.sigSwap bc (arg 0)) live ∧
    aborts (.sigAbort bc (arg 0)) loading ∧ live.opens Reg.SIG_PEEK_ID ∧ live.opens Reg.SIG_WR_VAL ∧
    live.up 4 ∧ prodOk 0x101F ∧ prodOk 0x1000 ∧ prodOk 0xF000 ∧ ¬ live.busyWith Reg.SIG_CMD 1 := by
  decide +kernel

theorem witness_Cycle :
    accepts (.cycStart bc (arg 0)) (put live [(Reg.CYC_STATE, 0)]) ∧
    accepts (.cycStart bc (arg 0)) (put { live with ocu := [(0, { loaded := true })] } [(Reg.CYC_STATE, 0), (Reg.SYS_ROLE, 0x100)]) ∧
    accepts (.cycSwap bc (arg 0)) live ∧ accepts (.cycSwap bc (arg 0)) (put live [(Reg.CYC_SETUP_S, 250)]) ∧
    accepts (.cycSwap bc (arg 0)) (put live [(Reg.CYC_SETUP_S, 2000)]) ∧ aborts (.cycAbort bc (arg 0)) live ∧
    live.up 6 ∧ live.hasT0 := by
  decide +kernel

/-- CYC in HOLDOVER for 64 FC. -/
def holdover : State := put { live with cyc := { live.cyc with missed := 64 } } [(Reg.CYC_STATE, 4)]

theorem witness_Cycle_holdover :
    holdover.up 6 ∧ holdover.reg Reg.CYC_STATE = 4 ∧ 64 ≤ holdover.cyc.missed ∧ holdover.cyc.lost = false ∧
    (put live [(Reg.CYC_STATE, 3)]).reg Reg.CYC_STATE = 3 := by
  decide +kernel

/-- A run of slot 0 that is to come, on lane 0; a check of it on lane 1; a vote. -/
def ceRun (kind : Nat) : CeRun := ⟨0, kind, 0, 1000, 2000, 3000, 1000, true, 0⟩
def ceCheck : CeCheck := { slot := 0, kind := 0, lane := 0, words := [], ins := [], dir := [], res := [], chk := 2 }
def ceLive (kind : Nat) : State := put { live with ce := { plan := [ceRun kind], checks := [ceCheck], votes := [] } } [(Reg.CE_STATE, 1)]
def ceVote : State := { ceLive 0 with ce := { (ceLive 0).ce with votes := [ceCheck] } }

theorem witness_Ce :
    accepts (.ceStart bc (arg 0)) live ∧ accepts (.ceStop bc (arg 0)) (ceLive 0) ∧ accepts (.ceValidate bc (arg 0)) live ∧
    (busy live Reg.CE_CMD 3).up 5 ∧ (busy live Reg.CE_CMD 3).busyWith Reg.CE_CMD 3 ∧
    accepts (.ceSwap bc (arg 0)) (put live [(Reg.CE_VAL, 0x80000000)]) ∧ aborts (.ceAbort bc (arg 0)) live ∧
    live.opens Reg.CE_CMD := by
  decide +kernel

theorem witness_CeRuns :
    (ceLive 0).up 5 ∧ (ceLive 0).ceRunOf 0 0 = some (ceRun 0) ∧ ¬ (ceLive 0).ceVoting 0 ∧ (ceRun 0).fits ∧
    ceVote.ceRunOf 0 0 = some (ceRun 0) ∧ ceVote.ceVoting 0 ∧
    (ceLive 1).ceRunOf 0 1 = some (ceRun 1) ∧ (ceLive 2).ceRunOf 0 2 = some (ceRun 2) ∧ ¬ (ceLive 2).ceVoting 0 ∧
    (ceLive 0).ceChecker = some 2 ∧ (ceLive 0).ce.checks = [ceCheck] ∧
    ceVote.ce.votes = [ceCheck] ∧ ceVote.ceExec.find? (fun n => n != ceCheck.lane && n != ceCheck.chk) = some 1 ∧
    (ceLive 0).ceRole 0 = 0 ∧ (ceLive 0).ceCurrent 0 = some (ceRun 0) ∧ (ceLive 0).ceRole 2 = 1 := by
  decide +kernel

/-- Lane 0 named in the retirement list and in service; a table of one entry, in mode 1, with a copy of it in progress. -/
def laneOut : State := (ceLive 0).retire 2 0
def table : State := put live [(Reg.CTAB_TD_0 0, 0x40400000)]
def copying : State := { busy table Reg.CTAB_CMD 1 with ctab := some ⟨0, 0, 64, 0⟩ }

theorem witness_CeTables :
    laneOut.up 5 ∧ ¬ (laneOut.ceRole 0 = 2 ∨ !laneOut.isRetired 2 0) ∧ accepts (.ctabCopy bc (arg 0)) table ∧
    copying.up 5 ∧ copying.ctab.isSome ∧ copying.ctabReadable ⟨0, 0, 64, 0⟩ ∧ aborts (.ctabAbort bc (arg 0)) copying := by
  decide +kernel

theorem witness_FastCycle : live.up 6 ∧ live.cycRuns ∧ live.hasT0 := by decide +kernel

/-- Generator 0 in a state, with the hardware queue 0 and a traverse of type 7 (a HOME) at port 28. -/
def genLive (st : Nat) : State :=
  let s := put (live.setGenSt 0 st) [(Reg.PROF_G_CFG 0, 0x800000), (Reg.QUE_Q_CFG 0, 0xC0000000)]
  { s with portRegs := smPut s.portRegs (portKey (mport bc) (Reg.PROF_IMM_D 0)) 0x70000000 }

theorem witness_ProfCommands :
    accepts (.profEnable bc 0 (arg 0)) (genLive 0) ∧ accepts (.profEnable bc 127 (arg 0)) live ∧
    accepts (.profDisable bc 0 (arg 0)) (genLive 1) ∧ accepts (.profGo bc 0 (arg 0)) (genLive 2) ∧
    accepts (.profRunQueue bc 0 (arg 0)) (genLive 1) ∧ accepts (.profStop bc 0 (arg 0)) (genLive 2) ∧
    accepts (.profQstop bc 0 (arg 0)) (genLive 5) ∧ accepts (.profFlush bc 0 (arg 0)) (genLive 2) ∧
    accepts (.profLatchArm bc 0 (arg 0)) (genLive 1) ∧ aborts (.profGenAbort bc 0 (arg 0)) (genLive 2) ∧
    accepts (.profStopAll bc (arg 0)) live ∧ aborts (.profAbort bc (arg 0)) live := by
  decide +kernel

/-- The advance of the present FC is still to come; a traverse waits in hardware queue 0. -/
def genNext : State :=
  let s := genLive 1
  { s with prof := { s.prof with adv := false }, que := { queues := [(0, { head := [(List.replicate 16 0x70000000, 0)] })] } }

theorem witness_ProfEvents :
    genNext.up 6 ∧ (genNext.hasT0 && !genNext.prof.adv) ∧ genNext.genHwq 0 = some 0 ∧ (genNext.gen 0).queue.length < 16 ∧
    (genNext.quePop 0).1.isSome ∧ live.opens (Reg.PROF_G_HOFS 127) ∧ live.granted bc (Reg.PROF_G_HOFS 127) .priv ∧
    live.opens Reg.PROF_CAM_DATA ∧ live.granted bc Reg.PROF_CAM_DATA .priv ∧ accGranted (mclass bc) .priv := by
  decide +kernel

/-- Channel 0 in a state, with DESAT allowed. -/
def axLive (st : Nat) : State := put (live.setAxcSt 0 st) [(Reg.AXC_CH_FLT 0 0, 0x100)]

theorem witness_Axc :
    accepts (.axcEnable bc 0 (arg 0)) live ∧ accepts (.axcEnable bc 15 (arg 0)) live ∧ accepts (.axcDisable bc 0 (arg 0)) (axLive 2) ∧
    accepts (.axcReset bc 0 (arg 0)) (axLive 3) ∧ aborts (.axcChannelAbort bc 0 (arg 0)) (axLive 1) ∧
    accepts (.axcSwap bc 0 (arg 0)) live ∧ aborts (.axcAbort bc 3 (arg 0)) live ∧ (axLive 1).up 6 ∧ (axLive 1).axcSt 0 = 1 ∧
    ¬ (live.axcSync 0 ≠ 0 ∧ !live.hasT0) ∧ (true && bitOf ((axLive 2).reg (Reg.AXC_CH_FLT 0 0)) 8 || false) := by
  decide +kernel

/-- Encoder port 0 in a mode, with Z latching where A and B are high. -/
def encLive (w : Word) (e : EncPort) : State := put (live.setEncPort 0 e) [(Reg.ENC_P_MODE 0, w), (Reg.ENC_P_MODE1 0, 0x2000000)]

theorem witness_Enc :
    accepts (.encConfig bc (arg 0)) live ∧ accepts (.encConfig bc (arg 15)) live ∧ accepts (.encSsiRead bc (arg 0)) (encLive 4 {}) ∧
    aborts (.encAbort bc (arg 0)) (busy (encLive 4 {}) Reg.ENC_CMD 2) ∧ (encLive 4 { frame := true }).up 6 ∧
    (fld ((encLive 4 { frame := true }).reg (Reg.ENC_P_MODE 0)) 2 0 = 4 ∧ ((encLive 4 { frame := true }).encPort 0).frame) ∧
    countStep ((encLive 1 {}).encMode 0) false false true true = none ∧
    countStep ((encLive 5 {}).encMode 0) false false true true = none ∧
    (countStep ((encLive 1 {}).encMode 0) false false false true).any (fun d => d != 0) ∧
    (countStep ((encLive 3 {}).encMode 0) false false true true) = some 1 ∧
    fld ((encLive 1 { a := true, b := true }).reg (Reg.ENC_P_MODE1 0)) 25 24 = 2 := by
  decide +kernel

/-- Stepper channel 0 runs, in AUTO, standstill after 4 FC; encoder port 0 in STEPDIR. -/
def stepLive (c : StepChan) : State :=
  put { live with step := { chans := [(0, c)] } }
    [(Reg.STEP_CH_CFG 0, 0x81000000), (Reg.AXC_CH_CFG 0 0, 1), (Reg.STEP_CH_STBY 0, 4), (Reg.ENC_P_MODE 0, 3)]

theorem witness_Step :
    accepts (.stepReshape bc (arg 3)) live ∧ (busy live Reg.STEP_CMD 1).up 6 ∧ (smFind (busy live Reg.STEP_CMD 1).busy Reg.STEP_CMD).isSome ∧
    aborts (.stepAbort bc (arg 0)) live ∧ (stepLive { on := true }).up 6 ∧
    ((stepLive { on := true }).stepRuns 0 && ((stepLive { on := true }).stepCh 0).on && (stepLive { on := true }).stepMode 0 == 0) ∧
    (let s := stepLive { on := true, still := 4 }; s.stepRuns 0 && (s.stepCh 0).on &&
      fld (s.reg (Reg.STEP_CH_STBY 0)) 15 0 != 0 && decide (fld (s.reg (Reg.STEP_CH_STBY 0)) 15 0 ≤ (s.stepCh 0).still) &&
      !(s.stepCh 0).standby) ∧ fld ((stepLive {}).reg (Reg.ENC_P_MODE 0)) 2 0 = 3 := by
  decide +kernel

/-- Sequencer channel 0 in a state; with a fetch in progress, of a record of a recipe at 0x1000 whose step 0 stands at 0x1080. -/
def seqLive (st : Nat) (x : SeqChan := {}) : State := (live.setSeqSt 0 st).setSeqCh 0 x
def recipe : SeqHdr := ⟨0x1000, 1, 0, 0, 0, 16⟩
def seqFetch (start : Bool) : State :=
  (seqLive 2 { hdr := some recipe, fetch := some ⟨start, 0, false⟩ }).setWords 0x1040 [8]

theorem witness_Seq :
    accepts (.seqStart bc 0 (arg 0)) live ∧ accepts (.seqStart bc 15 (arg 0)) live ∧ accepts (.seqPause bc 0 (arg 0)) (seqLive 2) ∧
    accepts (.seqResume bc 0 (arg 0)) (seqLive 3 { rules := [(5, true)] }) ∧ accepts (.seqRelease bc 0 (arg 0xFFFE)) (seqLive 2) ∧
    accepts (.seqReset bc 0 (arg 0)) (seqLive 6) ∧ aborts (.seqChannelAbort bc 0 (arg 0)) (seqLive 2) ∧
    aborts (.seqAbort bc (arg 0)) (seqLive 2) ∧ live.up 5 ∧ (live.hasT0 && !live.seq.evald) ∧
    ((seqFetch true).seqCh 0).fetch = some ⟨true, 0, false⟩ ∧ ((seqFetch false).seqCh 0).fetch = some ⟨false, 0, false⟩ ∧
    ((seqFetch false).seqCh 0).hdr = some recipe ∧ (((seqFetch false).seqFetchRec recipe 0).toOption).isSome ∧
    ((seqLive 2).seqFetchRec { recipe with base := 0x7FFFFF00 } 0).toOption = none := by
  decide +kernel

theorem witness_Ilk :
    live.up 5 ∧ (live.hasT0 && !live.ilk.evald) ∧ accepts (.ilkSwap bc (arg 0)) live ∧ accepts (.ilkCopyActive bc (arg 0)) live ∧
    (smFind (busy live Reg.ILK_CMD 2).busy Reg.ILK_CMD).any (fun b => b.code == 2) ∧ accepts (.ilkAck bc (arg 1023)) live ∧
    aborts (.ilkAbort bc (arg 0)) (busy live Reg.ILK_CMD 2) ∧ live.opens Reg.ILK_RULE_IDX ∧ accGranted (mclass bc) .priv ∧
    live.busyWith Reg.ILK_CMD 1 = false ∧ (busy live Reg.ILK_CMD 1).busyWith Reg.ILK_CMD 1 := by
  decide +kernel

/-- Group 0 of ADC on, with a source; converter 5 converts input 5, its sample-and-hold free or not. -/
def adcLive (src : Word) (free : Bool) : State :=
  put { live with adc := { jobs := [⟨5, 5, 0, free⟩], armed := [(0, 100)] } } [(Reg.ADC_G_CFG 0, 0x80000000 + src * 0x10000)]

theorem witness_Adc :
    accepts (.adcTrigger bc (arg 0xFFFF)) live ∧ accepts (.adcSwap bc (arg 0)) live ∧ aborts (.adcAbort bc (arg 0)) live ∧ live.up 7 ∧
    (live.hasT0 && !live.adc.fired.contains 31249 && decide (31249 < 31250)) ∧
    smFind (adcLive 3 true).adc.armed 0 = some 100 ∧ ((adcLive 3 true).adcOn 0 && (adcLive 3 true).adcSrc 0 == 3) ∧
    live.opens (Reg.ADC_G_TBTIME 15) ∧ ((adcLive 3 true).adc.jobs.find? (fun j => j.conv == 5 && j.free)).isSome ∧
    ((adcLive 3 false).adc.jobs.find? (fun j => j.conv == 5 && !j.free)).isSome ∧
    ¬ (live.convBusy 33 || (List.range 32).any (fun n => (live.adcServe n).contains 33 && live.adcQueued n != 0)) := by
  decide +kernel

/-- Channel 0 of SDM on, with its clock; DAC channel 0 on in the IMMEDIATE mode, with a value that waits. -/
def sdmLive (stuck : Bool) : State :=
  put { live with sdm := [(0, { stuck := stuck })], dac := { queue := [(0, [{ val := 5, live := true }])] } }
    [(Reg.SDM_CH_CFG 0, 0x80000001), (Reg.SDM_CLK 0, 0x100), (Reg.DAC_CH_CFG 0, 0x80000002)]

theorem witness_SdmDac :
    accepts (.sdmSwap bc (arg 0)) live ∧ aborts (.sdmAbort bc (arg 0)) live ∧ (sdmLive false).up 7 ∧
    ((sdmLive false).sdmOn 0 && (sdmLive false).sdmClocked 0 && !((sdmLive false).sdmCh 0).stuck) ∧
    (((sdmLive true).sdmCh 0).stuck && (sdmLive true).sdmClocked 0) ∧
    (let s := sdmLive false; s.sdmOn 0 && s.sdmClocked 0 && bitOf (s.reg (Reg.SDM_CH_CFG 0)) 0 &&
      decide (sdmD1 (s.reg (Reg.SDM_CH_CFG 0)) ≤ sdmD1 (s.reg (Reg.SDM_CH_CFG 0))) &&
      decide (fld (s.reg (Reg.SDM_CH_OCLIM 0)) 15 0 * sdmD1 (s.reg (Reg.SDM_CH_CFG 0)) ≤
        sdmD1 (s.reg (Reg.SDM_CH_CFG 0)) * 65536)) ∧
    aborts (.dacAbort bc (arg 0)) live ∧ (smGet (fun _ => []) (sdmLive false).dac.queue 0).length = 1 ∧
    ((sdmLive false).dacOn 0 && (sdmLive false).dacMode 0 == 2) := by
  decide +kernel

theorem witness_FioSupply :
    accepts (.fioArm bc (arg 3)) ((live.setFioGroup 0 1).setFioGroup 1 1) ∧
    accepts (.fioClearOut bc (arg 0x8000)) (put live [(Reg.FIO_OUT_LATCH, 0x8000)]) ∧ accepts (.fioFlushTsf bc (arg 0)) live ∧
    aborts (.fioAbort bc (arg 0)) (busy live Reg.FIO_CMD 1 3) ∧ live.up 13 ∧ ¬ live.fio.absent.contains 1 ∧
    ({ live with fio := { absent := [1] } } : State).fio.absent.contains 1 ∧
    (19199 < 19200) ∧ (19600 ≤ 19600) ∧ (16000 ≤ 16000) ∧ (15999 < 16000) ∧ (19200 ≤ 19200) := by
  decide +kernel

/-- Outputs on, their groups up, open-load detection on output 0, a test pulse of output 0 at a stage; input 0 loaded. -/
def fioLive (stage : Nat) : State :=
  put { live.setFioGroup 0 3 with fio := { ins := [(0, { loaded := true })], pulses := [(0, ⟨stage, 0, false⟩)] } }
    [(Reg.FIO_OUT_SET, 0xFFFF), (Reg.FIO_OUT_CFG 0, 0x20000000)]

theorem witness_FioPorts :
    live.up 13 ∧ ¬ bitOf (live.reg Reg.FIO_IN_RAW) 15 = true ∧
    (let x := (fioLive 0).fioIn 0; ((fioLive 0).advanceTo x.next).fioGroup 0 ≠ 0 ∧ x.loaded) ∧
    live.opens Reg.FIO_TSF_LO ∧ bitOf ((fioLive 0).reg Reg.FIO_OUT_SET) 15 ∧
    (bitOf ((fioLive 0).reg (Reg.FIO_OUT_CFG 0)) 29 && bitOf ((fioLive 0).reg Reg.FIO_OUT_SET) 0) ∧
    (smFind (fioLive 0).fio.pulses 0).isSome ∧ (smFind (fioLive 1).fio.pulses 0).any (fun p => p.stage == 1) := by
  decide +kernel

/-- SAFE in a mode (2 RUN, 3 CONFIG), its groups in a state, with the CRC confirmed. -/
def safeLive (mode group : Nat) : State :=
  let s := put live [(Reg.SAFE_STATE, wordOfNat mode), (Reg.SAFE_GSTATE, wordOfNat (group * 0x11111111))]
  { s with safe := { s.safe with confirm := some (s.reg Reg.SAFE_CRC) } }

theorem witness_SafeCommands :
    accepts (.safeReset bc (arg 1)) (safeLive 2 3) ∧ (busy live Reg.SAFE_CMD 1).up 2 ∧
    (smFind (busy live Reg.SAFE_CMD 1).busy Reg.SAFE_CMD).isSome ∧ accepts (.safeConfig bc (arg 0)) (safeLive 2 0) ∧
    accepts (.leaveConfig bc (arg 0)) (safeLive 3 0) ∧ accepts (.safeDemand bc (arg 0xFF)) (safeLive 2 1) ∧
    accepts (.safeRelease bc (arg 1)) (safeLive 2 1) ∧ aborts (.safeAbort bc (arg 0)) live ∧
    live.opens Reg.SAFE_SEL_SET ∧ live.granted bc Reg.SAFE_SEL_SET .priv ∧ live.opens Reg.SAFE_SEL_CLR ∧
    live.granted bc Reg.SAFE_SEL_CLR .secure ∧ live.opens Reg.SAFE_CONFIRM ∧ live.granted bc Reg.SAFE_CONFIRM .secure ∧
    (safeLive 3 0).safeMode = 3 ∧ (safeLive 3 0).reg Reg.SAFE_CRC ≠ (safeLive 3 0).reg Reg.SAFE_CRC + 1 := by
  decide +kernel

theorem witness_SafeEvents :
    (safeLive 2 1).up 2 ∧ (let s := safeLive 2 1; s.hasT0 && s.safeOn && !s.safe.evald) ∧
    ¬ ((safeLive 2 1).safeMode = 0 ∨ (true = false ∧ false = false)) ∧ ¬ ((live.axcCh 15).en = true) := by
  decide +kernel

/-- A ring port with a LINK block just received and one hop measured eight times. -/
def port0 : OcuPort := { link := some 1000000, good := some 0, hops := List.replicate 8 100, reqs := [(7, 0, 1000000)], up := some (0, 0, [], 1000000) }
def mbox0 : RraReq := { port := 26, chip := 1, dst := 64, seq := 3, op := 1, count := 1, ofs := 0, data := [], out := 0, born := 1000000, since := 1000000 }
def ocu0 : OcuState :=
  { loaded := true
    ports := [(0, port0), (1, port0)]
    silent := 3
    mb := some (5, false, 1000000)
    rra := [mbox0]
    bulk := some ⟨64, 0, 0, 8, 0, 0, 0, 1000000⟩
    hold := [(1, ([], 0))] }
/-- OCUB in a state at a t0 1 ms after the start, with one slot of its own and four mini-slots, its port 0 looped or not. -/
def ring (st cyc tim loop : Word) : State :=
  put { State.reset with cyc := { begun := true, next := 1031250, missed := 64 }, ocu := [(0, ocu0)] }
    [(Reg.CLK_ISL_GATE, 0), (Reg.TB_TIME_LO, 1000000), (Reg.CYC_T0_LAST, 1000000), (Reg.CYC_STATE, cyc), (Reg.OCU_STATE 0, st),
      (Reg.OCU_TIM_STAT 0, tim), (Reg.OCU_SCH_TS 0, 10), (Reg.OCU_SCH_LEN 0, 0x10040001), (Reg.OCU_SCH_OWN 0 0, 0x80),
      (Reg.OCU_P_STAT 0 0, 0x10000003), (Reg.OCU_P_LOOP 0 0, loop), (Reg.SYS_ROLE, if cyc = 4 then 0x100 else 0),
      (Reg.OCU_TIM_CFG 0, 0x10), (Reg.OCU_SCH_ID_S 0, 0), (Reg.OCU_SCH_TS_S 0, 10), (Reg.OCU_SCH_LEN_S 0, 0x10040001), (Reg.PCIE_STATE, 2)]
/-- A frame of a type, with a DTYPE or SLOT, of n words. -/
def frame (ftype slot n : Nat) (body : List Word := []) : List Word :=
  let l := mkH0 ftype 0 slot 64 7 :: body
  withCrc (l ++ List.replicate (n - l.length) 0)

theorem witness_OcuCommands :
    accepts (.ocuStart false bc (arg 0)) (ring 0 1 0 0) ∧ accepts (.ocuStop false bc (arg 0)) (ring 2 1 0 0) ∧
    accepts (.ocuLoadSched false bc (arg 0)) (ring 0 1 0 0) ∧ accepts (.ocuMbSend false bc (arg 0)) (ring 2 1 0 0) ∧
    accepts (.ocuMbRelease false bc (arg 7)) (put live [(Reg.OCU_MBRX_STAT 0 7, 0x80000000)]) ∧
    accepts (.ocuBulkSend false bc (arg 0)) (put (ring 2 1 0 0) [(Reg.OCU_BTX_LEN 0, 8)]) ∧
    accepts (.ocuBulkSend false bc (arg 0)) (put (ring 2 1 0 0) [(Reg.OCU_BTX_LEN 0, 0x1000000)]) ∧
    aborts (.ocuAbort true bc (arg 0)) live := by
  decide +kernel

theorem witness_RingLink :
    (ring 2 1 0 0).ringOpens 0 0 ∧ bitOf (((ring 2 1 0 0).ringAt 0 16).reg (Reg.OCU_P_STAT 0 0)) 0 ∧
    (let s := ring 2 1 0 0; s.unspecified = false ∧ s.ringOpens 0 160 ∧
      (let t := (s.setOcuPort 0 0 { port0 with zero := 2 }).ringAt 0 16;
        let t := t.linkStat 0 0;
        ¬ (t.ocuSt 0 = 0 ∨ t.breakCause 0 0 = 0 ∨ t.ocuLooped 0 0 ∨ (t.ocuPort 0 0).pend ≠ 0))) ∧
    (let v := (ring 2 1 0 1).linkStat 0 0;
      bitOf (v.reg (Reg.OCU_P_LOOP 0 0)) 0 && !bitOf (v.reg (Reg.OCU_P_LOOP 0 0)) 1 &&
        (v.ocuPort 0 0).good.any (fun t => decide (t + v.restoreFc 0 * 31250 ≤ v.now)) && v.ocuLinkup 0 0 && v.hasT0 &&
        fld (v.reg Reg.CYC_COUNT) 7 0 == 0) ∧
    ¬ ((ring 2 1 0 0).ocuLooped 0 0 ∨ fType (fw (frame 1 0 8) 0) ≠ 1) ∧ frameCheck (frame 1 0 8) = .good ∧
    (let t := (ring 1 1 0x10 0).ringAt 0 0;
      fld (t.reg (Reg.OCU_TIM_STAT 0)) 5 4 = 1 ∧ 3 ≤ (t.ocuOf 0).silent ∧ !(t.ocuOf 0).heard ∧ t.hasT0 ∧ t.reg Reg.CYC_STATE = 1 ∧
        t.now = t.t0 ∧ (t.ocuOf 0).silentAt + t.tmRank * 10000 ≤ t.now ∧ !t.ocuYield 0) ∧
    (let t := (ring 2 4 0 0).ringAt 0 0;
      t.tmRank = 1 ∧ t.reg Reg.CYC_STATE = 4 ∧ t.tmRank + 1 ≤ (t.ocuOf 0).silent ∧ !(t.ocuOf 0).heard ∧ t.hasT0 ∧ t.now = t.t0 ∧
        t.ocuSt 0 ≠ 0 ∧ !t.ocuYield 0) := by
  decide +kernel

theorem witness_RingSlots :
    (ring 2 1 0 0).ringOpens 0 0 ∧ ¬ ((ring 2 1 0 0).ocuLooped 0 0 ∨ fType (fw (frame 2 0 68) 0) ≠ 2) ∧
    (let t := (ring 2 1 0 0).ringAt 0 0;
      t.ownsSlot 0 0 ∧ t.ocuSt 0 = 2 ∧ ¬ t.ocuYield 0 ∧ t.hasT0 ∧ (t.delayOf 0 0).isSome ∧
        ((t.setOcuPort 0 0 {}).delayOf 0 1) = none) ∧
    (let t := (ring 0x102 1 0 0).ringAt 0 0;
      smFind (t.ocuOf 0).hold (2 * 0 + 1) = some ([], 0) ∧ t.ocuHead 0 ∧ t.hasT0 ∧ 0 ≤ t.t0Ps + t.slotOfs 0 0) ∧
    (let t := (ring 2 1 0 0).ringAt 0 0;
      t.delayMay 0 0 false (t.delayFrame 0 0 1 ((t.ocuPort 0 0).seq % 256) 0) && !(t.ocuPort 0 0).asked) ∧
    ¬ (ring 2 1 0 0).ocuLooped 0 0 ∧ fType (fw (frame 3 8 8 [8, 0x40000000]) 0) = 3 ∧
    fSlot (fw (frame 3 8 8 [8, 0x40000000]) 0) = 8 ∧ delayKind (frame 3 8 8 [8, 0x40000000]) = some 1 ∧
    delayKind (frame 3 8 8 [8, 0x80000000]) = some 2 ∧
    (let f := frame 3 8 8 [8, 0x80000000];
      let v := (((ring 2 1 0 0).ringAt 0 0).countFrame 0 0 (frameCheck f)).delayLearn 0 0 f;
      v.ocuSt 0 ≠ 0 ∧ ((v.ocuPort 0 0).reqs.find? (fun r => r.1 == fCc (fw f 0) && decide (v.now ≤ r.2.2 + 62500))).isSome) := by
  decide +kernel

theorem witness_RingDyn :
    (ring 2 1 0 0).ringOpens 0 0 ∧ ((ring 2 1 0 0).ringAt 0 0).hasT0 ∧ ¬ (ring 2 1 0 0).ocuLooped 0 0 ∧
    [1, 2, 3, 4, 5, 6].all (fun d => fType (fw (frame 3 d 8 [8]) 0) == 3 && fSlot (fw (frame 3 d 8 [8]) 0) == d &&
      d != 8 && frameCheck (frame 3 d 8 [8]) == .good) ∧
    (let t := (ring 2 1 0 0).ringAt 0 0;
      (t.ocuOf 0).rra.find? (fun r => r.dst == 64 && r.seq == 3) = some mbox0 ∧ (t.ocuOf 0).mb.isSome ∧ (t.ocuOf 0).bulk.isSome) ∧
    c0 ≠ .host ∧ 1 ≠ live.chipNo ∧ ¬ (([0, 0] : List Word).isEmpty ∨ 16 < 2) := by
  decide +kernel

theorem witness_Tb :
    accepts (.tbSet bc (arg 0)) (put live [(Reg.CYC_STATE, 0)]) ∧ accepts (.tbAdj bc (arg 0)) live ∧ accepts (.tbSnapCal bc (arg 0)) live ∧
    (busy live Reg.TB_CMD 3).up 6 ∧ (busy live Reg.TB_CMD 3).busyWith Reg.TB_CMD 3 ∧ aborts (.tbAbort bc (arg 0)) live ∧
    (put live [(Reg.CYC_STATE, 0)]).beforeT0 (0x100000000 * 2 ^ 24) ∧
    (let s : State := { live with tb := { live.tb with remain := 5 } };
      s.tb.remain ≠ 0 ∧ s.beforeT0 ((s.time24 : Int) + ((5 + s.tbSlew - 1) / s.tbSlew : Nat) * s.tbInc + 5).toNat) ∧
    live.opens Reg.TB_TIME_LO := by
  decide +kernel

/-- ETH0 in RUN with a frame ready in its transmit queue 0 (for a launch time or not), and a receive descriptor of queue 0. -/
def ethLive (launch : Bool) : State :=
  ((put live [(Reg.ETH_STATE 0, 1), (ethRing 0 0 true, 0x1000), (ethRing 0 0 true + 0x10, 1),
      (ethRing 0 0 true + 0x14, if launch then 3 else 1), (ethRing 0 0 false, 0x2000), (ethRing 0 0 false + 0x10, 1),
      (ethRing 0 0 false + 0x14, 1), (Reg.ETH_CFG 0, 0x100)]).setWord 0x1004 (if launch then 0xC0400000 else 0x80400000)).setWord
    0x2004 0x80000000
/-- A frame of 60 zero bytes and its FCS. -/
def ethFrame : List Byte :=
  let c := crc32 (List.replicate 60 0)
  List.replicate 60 0 ++ (List.range 4).map (fun i => BitVec.ofNat 8 (c / 2 ^ (8 * i)))

theorem witness_Eth :
    accepts (.ethStart false bc (arg 0)) live ∧ accepts (.ethStop false bc (arg 0)) (ethLive false) ∧ accepts (.ethMdio true bc (arg 0)) live ∧
    (busy live (Reg.ETH_CMD 0) 4).up 10 ∧ (busy live (Reg.ETH_CMD 0) 4).busyWith (Reg.ETH_CMD 0) 4 ∧ aborts (.ethAbort false bc (arg 0)) live ∧
    (let t := ((ethLive false).ethSettle 0).ethStopQueues 0 true; t.txPick 0 = some 0 ∧ t.wireFree 0) ∧
    (let t := ((ethLive true).ethSettle 0).ethStopQueues 0 true;
      let start := max (max (max (t.launchDue 0 (ethRing 0 0 true)) 0).toNat t.now) (max (t.ethMac 0).wireTill (t.ethMac 0).pauseTill);
      t.launchPick 0 = some 0 ∧ ¬ (!t.ethRuns 0 ∨ t.busyWith (Reg.ETH_CMD 0) 2 ∨ !t.beforeT0 (start * 2 ^ 24))) ∧
    (let t := (ethLive false).ethSettle 0;
      t.ethRuns 0 ∧ 64 ≤ ethFrame.length ∧ ethFrame.length ≤ 2004 ∧
        crc32 ((ethFrame.take 60).map (fun b => b.toNat)) = (List.range 4).foldl (fun x i => x + fb ethFrame (60 + i) * 2 ^ (8 * i)) 0 ∧
        ¬ (t.isPause 0 ethFrame ∧ bitOf (t.reg (Reg.ETH_CFG 0)) 11) ∧ t.ethAccepts 0 ethFrame ∧ ¬ (t.ethMac 0).warm ∧
        (t.ethStopQueues 0 false).ringReady (ethRing 0 0 false) ∧ ¬ ((t.ethStopQueues 0 false).ethMac 0).rxStop.contains 0) ∧
    live.opens (ethRing 1 7 true + 0x10) ∧ live.opens (ethRing 1 7 false + 0x10) ∧
    ¬ (live.reg (Reg.ETH_STATE 0) = setFld (setBit (live.reg (Reg.ETH_STATE 0)) 8 true) 10 9 2) := by
  decide +kernel

/-- CAN0 in a state, with a periodic transmit buffer 0 and a transmit buffer 63, whose request is on the bus or not. -/
def canLive (st : Word) (bus : Bool) : State :=
  put { live with can := { bufs := if bus then [(63, { req := some ⟨0, 0, []⟩ })] else [], onBus := if bus then [(0, 63)] else [] } }
    [(Reg.CAN_STATE 0, st), (Reg.CAN_B_CFG 0 0, 0xD0000000), (Reg.CAN_B_CFG 0 63, 0xC0000000)]

theorem witness_CanCommands :
    accepts (.canStart 0 bc (arg 0)) (put (canLive 0 false) [(Reg.CAN_NBT 0, 0x1E3CF800), (Reg.CAN_DBT 0, 0x01010600)]) ∧
    accepts (.canStop 0 bc (arg 0)) (canLive 2 false) ∧ accepts (.canSleep 3 bc (arg 0)) (put live [(Reg.CAN_STATE 3, 2)]) ∧
    accepts (.canWake 0 bc (arg 0)) (canLive 5 false) ∧ accepts (.canRecover 0 bc (arg 0)) (canLive 3 false) ∧
    accepts (.canTxreq 0 bc (arg 63)) (canLive 2 false) ∧ accepts (.canTxcancel 0 bc (arg 63)) (canLive 2 true) ∧
    aborts (.canAbort 0 bc (arg 0)) (canLive 2 true) := by
  decide +kernel

theorem witness_CanEvents :
    (canLive 2 true).up 10 ∧
    (let s := canLive 2 false; let c := s.reg (Reg.CAN_B_CFG 0 0);
      s.hasT0 && bitOf c 31 && bitOf c 30 && fld c 29 28 == 1 && !(s.canBuf 0 0).fcReq && !s.canRetired 0 0 &&
        (s.reg Reg.CYC_COUNT).toNat % 2 ^ (fld c 24 20) == 0) ∧
    (canLive 2 true).canSt 0 = 2 ∧ (canLive 2 true).canOnBus 0 = some 63 ∧ ¬ ((canLive 2 true).canSt 0 ≠ 2 ∨ 7 = 0) ∧
    (canLive 1 false).canSt 0 = 1 ∧ (canLive 4 false).canSt 0 = 4 ∧ (canLive 5 false).canSt 0 = 5 := by
  decide +kernel

/-- Queue 0 enabled with two items in its body; a commit of port 0 that waits; a core that runs an item. -/
def queLive : State :=
  put { live with
    que := { queues := [(0, { wr := 2 })], stalls := [⟨0, 0, 0, [], 0⟩] }, wsch := { running := [(0, ⟨0, List.replicate 16 0⟩)] },
    cyc := { begun := false } } [(Reg.QUE_Q_CFG 0, 0x80000000), (Reg.WSCH_CFG_PEND, 1), (Reg.CYC_STATE, 0), (Reg.SYS_CORE_ACT, 1)]

theorem witness_Que :
    live.opens Reg.QUE_ENQ_COMMIT ∧ (queLive.que.stalls.find? (fun x => x.port == 0)).isSome ∧ queLive.beforeT0 (100000 * 2 ^ 24) ∧
    queLive.up 4 ∧ ((queLive.queue 0).rd < (queLive.queue 0).wr ∧ (queLive.queue 0).head.length < 16) ∧
    (let t := live.applyCores true; t.busyWith Reg.WSCH_CMD 1 = false ∧ t.reg Reg.WSCH_STATE ≠ 3) ∧
    live.opens Reg.WSCH_DONE ∧ live.opens Reg.WSCH_CANCEL ∧ accepts (.wschApplyCfg bc (arg 0)) queLive ∧
    aborts (.wschAbort bc (arg 0)) live ∧
    ((queLive.retire 3 0).isRetired 3 0 && bitOf (queLive.reg Reg.SYS_CORE_ACT) 0) ∧ accepts (.queReset bc (arg 127)) live ∧
    accepts (.queResize bc (arg 0)) live ∧ accepts (.queResize bc (arg 0)) (put live [(Reg.QUE_Q_PEND_HI 0, 0x140000)]) ∧
    (smFind (busy live Reg.QUE_CMD 2).busy Reg.QUE_CMD).any (fun b => b.code == 2 && ((live.queue (b.arg % 128)).held == 0)) ∧
    aborts (.queAbort bc (arg 0)) (busy live Reg.QUE_CMD 2) := by
  decide +kernel

/-- 256 MiB of usable DRAM, a row whose copy runs, a host that reads, a block that records. -/
def memLive : State := put { live with memc := { jobs := [(5, true)] } } [(Reg.MEMC_USABLE, 0x100), (Reg.SYS_STATE, 2)]

theorem witness_Memory :
    regionOf memLive.dramUsable 0x100000000 = .dram ∧ regionOf memLive.dramUsable 0x10FFFFFFC = .dram ∧ memLive.isFenced 0x3A = false ∧
    0x77FFFC < 0x800000 ∧ live.up 4 ∧ regionGranted (mclass bc) false (regionOf live.dramUsable 0x77FFFC) ∧
    regionGranted (mclass bc) false (regionOf live.dramUsable 0x7FFFFC) ∧ memLive.up 11 ∧
    ¬ ((!(bitOf (memLive.reg Reg.MEMC_SCRUB_CFG) 31 || false) || regionOf memLive.dramUsable 0x100000000 != .dram) = true) ∧
    accepts (.memcScrubNow bc (arg 0)) live ∧ (busy live Reg.MEMC_CMD 1).busyWith Reg.MEMC_CMD 1 ∧
    memLive.memc.jobs = [(5, true)] ∧ aborts (.memcAbort bc (arg 0)) (busy live Reg.MEMC_CMD 1) ∧
    ¬ (fld (live.reg Reg.MEMC_TEMP) 2 0 = 5) ∧
    ¬ (memLive.reg Reg.SYS_STATE = 1 ∨ memLive.reg Reg.MEMC_USABLE = 0 ∨ bitOf (memLive.reg Reg.BOOT_DRAMINIT) 31 ∨
      (!false ∧ (1 : BitVec 16).toNat < fld (memLive.reg Reg.BOOT_DRAMINIT) 15 0)) := by
  decide +kernel

/-- Which rows DRAM has is open (log entry 106): where row 7 exists and has not been mapped, REMAP is accepted. -/
theorem witness_memcRemap (h : Config.dramRowOutside (memLive.reg Reg.MEMC_DEV) 7 = false) :
    accepts (.memcRemap bc (arg 0)) (put memLive [(Reg.MEMC_REMAP_ROW, 7)]) = true := by
  have h2 : Config.dramRowOutside ((put memLive [(Reg.MEMC_REMAP_ROW, 7)]).reg Reg.MEMC_DEV)
      (memcRow ((put memLive [(Reg.MEMC_REMAP_ROW, 7)]).reg Reg.MEMC_REMAP_ROW)) = false := h
  simp only [accepts, commandOf, h2]
  decide +kernel

/-- SREC with a buffer of 16 blocks, in a state, with capture slot 0 in one of its own; a frame to be written; a readout. -/
def srecLive (st slot : Word) : State :=
  put { memLive with srec := { frames := [{}], rd := some ⟨true, 0, 1, 0, false⟩ } }
    [(Reg.SREC_BUF_NBLK_S, 16), (Reg.SREC_BUF_BASE_HI_S, 1), (Reg.SREC_STATE, st), (Reg.SREC_CAP_STAT 0, slot)]

theorem witness_Srec :
    accepts (.srecStart c0 (arg 0)) (srecLive 0 0) ∧ accepts (.srecStop .host (arg 0)) (srecLive 1 0) ∧
    accepts (.srecArm bc (arg 0)) (srecLive 1 0) ∧ accepts (.srecTrigger bc (arg 0)) (srecLive 1 1) ∧
    accepts (.srecRelease bc (arg 0)) (srecLive 1 3) ∧ aborts (.srecAbort bc (arg 0)) (srecLive 1 1) ∧ (srecLive 1 0).up 4 ∧
    (srecLive 1 0).cycRuns ∧ (srecLive 1 0).reg Reg.SREC_STATE ≠ 0 ∧ (srecLive 1 0).srec.frames = [{}] ∧
    ((srecLive 1 1).hasT0 ∧ (srecLive 1 1).phase ≤ 4900) ∧ live.opens Reg.SREC_RD_CTL ∧ (srecLive 1 0).srec.rd.isSome := by
  decide +kernel

/-- BOOT in a state, slot B verified. -/
def bootLive (st : Word) : State :=
  put { live with boot := { okSlots := [1] } } [(Reg.BOOT_STATE, st), (Reg.BOOT_WDOG, 0x80000000), (Reg.BOOT_IDSTAT, 1)]

theorem witness_Boot :
    accepts (.bootWarm bc (arg 0)) (bootLive 2) ∧ accepts (.bootWarm bc (arg 0)) (bootLive 7) ∧ accepts (.bootVerify bc (arg 1)) (bootLive 2) ∧
    (smFind (busy (bootLive 3) Reg.BOOT_CMD 2).busy Reg.BOOT_CMD).any (fun b => b.code == 2) ∧
    accepts (.bootCommit bc (arg 1)) (bootLive 2) ∧ accepts (.bootAttest bc (arg 0)) (bootLive 2) ∧
    (let s := busy (bootLive 5) Reg.BOOT_CMD 4; s.busyWith Reg.BOOT_CMD 4 && s.reg Reg.BOOT_IDSTAT == 1) ∧
    accepts (.bootRetry bc (arg 0)) (bootLive 6) ∧ aborts (.bootAbort bc (arg 0)) (busy (bootLive 3) Reg.BOOT_CMD 2) ∧
    (let s := put { bootLive 2 with cyc := {} } [(Reg.CYC_STATE, 0), (Reg.BOOT_WDOG, 0x80000001)];
      let w := s.reg Reg.BOOT_WDOG; let t := s.boot.wdogAt + fld w 15 0 * 1000000;
      bitOf w 31 && fld w 15 0 != 0 && (s.reg Reg.BOOT_STATE == 2) && s.beforeT0 (t * 2 ^ 24)) ∧
    live.opens Reg.BOOT_WDOG_KICK ∧ live.granted bc Reg.BOOT_WDOG_KICK .priv ∧
    (let s := put (bootLive 5) [(Reg.BOOT_IDSTAT, 0)]; ¬ (s.reg Reg.BOOT_IDSTAT = 1 ∨ s.reg Reg.BOOT_STATE = 1 ∨ s.reg Reg.BOOT_STATE = 6)) := by
  decide +kernel

/-- OTP with key slots 0 and 1 programmed, and the debug lock at 1. -/
def otpLive : State := put { live with boot := { otp := [(0x80, 3), (0xB0, 1)] } } [(Reg.BOOT_RUN, 0x100)]

theorem witness_BootSc :
    accepts (.rollfwd bc (arg 1)) otpLive ∧ accepts (.dbgOpen bc (arg 0)) otpLive ∧
    aborts (.bootScAbort bc (arg 0)) (busy otpLive Reg.BOOT_SC_CMD 2) ∧
    (smFind (busy otpLive Reg.BOOT_SC_CMD 2).busy Reg.BOOT_SC_CMD).isSome ∧ accepts (.keyProg bc (arg 3)) otpLive ∧
    accepts (.keyRevoke bc (arg 0)) otpLive ∧ accepts (.svcProg bc (arg 0)) otpLive ∧ accepts (.otpProg bc (arg 1023)) otpLive ∧
    accepts (.dbgLock bc (arg 1)) otpLive ∧ accepts (.dbgLock bc (arg 3)) otpLive := by
  decide +kernel

theorem witness_Kec :
    accepts (.kecInit bc (arg 1)) (put live [(Reg.KEC_STATE, 1)]) ∧ accepts (.kecAbsorb bc (arg 0)) (put live [(Reg.KEC_STATE, 2)]) ∧
    (busy live Reg.KEC_CMD 2).busyWith Reg.KEC_CMD 2 ∧ accepts (.kecFinal bc (arg 0)) (put live [(Reg.KEC_STATE, 2)]) ∧
    aborts (.kecAbort bc (arg 0)) (put live [(Reg.KEC_STATE, 3)]) := by
  decide +kernel

/-- XSPI in a state, with a flash of 16 MiB, at slot B; an operation in progress. -/
def flashLive (st : Word) (op : Option XspiOp) : State :=
  put { live with xspi := { op := op } }
    [(Reg.XSPI_STATE, st), (Reg.XSPI_DEV, 24), (Reg.XSPI_FADDR, 0x800000), (Reg.XSPI_LEN, 256)]

theorem witness_Xspi :
    accepts (.xspiRead bc (arg 0)) (flashLive 1 none) ∧ accepts (.xspiProgram bc (arg 0)) (flashLive 1 none) ∧
    accepts (.xspiErase4k bc (arg 0)) (flashLive 1 none) ∧ accepts (.xspiErase64k bc (arg 0)) (flashLive 1 none) ∧
    accepts (.xspiResume bc (arg 0)) (flashLive 6 (some ⟨3, 0x800000, 0, 0x1000, 0⟩)) ∧
    aborts (.xspiAbort bc (arg 0)) (flashLive 5 (some ⟨3, 0x800000, 0, 0x1000, 0⟩)) ∧ (flashLive 5 none).up 12 ∧
    (flashLive 5 (some ⟨3, 0x800000, 0, 0x1000, 0⟩)).reg Reg.XSPI_STATE = wordOfNat (xspiRunState 3) := by
  decide +kernel

/-- PCIE in a state, with a request in mailbox 0. -/
def pcieLive (st : Word) : State := put { live with pcie := { mbox := [(0, { st := 1 })] } } [(Reg.PCIE_STATE, st)]

theorem witness_Pcie :
    (pcieLive 2).up 12 ∧ (pcieLive 2).reg Reg.PCIE_STATE ≠ 0 ∧ (pcieLive 3).reg Reg.PCIE_STATE = 3 ∧
    accepts (.pcieRetrain bc (arg 0)) (pcieLive 2) ∧ accepts (.pcieMbReset bc (arg 255)) (pcieLive 1) ∧
    aborts (.pcieAbort bc (arg 0)) (busy (pcieLive 3) Reg.PCIE_CMD 1) ∧ (pcieLive 2).opens Reg.PCIE_MB_ANSWER ∧
    (pcieLive 2).granted bc Reg.PCIE_MB_ANSWER .priv ∧ ((pcieLive 2).mailbox (fld 0 18 16)).st = 1 ∧
    (pcieLive 2).opens Reg.PCIE_MSIX_RAISE ∧ (pcieLive 2).granted bc Reg.PCIE_MSIX_RAISE .priv ∧ 16 ≤ fld 16 5 0 ∧
    (ring 2 1 0 0).hostReads.length = 1 ∧ (ring 2 1 0 0).up 12 ∧ ((pcieLive 2).mailbox 0).st = 1 ∧ ((pcieLive 2).mailbox 7).st ≠ 1 := by
  decide +kernel

/-- A class-1 retirement (converter 3), island 7 fenced, pair A active, pair B in reset or ready. -/
def fltLive (rope : Word) (resetPairs : List Nat) : State :=
  put { (live.retire 1 3) with
    fenced := 0x80
    flt := { (live.retire 1 3).flt with pairReset := resetPairs, safeHold := false } }
    [(Reg.FLT_ROPE, rope), (Reg.FLT_SC_STATE, 1), (Reg.FLT_ST_CFG, 0x7FF), (Reg.FLT_CFG, 1)]

theorem witness_FltCommands :
    accepts (.fltSelftest bc (arg 0x1021)) (put (fltLive 2 []) [(Reg.FLT_STATE, 1)]) ∧ aborts (.fltAbort bc (arg 0)) live ∧
    accepts (.clearRet bc (arg 0x1003)) (fltLive 2 []) ∧ accepts (.islReset bc (arg 7)) (fltLive 2 []) ∧
    (put live [(Reg.FLT_SC_STATE, 3)]).reg Reg.FLT_SC_STATE = 3 ∧ aborts (.fltScAbort bc (arg 0)) (busy live Reg.FLT_SC_CMD 1) ∧
    [0, 2, 4, 5, 6, 7, 8, 9].all (fun t => !(!(fltLive 2 []).periodicRuns t 1)) ∧ live.opens (Reg.FLT_LOG_D 0) ∧
    (smFind (busy live Reg.FLT_CMD 1 0x1001).busy Reg.FLT_CMD).isSome ∧ (busy live Reg.FLT_SC_CMD 1).busyWith Reg.FLT_SC_CMD 1 := by
  decide +kernel

theorem witness_FltEvents :
    (let a := Reg.SYS_CORE_EN; let odd := [0, 1, 2, 3].any (fun k => ((List.range 8).filter (fun i => bitOf 1 (8 * k + i))).length % 2 == 1);
      ¬ (a % 4 ≠ 0 ∨ !isConfig a ∨ live.gated 0 ∨ live.isFenced 0 ∨ !odd)) ∧
    ¬ live.ropeHalted ∧
    ((fltLive 2 []).flt.pairReset.contains 1 = false ∧ 1 ≠ (fltLive 2 []).ropeActive ∧ (fltLive 2 []).ropeReady) ∧
    ((fltLive 2 []).flt.pairReset.contains 0 = false ∧ 0 = (fltLive 2 []).ropeActive ∧ (fltLive 2 []).ropeReady) ∧
    ((fltLive 0 [1]).flt.pairReset.contains 0 = false ∧ 0 = (fltLive 0 [1]).ropeActive ∧ ¬ (fltLive 0 [1]).ropeReady) ∧
    ((fltLive 0 [0]).up 2 ∧ (fltLive 0 [0]).ropeHalted) ∧
    (¬ (fltLive 0 [1]).ropeHalted ∧ (fltLive 0 [1]).flt.pairReset.contains (1 - (fltLive 0 [1]).ropeActive)) ∧
    (let s : State := { fltLive 2 [] with flt := { (fltLive 2 []).flt with safeHold := true } };
      s.unspecified = false ∧ (s.flt.safeHold && bitOf (s.reg Reg.FLT_CFG) 0)) := by
  decide +kernel

theorem witness_Biv :
    accepts (.bivSet bc (arg 0)) (put live [(Reg.BIV_STATE, 1)]) ∧
    ({ live with biv := { load := some (5, 7) } } : State).biv.load.isSome ∧ aborts (.bivAbort bc (arg 0)) live ∧
    live.opens Reg.BIV_CAL_LO ∧ 2200 ≤ (2200 : BitVec 16).toNat ∧ (2199 : BitVec 16).toNat < 2200 ∧
    ¬ (bitOf (live.reg Reg.BIV_STAT) 3 = true) := by
  decide +kernel

/-- A reservation of Base camp's of two units, made at 0; a record of a block that waits. -/
def hutLive : State :=
  put { live with hut := { opened := some ⟨mport bc, 0, 0x100, 2, 0⟩, queue := [⟨3, [], 2, 0⟩] }, cyc := {} }
    [(Reg.HUT_STATE, 1), (Reg.CYC_STATE, 0)]

theorem witness_Hut :
    accepts (.hutReserve bc (arg 0x8001)) (put live [(Reg.HUT_STATE, 1)]) ∧ accepts (.hutReserve bc (arg 0xFF40)) (put live [(Reg.HUT_STATE, 1)]) ∧
    live.opens Reg.HUT_WR_DATA ∧ live.granted bc Reg.HUT_WR_DATA .priv ∧ hutLive.hut.opened = some ⟨mport bc, 0, 0x100, 2, 0⟩ ∧
    (mport bc = mport bc ∧ (hutLive.reg Reg.HUT_WR_IDX).toNat < 4 * 2 - 4) ∧ accepts (.hutCommit bc (arg 0)) hutLive ∧
    accepts (.hutCancel bc (arg 0)) hutLive ∧ aborts (.hutAbort bc (arg 0)) hutLive ∧ hutLive.up 4 ∧ hutLive.beforeT0 (1000000 * 2 ^ 24) ∧
    hutLive.hut.queue.length = 1 ∧ live.opens Reg.HUT_CURSOR ∧ accepts (.hutNonce bc (arg 0)) live ∧
    accepts (.hutClear bc (arg 0)) (put live [(Reg.HUT_STATE, 1)]) ∧ (busy live Reg.HUT_SC_CMD 2).busyWith Reg.HUT_SC_CMD 2 ∧
    aborts (.hutScAbort bc (arg 0)) (busy live Reg.HUT_SC_CMD 2) := by
  decide +kernel

theorem witness_Start :
    (let s : State := put { live with boot := { live.boot with warm := some (0, false) } } [(Reg.BOOT_STATE, 4)];
      s.unspecified = false ∧ s.boot.warm = some (0, false) ∧ s.reg Reg.BOOT_STATE = 4) := by
  decide +kernel

/-! #### The register interface -/

theorem witness_Verdicts :
    (let w (i : Instr) : Bool := (commandOf i live).any (fun w => w.st.opens w.c.unit);
      w (.sysApplyCoreEn (.core 23 true) (arg 0)) ∧ w (.sysApplyCoreEn bc ⟨1, 0⟩) ∧ w (.cycStart bc (arg 0)) ∧ w (.sigLoad bc (arg 0)) ∧
      w (.xspiProgram bc (arg 0)) ∧ w (.sysClearCounters bc (arg 0))) ∧
    live.granted (.core 23 true) Reg.SYS_CMD .priv = false ∧ live.granted .ring Reg.SYS_CMD .priv = false ∧
    live.granted c0 Reg.CLK_CMD .secure = false ∧ (busy live Reg.CE_CMD 3).inProgress Reg.CE_CMD ∧
    (commandOf (.ceSwap bc (arg 0)) (busy live Reg.CE_CMD 3)).any (fun w => w.c.busy) ∧
    (commandOf (.cycStart bc (arg 0)) live).any (fun w => !w.c.permitted) ∧
    (commandOf (.sigLoad bc (arg 0)) live).any (fun w => w.c.permitted && !w.c.contentOk) ∧
    (let s := put (flashLive 1 none) [(Reg.XSPI_FADDR, 0), (Reg.BOOT_STATE, 2)]; s.xspiProtects (s.xspiOp 2)) ∧
    (abortOf (.seqChannelAbort (.core 0 true) 15 (arg 0)) live).any (fun w => live.granted w.m w.unit w.acc) ∧
    (abortOf (.sysAbort .ring (arg 1)) live).any (fun w => w.st.opens w.unit && !live.granted w.m w.unit w.acc) := by
  decide +kernel

/-- Every island gated, and every island fenced. -/
def gatedAll : State := put State.reset [(Reg.CLK_ISL_GATE, 0x3FFF)]
def fencedAll : State := { live with fenced := 0x3FFF }

theorem witness_ClosedWindows :
    (commandOf (.adcTrigger bc (arg 0)) gatedAll).any (fun w => gatedAll.gated (w.c.unit / 0x10000)) ∧
    (abortOf (.adcAbort bc (arg 0)) gatedAll).any (fun w => gatedAll.gated (w.unit / 0x10000)) ∧
    (commandOf (.adcTrigger bc (arg 0)) fencedAll).any (fun w => !fencedAll.gated (w.c.unit / 0x10000) && fencedAll.isFenced (w.c.unit / 0x10000)) ∧
    gatedAll.unspecified = false ∧ fencedAll.unspecified = false := by
  decide +kernel

theorem witness_ClearStats :
    ((List.range 64).filter (fun b => (statsCode b).isSome && b != 0x24 && b != 0x25)).all (fun b => live.opens (b * 0x10000)) ∧
    statsCode 0 = none ∧ (statsCode 0x10).isSome ∧
    live.decideCommand bc (arg 0) ⟨0x100000, unitAcc 0x100000, (statsCode 0x10).getD 0, true, false, live.statsOk 0x10, true⟩ = .accept ∧
    live.opens Reg.FIO_CMD ∧ live.decideCommand bc (arg 0) ⟨Reg.FIO_CMD, .priv, 4, true, false, true, true⟩ = .accept ∧
    (safeLive 2 1).opens Reg.SAFE_CMD ∧ (safeLive 2 1).decideCommand bc (arg 0) (safeCmd 6 true false (safeLive 2 1).safeOn) = .accept := by
  decide +kernel

theorem witness_Registers :
    (let opensAt (m : Master) (a : Nat) : Bool := a < 0x400000 && a % 0x10000 < 0x4000 && a % 4 == 0 && live.reaches m (0x40000000 + a) && live.opens a;
      opensAt c0 Reg.SYS_CORE_EN ∧ opensAt (.core 23 true) Reg.SYS_CORE_EN ∧ opensAt .ring Reg.SYS_CMD ∧ opensAt bc Reg.FIO_TSF_LO ∧
      opensAt bc Reg.TB_TIME_LO ∧ opensAt bc Reg.BIV_CAL_LO ∧ opensAt bc (Reg.FLT_LOG_D 0) ∧ opensAt bc Reg.PROF_CAM_DATA ∧
      opensAt bc (Reg.ADC_IN_RES 31) ∧ opensAt bc 0x3FFC) ∧
    (regDesc Reg.CYC_SETUP_S).any (fun d => !d.wo && d.rw != 0 && live.granted c0 Reg.CYC_SETUP_S d.acc && !live.granted .ring Reg.CYC_SETUP_S d.acc) ∧
    (regDesc Reg.CYC_EVT).any (fun d => !d.wo && d.w1c != 0 && d.rw == 0) ∧ (regDesc Reg.SYS_CMD).any (fun d => d.wo) ∧
    isResult (Reg.ADC_IN_RES 31) ∧ (regDesc (Reg.ADC_IN_RES 31)).any (fun d => !d.wo) ∧
    regDesc 0x3FFC = none ∧ blockAllocated 0 ∧ blockAllocated 0x3F = false ∧
    (pcieLive 2).reaches .host (0x40000000 + 0x3FFFFF) ∧ live.reaches c0 0xFFFFFFFFFF ∧
    regionOf live.dramUsable 0xFFFFFFFFFF = .none ∧ gatedAll.gated 0x20 ∧ c0 ≠ .host ∧ 0x77FFFF < 0x780000 ∧ 0x77FFFF % 1 = 0 ∧
    live.memcBad 0x77FFFC = false := by
  decide +kernel

theorem witness_AliasValues :
    ∃ d, regDesc Reg.SYS_CORE_EN = some d ∧ d.wo = false ∧ d.rw ≠ 0 ∧ d.rw &&& d.live = 0 ∧ d.w1c &&& d.live = 0 ∧
      live.reaches bc (0x40000000 + Reg.SYS_CORE_EN) = true ∧ live.opens Reg.SYS_CORE_EN = true ∧
      live.granted bc Reg.SYS_CORE_EN d.acc = true ∧ live.frozenBy Reg.SYS_CORE_EN = none ∧ Reg.SYS_CORE_EN ≠ Reg.SYS_ROLE ∧
      rwOp bc Reg.SYS_CORE_EN = none ∧ perPort Reg.SYS_CORE_EN = false ∧
      (∀ x : State, x.regNow (mport bc) Reg.SYS_CORE_EN = x.reg Reg.SYS_CORE_EN) ∧
      (∀ (x : State) o n, x.regWritten Reg.SYS_CORE_EN o n = x) ∧ live.mayChange bc Reg.SYS_CORE_EN d = d.rw ∧
      (activeOf Reg.SYS_CORE_EN = none ∨ live.reg Reg.SYS_STATE ≠ 1) ∧ Reg.SYS_CORE_EN ≠ Reg.SYS_STATE := by
  refine ⟨(regDesc Reg.SYS_CORE_EN).get (by decide +kernel), by decide +kernel, ?_⟩
  refine ⟨by decide +kernel, by decide +kernel, by decide +kernel, by decide +kernel, by decide +kernel, by decide +kernel,
    by decide +kernel, by decide +kernel, by decide +kernel, by decide +kernel, by decide +kernel, ?_, ?_, by decide +kernel,
    by decide +kernel, by decide +kernel⟩
  · intro x; rfl
  · intro x o n; rfl

theorem witness_KeyRevoke :
    otpLive.opens Reg.BOOT_SC_CMD ∧ otpLive.granted bc Reg.BOOT_SC_CMD .secure ∧ otpLive.inProgress Reg.BOOT_SC_CMD = false ∧
    otpLive.reg Reg.BOOT_SC_STATE = 1 ∧ otpLive.keyUsable 1 ∧
    (let s : State := { otpLive with boot := { otpLive.boot with otp := [(0x80, 1)] } };
      ∀ k < 4, k ≠ (arg 0).arg.toNat → s.keyUsable k = false) := by
  decide +kernel

theorem witness_Unspecified :
    ({ live with unspecified := true } : State).unspecified = true ∧ live.unspecified = false ∧ State.reset.pending = [] := by
  decide +kernel

theorem witness_Steps :
    Safe State.reset ∧ (∃ t, step State.reset = .next t) ∧ State.reset.otpByte 0 = 0 ∧ otpLive.otpByte 0x80 = 3 := by
  refine ⟨⟨by decide, by decide⟩, ⟨_, rfl⟩, by decide +kernel, by decide +kernel⟩

end Sys2Proof.Tests
end

section
/-!
PROOFS. The statements of 01_architecture.md: what every step keeps, commands to windows that do not answer, shared SRAM,
decode errors, and the fault events.
-/
namespace Sys2Proof.Machine

/-! ### Every step keeps the canonical forms (R15, R40) -/

/-- Every command keeps what `Keeps` names: each row by the lemma of its own meaning. -/
theorem exec_keeps {i : Sys2Proof.Instr} {s t : State} (hx : exec i s = .next t) : Keeps s t := by
  cases i with
  | registerWrite m p wd w => exact execRegisterWrite_keeps m p wd w hx
  | setAliasWrite m ofs w => exact execSetAliasWrite_keeps m ofs w hx
  | clearAliasWrite m ofs w => exact execClearAliasWrite_keeps m ofs w hx
  | toggleAliasWrite m ofs w => exact execToggleAliasWrite_keeps m ofs w hx
  | w1cWrite m ofs w => exact execW1cWrite_keeps m ofs w hx
  | loRegisterRead m p wd => exact execLoRegisterRead_keeps m p wd hx
  | resultRegisterRead m ofs => exact execResultRegisterRead_keeps m ofs hx
  | clearStats m blk a => exact execClearStats_keeps m blk a hx
  | parityScan a flip => exact execParityScan_keeps a flip hx
  | configReload blk => exact execConfigReload_keeps blk hx
  | clockMonitorFailure n => exact execClockMonitorFailure_keeps n hx
  | sysApplyCoreEn m a => exact execSysApplyCoreEn_keeps m a hx
  | sysClearCounters m a => exact execSysClearCounters_keeps m a hx
  | sysAbort m a => exact execSysAbort_keeps m a hx
  | clkApplyPoolSel m a => exact execClkApplyPoolSel_keeps m a hx
  | poolClockSwitch => exact execPoolClockSwitch_keeps hx
  | clkAbort m a => exact execClkAbort_keeps m a hx
  | fcStart ain sdm => exact execFcStart_keeps ain sdm hx
  | currentTickB ain sdm => exact execCurrentTickB_keeps ain sdm hx
  | applyLatch tickB => exact execApplyLatch_keeps tickB hx
  | routeUpdate ep x satd valid parityOk => exact execRouteUpdate_keeps ep x satd valid parityOk hx
  | sigEntryRead m id => exact execSigEntryRead_keeps m id hx
  | sigEntryWrite m id => exact execSigEntryWrite_keeps m id hx
  | sigLoad m a => exact execSigLoad_keeps m a hx
  | sigLoadDone err => exact execSigLoadDone_keeps err hx
  | sigSwap m a => exact execSigSwap_keeps m a hx
  | sigAbort m a => exact execSigAbort_keeps m a hx
  | sigPeek m id => exact execSigPeek_keeps m id hx
  | sigWrValWrite m x => exact execSigWrValWrite_keeps m x hx
  | cycStart m a => exact execCycStart_keeps m a hx
  | cycSwap m a => exact execCycSwap_keeps m a hx
  | cycAbort m a => exact execCycAbort_keeps m a hx
  | cairnMissing => exact execCairnMissing_keeps hx
  | holdoverLost => exact execHoldoverLost_keeps hx
  | ceStart m a => exact execCeStart_keeps m a hx
  | ceStop m a => exact execCeStop_keeps m a hx
  | ceValidate m a => exact execCeValidate_keeps m a hx
  | ceValidateDone => exact execCeValidateDone_keeps hx
  | ceSwap m a => exact execCeSwap_keeps m a hx
  | ceAbort m a => exact execCeAbort_keeps m a hx
  | ceLocalMemoryWrite m ofs w => exact execCeLocalMemoryWrite_keeps m ofs w hx
  | ceFcRun slot u => exact execCeFcRun_keeps slot u hx
  | ceTickRun slot tickB u => exact execCeTickRun_keeps slot tickB u hx
  | runDeadlineMiss slot kind => exact execRunDeadlineMiss_keeps slot kind hx
  | checkRun u => exact execCheckRun_keeps u hx
  | voteRun u => exact execVoteRun_keeps u hx
  | residueError lane => exact execResidueError_keeps lane hx
  | laneRetirement lane => exact execLaneRetirement_keeps lane hx
  | ctabCopy m a => exact execCtabCopy_keeps m a hx
  | ctabCopyComplete => exact execCtabCopyComplete_keeps hx
  | ctabCopyError => exact execCtabCopyError_keeps hx
  | ctabAbort m a => exact execCtabAbort_keeps m a hx
  | profileAdvance => exact execProfileAdvance_keeps hx
  | traverseRefill g => exact execTraverseRefill_keeps g hx
  | hofsWrite m g x => exact execHofsWrite_keeps m g x hx
  | camDataAccess m x => exact execCamDataAccess_keeps m x hx
  | profEnable m g a => exact execProfEnable_keeps m g a hx
  | profDisable m g a => exact execProfDisable_keeps m g a hx
  | profGo m g a => exact execProfGo_keeps m g a hx
  | profRunQueue m g a => exact execProfRunQueue_keeps m g a hx
  | profStop m g a => exact execProfStop_keeps m g a hx
  | profQstop m g a => exact execProfQstop_keeps m g a hx
  | profFlush m g a => exact execProfFlush_keeps m g a hx
  | profLatchArm m g a => exact execProfLatchArm_keeps m g a hx
  | profGenAbort m g a => exact execProfGenAbort_keeps m g a hx
  | profStopAll m a => exact execProfStopAll_keeps m a hx
  | profAbort m a => exact execProfAbort_keeps m a hx
  | axcEnable m n a => exact execAxcEnable_keeps m n a hx
  | axcDisable m n a => exact execAxcDisable_keeps m n a hx
  | axcReset m n a => exact execAxcReset_keeps m n a hx
  | axcChannelAbort m n a => exact execAxcChannelAbort_keeps m n a hx
  | axcSwap m k a => exact execAxcSwap_keeps m k a hx
  | axcAbort m k a => exact execAxcAbort_keeps m k a hx
  | prechgElapsed n => exact execPrechgElapsed_keeps n hx
  | dutyLoad n reachA reachB => exact execDutyLoad_keeps n reachA reachB hx
  | axisTrip n desat enrb => exact execAxisTrip_keeps n desat enrb hx
  | encConfig m a => exact execEncConfig_keeps m a hx
  | encSsiRead m a => exact execEncSsiRead_keeps m a hx
  | encAbort m a => exact execEncAbort_keeps m a hx
  | ssiFrameComplete p data idleLow par => exact execSsiFrameComplete_keeps p data idleLow par hx
  | encoderCountEdge p a b => exact execEncoderCountEdge_keeps p a b hx
  | indexLatch p => exact execIndexLatch_keeps p hx
  | stepReshape m a => exact execStepReshape_keeps m a hx
  | stepReshapeComplete err => exact execStepReshapeComplete_keeps err hx
  | stepAbort m a => exact execStepAbort_keeps m a hx
  | loadAngleEstimate n angV angI amp => exact execLoadAngleEstimate_keeps n angV angI amp hx
  | stepModeSwitch n mean => exact execStepModeSwitch_keeps n mean hx
  | standstillTimeout n => exact execStandstillTimeout_keeps n hx
  | stepDirInputStep p up => exact execStepDirInputStep_keeps p up hx
  | ilkEvaluation => exact execIlkEvaluation_keeps hx
  | ilkSwap m a => exact execIlkSwap_keeps m a hx
  | ilkCopyActive m a => exact execIlkCopyActive_keeps m a hx
  | ilkCopyComplete => exact execIlkCopyComplete_keeps hx
  | ilkAck m a => exact execIlkAck_keeps m a hx
  | ilkAbort m a => exact execIlkAbort_keeps m a hx
  | ilkRuleReadShadow m r => exact execIlkRuleReadShadow_keeps m r hx
  | ilkRuleWriteShadow m r => exact execIlkRuleWriteShadow_keeps m r hx
  | ilkRuleReadActive m r => exact execIlkRuleReadActive_keeps m r hx
  | seqEvaluation => exact execSeqEvaluation_keeps hx
  | stepFetchComplete c err => exact execStepFetchComplete_keeps c err hx
  | seqStart m c a => exact execSeqStart_keeps m c a hx
  | seqPause m c a => exact execSeqPause_keeps m c a hx
  | seqResume m c a => exact execSeqResume_keeps m c a hx
  | seqRelease m c a => exact execSeqRelease_keeps m c a hx
  | seqReset m c a => exact execSeqReset_keeps m c a hx
  | seqChannelAbort m c a => exact execSeqChannelAbort_keeps m c a hx
  | seqAbort m a => exact execSeqAbort_keeps m a hx
  | adcTrigger m a => exact execAdcTrigger_keeps m a hx
  | adcSwap m a => exact execAdcSwap_keeps m a hx
  | adcAbort m a => exact execAdcAbort_keeps m a hx
  | fcPhaseTrigger phase tickB => exact execFcPhaseTrigger_keeps phase tickB hx
  | atrgEdge pin rising => exact execAtrgEdge_keeps pin rising hx
  | timeBaseTrigger g => exact execTimeBaseTrigger_keeps g hx
  | tbtimeWrite m g x => exact execTbtimeWrite_keeps m g x hx
  | conversionComplete conv uv => exact execConversionComplete_keeps conv uv hx
  | referenceCheck conv zero ref => exact execReferenceCheck_keeps conv zero ref hx
  | converterUnchecked conv => exact execConverterUnchecked_keeps conv hx
  | sdmSwap m a => exact execSdmSwap_keeps m a hx
  | sdmAbort m a => exact execSdmAbort_keeps m a hx
  | stuckStream n => exact execStuckStream_keeps n hx
  | sdmOvercurrent n sum => exact execSdmOvercurrent_keeps n sum hx
  | dacAbort m a => exact execDacAbort_keeps m a hx
  | dacImmediateUpdate c => exact execDacImmediateUpdate_keeps c hx
  | fioArm m a => exact execFioArm_keeps m a hx
  | fioClearOut m a => exact execFioClearOut_keeps m a hx
  | fioFlushTsf m a => exact execFioFlushTsf_keeps m a hx
  | fioAbort m a => exact execFioAbort_keeps m a hx
  | couplerFault ch => exact execCouplerFault_keeps ch hx
  | supplyLow b mv => exact execSupplyLow_keeps b mv hx
  | supplyDip b mv => exact execSupplyDip_keeps b mv hx
  | supplyLost b mv => exact execSupplyLost_keeps b mv hx
  | supplyRecovered b mv => exact execSupplyRecovered_keeps b mv hx
  | inputFilterTick n => exact execInputFilterTick_keeps n hx
  | tsfRead m => exact execTsfRead_keeps m hx
  | outputOverload n => exact execOutputOverload_keeps n hx
  | readbackMismatch n => exact execReadbackMismatch_keeps n hx
  | openLoad n => exact execOpenLoad_keeps n hx
  | testPulseCheck n high => exact execTestPulseCheck_keeps n high hx
  | testPulseEnd n => exact execTestPulseEnd_keeps n hx
  | safetyEvaluation => exact execSafetyEvaluation_keeps hx
  | belayComparison flip => exact execBelayComparison_keeps flip hx
  | stoDemand h l => exact execStoDemand_keeps h l hx
  | stoDemandEnd => exact execStoDemandEnd_keeps hx
  | stopathFault h => exact execStopathFault_keeps h hx
  | safeEnrbFault n => exact execSafeEnrbFault_keeps n hx
  | safeAckEdge => exact execSafeAckEdge_keeps hx
  | strapSample v => exact execStrapSample_keeps v hx
  | safeCrcCheck => exact execSafeCrcCheck_keeps hx
  | safeConfirmWrite m x => exact execSafeConfirmWrite_keeps m x hx
  | safeSelSetWrite m x => exact execSafeSelSetWrite_keeps m x hx
  | safeSelClrWrite m x => exact execSafeSelClrWrite_keeps m x hx
  | safeReset m a => exact execSafeReset_keeps m a hx
  | safeResetTimeout => exact execSafeResetTimeout_keeps hx
  | safeConfig m a => exact execSafeConfig_keeps m a hx
  | leaveConfig m a => exact execLeaveConfig_keeps m a hx
  | safeDemand m a => exact execSafeDemand_keeps m a hx
  | safeRelease m a => exact execSafeRelease_keeps m a hx
  | safeAbort m a => exact execSafeAbort_keeps m a hx
  | ocuStart u m a => exact execOcuStart_keeps u m a hx
  | ocuStop u m a => exact execOcuStop_keeps u m a hx
  | ocuLoadSched u m a => exact execOcuLoadSched_keeps u m a hx
  | ocuMbSend u m a => exact execOcuMbSend_keeps u m a hx
  | ocuMbRelease u m a => exact execOcuMbRelease_keeps u m a hx
  | ocuBulkSend u m a => exact execOcuBulkSend_keeps u m a hx
  | ocuAbort u m a => exact execOcuAbort_keeps u m a hx
  | linkBlockReceived u p dt b => exact execLinkBlockReceived_keeps u p dt b hx
  | blockLockAcquired u p => exact execBlockLockAcquired_keeps u p hx
  | blockLockLost u p => exact execBlockLockLost_keeps u p hx
  | linkBreak u p dt => exact execLinkBreak_keeps u p dt hx
  | portRestore u p => exact execPortRestore_keeps u p hx
  | cairnFrameReceived u p dt f => exact execCairnFrameReceived_keeps u p dt f hx
  | headEmissionStart => exact execHeadEmissionStart_keeps hx
  | takeover => exact execTakeover_keeps hx
  | slotFrameReceived u p dt f => exact execSlotFrameReceived_keeps u p dt f hx
  | slotFill u xi west prev late collide => exact execSlotFill_keeps u xi west prev late collide hx
  | slotReinsertion u xi p => exact execSlotReinsertion_keeps u xi p hx
  | dynFrameSend u p m prev arriving => exact execDynFrameSend_keeps u p m prev arriving hx
  | delayReqSend u p dt arriving => exact execDelayReqSend_keeps u p dt arriving hx
  | delayReqReceived u p dt f turn arriving => exact execDelayReqReceived_keeps u p dt f turn arriving hx
  | delayRspReceived u p dt f => exact execDelayRspReceived_keeps u p dt f hx
  | remoteWindowAccess m chip ofs count data => exact execRemoteWindowAccess_keeps m chip ofs count data hx
  | rraReq u p dt f => exact execRraReq_keeps u p dt f hx
  | rraRsp u p dt f => exact execRraRsp_keeps u p dt f hx
  | rraTimeout u dst seq => exact execRraTimeout_keeps u dst seq hx
  | mbox u p dt f => exact execMbox_keeps u p dt f hx
  | mboxAck u p dt f => exact execMboxAck_keeps u p dt f hx
  | mboxTimeout u => exact execMboxTimeout_keeps u hx
  | bulkData u p dt f => exact execBulkData_keeps u p dt f hx
  | bulkAck u p dt f => exact execBulkAck_keeps u p dt f hx
  | bulkTimeout u => exact execBulkTimeout_keeps u hx
  | tbSet m a => exact execTbSet_keeps m a hx
  | tbAdj m a => exact execTbAdj_keeps m a hx
  | tbSnapCal m a => exact execTbSnapCal_keeps m a hx
  | snapCapture => exact execSnapCapture_keeps hx
  | tbAbort m a => exact execTbAbort_keeps m a hx
  | tbWrap => exact execTbWrap_keeps hx
  | slewComplete => exact execSlewComplete_keeps hx
  | tbTimeRead m => exact execTbTimeRead_keeps m hx
  | ethStart k m a => exact execEthStart_keeps k m a hx
  | ethStop k m a => exact execEthStop_keeps k m a hx
  | ethMdio k m a => exact execEthMdio_keeps k m a hx
  | ethMdioDone k data => exact execEthMdioDone_keeps k data hx
  | ethAbort k m a => exact execEthAbort_keeps k m a hx
  | ethFrameTransmit k jit => exact execEthFrameTransmit_keeps k jit hx
  | launchTime k jit => exact execLaunchTime_keeps k jit hx
  | ethFrameReceive k f jit => exact execEthFrameReceive_keeps k f jit hx
  | txtailWrite m k q x => exact execTxtailWrite_keeps m k q x hx
  | rxtailWrite m k q x => exact execRxtailWrite_keeps m k q x hx
  | canStart k m a => exact execCanStart_keeps k m a hx
  | canStop k m a => exact execCanStop_keeps k m a hx
  | canSleep k m a => exact execCanSleep_keeps k m a hx
  | canWake k m a => exact execCanWake_keeps k m a hx
  | canRecover k m a => exact execCanRecover_keeps k m a hx
  | canTxreq k m a => exact execCanTxreq_keeps k m a hx
  | canTxcancel k m a => exact execCanTxcancel_keeps k m a hx
  | canAbort k m a => exact execCanAbort_keeps k m a hx
  | periodicRequest k b => exact execPeriodicRequest_keeps k b hx
  | canFrameReceived k f => exact execCanFrameReceived_keeps k f hx
  | canFrameSent k sof tdcv => exact execCanFrameSent_keeps k sof tdcv hx
  | arbitrationLost k => exact execArbitrationLost_keeps k hx
  | canBusError k kind dphase patt exc => exact execCanBusError_keeps k kind dphase patt exc hx
  | busIntegrationComplete k => exact execBusIntegrationComplete_keeps k hx
  | busoffRecoveryComplete k => exact execBusoffRecoveryComplete_keeps k hx
  | wakeDetected k ns f => exact execWakeDetected_keeps k ns f hx
  | queEnqCommit m x => exact execQueEnqCommit_keeps m x hx
  | commitStallTimeout port => exact execCommitStallTimeout_keeps port hx
  | headRefill q err => exact execHeadRefill_keeps q err hx
  | dispatchDecision => exact execDispatchDecision_keeps hx
  | wschDoneWrite m => exact execWschDoneWrite_keeps m hx
  | wschCancelWrite m x => exact execWschCancelWrite_keeps m x hx
  | wschApplyCfg m a => exact execWschApplyCfg_keeps m a hx
  | wschAbort m a => exact execWschAbort_keeps m a hx
  | coreRetirement n => exact execCoreRetirement_keeps n hx
  | queReset m a => exact execQueReset_keeps m a hx
  | queResize m a => exact execQueResize_keeps m a hx
  | queueResizeComplete => exact execQueueResizeComplete_keeps hx
  | queAbort m a => exact execQueAbort_keeps m a hx
  | dramRead m a r => exact execDramRead_keeps m a r hx
  | patrolScrub a r pos => exact execPatrolScrub_keeps a r pos hx
  | memcScrubNow m a => exact execMemcScrubNow_keeps m a hx
  | scrubPassEnd => exact execScrubPassEnd_keeps hx
  | memcRemap m a => exact execMemcRemap_keeps m a hx
  | rowRemapComplete => exact execRowRemapComplete_keeps hx
  | memcAbort m a => exact execMemcAbort_keeps m a hx
  | srecStart m a => exact execSrecStart_keeps m a hx
  | srecStop m a => exact execSrecStop_keeps m a hx
  | srecArm m a => exact execSrecArm_keeps m a hx
  | srecTrigger m a => exact execSrecTrigger_keeps m a hx
  | srecRelease m a => exact execSrecRelease_keeps m a hx
  | srecAbort m a => exact execSrecAbort_keeps m a hx
  | srecFrameWrite => exact execSrecFrameWrite_keeps hx
  | signalTriggerEvaluation => exact execSignalTriggerEvaluation_keeps hx
  | readoutGo m kind => exact execReadoutGo_keeps m kind hx
  | readoutCancel m kind => exact execReadoutCancel_keeps m kind hx
  | readoutComplete n fail => exact execReadoutComplete_keeps n fail hx
  | coldStart e => exact execColdStart_keeps e hx
  | brownOutReset => exact execBrownOutReset_keeps hx
  | supplyWarning r beyond => exact execSupplyWarning_keeps r beyond hx
  | bootWarm m a => exact execBootWarm_keeps m a hx
  | bootVerify m a => exact execBootVerify_keeps m a hx
  | verifyDone err => exact execVerifyDone_keeps err hx
  | bootCommit m a => exact execBootCommit_keeps m a hx
  | bootAttest m a => exact execBootAttest_keeps m a hx
  | attestDone => exact execAttestDone_keeps hx
  | bootRetry m a => exact execBootRetry_keeps m a hx
  | bootAbort m a => exact execBootAbort_keeps m a hx
  | warmRestartComplete err ms => exact execWarmRestartComplete_keeps err ms hx
  | appWatchdogExpiry => exact execAppWatchdogExpiry_keeps hx
  | wdogKick m => exact execWdogKick_keeps m hx
  | identityKeyReady => exact execIdentityKeyReady_keeps hx
  | keyProg m a => exact execKeyProg_keeps m a hx
  | keyRevoke m a => exact execKeyRevoke_keeps m a hx
  | rollfwd m a => exact execRollfwd_keeps m a hx
  | svcProg m a => exact execSvcProg_keeps m a hx
  | otpProg m a => exact execOtpProg_keeps m a hx
  | dbgLock m a => exact execDbgLock_keeps m a hx
  | dbgOpen m a => exact execDbgOpen_keeps m a hx
  | bootScAbort m a => exact execBootScAbort_keeps m a hx
  | otpProgramDone => exact execOtpProgramDone_keeps hx
  | kecInit m a => exact execKecInit_keeps m a hx
  | kecAbsorb m a => exact execKecAbsorb_keeps m a hx
  | kecAbsorbDone err => exact execKecAbsorbDone_keeps err hx
  | kecFinal m a => exact execKecFinal_keeps m a hx
  | kecAbort m a => exact execKecAbort_keeps m a hx
  | xspiRead m a => exact execXspiRead_keeps m a hx
  | xspiProgram m a => exact execXspiProgram_keeps m a hx
  | xspiErase4k m a => exact execXspiErase4k_keeps m a hx
  | xspiErase64k m a => exact execXspiErase64k_keeps m a hx
  | xspiResume m a => exact execXspiResume_keeps m a hx
  | xspiAbort m a => exact execXspiAbort_keeps m a hx
  | xspiOperationDone err => exact execXspiOperationDone_keeps err hx
  | pciePerst => exact execPciePerst_keeps hx
  | pcieLinkUp speed width => exact execPcieLinkUp_keeps speed width hx
  | pcieLinkDown => exact execPcieLinkDown_keeps hx
  | pcieRetrain m a => exact execPcieRetrain_keeps m a hx
  | pcieMbReset m a => exact execPcieMbReset_keeps m a hx
  | pcieAbort m a => exact execPcieAbort_keeps m a hx
  | mbDbWrite k x => exact execMbDbWrite_keeps k x hx
  | mbAnswerWrite m x => exact execMbAnswerWrite_keeps m x hx
  | qdbCommit q ws => exact execQdbCommit_keeps q ws hx
  | msixRaiseWrite m x => exact execMsixRaiseWrite_keeps m x hx
  | bar4ReadTimeout => exact execBar4ReadTimeout_keeps hx
  | fltLogRead m => exact execFltLogRead_keeps m hx
  | operatingSecond => exact execOperatingSecond_keeps hx
  | ropeDivergence b => exact execRopeDivergence_keeps b hx
  | standbyPairReady fail => exact execStandbyPairReady_keeps fail hx
  | autocoldRestart => exact execAutocoldRestart_keeps hx
  | periodicSelfTest t inst fail => exact execPeriodicSelfTest_keeps t inst fail hx
  | fltSelftest m a => exact execFltSelftest_keeps m a hx
  | selftestDone clr fail => exact execSelftestDone_keeps clr fail hx
  | fltAbort m a => exact execFltAbort_keeps m a hx
  | clearRet m a => exact execClearRet_keeps m a hx
  | islReset m a => exact execIslReset_keeps m a hx
  | islResetDone => exact execIslResetDone_keeps hx
  | fltScAbort m a => exact execFltScAbort_keeps m a hx
  | vbatMeasure mv => exact execVbatMeasure_keeps mv hx
  | vbatSwitchover => exact execVbatSwitchover_keeps hx
  | bivSet m a => exact execBivSet_keeps m a hx
  | calendarLoad => exact execCalendarLoad_keeps hx
  | bivAbort m a => exact execBivAbort_keeps m a hx
  | calendarRead m frac => exact execCalendarRead_keeps m frac hx
  | hutReserve m a => exact execHutReserve_keeps m a hx
  | hutWrDataWrite m x => exact execHutWrDataWrite_keeps m x hx
  | hutCommit m a => exact execHutCommit_keeps m a hx
  | hutCancel m a => exact execHutCancel_keeps m a hx
  | hutAbort m a => exact execHutAbort_keeps m a hx
  | reservationTimeout => exact execReservationTimeout_keeps hx
  | blockRecordCommit => exact execBlockRecordCommit_keeps hx
  | hutCursorWrite m x => exact execHutCursorWrite_keeps m x hx
  | hutNonce m a => exact execHutNonce_keeps m a hx
  | hutClear m a => exact execHutClear_keeps m a hx
  | hutClearVerifyDone => exact execHutClearVerifyDone_keeps hx
  | hutScAbort m a => exact execHutScAbort_keeps m a hx
  | converterFree conv => exact execConverterFree_keeps conv hx
  | rawInputEdge n level => exact execRawInputEdge_keeps n level hx
  | couplerHeartbeatReturn ch => exact execCouplerHeartbeatReturn_keeps ch hx
  | supplyLowClear b mv => exact execSupplyLowClear_keeps b mv hx
  | stuckStreamRecovery n => exact execStuckStreamRecovery_keeps n hx
  | calendarSecond => exact execCalendarSecond_keeps hx
  | porstNAsserted => exact execPorstNAsserted_keeps hx
  | ethLinkChange k link speed => exact execEthLinkChange_keeps k link speed hx
  | machineCheck n => exact execMachineCheck_keeps n hx
  | sharedSramRead m a r => exact execSharedSramRead_keeps m a r hx
  | dramCheckBitInit progress done => exact execDramCheckBitInit_keeps progress done hx
  | mr4RateChange ch code => exact execMr4RateChange_keeps ch code hx
  | dynamicFrameReceived u p dt f => exact execDynamicFrameReceived_keeps u p dt f hx
  | msixUnmask v => exact execMsixUnmask_keeps v hx

/-- What a step can do: a tick on the empty queue, else the front command on the queue's rest. -/
theorem step_cases {s t : State} (h : step s = .next t) :
    (s.pending = [] ∧ t = s.tick) ∨ ∃ i rest, s.pending = i :: rest ∧ exec i { s with pending := rest } = .next t := by
  unfold step at h
  split at h
  · next hp => cases h; exact .inl ⟨hp, rfl⟩
  · next i rest hp => exact .inr ⟨i, rest, hp, h⟩

/-- Every step keeps what `Keeps` names, of the state whose queue has lost its front. -/
theorem step_keeps {s t : State} (h : step s = .next t) : Keeps { s with pending := s.pending.tail } t := by
  obtain ⟨hp, rfl⟩ | ⟨i, rest, hp, hx⟩ := step_cases h
  · have hs : { s with pending := s.pending.tail } = s := by rw [hp, List.tail_nil, ← hp]
    rw [hs]
    exact State.tick_keeps (keeps_refl s)
  · rw [hp, List.tail_cons]
    exact exec_keeps hx

/-- Settles O4: what every command and every tick keep, `Keeps`, holds the canonical forms. -/
theorem stepKeepsForms : Obligations.StepKeepsForms := by
  intro s t hs h
  obtain ⟨forms, -, -⟩ := step_keeps h
  exact forms hs

/-! ### Rows that write a command, and windows that do not answer (R13, R17) -/

/-- A row's command is written to its command register; the flash operations are `xspiStart`. -/
theorem commandOf_written {i : Sys2Proof.Instr} {s : State} {w : Written} (h : commandOf i s = some w) :
    (∃ eff, exec i s = s.goesTo (w.st.command w.m w.a w.c eff)) ∨
      ∃ code, w.c = flashCmd w.st code w.a ∧ exec i s = s.goesTo (xspiStart code w.m w.a w.st) := by
  cases i with
  | sysApplyCoreEn => exact .inl (sysApplyCoreEn_written h)
  | sysClearCounters => exact .inl (sysClearCounters_written h)
  | clkApplyPoolSel => exact .inl (clkApplyPoolSel_written h)
  | sigLoad => exact .inl (sigLoad_written h)
  | sigSwap => exact .inl (sigSwap_written h)
  | cycStart => exact .inl (cycStart_written h)
  | cycSwap => exact .inl (cycSwap_written h)
  | ceStart => exact .inl (ceStart_written h)
  | ceStop => exact .inl (ceStop_written h)
  | ceValidate => exact .inl (ceValidate_written h)
  | ceSwap => exact .inl (ceSwap_written h)
  | ctabCopy => exact .inl (ctabCopy_written h)
  | profEnable => exact .inl (profEnable_written h)
  | profDisable => exact .inl (profDisable_written h)
  | profGo => exact .inl (profGo_written h)
  | profRunQueue => exact .inl (profRunQueue_written h)
  | profStop => exact .inl (profStop_written h)
  | profQstop => exact .inl (profQstop_written h)
  | profFlush => exact .inl (profFlush_written h)
  | profLatchArm => exact .inl (profLatchArm_written h)
  | profStopAll => exact .inl (profStopAll_written h)
  | axcEnable => exact .inl (axcEnable_written h)
  | axcDisable => exact .inl (axcDisable_written h)
  | axcReset => exact .inl (axcReset_written h)
  | axcSwap => exact .inl (axcSwap_written h)
  | encConfig => exact .inl (encConfig_written h)
  | encSsiRead => exact .inl (encSsiRead_written h)
  | stepReshape => exact .inl (stepReshape_written h)
  | ilkSwap => exact .inl (ilkSwap_written h)
  | ilkCopyActive => exact .inl (ilkCopyActive_written h)
  | ilkAck => exact .inl (ilkAck_written h)
  | seqStart => exact .inl (seqStart_written h)
  | seqPause => exact .inl (seqPause_written h)
  | seqResume => exact .inl (seqResume_written h)
  | seqRelease => exact .inl (seqRelease_written h)
  | seqReset => exact .inl (seqReset_written h)
  | adcTrigger => exact .inl (adcTrigger_written h)
  | adcSwap => exact .inl (adcSwap_written h)
  | sdmSwap => exact .inl (sdmSwap_written h)
  | fioArm => exact .inl (fioArm_written h)
  | fioClearOut => exact .inl (fioClearOut_written h)
  | fioFlushTsf => exact .inl (fioFlushTsf_written h)
  | safeReset => exact .inl (safeReset_written h)
  | safeConfig => exact .inl (safeConfig_written h)
  | leaveConfig => exact .inl (leaveConfig_written h)
  | safeDemand => exact .inl (safeDemand_written h)
  | safeRelease => exact .inl (safeRelease_written h)
  | ocuStart => exact .inl (ocuStart_written h)
  | ocuStop => exact .inl (ocuStop_written h)
  | ocuLoadSched => exact .inl (ocuLoadSched_written h)
  | ocuMbSend => exact .inl (ocuMbSend_written h)
  | ocuMbRelease => exact .inl (ocuMbRelease_written h)
  | ocuBulkSend => exact .inl (ocuBulkSend_written h)
  | tbSet => exact .inl (tbSet_written h)
  | tbAdj => exact .inl (tbAdj_written h)
  | tbSnapCal => exact .inl (tbSnapCal_written h)
  | ethStart => exact .inl (ethStart_written h)
  | ethStop => exact .inl (ethStop_written h)
  | ethMdio => exact .inl (ethMdio_written h)
  | canStart => exact .inl (canStart_written h)
  | canStop => exact .inl (canStop_written h)
  | canSleep => exact .inl (canSleep_written h)
  | canWake => exact .inl (canWake_written h)
  | canRecover => exact .inl (canRecover_written h)
  | canTxreq => exact .inl (canTxreq_written h)
  | canTxcancel => exact .inl (canTxcancel_written h)
  | wschApplyCfg => exact .inl (wschApplyCfg_written h)
  | queReset => exact .inl (queReset_written h)
  | queResize => exact .inl (queResize_written h)
  | memcScrubNow => exact .inl (memcScrubNow_written h)
  | memcRemap => exact .inl (memcRemap_written h)
  | srecStart => exact .inl (srecStart_written h)
  | srecStop => exact .inl (srecStop_written h)
  | srecArm => exact .inl (srecArm_written h)
  | srecTrigger => exact .inl (srecTrigger_written h)
  | srecRelease => exact .inl (srecRelease_written h)
  | bootWarm => exact .inl (bootWarm_written h)
  | bootVerify => exact .inl (bootVerify_written h)
  | bootCommit => exact .inl (bootCommit_written h)
  | bootAttest => exact .inl (bootAttest_written h)
  | bootRetry => exact .inl (bootRetry_written h)
  | rollfwd => exact .inl (rollfwd_written h)
  | dbgOpen => exact .inl (dbgOpen_written h)
  | keyProg => exact .inl (keyProg_written h)
  | keyRevoke => exact .inl (keyRevoke_written h)
  | svcProg => exact .inl (svcProg_written h)
  | otpProg => exact .inl (otpProg_written h)
  | dbgLock => exact .inl (dbgLock_written h)
  | kecInit => exact .inl (kecInit_written h)
  | kecAbsorb => exact .inl (kecAbsorb_written h)
  | kecFinal => exact .inl (kecFinal_written h)
  | xspiRead => cases h; exact .inr ⟨1, rfl, rfl⟩
  | xspiProgram => cases h; exact .inr ⟨2, rfl, rfl⟩
  | xspiErase4k => cases h; exact .inr ⟨3, rfl, rfl⟩
  | xspiErase64k => cases h; exact .inr ⟨4, rfl, rfl⟩
  | xspiResume => exact .inl (xspiResume_written h)
  | pcieRetrain => exact .inl (pcieRetrain_written h)
  | pcieMbReset => exact .inl (pcieMbReset_written h)
  | fltSelftest => exact .inl (fltSelftest_written h)
  | clearRet => exact .inl (clearRet_written h)
  | islReset => exact .inl (islReset_written h)
  | bivSet => exact .inl (bivSet_written h)
  | hutReserve => exact .inl (hutReserve_written h)
  | hutCommit => exact .inl (hutCommit_written h)
  | hutCancel => exact .inl (hutCancel_written h)
  | hutNonce => exact .inl (hutNonce_written h)
  | hutClear => exact .inl (hutClear_written h)
  | _ => nomatch h

/-- A row's ABORT is written to its command register. -/
theorem abortOf_written {i : Sys2Proof.Instr} {s : State} {w : AbortWritten} (h : abortOf i s = some w) :
    ∃ eff, exec i s = s.goesTo (w.st.abort w.m w.a w.unit w.acc eff) := by
  cases i with
  | sysAbort => exact sysAbort_written h
  | clkAbort => exact clkAbort_written h
  | sigAbort => exact sigAbort_written h
  | cycAbort => exact cycAbort_written h
  | ceAbort => exact ceAbort_written h
  | ctabAbort => exact ctabAbort_written h
  | profGenAbort => exact profGenAbort_written h
  | profAbort => exact profAbort_written h
  | axcChannelAbort => exact axcChannelAbort_written h
  | axcAbort => exact axcAbort_written h
  | encAbort => exact encAbort_written h
  | stepAbort => exact stepAbort_written h
  | ilkAbort => exact ilkAbort_written h
  | seqChannelAbort => exact seqChannelAbort_written h
  | seqAbort => exact seqAbort_written h
  | adcAbort => exact adcAbort_written h
  | sdmAbort => exact sdmAbort_written h
  | dacAbort => exact dacAbort_written h
  | fioAbort => exact fioAbort_written h
  | safeAbort => exact safeAbort_written h
  | ocuAbort => exact ocuAbort_written h
  | tbAbort => exact tbAbort_written h
  | ethAbort => exact ethAbort_written h
  | canAbort => exact canAbort_written h
  | wschAbort => exact wschAbort_written h
  | queAbort => exact queAbort_written h
  | memcAbort => exact memcAbort_written h
  | srecAbort => exact srecAbort_written h
  | bootAbort => exact bootAbort_written h
  | bootScAbort => exact bootScAbort_written h
  | kecAbort => exact kecAbort_written h
  | xspiAbort => exact xspiAbort_written h
  | pcieAbort => exact pcieAbort_written h
  | fltAbort => exact fltAbort_written h
  | fltScAbort => exact fltScAbort_written h
  | bivAbort => exact bivAbort_written h
  | hutAbort => exact hutAbort_written h
  | hutScAbort => exact hutScAbort_written h
  | _ => nomatch h

theorem State.access_gated {s : State} {m : Sys2Proof.Master} {a : Nat} {go : State → State}
    (h : s.gated (a / 0x10000) = true) :
    s.access m a go = (s.decodeError (mclassCode (mclass m)) (0x40000000 + a)).answer (mport m) 0 true := by
  rw [State.access, if_pos h]

theorem State.access_fenced {s : State} {m : Sys2Proof.Master} {a : Nat} {go : State → State}
    (hg : s.gated (a / 0x10000) = false) (h : s.isFenced (a / 0x10000) = true) :
    s.access m a go = s.answer (mport m) 0 true := by
  rw [State.access, if_neg (by simp [hg]), if_pos h]

/-- A flash operation is an access to XSPI_CMD: a closed window sets no PROT bit. -/
theorem xspiStart_eq_access (code : Nat) (m : Sys2Proof.Master) (a : Sys2Proof.CmdArg) (s : State) :
    ∃ go, xspiStart code m a s = s.access m Reg.XSPI_CMD go := by
  cases ho : s.opens Reg.XSPI_CMD with
  | true => exact ⟨xspiStart code m a, (State.access_open ho).symm⟩
  | false =>
    have closed : (!s.gated 0x3D && !s.isFenced 0x3D) = false := by rw [← ho]; rfl
    unfold xspiStart State.command
    exact ⟨_, if_neg (by rw [Bool.and_assoc, closed, Bool.and_false]; exact Bool.false_ne_true)⟩

/-- A row that writes a command accesses the window of its command register. -/
theorem commandOf_accesses {i : Sys2Proof.Instr} {s : State} {w : Written} (h : commandOf i s = some w) :
    ∃ go, exec i s = s.goesTo (w.st.access w.m w.c.unit go) := by
  obtain ⟨eff, hx⟩ | ⟨code, hc, hx⟩ := commandOf_written h
  · exact ⟨_, hx⟩
  · obtain ⟨go, hgo⟩ := xspiStart_eq_access code w.m w.a w.st
    exact ⟨go, by rw [hx, hgo, hc]; rfl⟩

/-- A row that writes ABORT accesses the window of its command register. -/
theorem abortOf_accesses {i : Sys2Proof.Instr} {s : State} {w : AbortWritten} (h : abortOf i s = some w) :
    ∃ go, exec i s = s.goesTo (w.st.access w.m w.unit go) := by
  obtain ⟨eff, hx⟩ := abortOf_written h
  exact ⟨_, hx⟩

/-- Settles O11: every command and every ABORT is an access to its window, which a gated or a fenced island fails. -/
theorem closedWindows : Obligations.ClosedWindows := by
  intro i s t m unit hu hw
  have accesses : ∃ go, exec i s = .next (t.access m unit go) := by
    obtain ⟨w, h, rfl, rfl, rfl⟩ | ⟨w, h, rfl, rfl, rfl⟩ := hw
    · obtain ⟨go, hx⟩ := commandOf_accesses h
      exact ⟨go, hx.trans (State.goesTo_next _ hu)⟩
    · obtain ⟨go, hx⟩ := abortOf_accesses h
      exact ⟨go, hx.trans (State.goesTo_next _ hu)⟩
  obtain ⟨go, hx⟩ := accesses
  exact ⟨fun hg => by rw [hx, State.access_gated hg], fun hg hf => by rw [hx, State.access_fenced hg hf]⟩

/-! ### What an access answers, and where it goes (R15–R19, R40) -/

theorem State.smFind_answer_self (s : State) (p : Nat) (w : Word) (e : Bool) :
    smFind (s.answer p w e).answers p = some ⟨w, e⟩ := smFind_put_self ..

theorem regionOf_general {u a : Nat} (h : a < 0x780000) : regionOf u a = .sram := by rw [regionOf, if_pos h]

theorem regionOf_regs (u : Nat) {ofs : Nat} (h : ofs < 0x400000) : regionOf u (0x40000000 + ofs) = .regs ofs := by
  have outside : ¬ 0x40000000 + ofs < 0x780000 ∧ ¬ 0x40000000 + ofs < 0x800000 ∧
      ¬ (0x10000000 ≤ 0x40000000 + ofs ∧ 0x40000000 + ofs < 0x10100000) ∧
      ¬ (0x20000000 ≤ 0x40000000 + ofs ∧ 0x40000000 + ofs < 0x20070000) ∧
      ¬ (0x20070000 ≤ 0x40000000 + ofs ∧ 0x40000000 + ofs < 0x20080000) := by omega
  obtain ⟨h1, h2, h3, h4, h5⟩ := outside
  rw [regionOf, if_neg h1, if_neg h2, if_neg h3, if_neg h4, if_neg h5, if_pos (by omega), Nat.add_sub_cancel_left]

/-- An access outside the remote windows is one to the chip itself. -/
theorem busRead_own {m : Sys2Proof.Master} {a n : Nat} {s : State} (h : ∀ c o, regionOf s.dramUsable a ≠ .remote c o) :
    busRead m a n s = ownRead m a n s := by
  unfold busRead
  split
  · next c o hr => exact absurd hr (h c o)
  · rfl

theorem busWrite_own {m : Sys2Proof.Master} {a n : Nat} {w : Word} {s : State}
    (h : ∀ c o, regionOf s.dramUsable a ≠ .remote c o) : busWrite m a n w s = ownWrite m a n w s := by
  unfold busWrite
  split
  · next c o hr => exact absurd hr (h c o)
  · rfl

theorem State.reaches_of_ne_host {s : State} {m : Sys2Proof.Master} {a : Nat} (h : m ≠ .host) : s.reaches m a = true := by
  simp [State.reaches, h]

/-- The host reaches an address through a BAR, with the link up and I12 running. -/
theorem State.hostMay_reached {s : State} {m : Sys2Proof.Master} {a : Nat} (t : State) (h : s.reaches m a = true) :
    s.hostMay m t = t := by
  by_cases hm : m = .host
  · subst hm
    simp only [State.reaches, bne_self_eq_false, Bool.false_or, Bool.and_eq_true, Bool.not_eq_true', beq_iff_eq] at h
    obtain ⟨⟨-, up⟩, runs⟩ := h
    rw [State.hostMay, if_pos rfl, State.alive_up _ runs, State.fromHost, if_pos up]
  · rw [State.hostMay, if_neg hm]

theorem State.reaches_bar {s : State} {m : Sys2Proof.Master} {a : Nat} (h : s.reaches m a = true) :
    m ≠ .host ∨ hostReaches a = true := by
  by_cases hm : m = .host
  · subst hm
    simp only [State.reaches, bne_self_eq_false, Bool.false_or, Bool.and_eq_true] at h
    obtain ⟨⟨bar, -⟩, -⟩ := h
    exact .inr bar
  · exact .inl hm

/-- A read that reaches the part is one on its bus. -/
theorem exec_read_reached {s : State} {m : Sys2Proof.Master} {A : BitVec 40} (wd : Sys2Proof.Width)
    (hu : s.unspecified = false) (h : s.reaches m A.toNat = true) :
    exec (.loRegisterRead m (.bus A) wd) s = .next (busRead m A.toNat (widthBytes wd) s) := by
  rw [exec_loRegisterRead, execLoRegisterRead, State.goesTo_next _ hu, State.hostMay_reached _ h]
  exact congrArg _ (if_pos (State.reaches_bar h))

/-- A write that reaches the part is one on its bus; the host's are those of aligned words. -/
theorem exec_write_reached {s : State} {m : Sys2Proof.Master} {A : BitVec 40} {wd : Sys2Proof.Width} (w : BitVec 32)
    (hu : s.unspecified = false) (h : s.reaches m A.toNat = true)
    (hw : m ≠ .host ∨ (widthBytes wd = 4 ∧ A.toNat % 4 = 0)) :
    exec (.registerWrite m (.bus A) wd w) s = .next (busWrite m A.toNat (widthBytes wd) w s) := by
  have whole : ¬ (m = .host ∧ (widthBytes wd ≠ 4 ∨ A.toNat % 4 ≠ 0)) := by
    rintro ⟨hm, hp⟩
    obtain hm' | ⟨h4, ha⟩ := hw
    · exact hm' hm
    · exact hp.elim (fun x => x h4) (fun x => x ha)
  rw [exec_registerWrite, execRegisterWrite, State.goesTo_next _ hu, State.hostMay_reached _ h]
  exact congrArg _ ((if_neg whole).trans (if_pos (State.reaches_bar h)))

/-! ### Shared SRAM (R15) -/

/-- Writing bytes changes memory alone. -/
theorem State.setBytes_frame (s : State) (a : Nat) (l : List Byte) :
    s.setBytes a l = { s with mem := (s.setBytes a l).mem } := by
  induction l generalizing s a with
  | nil => rfl
  | cons b l ih => exact ih (s.setByte a b) (a + 1)

/-- A write to memory changes the list of uncorrectable words alone. -/
theorem State.memcWritten_frame (s : State) (a n : Nat) :
    s.memcWritten a n = { s with memc := { s.memc with ue := (s.memcWritten a n).memc.ue } } := by
  unfold State.memcWritten
  split <;> rfl

theorem State.byte_memcWritten (s : State) (a n b : Nat) : (s.memcWritten a n).byte b = s.byte b := by
  rw [State.memcWritten_frame]
  rfl

/-- The bytes of a word's access, least significant first. -/
def wordBytesOf (w : Word) (n : Nat) : List Byte := (List.range n).map (fun i => w.extractLsb' (8 * i) 8)

@[simp] theorem wordBytesOf_length (w : Word) (n : Nat) : (wordBytesOf w n).length = n := by simp [wordBytesOf]

/-- An aligned write to the general region stores its bytes. -/
theorem ownWrite_sram {m : Sys2Proof.Master} {a n : Nat} {w : Word} {s : State} (ha : a < 0x780000) (hn : a % n = 0)
    (hf : s.fenced.getLsbD 4 = false) :
    ownWrite m a n w s = ((s.setBytes a (wordBytesOf w n)).memcWritten a n).answer (mport m) 0 false := by
  have region : regionOf s.dramUsable a = .sram := regionOf_general ha
  have runs : ¬ s.fenced.getLsbD (regionIsland .sram) = true := Bool.eq_false_iff.1 hf
  unfold ownWrite
  rw [region]
  simp only [ne_eq, hn, not_true_eq_false, if_false]
  unfold memWrite
  simp only [region]
  rw [if_neg runs]
  simp [regionGranted, wordBytesOf]

/-- An aligned read of the general region answers the bytes that stand there, where the word's check bits are good. -/
theorem ownRead_sram {m : Sys2Proof.Master} {a n : Nat} {s : State} (ha : a < 0x780000) (hn : a % n = 0)
    (hf : s.fenced.getLsbD 4 = false) (hb : s.memcBad (a / 4 * 4) = false) :
    ownRead m a n s =
      (s.answer (mport m) (s.word (a / 4 * 4)) false).answer (mport m) (partOf (s.word (a / 4 * 4)) a n) false := by
  have aligned : a / 4 * 4 / 4 * 4 = a / 4 * 4 := by omega
  have region : regionOf s.dramUsable (a / 4 * 4) = .sram := regionOf_general (by omega)
  have read : memRead m a s = s.answer (mport m) (s.word (a / 4 * 4)) false := by
    unfold memRead
    simp only [region]
    unfold sharedSramRead
    simp only [aligned, region]
    rw [if_pos (by omega), if_neg (Bool.eq_false_iff.1 hf)]
    simp [regionGranted, hb, State.sramCheck]
  unfold ownRead
  rw [regionOf_general ha]
  simp only [ne_eq, hn, not_true_eq_false, if_false]
  rw [read, ownRead.part, State.smFind_answer_self]

/-- Settles O17: the bytes and the frame of an access to the general region. -/
theorem sramWords : Obligations.SramWords := by
  intro m A w wd s hu hm ha hn hf
  dsimp only
  have reached : s.reaches m A.toNat = true := State.reaches_of_ne_host hm
  have own : ∀ c o, regionOf s.dramUsable A.toNat ≠ .remote c o := by simp [regionOf_general ha]
  have write := exec_write_reached w hu reached (wd := wd) (.inl hm)
  rw [busWrite_own own, ownWrite_sram ha hn hf] at write
  refine ⟨⟨_, write, State.smFind_answer_self .., fun i hi => ?_, fun b hb => ?_, ?_⟩, fun hb => ?_⟩
  · rw [State.byte_answer, State.byte_memcWritten, State.byte_setBytes_in _ _ (by simpa using hi)]
    simp [wordBytesOf]
  · rw [State.byte_answer, State.byte_memcWritten, State.byte_setBytes_out _ _ (by simpa using hb)]
  · rw [State.memcWritten_frame, State.setBytes_frame]
    rfl
  · have read := exec_read_reached wd hu reached
    rw [busRead_own own, ownRead_sram ha hn hf hb] at read
    exact ⟨_, read, State.smFind_answer_self .., rfl⟩

/-! ### Decode errors (R17) -/

/-- An address that no region decodes, or that lies in the window of an unallocated or a gated block (R17). -/
def State.Undecoded (s : State) (a : Nat) : Prop :=
  regionOf s.dramUsable a = .none ∨ ∃ ofs, ofs < 0x400000 ∧ a = 0x40000000 + ofs ∧
    (blockAllocated (ofs / 0x10000) = false ∨ s.gated (ofs / 0x10000) = true)

/-- Either no region decodes an undecoded address, or its window does not answer. -/
theorem State.Undecoded.region {s : State} {a : Nat} (h : s.Undecoded a) :
    regionOf s.dramUsable a = .none ∨
      ∃ ofs, regionOf s.dramUsable a = .regs ofs ∧ (!blockAllocated (ofs / 0x10000) || s.gated (ofs / 0x10000)) = true := by
  obtain h | ⟨ofs, hl, rfl, hc⟩ := h
  · exact .inl h
  · exact .inr ⟨ofs, regionOf_regs _ hl, by simpa using hc⟩

theorem State.Undecoded.not_remote {s : State} {a : Nat} (h : s.Undecoded a) (c o : Nat) :
    regionOf s.dramUsable a ≠ .remote c o := by
  obtain hr | ⟨ofs, hr, -⟩ := h.region <;> simp [hr]

theorem ownRead_undecoded {m : Sys2Proof.Master} {a : Nat} {s : State} (n : Nat) (h : s.Undecoded a) :
    ownRead m a n s = (s.decodeError (mclassCode (mclass m)) a).answer (mport m) 0 true := by
  unfold ownRead
  obtain hr | ⟨ofs, hr, hc⟩ := h.region
  · simp only [hr]
  · simp only [hr, hc, if_true]

theorem ownWrite_undecoded {m : Sys2Proof.Master} {a : Nat} {s : State} (n : Nat) (w : Word) (h : s.Undecoded a) :
    ownWrite m a n w s = (s.decodeError (mclassCode (mclass m)) a).answer (mport m) 0 true := by
  unfold ownWrite
  obtain hr | ⟨ofs, hr, hc⟩ := h.region
  · simp only [hr]
  · simp only [hr, hc, if_true]

/-- A counter one step on: it saturates. -/
theorem State.reg_inc (s : State) (a b : Nat) :
    (s.inc a).reg b = if b = a then (if s.reg a = 0xFFFFFFFF then 0xFFFFFFFF else s.reg a + 1) else s.reg b := by
  rw [State.inc, State.incTo]
  by_cases hmax : s.reg a = 0xFFFFFFFF
  · rw [if_neg (by rw [hmax]; decide), if_pos hmax]
    split
    · next hb => rw [hb, hmax]
    · rfl
  · rw [if_pos (by bv_omega), State.reg_setReg, if_neg hmax]

theorem State.inc_frame (s : State) (a : Nat) : s.inc a = { s with regs := (s.inc a).regs } := by
  unfold State.inc State.incTo
  split <;> rfl

/-- What a decode error leaves in the registers. -/
theorem State.reg_decodeError (s : State) (cls a b : Nat) :
    (s.decodeError cls a).reg b =
      if b = Reg.SYS_DECERR_ADDR then wordOfNat (cls * 0x40000000 + a / 1024 % 0x40000000)
      else if b = Reg.SYS_DECERR_CNT then
        if s.reg Reg.SYS_DECERR_CNT = 0xFFFFFFFF then 0xFFFFFFFF else s.reg Reg.SYS_DECERR_CNT + 1
      else s.reg b := by
  rw [State.decodeError, State.reg_setReg, State.reg_inc]

/-- A decode error changes registers alone. -/
theorem State.decodeError_frame (s : State) (cls a : Nat) :
    s.decodeError cls a = { s with regs := (s.decodeError cls a).regs } := by
  rw [State.decodeError, State.inc_frame]
  rfl

/-- What an access that ends as a decode error answers, records and leaves unchanged. -/
theorem State.decodeError_answered (s : State) (cls p : Nat) {a : Nat} (ha : a / 1024 < 0x40000000) :
    let t := (s.decodeError cls a).answer p 0 true
    smFind t.answers p = some ⟨0, true⟩ ∧
      t.reg Reg.SYS_DECERR_CNT =
        (if s.reg Reg.SYS_DECERR_CNT = 0xFFFFFFFF then 0xFFFFFFFF else s.reg Reg.SYS_DECERR_CNT + 1) ∧
      t.reg Reg.SYS_DECERR_ADDR = wordOfNat (cls * 0x40000000 + a / 1024) ∧
      (∀ b, b ≠ Reg.SYS_DECERR_CNT → b ≠ Reg.SYS_DECERR_ADDR → t.reg b = s.reg b) ∧
      t = { s with answers := t.answers, regs := t.regs } := by
  refine ⟨State.smFind_answer_self .., ?_, ?_, fun b hc hd => ?_, ?_⟩
  · rw [State.reg_answer, State.reg_decodeError, if_neg (by decide), if_pos rfl]
  · rw [State.reg_answer, State.reg_decodeError, if_pos rfl, Nat.mod_eq_of_lt ha]
  · rw [State.reg_answer, State.reg_decodeError, if_neg hd, if_neg hc]
  · rw [State.decodeError_frame]
    rfl

/-- Settles O16: an access to an undecoded address is a decode error with an error response. -/
theorem decodeErrors : Obligations.DecodeErrors := by
  intro m A w wd s hu reached (hd : s.Undecoded A.toNat)
  have low : A.toNat / 1024 < 0x40000000 := by
    have := A.isLt
    omega
  refine ⟨⟨_, ?_, State.decodeError_answered _ _ _ low⟩, fun ha => ⟨_, ?_, State.decodeError_answered _ _ _ low⟩⟩
  · rw [exec_read_reached wd hu reached, busRead_own hd.not_remote, ownRead_undecoded _ hd]
  · rw [exec_write_reached w hu reached (.inr ⟨rfl, ha⟩), busWrite_own hd.not_remote, ownWrite_undecoded _ _ hd]

/-! ### Fault events (R13, R54, R56, R517, R522–R526) -/

/-- A mismatch that the parity scan finds charges the block's bucket; an overflow retires the block (R54, R55). -/
theorem parityScan_mismatch {a : Nat} {flip : Word} {s : State}
    (h : ¬ (a % 4 ≠ 0 ∨ !isConfig a ∨ s.gated (a / 0x10000) ∨ s.isFenced (a / 0x10000) ∨
      !([0, 1, 2, 3].any (fun k => ((List.range 8).filter (fun i => bitOf flip (8 * k + i))).length % 2 == 1)))) :
    parityScan a flip s =
      let good := (smFind s.shadow a).getD (s.reg a)
      let s := ({ s with shadow := smPut s.shadow a good }).setReg a (s.reg a ^^^ flip)
      let ofs := wordOfNat (a % 0x10000)
      match s.finding 9 (a / 0x10000) 1 (a / 0x10000) ofs with
      | (t, true) =>
        ((t.orReg (Reg.FLT_BLKRET (a / 0x10000 / 32)) (bitMask (a / 0x10000 % 32))).faultEvent 2 (a / 0x10000) 9
          (a / 0x10000) ofs).fltShow
      | (t, false) => t := if_neg h

/-- A rail that moves beyond a warning threshold raises an INFO event (R526). -/
theorem supplyWarning_eq (r : Nat) (beyond : Bool) (s : State) :
    supplyWarning r beyond s =
      let t := s.setReg Reg.FLT_VMON (setBit (s.reg Reg.FLT_VMON) r beyond)
      if beyond && !bitOf (s.reg Reg.FLT_VMON) r then (t.faultEvent 0 4 0 r (t.reg Reg.FLT_EVT)).fltShow else t.fltShow :=
  apply_ite State.fltShow ..

/-- A pair goes into reset, to be tested (R522). -/
def State.pairWaits (s : State) (p : Nat) : State := { s with flt := { s.flt with pairReset := s.flt.pairReset ++ [p] } }

section
variable {p : Nat} {s : State} (serves : s.flt.pairReset.contains p = false)
include serves

/-- The standby pair diverges: it is retired or waits for its test, and the active pair goes on alone (R522). -/
theorem ropeDivergence_standby (hp : p ≠ s.ropeActive) (hr : s.ropeReady = true) :
    ropeDivergence p s =
      let r := s.pairFinding p 1
      ((if r.2 then r.1 else r.1.pairWaits p).setRope s.ropeActive false).fltShow :=
  (if_neg (Bool.eq_false_iff.1 serves)).trans ((if_pos hp).trans (if_pos hr))

/-- The active pair diverges and the standby pair takes over: the switch is counted, one decision word excused (R522). -/
theorem ropeDivergence_switch (hp : p = s.ropeActive) (hr : s.ropeReady = true) :
    ropeDivergence p s =
      let r := s.pairFinding p 1
      let t := if r.2 then r.1 else r.1.pairWaits p
      let w := t.reg Reg.FLT_ROPE
      let v := (t.setReg Reg.FLT_ROPE (setFld w 31 16 (min (fld w 31 16 + 1) 0xFFFF))).setRope (1 - p) false
      ({ v with safe := { v.safe with excuse := 1 } }).fltShow :=
  (if_neg (Bool.eq_false_iff.1 serves)).trans ((if_neg (not_not_intro hp)).trans (if_pos hr))

/-- The last pair diverges: the part goes to its safe state until the pair is back (R523). -/
theorem ropeDivergence_last (hp : p = s.ropeActive) (hr : s.ropeReady = false) :
    ropeDivergence p s =
      let t := ((s.lastPairFinding p).pairWaits p).setRope p false
      let t := { t with safe := { t.safe with ropeBack := some none } }
      ((t.safeFault cROPE 0xFF).baseGates).fltShow :=
  (if_neg (Bool.eq_false_iff.1 serves)).trans ((if_neg (not_not_intro hp)).trans (if_neg (Bool.eq_false_iff.1 hr)))

end

section
variable {s : State} (fail : Bool) (runs : s.fenced.getLsbD 2 = false)
include runs

/-- A halted active pair restarts from its checkpoint (R523). -/
theorem standbyPairReady_restart (hh : s.ropeHalted = true) :
    standbyPairReady fail s =
      let t := { s with
        flt := { s.flt with pairReset := s.flt.pairReset.filter (fun p => p != s.ropeActive) },
        safe := { s.safe with ropeBack := some (some s.now) } }
      t.baseGates.fltShow :=
  (if_neg (Bool.eq_false_iff.1 runs)).trans (if_pos hh)

/-- A pair in reset ends its test: where it passes, it becomes the standby pair (R522). -/
theorem standbyPairReady_tested (hh : s.ropeHalted = false) (hc : s.flt.pairReset.contains (1 - s.ropeActive) = true) :
    standbyPairReady fail s =
      let t := s.testRan 2 fail
      if fail then (t.testFailed 4 (1 - s.ropeActive)).fltShow
      else (({ t with flt := { t.flt with pairReset := [] } }).setRope s.ropeActive true).fltShow :=
  (if_neg (Bool.eq_false_iff.1 runs)).trans ((if_neg (Bool.eq_false_iff.1 hh)).trans (if_pos hc))

end

/-- Settles O57: each event, where its conditions hold, has the effect its own equation gives. -/
theorem fltEventsComplete : Obligations.FltEventsComplete := by
  intro s hu
  have goes (t : State) : s.goesTo t = .next t := State.goesTo_next t hu
  refine ⟨fun a flip h => ?_, fun blk h => ?_, fun n => goes _, fun n => goes _, fun r beyond => ?_, fun b => ?_,
    fun b => ?_, fun b => ?_, fun fail hf hh => ?_, fun fail hf hh hc => ?_, fun h => ?_⟩
  · rw [exec_parityScan, execParityScan, goes]
    exact congrArg _ (parityScan_mismatch h)
  · rw [exec_configReload, execConfigReload, goes, configReload, if_neg h]
  · rw [exec_supplyWarning, execSupplyWarning, goes, supplyWarning_eq]
  · intro a r wait serves hp hr
    rw [exec_ropeDivergence, execRopeDivergence, goes]
    exact congrArg _ (ropeDivergence_standby serves hp hr)
  · intro r wait t w v serves hp hr
    rw [exec_ropeDivergence, execRopeDivergence, goes]
    exact congrArg _ (ropeDivergence_switch serves hp hr)
  · intro wait t u serves hp hr
    rw [exec_ropeDivergence, execRopeDivergence, goes]
    exact congrArg _ (ropeDivergence_last serves hp hr)
  · rw [exec_standbyPairReady, execStandbyPairReady, goes, standbyPairReady_restart fail hf hh]
  · rw [exec_standbyPairReady, execStandbyPairReady, goes, standbyPairReady_tested fail hf hh hc]
  · rw [exec_autocoldRestart, execAutocoldRestart, goes, autocoldRestart, if_pos h]

end Sys2Proof.Machine
end

section
/-!
PROOFS. The statements of 02_registers_and_commands.md: the queue of commands and what stops the part, the verdicts of R62,
CLEAR_STATS, reads of registers and of empty offsets, and the commands and events of SYS, CLK, PROF, AXC, ENC, STEP, SEQ,
SDM and DAC.
-/
namespace Sys2Proof.Machine

/-! ### The queue of commands, and what stops the part (R53, R65) -/

/-- Settles O5: the queue is among what `Keeps` names, of the state whose queue has lost its front. -/
theorem stepTakesOneCommand : Obligations.StepTakesOneCommand := by
  intro s t h
  obtain ⟨-, queue, -⟩ := step_keeps h
  exact queue

/-- Settles O1: the queue's front is the command that was pushed. -/
theorem stepRunsFrontCommand : Obligations.StepRunsFrontCommand := fun _ _ => rfl

/-- The rows that start the part afresh, whatever went before (R467). -/
def startsAfresh : Sys2Proof.Instr → Prop
  | .coldStart _ | .porstNAsserted | .brownOutReset => True
  | _ => False

/-- Every row but those that start the part afresh goes to a state by `State.goesTo`, which is where R53 stops it. -/
theorem exec_goesTo (i : Sys2Proof.Instr) (s : State) (h : ¬ startsAfresh i) : ∃ t, exec i s = s.goesTo t := by
  cases i with
  | coldStart => exact absurd trivial h
  | porstNAsserted => exact absurd trivial h
  | brownOutReset => exact absurd trivial h
  | _ => exact ⟨_, rfl⟩

theorem exec_startsAfresh {i : Sys2Proof.Instr} (s : State) (h : startsAfresh i) : ∃ t, exec i s = .next t := by
  cases i with
  | coldStart => exact ⟨_, rfl⟩
  | porstNAsserted => exact ⟨_, rfl⟩
  | brownOutReset => exact ⟨_, rfl⟩
  | _ => exact h.elim

/-- Settles O7: what is specified goes on, by `State.goesTo` or afresh. -/
theorem everyCommandCompletes : Obligations.EveryCommandCompletes := by
  intro i s hu
  by_cases h : startsAfresh i
  · exact exec_startsAfresh s h
  · obtain ⟨t, hx⟩ := exec_goesTo i s h
    exact ⟨t, hx.trans (State.goesTo_next t hu)⟩

/-- Settles O8: `State.goesTo` faults in every state whose behaviour is not specified (R53). -/
theorem unspecifiedStops : Obligations.UnspecifiedStops := by
  intro i s hu
  by_cases h : startsAfresh i
  · cases i with
    | coldStart e => exact .inl ⟨e, rfl⟩
    | porstNAsserted => exact .inr (.inl rfl)
    | brownOutReset => exact .inr (.inr (.inl rfl))
    | _ => exact h.elim
  · obtain ⟨t, hx⟩ := exec_goesTo i s h
    exact .inr (.inr (.inr (hx.trans (State.goesTo_fault t hu))))

/-! ### The verdicts of R62 -/

section
variable {s : State} {m : Sys2Proof.Master} {a : Sys2Proof.CmdArg} {c : Cmd}

/-- The decision of R62, check by check. -/
theorem State.decideCommand_eq : s.decideCommand m a c =
    if s.granted m c.unit c.acc = false then .rejPriv
    else if a.rsv ≠ 0 ∨ c.argOk = false then .rejCode
    else if s.inProgress c.unit = true ∧ c.busy = true then .rejState
    else if c.permitted = false then .rejState
    else if c.contentOk = false then .rejCode
    else .accept := by
  simp [State.decideCommand]

/-- A rejected command rewrites _CMDSTAT alone (R63). -/
def State.rejected (s : State) (unit code status : Nat) : State :=
  s.setReg (statOf unit) (cmdstatReject (s.reg (statOf unit)) code status)

/-- A denied command is recorded by FLT as well (R59). -/
theorem State.rejectCmd_priv (unit code : Nat) : s.rejectCmd m unit code stRejPriv =
    (s.rejected unit code stRejPriv).noteDenied (mclassCode (mclass m)) (unit / 0x10000) (unit % 0x10000) := by
  rw [State.rejectCmd, if_pos rfl, State.rejected]

theorem State.rejectCmd_code (unit code : Nat) : s.rejectCmd m unit code stRejCode = s.rejected unit code stRejCode := by
  rw [State.rejectCmd, if_neg (by decide), State.rejected]

theorem State.rejectCmd_state (unit code : Nat) : s.rejectCmd m unit code stRejState = s.rejected unit code stRejState := by
  rw [State.rejectCmd, if_neg (by decide), State.rejected]

section
variable {eff : State → State} (ho : s.opens c.unit = true)
include ho

theorem State.command_rejPriv (hd : s.decideCommand m a c = .rejPriv) : s.command m a c eff =
    (s.rejected c.unit c.code stRejPriv).noteDenied (mclassCode (mclass m)) (c.unit / 0x10000) (c.unit % 0x10000) := by
  rw [State.command_of ho, hd]
  exact State.rejectCmd_priv ..

theorem State.command_rejCode (hd : s.decideCommand m a c = .rejCode) :
    s.command m a c eff = s.rejected c.unit c.code stRejCode := by
  rw [State.command_of ho, hd]
  exact State.rejectCmd_code ..

theorem State.command_rejState (hd : s.decideCommand m a c = .rejState) :
    s.command m a c eff = s.rejected c.unit c.code stRejState := by
  rw [State.command_of ho, hd]
  exact State.rejectCmd_state ..

end
end

/-! ### Flash operations on a protected range (R500) -/

section
variable {s : State} {m : Sys2Proof.Master} {a : Sys2Proof.CmdArg} {code : Nat}

/-- A flash operation that is rejected before its range is looked at, or whose range is not protected, sets no PROT. -/
theorem xspiStart_eq_command
    (h : s.decideCommand m a { flashCmd s code a with contentOk := true } ≠ .accept ∨
      s.xspiProtects (s.xspiOp code) = false) :
    ∃ eff, xspiStart code m a s = s.command m a (flashCmd s code a) eff := by
  refine ⟨_, if_neg ?_⟩
  simp only [Bool.and_eq_true, beq_iff_eq]
  rintro ⟨⟨⟨protects, accepted⟩, -⟩, -⟩
  obtain h | h := h
  · exact h accepted
  · exact Bool.eq_false_iff.1 h protects

/-- A flash operation on the protected range that passes all other checks: REJ_CODE, and XSPI_EVT.PROT. -/
theorem xspiStart_protected (ho : s.opens Reg.XSPI_CMD = true)
    (hd : s.decideCommand m a { flashCmd s code a with contentOk := true } = .accept)
    (hp : s.xspiProtects (s.xspiOp code) = true) (hr : s.decideCommand m a (flashCmd s code a) = .rejCode) :
    xspiStart code m a s = (s.rejected Reg.XSPI_CMD code stRejCode).xspiEvt 2 := by
  obtain ⟨running, clocked⟩ := Bool.and_eq_true_iff.1 ho
  have prot : (s.xspiProtects (s.xspiOp code) && s.decideCommand m a { flashCmd s code a with contentOk := true } == .accept &&
      !s.gated 0x3D && !s.isFenced 0x3D) = true := by
    simp only [Bool.and_eq_true, beq_iff_eq]
    exact ⟨⟨⟨hp, hd⟩, running⟩, clocked⟩
  exact (if_pos prot).trans (congrArg (State.xspiEvt · 2) (State.command_rejCode ho hr))

end

/-- The commands of XSPI_CMD that look at their operands are the flash operations: every other command that does so is
written to another register, also where a channel or a block of several gives its address. -/
theorem commandOf_flash {i : Sys2Proof.Instr} {s : State} {w : Written} (h : commandOf i s = some w)
    (hu : w.c.unit = Reg.XSPI_CMD) (hc : w.c.contentOk = false) :
    ∃ code, w.c = flashCmd w.st code w.a ∧ exec i s = s.goesTo (xspiStart code w.m w.a w.st) := by
  cases i with
  | xspiRead => cases h; exact ⟨1, rfl, rfl⟩
  | xspiProgram => cases h; exact ⟨2, rfl, rfl⟩
  | xspiErase4k => cases h; exact ⟨3, rfl, rfl⟩
  | xspiErase64k => cases h; exact ⟨4, rfl, rfl⟩
  | profGo m g a =>
    cases h
    have : 0x120800 + 0x60 * g.toNat = 0x3D0000 := hu
    omega
  | axcSwap m k a =>
    cases h
    have : 0x140000 + 0x10000 * k.toNat = 0x3D0000 := hu
    omega
  | ocuLoadSched u =>
    cases h
    have : 0x280000 + 0x10000 * b2n u = 0x3D0000 := hu
    cases u <;> contradiction
  | ocuBulkSend u =>
    cases h
    have : 0x280000 + 0x10000 * b2n u = 0x3D0000 := hu
    cases u <;> contradiction
  | canStart k =>
    cases h
    have : 0x300000 + 0x10000 * k.toNat = 0x3D0000 := hu
    omega
  | _ => cases h <;> dsimp only [genCmd, chanCmd, seqCmd, ilkCmd, safeCmd, scCmd] at hu hc <;> contradiction

/-- A row's command is decided by R62 and has its own effect, but for a flash operation that only its range stops. -/
theorem commandOf_command {i : Sys2Proof.Instr} {s : State} {w : Written} (h : commandOf i s = some w)
    (hp : w.st.decideCommand w.m w.a { w.c with contentOk := true } ≠ .accept ∨
      ¬ (w.c.unit = Reg.XSPI_CMD ∧ w.st.xspiProtects (w.st.xspiOp w.c.code) = true)) :
    ∃ eff, exec i s = s.goesTo (w.st.command w.m w.a w.c eff) := by
  obtain written | ⟨code, hc, hx⟩ := commandOf_written h
  · exact written
  · rw [hc] at hp ⊢
    have unprotected := hp.imp id fun h => Bool.eq_false_iff.2 fun protects => h ⟨rfl, protects⟩
    obtain ⟨eff, start⟩ := xspiStart_eq_command unprotected
    exact ⟨eff, by rw [hx, start]⟩

/-- A check before that of the operands rejects the command, whatever they hold. -/
theorem commandOf_early {i : Sys2Proof.Instr} {s : State} {w : Written} {v : Verdict} (h : commandOf i s = some w)
    (hv : ∀ ok, w.st.decideCommand w.m w.a { w.c with contentOk := ok } = v) (hne : v ≠ .accept) :
    w.st.decideCommand w.m w.a w.c = v ∧ ∃ eff, exec i s = s.goesTo (w.st.command w.m w.a w.c eff) :=
  ⟨hv w.c.contentOk, commandOf_command h (.inl (by rw [hv]; exact hne))⟩

/-- Settles O9: the checks of `State.decideCommand`, one after the other. -/
theorem commandVerdicts : Obligations.CommandVerdicts := by
  intro i s w hu hw ho rejected
  have eq (ok : Bool) := State.decideCommand_eq (s := w.st) (m := w.m) (a := w.a) (c := { w.c with contentOk := ok })
  dsimp only at eq
  by_cases granted : w.st.granted w.m w.c.unit w.c.acc = false
  · obtain ⟨verdict, eff, hx⟩ := commandOf_early hw (fun ok => by rw [eq, if_pos granted]) (by decide)
    rw [if_pos granted, hx, State.goesTo_next _ hu, State.command_rejPriv ho verdict]
    rfl
  rw [if_neg granted]
  by_cases malformed : w.a.rsv ≠ 0 ∨ w.c.argOk = false
  · obtain ⟨verdict, eff, hx⟩ := commandOf_early hw (fun ok => by rw [eq, if_neg granted, if_pos malformed]) (by decide)
    rw [if_pos malformed, hx, State.goesTo_next _ hu, State.command_rejCode ho verdict]
    rfl
  rw [if_neg malformed]
  by_cases busy : w.st.inProgress w.c.unit = true ∧ w.c.busy = true
  · obtain ⟨verdict, eff, hx⟩ :=
      commandOf_early hw (fun ok => by rw [eq, if_neg granted, if_neg malformed, if_pos busy]) (by decide)
    rw [if_pos busy, hx, State.goesTo_next _ hu, State.command_rejState ho verdict]
    rfl
  rw [if_neg busy]
  by_cases forbidden : w.c.permitted = false
  · obtain ⟨verdict, eff, hx⟩ :=
      commandOf_early hw (fun ok => by rw [eq, if_neg granted, if_neg malformed, if_neg busy, if_pos forbidden]) (by decide)
    rw [if_pos forbidden, hx, State.goesTo_next _ hu, State.command_rejState ho verdict]
    rfl
  rw [if_neg forbidden]
  have decided (ok : Bool) : w.st.decideCommand w.m w.a { w.c with contentOk := ok } =
      if ok = false then .rejCode else .accept := by
    rw [eq, if_neg granted, if_neg malformed, if_neg busy, if_neg forbidden]
  by_cases content : w.c.contentOk = false
  · have verdict : w.st.decideCommand w.m w.a w.c = .rejCode := (decided _).trans (if_pos content)
    rw [if_pos content]
    by_cases protects : w.c.unit = Reg.XSPI_CMD ∧ w.st.xspiProtects (w.st.xspiOp w.c.code) = true
    · obtain ⟨code, hc, hx⟩ := commandOf_flash hw protects.1 content
      have others := decided true
      rw [if_pos protects, hx, State.goesTo_next _ hu]
      rw [hc] at ho others verdict protects
      rw [xspiStart_protected ho others protects.2 verdict]
      simp only [rejected, hc]
      rfl
    · obtain ⟨eff, hx⟩ := commandOf_command hw (.inr protects)
      rw [if_neg protects, hx, State.goesTo_next _ hu, State.command_rejCode ho verdict]
      rfl
  · rw [if_neg content]
    exact ⟨w, hw, ho, (decided _).trans (if_neg content)⟩

/-- ABORT is decided by checks 1 and 2 alone (R67). -/
theorem State.abort_of {s : State} {m : Sys2Proof.Master} {a : Sys2Proof.CmdArg} {unit : Nat} {acc : Priv}
    {eff : Option Busy → State → State} (h : s.opens unit = true) : s.abort m a unit acc eff =
      if s.granted m unit acc = false then s.rejectCmd m unit 0x0F stRejPriv
      else if a.rsv ≠ 0 ∨ a.arg ≠ 0 then s.rejectCmd m unit 0x0F stRejCode
      else eff (smFind s.busy unit) (s.aborted unit) := by
  rw [State.abort, State.access_open h]
  simp [State.aborted]

/-- Settles O10: the two checks of `State.abort`; an ABORT that passes them is accepted. -/
theorem abortVerdicts : Obligations.AbortVerdicts := by
  intro i s w hu hw ho rejected
  obtain ⟨eff, hx⟩ := abortOf_written hw
  rw [hx, State.goesTo_next _ hu, State.abort_of ho]
  by_cases granted : w.st.granted w.m w.unit w.acc = false
  · rw [if_pos granted, if_pos granted, State.rejectCmd_priv]
    rfl
  rw [if_neg granted, if_neg granted]
  by_cases malformed : w.a.rsv ≠ 0 ∨ w.a.arg ≠ 0
  · rw [if_pos malformed, if_pos malformed, State.rejectCmd_code]
    rfl
  rw [if_neg malformed]
  obtain ⟨hr, ha⟩ := not_or.1 malformed
  exact ⟨w, hw, ho, Bool.of_not_eq_false granted, Classical.not_not.1 hr, Classical.not_not.1 ha⟩

/-! ### CLEAR_STATS (R64) -/

theorem clearStats_block {b code : Nat} (hc : statsCode b = some code) (fio : b ≠ 0x24) (safe : b ≠ 0x25)
    (m : Sys2Proof.Master) (a : Sys2Proof.CmdArg) (s : State) :
    clearStats b m a s = s.command m a ⟨b * 0x10000, unitAcc (b * 0x10000), code, a.arg == 0, false, s.statsOk b, true⟩
      fun s => s.statsClear b := by
  unfold clearStats
  split
  · exact absurd rfl fio
  · exact absurd rfl safe
  · next h => cases hc.symm.trans h; rfl
  · next h => cases hc.symm.trans h

theorem clearStats_none {b : Nat} (hc : statsCode b = none) (m : Sys2Proof.Master) (a : Sys2Proof.CmdArg) (s : State) :
    clearStats b m a s = s := by
  unfold clearStats
  split
  · cases hc
  · cases hc
  · next h => cases hc.symm.trans h
  · rfl

theorem exec_clearStats_fio (m : Sys2Proof.Master) (a : Sys2Proof.CmdArg) (s : State) :
    exec (.clearStats m 0x24 a) s = s.goesTo (fioClearStats m a s) := rfl

theorem exec_clearStats_safe (m : Sys2Proof.Master) (a : Sys2Proof.CmdArg) (s : State) :
    exec (.clearStats m 0x25 a) s = s.goesTo (safeClearStats m a s) := rfl

/-- Settles O12: CLEAR_STATS is a command without a BUSY phase. -/
theorem clearStatsComplete : Obligations.ClearStatsComplete := by
  intro blk m a s hu
  refine ⟨fun code hc fio safe ho hd => ?_, fun ho hd => ?_, fun ho hd => ?_, fun hc => ?_⟩
  · have notFio : blk.toNat ≠ 0x24 := fun h => fio (BitVec.eq_of_toNat_eq h)
    have notSafe : blk.toNat ≠ 0x25 := fun h => safe (BitVec.eq_of_toNat_eq h)
    rw [exec_clearStats, execClearStats, State.goesTo_next _ hu, clearStats_block hc notFio notSafe,
      State.command_now hd ho rfl]
  · rw [exec_clearStats_fio, State.goesTo_next _ hu, fioClearStats, State.command_now hd ho rfl]
  · rw [exec_clearStats_safe, State.goesTo_next _ hu, safeClearStats, State.command_now hd ho rfl]
    rfl
  · rw [exec_clearStats, execClearStats, State.goesTo_next _ hu, clearStats_none hc]

/-! ### Accesses to register windows (R40–R43) -/

/-- Row i leads from s to u, but for its answer to port p: the word w, with or without an error. -/
def AnswersFrom (i : Sys2Proof.Instr) (s u : State) (p : Nat) (w : Word) (err : Bool) : Prop :=
  ∃ t, exec i s = .next t ∧ smFind t.answers p = some ⟨w, err⟩ ∧ t = { u with answers := t.answers }

theorem answersFrom_answer {i : Sys2Proof.Instr} {s u : State} {p : Nat} {w : Word} {err : Bool}
    (h : exec i s = .next (u.answer p w err)) : AnswersFrom i s u p w err :=
  ⟨_, h, State.smFind_answer_self .., rfl⟩

theorem blockAllocated_of_regDesc {r : Nat} {d : RegDesc} (h : regDesc r = some d) : blockAllocated (r / 0x10000) = true := by
  have mem : d ∈ blockRegs (r / 0x10000) := List.mem_of_find?_eq_some h
  cases hb : blockRegs (r / 0x10000) with
  | nil => rw [hb] at mem; cases mem
  | cons => rw [blockAllocated, hb]; rfl

theorem State.opens_of_block {s : State} {a b : Nat} (ho : s.opens a = true) (h : b / 0x10000 = a / 0x10000) :
    s.opens b = true := by
  rw [State.opens, h]
  exact ho

theorem State.not_gated_of_opens {s : State} {a : Nat} (ho : s.opens a = true) : s.gated (a / 0x10000) = false := by
  simp only [State.opens, Bool.and_eq_true, Bool.not_eq_true'] at ho
  exact ho.1

/-- What a narrow read takes of a word goes by the lowest two bits of the address. -/
theorem partOf_congr (w : Word) {a b : Nat} (n : Nat) (h : a % 4 = b % 4) : partOf w a n = partOf w b n := by
  rw [partOf, partOf, h]

/-- A read takes its part of the word that its port was answered. -/
theorem ownRead_part {a n p : Nat} {u : State} {x : Answer} (h : smFind u.answers p = some x) :
    ownRead.part a n p u = u.answer p (partOf x.data a n) x.err := by
  rw [ownRead.part, h]

theorem alias_toNat {a k : Nat} (hl : a < 0x400000) (hk : k < 4) :
    (BitVec.ofNat 40 (0x40000000 + (a + 0x4000 * k))).toNat = 0x40000000 + (a + 0x4000 * k) := by
  rw [BitVec.toNat_ofNat]
  omega

section
variable {m : Sys2Proof.Master} {a k : Nat} {s : State}
  (hl : a < 0x400000) (hk : k < 4) (hn : a % 0x10000 < 0x4000)
include hl hk hn

theorem regionOf_alias (u : Nat) : regionOf u (0x40000000 + (a + 0x4000 * k)) = .regs (a + 0x4000 * k) :=
  regionOf_regs u (by omega)

theorem alias_not_remote (u c o : Nat) : regionOf u (0x40000000 + (a + 0x4000 * k)) ≠ .remote c o := by
  simp [regionOf_alias hl hk hn]

section
variable (hb : blockAllocated (a / 0x10000) = true) (ho : s.opens a = true)
include hb ho

/-- An aligned read in an open window, through any of the aliases, is one of the register at its offset. -/
theorem ownRead_register (wd : Sys2Proof.Width) (ha : a % widthBytes wd = 0) :
    ownRead m (0x40000000 + (a + 0x4000 * k)) (widthBytes wd) s =
      ownRead.part (0x40000000 + (a + 0x4000 * k)) (widthBytes wd) (mport m) (regRead m (a / 4 * 4) s) := by
  have block : (a + 0x4000 * k) / 0x10000 = a / 0x10000 := by omega
  have offset : a / 0x10000 * 0x10000 + (a + 0x4000 * k) % 0x4000 / 4 * 4 = a / 4 * 4 := by omega
  have aligned : (a + 0x4000 * k) % widthBytes wd = 0 := by
    cases wd <;> simp only [widthBytes] at ha ⊢ <;> omega
  unfold ownRead
  rw [regionOf_alias hl hk hn]
  simp only [block, offset, aligned, hb, State.not_gated_of_opens ho]
  rfl

/-- A write of a word in an open window is one to the register at its offset, by the kind of write that its offset gives. -/
theorem ownWrite_register (w : Word) (ha : a % 4 = 0) :
    ownWrite m (0x40000000 + (a + 0x4000 * k)) 4 w s = regWrite m a (aliasOf ((a + 0x4000 * k) % 0x10000)) w s := by
  have block : (a + 0x4000 * k) / 0x10000 = a / 0x10000 := by omega
  have offset : a / 0x10000 * 0x10000 + (a + 0x4000 * k) % 0x4000 = a := by omega
  have aligned : (a + 0x4000 * k) % 4 = 0 := by omega
  unfold ownWrite
  rw [regionOf_alias hl hk hn]
  simp only [block, offset, aligned, hb, State.not_gated_of_opens ho]
  rfl

end
end

/-! ### Offsets where no register stands (R41) -/

/-- Where no register stands, an access to an open window changes nothing but the answer. -/
theorem regWrite_empty {m : Sys2Proof.Master} {a : Nat} {s : State} (he : regDesc a = none) (ho : s.opens a = true)
    (al : Alias) (w : Word) : regWrite m a al w s = s.answer (mport m) 0 false := by
  unfold regWrite
  rw [he]
  exact State.access_open (s := s.answer (mport m) 0 false) ho

/-- The registers whose read is an operation of its own (R177, R293, R387, R528, R543). -/
def readsByOperation (r : Nat) : Prop :=
  r = Reg.TB_TIME_LO ∨ r = Reg.BIV_CAL_LO ∨ r = Reg.FIO_TSF_LO ∨ r = Reg.FLT_LOG_D 0 ∨ r = Reg.PROF_CAM_DATA

/-- A register stands at each of them. -/
theorem regDesc_of_readsByOperation {r : Nat} (h : readsByOperation r) : regDesc r ≠ none := by
  obtain rfl | rfl | rfl | rfl | rfl := h <;> decide

section
variable {m : Sys2Proof.Master} {r : Nat} {s : State} (ho : s.opens r = true)
include ho

theorem regRead_empty (he : regDesc r = none) : regRead m r s = s.answer (mport m) 0 false := by
  have plain : ¬ readsByOperation r := fun h => regDesc_of_readsByOperation h he
  simp only [readsByOperation, not_or] at plain
  obtain ⟨h1, h2, h3, h4, h5⟩ := plain
  rw [regRead, if_neg h1, if_neg h2, if_neg h3, if_neg h4, if_neg h5, State.access_open ho, he]

section
variable {d : RegDesc} (hd : regDesc r = some d) (plain : ¬ readsByOperation r)
include hd plain

theorem regRead_described : regRead m r s =
    if d.wo || !s.granted m r d.acc then s.answer (mport m) 0 false
    else
      let w := (smFind s.held (portKey (mport m) r)).getD (s.regNow (mport m) r)
      let s := if latchesHi r then s.latch (mport m) (r + 4) (s.regNow (mport m) (r + 4)) else s
      (if isResult r then s.setReg r (setBit (s.reg r) 0 false) else s).answer (mport m) w false := by
  simp only [readsByOperation, not_or] at plain
  obtain ⟨h1, h2, h3, h4, h5⟩ := plain
  rw [regRead, if_neg h1, if_neg h2, if_neg h3, if_neg h4, if_neg h5, State.access_open ho, hd]

/-- A write-only register, and one whose class is not granted, reads 0 (R45, R59). -/
theorem regRead_withheld (h : d.wo = true ∨ s.granted m r d.acc = false) :
    regRead m r s = s.answer (mport m) 0 false := by
  rw [regRead_described ho hd plain, if_pos]
  simpa using h

/-- A granted read answers the held word or the live one, latches the word above and clears FRESH (R42, R69). -/
theorem regRead_granted (hw : d.wo = false) (hg : s.granted m r d.acc = true) :
    let latched := if latchesHi r then s.latch (mport m) (r + 4) (s.regNow (mport m) (r + 4)) else s
    regRead m r s =
      (if isResult r then latched.setReg r (setBit (s.reg r) 0 false) else latched).answer (mport m)
        ((smFind s.held (portKey (mport m) r)).getD (s.regNow (mport m) r)) false := by
  intro latched
  have same : latched.reg r = s.reg r := by
    unfold latched
    split <;> rfl
  rw [regRead_described ho hd plain, if_neg (by simp [hw, hg]), ← same]

end
end

section
variable {m : Sys2Proof.Master} {a k : Nat} {s : State} (hu : s.unspecified = false)
  (hl : a < 0x400000) (hk : k < 4) (hn : a % 0x10000 < 0x4000) (hb : blockAllocated (a / 0x10000) = true)
  (hr : s.reaches m (0x40000000 + (a + 0x4000 * k)) = true) (ho : s.opens a = true)
include hl hn hb ho

/-- A write of a word through any of the aliases to an offset without a register changes nothing but the answer. -/
theorem aliasWrite_empty (ha : a % 4 = 0) (he : regDesc a = none) (al : Alias) (w : Word) :
    aliasWrite m (BitVec.ofNat 22 a).toNat al w s = s.answer (mport m) 0 false := by
  have ofs : (BitVec.ofNat 22 a).toNat = a := by
    rw [BitVec.toNat_ofNat]
    omega
  have through (j : Nat) (hj : j < 4) : ownWrite m (0x40000000 + (BitVec.ofNat 22 a).toNat / 0x10000 * 0x10000 +
      (BitVec.ofNat 22 a).toNat % 0x4000 + 0x4000 * j) 4 w s = s.answer (mport m) 0 false := by
    have address : 0x40000000 + a / 0x10000 * 0x10000 + a % 0x4000 + 0x4000 * j = 0x40000000 + (a + 0x4000 * j) := by omega
    rw [ofs, address, ownWrite_register hl hj hn hb ho w ha, regWrite_empty he ho]
  cases al with
  | normal => exact through 0 (by decide)
  | set => exact through 1 (by decide)
  | clear => exact through 2 (by decide)
  | toggle => exact through 3 (by decide)

include hu hk hr

/-- A read that reaches an open window is one of the register at its offset. -/
theorem exec_read_register (wd : Sys2Proof.Width) (ha : a % widthBytes wd = 0) :
    exec (.loRegisterRead m (.bus (BitVec.ofNat 40 (0x40000000 + (a + 0x4000 * k)))) wd) s =
      .next (ownRead.part (0x40000000 + (a + 0x4000 * k)) (widthBytes wd) (mport m) (regRead m (a / 4 * 4) s)) := by
  have adr := alias_toNat (a := a) (k := k) hl hk
  rw [exec_read_reached wd hu (by rw [adr]; exact hr), adr, busRead_own (alias_not_remote hl hk hn _),
    ownRead_register hl hk hn hb ho wd ha]

theorem exec_write_register (w : Word) (ha : a % 4 = 0) :
    exec (.registerWrite m (.bus (BitVec.ofNat 40 (0x40000000 + (a + 0x4000 * k)))) .word w) s =
      .next (regWrite m a (aliasOf ((a + 0x4000 * k) % 0x10000)) w s) := by
  have adr := alias_toNat (a := a) (k := k) hl hk
  rw [exec_write_reached w hu (by rw [adr]; exact hr) (.inr ⟨rfl, by rw [adr]; omega⟩), adr,
    busWrite_own (alias_not_remote hl hk hn _)]
  exact congrArg _ (ownWrite_register hl hk hn hb ho w ha)

/-- A read answers its part of the word that the register's own read answers, and leads to the state that read leads to. -/
theorem answersFrom_read (wd : Sys2Proof.Width) {u : State} {x : Answer} (ha : a % widthBytes wd = 0)
    (hv : regRead m (a / 4 * 4) s = u) (hx : smFind u.answers (mport m) = some x) :
    AnswersFrom (.loRegisterRead m (.bus (BitVec.ofNat 40 (0x40000000 + (a + 0x4000 * k)))) wd) s u (mport m)
      (partOf x.data a (widthBytes wd)) x.err := by
  have part := partOf_congr x.data (widthBytes wd) (show (0x40000000 + (a + 0x4000 * k)) % 4 = a % 4 by omega)
  obtain ⟨t, run, answer, frame⟩ := answersFrom_answer
    (by rw [exec_read_register hu hl hk hn hb hr ho wd ha, hv, ownRead_part hx, part])
  exact ⟨t, run, answer, frame⟩

end

/-- Settles O15: every access to an empty offset ends in the register layer, which answers 0 and stores nothing. -/
theorem emptyOffsets : Obligations.EmptyOffsets := by
  intro m a k w wd s hu hl hk hn hb he hr ho place untouched
  have opensThere : s.opens (a / 4 * 4) = true := State.opens_of_block ho (by omega)
  refine ⟨fun ha => ?_, fun ha => ?_⟩
  · have empty : regDesc a = none := by rwa [show a / 4 * 4 = a by omega] at he
    have through (al : Alias) := aliasWrite_empty (m := m) hl hn hb ho ha empty al w
    refine ⟨answersFrom_answer ?_, answersFrom_answer ?_, answersFrom_answer ?_, answersFrom_answer ?_⟩
    · rw [exec_write_register hu hl hk hn hb hr ho w ha, regWrite_empty empty ho]
    · rw [exec_setAliasWrite, execSetAliasWrite, State.goesTo_next _ hu, State.hostMay_reached _ hr, through]
    · rw [exec_clearAliasWrite, execClearAliasWrite, State.goesTo_next _ hu, State.hostMay_reached _ hr, through]
    · rw [exec_toggleAliasWrite, execToggleAliasWrite, State.goesTo_next _ hu, State.hostMay_reached _ hr, through]
  · have zero : partOf 0 a (widthBytes wd) = 0 := by simp [partOf]
    have read := answersFrom_read hu hl hk hn hb hr ho wd ha (regRead_empty opensThere he) (State.smFind_answer_self ..)
    rw [zero] at read
    exact read

/-! ### Reads of registers (R40, R42, R45, R59, R69) -/

/-- A read of a result register by its own row is the read of a word. -/
theorem exec_resultRegisterRead_word {m : Sys2Proof.Master} {a k : Nat} {s : State} (hu : s.unspecified = false)
    (hl : a < 0x400000) (hk : k < 4) (hn : a % 0x10000 < 0x4000) (hb : blockAllocated (a / 0x10000) = true)
    (hr : s.reaches m (0x40000000 + (a + 0x4000 * k)) = true) (ho : s.opens a = true) (ha : a % 4 = 0)
    (hres : isResult a = true) :
    exec (.resultRegisterRead m (BitVec.ofNat 22 (a + 0x4000 * k))) s =
      exec (.loRegisterRead m (.bus (BitVec.ofNat 40 (0x40000000 + (a + 0x4000 * k)))) .word) s := by
  have ofs : (BitVec.ofNat 22 (a + 0x4000 * k)).toNat = a + 0x4000 * k := by
    rw [BitVec.toNat_ofNat]
    omega
  have base : (a + 0x4000 * k) / 0x10000 * 0x10000 + (a + 0x4000 * k) % 0x4000 = a := by omega
  rw [exec_read_register hu hl hk hn hb hr ho .word ha, exec_resultRegisterRead, execResultRegisterRead,
    State.goesTo_next _ hu, State.hostMay_reached _ hr, resultReadAt, ofs, base, if_pos hres]
  exact congrArg _ (ownRead_register hl hk hn hb ho .word ha)

/-- Settles O14: the access is the register's own read, and its port takes its part of the word. -/
theorem registerReadsComplete : Obligations.RegisterReadsComplete := by
  intro m a k wd s d hu hl hk hn ha hd hr ho r p reads row n w latched after acts
  have block : r / 0x10000 = a / 0x10000 := by omega
  have hb : blockAllocated (a / 0x10000) = true := by
    rw [← block]
    exact blockAllocated_of_regDesc hd
  have openR : s.opens r = true := State.opens_of_block ho block
  have answers {u : State} {x : Answer} (hv : regRead m r s = u) (hx : smFind u.answers p = some x) :
      reads row n u x.data x.err := answersFrom_read hu hl hk hn hb hr ho wd ha hv hx
  have operation {u : State} (hv : regRead m r s = u) : acts u := fun x hx => answers hv hx
  refine ⟨fun h1 h2 h3 h4 h5 => ?_, fun h => operation (by rw [h]; rfl), fun h => operation (by rw [h]; rfl),
    fun h => operation (by rw [h]; rfl), fun h => operation (by rw [h]; rfl), fun h => operation (by rw [h]; rfl)⟩
  have plain : ¬ readsByOperation r := by
    rintro (h | h | h | h | h)
    · exact h1 h
    · exact h2 h
    · exact h3 h
    · exact h4 h
    · exact h5 h
  have granted (hw : d.wo = false) (hg : s.granted m r d.acc = true) : reads row n after w false :=
    answers (regRead_granted openR hd plain hw hg) (State.smFind_answer_self ..)
  refine ⟨granted, fun h => ?_, fun hres hword hw hg => ?_⟩
  · exact answers (regRead_withheld openR hd plain h) (State.smFind_answer_self ..)
  · subst hword
    have same : r = a := by
      have : a % 4 = 0 := ha
      omega
    obtain ⟨t, run, rest⟩ := granted hw hg
    exact ⟨t, (exec_resultRegisterRead_word hu hl hk hn hb hr ho ha (same ▸ hres)).trans run, rest⟩

/-! ### Commands and events that have their effect (R62–R68) -/

section
variable {i : Sys2Proof.Instr} {s : State} (hu : s.unspecified = false)
include hu

/-- An accepted command with a BUSY phase turns BUSY and has its row's effect. -/
theorem Accepted.exec_busy {w : Written} {eff : State → State} (h : Accepted i s) (hw : commandOf i s = some w)
    (hx : exec i s = s.goesTo (w.st.command w.m w.a w.c eff)) (hb : w.c.busy = true) :
    exec i s = .next (eff (w.st.acceptBusy w.m w.a w.c.unit w.c.code)) := by
  obtain ⟨ho, hd⟩ := h.of hw
  rw [hx, State.goesTo_next _ hu, State.command_busy hd ho hb]

/-- An accepted command without one is DONE at once and has its row's effect. -/
theorem Accepted.exec_now {w : Written} {eff : State → State} (h : Accepted i s) (hw : commandOf i s = some w)
    (hx : exec i s = s.goesTo (w.st.command w.m w.a w.c eff)) (hb : w.c.busy = false) :
    exec i s = .next (eff (w.st.acceptNow w.c.unit w.c.code)) := by
  obtain ⟨ho, hd⟩ := h.of hw
  rw [hx, State.goesTo_next _ hu, State.command_now hd ho hb]

/-- An accepted ABORT ends the command in progress and has its row's effect, given the command it ended. -/
theorem AbortAccepted.exec_aborted {w : AbortWritten} {eff : Option Busy → State → State} (h : AbortAccepted i s)
    (hw : abortOf i s = some w) (hx : exec i s = s.goesTo (w.st.abort w.m w.a w.unit w.acc eff)) :
    exec i s = .next (eff (smFind w.st.busy w.unit) (w.st.aborted w.unit)) := by
  obtain ⟨ho, hg, hr, ha⟩ := h.of hw
  rw [hx, State.goesTo_next _ hu, State.abort_accepted hg ho hr ha]

/-- An event of an island that runs leads to its row's state. -/
theorem State.goesTo_alive {isl : Nat} (t : State) (hf : s.fenced.getLsbD isl = false) :
    s.goesTo (s.alive isl t) = .next t := by
  rw [State.goesTo_next _ hu, State.alive_up _ hf]

end

/-- Settles O21: each command has the effect of its row, once it is accepted. -/
theorem corePoolCommandsComplete : Obligations.CorePoolCommandsComplete := by
  intro m a s hu
  refine ⟨fun h => ?_, fun h => ?_, fun h => ?_, fun h => ?_, fun switching idle => ?_, fun h switching => ?_⟩
  · exact (h.exec_busy hu commandOf_sysApplyCoreEn exec_sysApplyCoreEn rfl :)
  · exact (h.exec_now hu commandOf_sysClearCounters exec_sysClearCounters rfl :)
  · exact (h.exec_aborted hu abortOf_sysAbort exec_sysAbort :)
  · have row := @exec_clkApplyPoolSel s m a
    unfold execClkApplyPoolSel clkApplyPoolSel at row
    exact (h.exec_busy hu commandOf_clkApplyPoolSel row rfl :)
  · rw [exec_poolClockSwitch, execPoolClockSwitch, State.goesTo_next _ hu, poolClockSwitch,
      if_pos (by simp [switching, idle])]
  · rw [h.exec_aborted hu abortOf_clkAbort exec_clkAbort]
    exact congrArg _ (if_pos switching)

theorem genCmd_unit (g : Nat) (a : Sys2Proof.CmdArg) (code : Nat) (busy permitted contentOk : Bool) :
    (genCmd g a code busy permitted contentOk).unit = Reg.PROF_G_CMD g := rfl

theorem genCmd_code (g : Nat) (a : Sys2Proof.CmdArg) (code : Nat) (busy permitted contentOk : Bool) :
    (genCmd g a code busy permitted contentOk).code = code := rfl

/-- Settles O27: each command has the effect of its row, once it is accepted. -/
theorem profCommandsComplete : Obligations.ProfCommandsComplete := by
  intro s hu
  refine ⟨fun m g a h => ?_, fun m g a h => ?_, fun m g a h => ?_, fun m g a h => ?_, fun m g a h => ?_, fun m g a h => ?_,
    fun m g a h => ?_, fun m g a h => ?_, fun m g a h => ?_, fun m a h => ?_, fun m a h => ?_⟩
  · exact (h.exec_now hu commandOf_profEnable exec_profEnable rfl :)
  · exact (h.exec_now hu commandOf_profDisable exec_profDisable rfl :)
  · have row := @exec_profGo s m g a
    unfold execProfGo profGo at row
    exact (h.exec_busy hu commandOf_profGo row rfl :)
  · exact (h.exec_now hu commandOf_profRunQueue exec_profRunQueue rfl :)
  · exact (h.exec_now hu commandOf_profStop exec_profStop rfl :)
  · exact (h.exec_now hu commandOf_profQstop exec_profQstop rfl :)
  · obtain ⟨ho, hd⟩ := h.of commandOf_profFlush
    have run : exec (.profFlush m g a) s = s.goesTo (profFlush m g.toNat a s) := exec_profFlush
    rw [State.goesTo_next _ hu, profFlush, State.command_now hd ho rfl, genCmd_unit, genCmd_code] at run
    exact run
  · exact (h.exec_now hu commandOf_profLatchArm exec_profLatchArm rfl :)
  · exact (h.exec_aborted hu abortOf_profGenAbort exec_profGenAbort :)
  · exact (h.exec_now hu commandOf_profStopAll exec_profStopAll rfl :)
  · exact (h.exec_aborted hu abortOf_profAbort exec_profAbort :)

/-- Settles O29: each command and each event has the effect of its row. -/
theorem axcComplete : Obligations.AxcComplete := by
  intro s hu
  refine ⟨fun m n a h => ?_, fun m n a h => ?_, fun m n a h => ?_, fun m n a h => ?_, fun m k a h => ?_, fun m k a h => ?_,
    fun n runs precharging => ?_, ?_, ?_⟩
  · exact (h.exec_now hu commandOf_axcEnable exec_axcEnable rfl :)
  · exact (h.exec_now hu commandOf_axcDisable exec_axcDisable rfl :)
  · exact (h.exec_now hu commandOf_axcReset exec_axcReset rfl :)
  · exact (h.exec_aborted hu abortOf_axcChannelAbort exec_axcChannelAbort :)
  · have row := @exec_axcSwap s m k a
    unfold execAxcSwap axcSwap at row
    exact (h.exec_busy hu commandOf_axcSwap row rfl :)
  · exact (h.exec_aborted hu abortOf_axcAbort exec_axcAbort :)
  · rw [exec_prechgElapsed, execPrechgElapsed, State.goesTo_alive hu _ runs]
    exact congrArg _ (if_pos precharging)
  · intro n reachA reachB runs k started
    rw [exec_dutyLoad, execDutyLoad, State.goesTo_alive hu _ runs]
    exact congrArg _ (if_neg started)
  · intro n desat enrb runs d tripped
    rw [exec_axisTrip, execAxisTrip, State.goesTo_alive hu _ runs]
    exact congrArg _ (if_pos tripped)

/-- Settles O30: each command and each event has the effect of its row. -/
theorem encComplete : Obligations.EncComplete := by
  intro s hu
  refine ⟨fun m a h => ?_, fun m a h => ?_, fun m a h => ?_, ?_, ?_, ?_, ?_⟩
  · have row := @exec_encConfig s m a
    unfold execEncConfig encConfig at row
    exact (h.exec_busy hu commandOf_encConfig row rfl :)
  · have row := @exec_encSsiRead s m a
    unfold execEncSsiRead encSsiRead at row
    exact (h.exec_busy hu commandOf_encSsiRead row rfl :)
  · exact (h.exec_aborted hu abortOf_encAbort exec_encAbort :)
  · intro p data idleLow par runs e w sampling
    rw [exec_ssiFrameComplete, execSsiFrameComplete, State.goesTo_alive hu _ runs]
    exact congrArg _ (if_pos sampling)
  · intro p a b runs e illegal
    rw [exec_encoderCountEdge, execEncoderCountEdge, State.goesTo_alive hu _ runs, encoderCountEdge, illegal]
  · intro p a b d runs e counted moved
    rw [exec_encoderCountEdge, execEncoderCountEdge, State.goesTo_alive hu _ runs, encoderCountEdge, counted]
    exact congrArg _ (if_neg moved)
  · intro p runs e z mode marked
    rw [exec_indexLatch, execIndexLatch, State.goesTo_alive hu _ runs]
    exact congrArg _ (if_pos marked)

/-- Settles O31: each command and each event has the effect of its row. -/
theorem stepComplete : Obligations.StepComplete := by
  intro s hu
  refine ⟨fun m a h => ?_, fun err runs b reshaping => ?_, fun m a h => ?_, ?_, ?_, ?_, fun p up runs stepping => ?_⟩
  · exact (h.exec_busy hu commandOf_stepReshape exec_stepReshape rfl :)
  · rw [exec_stepReshapeComplete, execStepReshapeComplete, State.goesTo_alive hu _ runs, stepReshapeComplete, reshaping]
  · exact (h.exec_aborted hu abortOf_stepAbort exec_stepAbort :)
  · intro n angV angI amp runs c on
    rw [exec_loadAngleEstimate, execLoadAngleEstimate, State.goesTo_alive hu _ runs]
    exact congrArg _ (if_pos on)
  · intro n mean runs c w v vth vhys on
    rw [exec_stepModeSwitch, execStepModeSwitch, State.goesTo_alive hu _ runs]
    exact congrArg _ (if_pos on)
  · intro n runs c t still
    rw [exec_standstillTimeout, execStandstillTimeout, State.goesTo_alive hu _ runs]
    exact congrArg _ (if_pos still)
  · rw [exec_stepDirInputStep, execStepDirInputStep, State.goesTo_alive hu _ runs]
    exact congrArg _ (if_pos stepping)

/-- Settles O32: each command, the evaluation and the end of a fetch have the effect of their rows. -/
theorem seqComplete : Obligations.SeqComplete := by
  intro s hu
  refine ⟨fun m c a h => ?_, fun m c a h => ?_, fun m c a h => ?_, fun m c a h => ?_, fun m c a h => ?_, fun m c a h => ?_,
    fun m a h => ?_, fun runs due => ?_, fun c err f runs hf start => ?_, fun c f hd r runs hf next hh fetched => ?_,
    fun c err f hd e runs hf next hh failed => ?_⟩
  · exact (h.exec_busy hu commandOf_seqStart exec_seqStart rfl :)
  · exact (h.exec_now hu commandOf_seqPause exec_seqPause rfl :)
  · exact (h.exec_now hu commandOf_seqResume exec_seqResume rfl :)
  · have row := @exec_seqRelease s m c a
    unfold execSeqRelease seqRelease at row
    exact (h.exec_now hu commandOf_seqRelease row rfl :)
  · exact (h.exec_now hu commandOf_seqReset exec_seqReset rfl :)
  · exact (h.exec_aborted hu abortOf_seqChannelAbort exec_seqChannelAbort :)
  · exact (h.exec_aborted hu abortOf_seqAbort exec_seqAbort :)
  · rw [exec_seqEvaluation, execSeqEvaluation, State.goesTo_alive hu _ runs]
    exact congrArg _ (if_pos due)
  · rw [exec_stepFetchComplete, execStepFetchComplete, State.goesTo_alive hu _ runs, stepFetchComplete, hf]
    exact congrArg _ (if_pos start)
  · rw [exec_stepFetchComplete, execStepFetchComplete, State.goesTo_alive hu _ runs, stepFetchComplete, hf]
    simp [next, hh, fetched]
  · rw [exec_stepFetchComplete, execStepFetchComplete, State.goesTo_alive hu _ runs, stepFetchComplete, hf]
    simp [next, hh, failed]

/-- Settles O35: each command and each event has the effect of its row. -/
theorem sdmDacComplete : Obligations.SdmDacComplete := by
  intro s hu
  refine ⟨fun m a h => ?_, fun m a h => ?_, fun n runs clocked => ?_, fun n runs stuck => ?_, ?_, fun m a h => ?_,
    fun c runs r l waiting immediate => ?_⟩
  · have row := @exec_sdmSwap s m a
    unfold execSdmSwap sdmSwap at row
    exact (h.exec_busy hu commandOf_sdmSwap row rfl :)
  · exact (h.exec_aborted hu abortOf_sdmAbort exec_sdmAbort :)
  · rw [exec_stuckStream, execStuckStream, State.goesTo_alive hu _ runs]
    exact congrArg _ (if_pos clocked)
  · rw [exec_stuckStreamRecovery, execStuckStreamRecovery, State.goesTo_alive hu _ runs]
    exact congrArg _ (if_pos stuck)
  · intro n sum runs cfg d1 exceeds
    rw [exec_sdmOvercurrent, execSdmOvercurrent, State.goesTo_alive hu _ runs]
    exact congrArg _ (if_pos exceeds)
  · exact (h.exec_aborted hu abortOf_dacAbort exec_dacAbort :)
  · rw [exec_dacImmediateUpdate, execDacImmediateUpdate, State.goesTo_alive hu _ runs, dacImmediateUpdate, waiting]
    exact congrArg _ (if_pos immediate)
end Sys2Proof.Machine
end

section
/-!
PROOFS. The statements of 03_signals_and_cycle.md: the commands and events of SIG and of CYC, the apply latch, and the two
current ticks of a fast cycle.
-/
namespace Sys2Proof.Machine

/-! ### Signals and routes (R78–R84, R95, R96) -/

/-- A row that accesses an open window leads to what the access does. -/
theorem State.goesTo_access {s : State} (hu : s.unspecified = false) (m : Sys2Proof.Master) {a : Nat} (go : State → State)
    (ho : s.opens a = true) : s.goesTo (s.access m a go) = .next (go s) := by
  rw [State.goesTo_next _ hu, State.access_open ho]

section
variable {s : State} {j : LoadJob} {b : Busy} (loading : s.sig.load = some j) (busy : smFind s.busy Reg.SIG_CMD = some b)
include loading busy

/-- A load without an error ends when its last entry is written (R96). -/
theorem sigLoadDone_all :
    sigLoadDone none s =
      let t := (s.advanceTo (b.acc + 8 * j.cnt)).loadTo j.cnt
      (({ t with sig := { t.sig with load := none } }).complete Reg.SIG_CMD).setState 8 1 := by
  rw [sigLoadDone, loading, busy]
  rfl

/-- An SRAM error ends a load before the entry it meets (R96). -/
theorem sigLoadDone_error (id : BitVec 13) :
    sigLoadDone (some id) s =
      let n := min id.toNat j.cnt
      let t := (s.advanceTo (b.acc + 8 * n)).loadTo n
      ((({ t with sig := { t.sig with load := none } }).raiseEvt 8 Reg.SIG_EVT none 0x10).complete Reg.SIG_CMD).setState 8 1 := by
  rw [sigLoadDone, loading, busy]
  rfl

end

/-- Without a load in progress no entry waits to be written (R96). -/
theorem State.loadProgress_idle {s : State} (h : s.busyWith Reg.SIG_CMD 1 = false) : s.loadProgress = s := by
  unfold State.busyWith at h
  unfold State.loadProgress
  cases hb : smFind s.busy Reg.SIG_CMD with
  | none => rfl
  | some b =>
    rw [hb] at h
    exact if_neg (of_decide_eq_false h)

/-- A producer endpoint's word with good parity is published (R11, R79). -/
theorem routeUpdate_publishes {ep : BitVec 16} (x : BitVec 32) (satd valid : Bool) {s : State} (producer : prodOk ep.toNat = true)
    (used : ep.toNat / 0x1000 ≠ 0) (written : ep.toNat / 0x1000 ≠ 0xE) :
    routeUpdate ep x satd valid true s = s.loadProgress.publish ⟨ep.toNat, s.prodEnc ep.toNat, x, satd, valid, none⟩ :=
  if_pos (by simp [producer, used, written])

/-- Settles O22: each command has the effect of its row once it is accepted, each access once it is granted. -/
theorem signalCommandsComplete : Obligations.SignalCommandsComplete := by
  intro m a id x s hu
  refine ⟨fun ho granted => ?_, fun ho granted => ?_, fun h => ?_, fun j b runs loading busy => ?_,
    fun j b runs loading busy => ?_, fun h => ?_, fun h => ?_, fun ho => ?_, fun ho => ?_,
    fun ep satd valid runs producer used written idle => ?_⟩
  · rw [exec_sigEntryRead, execSigEntryRead, sigEntryRead, State.goesTo_access hu _ _ ho]
    exact congrArg _ (if_neg (by simp [granted]))
  · rw [exec_sigEntryWrite, execSigEntryWrite, sigEntryWrite, State.goesTo_access hu _ _ ho]
    exact congrArg _ (if_neg (by simp [granted]))
  · have row := @exec_sigLoad s m a
    unfold execSigLoad sigLoad at row
    exact (h.exec_busy hu commandOf_sigLoad row rfl :)
  · rw [exec_sigLoadDone, execSigLoadDone, State.goesTo_alive hu _ runs, sigLoadDone_all loading busy]
  · rw [exec_sigLoadDone, execSigLoadDone, State.goesTo_alive hu _ runs, sigLoadDone_error loading busy]
  · exact (h.exec_busy hu commandOf_sigSwap exec_sigSwap rfl :)
  · exact (h.exec_aborted hu abortOf_sigAbort exec_sigAbort :)
  · rw [exec_sigPeek, execSigPeek, sigPeek, State.goesTo_access hu _ _ ho]
  · rw [exec_sigWrValWrite, execSigWrValWrite, sigWrValWrite, State.goesTo_access hu _ _ ho]
  · rw [exec_routeUpdate, execRouteUpdate, State.goesTo_alive hu _ runs,
      routeUpdate_publishes x satd valid producer used written, State.loadProgress_idle idle]

/-! ### The fast cycle (R85–R89, R92–R94) -/

/-- Settles O23: each command has the effect of its row once it is accepted, each event where its condition holds. -/
theorem cycleCommandsComplete : Obligations.CycleCommandsComplete := by
  intro m a s hu
  refine ⟨?_, ?_, fun h => ?_, fun h => ?_, fun runs locked => ?_, fun runs holdover missed first => ?_, fun running => ?_,
    fun running => ?_⟩
  · intro h t master
    rw [h.exec_now hu commandOf_cycStart exec_cycStart rfl]
    exact congrArg _ (if_pos (by simpa using master))
  · intro h t ranked served
    rw [h.exec_now hu commandOf_cycStart exec_cycStart rfl]
    exact congrArg _ (if_neg (by simpa using And.intro ranked served))
  · have row := @exec_cycSwap s m a
    unfold execCycSwap cycSwap at row
    exact (h.exec_busy hu commandOf_cycSwap row rfl :)
  · exact (h.exec_aborted hu abortOf_cycAbort exec_cycAbort :)
  · rw [exec_cairnMissing, execCairnMissing, State.goesTo_alive hu _ runs]
    exact congrArg _ (if_pos locked)
  · rw [exec_holdoverLost, execHoldoverLost, State.goesTo_alive hu _ runs]
    exact congrArg _ (if_pos ⟨holdover, missed, first⟩)
  · rw [exec_applyLatch, execApplyLatch, State.goesTo_next _ hu]
    exact congrArg _ (if_pos running)
  · rw [exec_applyLatch, execApplyLatch, State.goesTo_next _ hu]
    exact congrArg _ (if_pos running)

/-- Settles O26: both current ticks do their work while the cycle runs and CYC's island is not fenced. -/
theorem fastCycleComplete : Obligations.FastCycleComplete := by
  intro s hu
  refine ⟨fun ain sdm runs cycling => ?_, fun ain sdm runs begun => ?_⟩
  · rw [exec_fcStart, execFcStart, State.goesTo_alive hu _ runs]
    exact congrArg _ (if_neg (by simp [cycling]))
  · rw [exec_currentTickB, execCurrentTickB, State.goesTo_alive hu _ runs]
    exact congrArg _ (if_pos begun)

end Sys2Proof.Machine
end

section
/-!
PROOFS. The statements of 04_control_engine.md: the commands of CE, its runs, checks and votes, the loss of lanes, and the
table copies of CTAB.
-/
namespace Sys2Proof.Machine

/-! ### The commands of CE (R113, R139–R141) -/

/-- Settles O24: each command has the effect of its row once it is accepted; VALIDATE's end stores its verdict. -/
theorem ceCommandsComplete : Obligations.CeCommandsComplete := by
  intro m a ofs w s hu
  refine ⟨fun h => ?_, fun h => ?_, fun h => ?_, fun runs validating => ?_, fun h => ?_, fun h => ?_, fun ho => ?_⟩
  · exact (h.exec_now hu commandOf_ceStart exec_ceStart rfl :)
  · exact (h.exec_now hu commandOf_ceStop exec_ceStop rfl :)
  · exact (h.exec_busy hu commandOf_ceValidate exec_ceValidate rfl :)
  · rw [exec_ceValidateDone, execCeValidateDone, State.goesTo_alive hu _ runs, ceValidateDone, if_pos validating]
  · exact (h.exec_busy hu commandOf_ceSwap exec_ceSwap rfl :)
  · exact (h.exec_aborted hu abortOf_ceAbort exec_ceAbort :)
  · rw [exec_ceLocalMemoryWrite, execCeLocalMemoryWrite, ceLocalMemoryWrite, State.goesTo_access hu _ _ ho]

/-! ### A run of the plan (R103, R129–R131) -/

section
variable {s : State} {slot kind : Nat} {r : CeRun} (planned : s.ceRunOf slot kind = some r) (u : CeUpset)
include planned

/-- A run that completes by its deadline is committed where no vote on its program is undecided (R131). -/
theorem State.ceDoRun_fits (decided : s.ceVoting slot = false) (fits : r.fits = true) :
    s.ceDoRun slot kind u = s.ceCommit r u := by
  rw [State.ceDoRun, planned]
  exact (if_neg (by simp [decided])).trans (if_pos fits)

/-- A run is missed while a vote on its program is undecided (R103). -/
theorem State.ceDoRun_voting (voting : s.ceVoting slot = true) : s.ceDoRun slot kind u = (s.ceMiss r).ceSupervise slot := by
  rw [State.ceDoRun, planned]
  exact if_pos voting

end

/-! ### Runs, checks and table copies complete (R100–R104, R128–R132, R144, R521) -/

/-- Settles O25: each run, check, vote and loss of a lane, and each end of a table copy, has the effect of its row. -/
theorem ceRunsComplete : Obligations.CeRunsComplete := by
  intro s hu
  refine ⟨fun slot u r runs planned decided fits => ?_, fun slot u r runs planned voting => ?_,
    fun slot tickB u r runs planned decided fits => ?_, fun slot kind runs r planned => ?_,
    fun u runs lane checker c rest kept => ?_, fun u c rest lane runs pending third => ?_,
    fun lane r runs executing current => ?_, fun lane c rest runs checking kept => ?_, ?_, fun m a h => ?_,
    fun runs j copying readable => ?_, fun runs j copying => ?_, fun m a h => ?_⟩
  · rw [exec_ceFcRun, execCeFcRun, State.goesTo_alive hu _ runs, State.ceDoRun_fits planned u decided fits]
  · rw [exec_ceFcRun, execCeFcRun, State.goesTo_alive hu _ runs, State.ceDoRun_voting planned u voting]
  · rw [exec_ceTickRun, execCeTickRun, State.goesTo_alive hu _ runs, State.ceDoRun_fits planned u decided fits]
  · rw [exec_runDeadlineMiss, execRunDeadlineMiss, State.goesTo_alive hu _ runs, runDeadlineMiss, planned]
  · rw [exec_checkRun, execCheckRun, State.goesTo_alive hu _ runs, checkRun, checker, kept]
  · rw [exec_voteRun, execVoteRun, State.goesTo_alive hu _ runs]
    simp only [voteRun, pending, third]
  · rw [exec_residueError, execResidueError, State.goesTo_alive hu _ runs]
    simp only [residueError, executing, current]
  · rw [exec_residueError, execResidueError, State.goesTo_alive hu _ runs]
    simp only [residueError, checking, kept]
  · intro lane runs role retired
    rw [exec_laneRetirement, execLaneRetirement, State.goesTo_alive hu _ runs]
    exact congrArg _ (if_neg retired)
  · have row := @exec_ctabCopy s m a
    unfold execCtabCopy ctabCopy at row
    exact (h.exec_busy hu commandOf_ctabCopy row rfl :)
  · rw [exec_ctabCopyComplete, execCtabCopyComplete, State.goesTo_alive hu _ runs, ctabCopyComplete, copying]
    exact congrArg _ (if_pos readable)
  · rw [exec_ctabCopyError, execCtabCopyError, State.goesTo_alive hu _ runs, ctabCopyError, copying]
  · exact (h.exec_aborted hu abortOf_ctabAbort exec_ctabAbort :)

end Sys2Proof.Machine
end

section
/-!
PROOFS. The statements of 05_motion_profiles.md: the advance of an FC, the refill of a generator's queue, and the two
registers whose accesses do more than store. The commands of PROF stand with those of the other blocks.
-/
namespace Sys2Proof.Machine

/-! ### The queue (R154) -/

/-- With room in the on-chip queue, the oldest traverse of the hardware queue moves there (R154). -/
theorem traverseRefill_takes {g q : Nat} {tr : List Word} {s t : State} (backed : s.genHwq g = some q)
    (room : (s.gen g).queue.length < 16) (taken : s.quePop q = (some tr, t)) :
    traverseRefill g s =
      (t.setGen g { t.gen g with queue := (t.gen g).queue ++ [(tr, t.now)] }).genDepth g := by
  rw [traverseRefill, backed]
  refine (if_pos room).trans ?_
  rw [taken]

/-! ### Writes of a register that its class grants (R59) -/

/-- A granted write to a register in an open window has the effect of its row. -/
theorem State.goesTo_writeGranted {s : State} (hu : s.unspecified = false) {m : Sys2Proof.Master} {a : Nat} {p : Priv}
    (go : State → State) (ho : s.opens a = true) (granted : s.granted m a p = true) :
    s.goesTo (s.writeGranted m a p go) = .next (go s) := by
  rw [State.writeGranted, State.goesTo_access hu _ _ ho, if_pos granted]

/-! ### The events of PROF (R145, R149, R154, R177) -/

/-- Settles O28: each event has the effect of its row where its condition holds, each access once it is granted. -/
theorem profEventsComplete : Obligations.ProfEventsComplete := by
  intro s hu
  refine ⟨fun runs due => ?_, fun g q tr t runs backed room taken => ?_, fun m g x ho granted => ?_,
    fun m w ho granted => ?_, fun m ho granted => ?_⟩
  · rw [exec_profileAdvance, execProfileAdvance, State.goesTo_alive hu _ runs]
    exact congrArg _ (if_pos due)
  · rw [exec_traverseRefill, execTraverseRefill, State.goesTo_alive hu _ runs, traverseRefill_takes backed room taken]
  · rw [exec_hofsWrite, execHofsWrite, hofsWrite, State.goesTo_writeGranted hu _ ho granted]
  · rw [exec_camDataAccess, execCamDataAccess, camDataAccess, State.goesTo_writeGranted hu _ ho granted]
  · rw [exec_camDataAccess, execCamDataAccess, camDataAccess, State.goesTo_access hu _ _ ho]
    exact congrArg _ (if_pos granted)

end Sys2Proof.Machine
end

section
/-!
PROOFS. The statement of 07_recipe_engine.md on the interlocks: the evaluation, the end of a bank copy, and the accesses to
rule descriptors through ILK_RULE_IDX. The commands of SEQ stand with those of the other blocks.
-/
namespace Sys2Proof.Machine

/-! ### Rule descriptors (R252) -/

/-- A granted operation on ILK_RULE_IDX has its effect, and the register keeps the rule's number alone (R252, R256). -/
theorem State.goesTo_ilkIdx {s : State} (hu : s.unspecified = false) {m : Sys2Proof.Master} (r : Nat) (op : State → State)
    (ho : s.opens Reg.ILK_RULE_IDX = true) (granted : accGranted (mclass m) .priv = true) :
    s.goesTo (s.ilkIdx m r op) = .next ((op s).setReg Reg.ILK_RULE_IDX (wordOfNat r)) := by
  rw [State.ilkIdx, State.goesTo_access hu _ _ ho, if_pos granted]

/-- The end of a COPY_ACTIVE, 16 µs after its acceptance: every rule stands in the shadow bank (R253). -/
theorem ilkCopyComplete_copying {s : State} {b : Busy} (busy : smFind s.busy Reg.ILK_CMD = some b) (copying : b.code = 2) :
    ilkCopyComplete s =
      (((s.advanceTo (b.acc + 16000)).ilkCopy (fun _ => true)).setState 0x1D 1).complete Reg.ILK_CMD := by
  rw [ilkCopyComplete, busy]
  exact if_pos copying

/-! ### The commands and events of ILK (R249–R253) -/

/-- Settles O33: the evaluation, each command and the end of a copy have the effect of their rows, and each access to a
rule its operation's, once it is granted. -/
theorem ilkComplete : Obligations.IlkComplete := by
  intro s hu
  refine ⟨fun runs due => ?_, fun m a h => ?_, fun m a h => ?_, fun runs b busy copying => ?_, fun m a h => ?_,
    fun m a h => ?_, fun m r ho granted => ?_, fun m r ho granted => ?_, fun m r ho granted free => ?_,
    fun m r ho granted swapping => ?_⟩
  · rw [exec_ilkEvaluation, execIlkEvaluation, State.goesTo_alive hu _ runs]
    exact congrArg _ (if_pos due)
  · exact (h.exec_busy hu commandOf_ilkSwap exec_ilkSwap rfl :)
  · exact (h.exec_busy hu commandOf_ilkCopyActive exec_ilkCopyActive rfl :)
  · rw [exec_ilkCopyComplete, execIlkCopyComplete, State.goesTo_alive hu _ runs, ilkCopyComplete_copying busy copying]
  · have row := @exec_ilkAck s m a
    unfold execIlkAck ilkAck at row
    exact (h.exec_now hu commandOf_ilkAck row rfl :)
  · exact (h.exec_aborted hu abortOf_ilkAbort exec_ilkAbort :)
  · rw [exec_ilkRuleReadShadow, execIlkRuleReadShadow, ilkRuleReadShadow, State.goesTo_ilkIdx hu _ _ ho granted]
  · rw [exec_ilkRuleReadActive, execIlkRuleReadActive, ilkRuleReadActive, State.goesTo_ilkIdx hu _ _ ho granted]
  · rw [exec_ilkRuleWriteShadow, execIlkRuleWriteShadow, ilkRuleWriteShadow, State.goesTo_ilkIdx hu _ _ ho granted,
      if_neg (by simp [free])]
  · rw [exec_ilkRuleWriteShadow, execIlkRuleWriteShadow, ilkRuleWriteShadow, State.goesTo_ilkIdx hu _ _ ho granted,
      if_pos swapping]

end Sys2Proof.Machine
end

section
/-!
PROOFS. The statement of 08_analog_acquisition.md on ADC: its commands and triggers, the write of TBTIME, the end of a
conversion, and the reference check. The commands and events of SDM and DAC stand with those of the other blocks.
-/
namespace Sys2Proof.Machine

/-! ### Time-base triggers (R259, R260) -/

/-- The time base reaches the target of an armed time-base group: it fires, and is armed a PERIOD later or disarmed. -/
theorem timeBaseTrigger_fires {s : State} {g t : Nat} (armed : smFind s.adc.armed g = some t)
    (waits : (s.adcOn g && s.adcSrc g == 3) = true) :
    timeBaseTrigger g s =
      let p := (s.reg (Reg.ADC_G_PERIOD g)).toNat
      ((s.advanceTo t).adcArm g (if p = 0 then none else some (t + p))).adcFireAll [g] := by
  rw [timeBaseTrigger, armed]
  exact if_pos waits

/-! ### The commands, triggers and conversions of ADC (R258–R264, R276) -/

/-- Settles O34: each command has the effect of its row once it is accepted, each trigger and conversion where its condition
holds, and the write of TBTIME wherever its window is open. -/
theorem adcComplete : Obligations.AdcComplete := by
  intro s hu
  refine ⟨fun m a h => ?_, fun m a h => ?_, fun m a h => ?_, ?_, fun pin rising runs => ?_,
    fun g runs t armed waits => ?_, fun m g x ho => ?_, fun conv uv runs j held => ?_, fun conv runs j sampling => ?_,
    ?_, fun conv runs => ?_⟩
  · exact (h.exec_now hu commandOf_adcTrigger exec_adcTrigger rfl :)
  · exact (h.exec_busy hu commandOf_adcSwap exec_adcSwap rfl :)
  · exact (h.exec_aborted hu abortOf_adcAbort exec_adcAbort :)
  · intro phase tickB runs ofs due
    rw [exec_fcPhaseTrigger, execFcPhaseTrigger, State.goesTo_alive hu _ runs]
    exact congrArg _ (if_pos due)
  · rw [exec_atrgEdge, execAtrgEdge, State.goesTo_alive hu _ runs, atrgEdge]
  · rw [exec_timeBaseTrigger, execTimeBaseTrigger, State.goesTo_alive hu _ runs, timeBaseTrigger_fires armed waits]
  · rw [exec_tbtimeWrite, execTbtimeWrite, tbtimeWrite, State.goesTo_access hu _ _ ho]
  · rw [exec_conversionComplete, execConversionComplete, State.goesTo_alive hu _ runs, conversionComplete, held]
  · rewrite [exec_converterFree, execConverterFree, State.goesTo_alive hu _ runs, converterFree, sampling]
    rfl
  · intro conv zero ref runs queued idle
    rw [exec_referenceCheck, execReferenceCheck, State.goesTo_alive hu _ runs]
    exact congrArg _ (if_neg idle)
  · rw [exec_converterUnchecked, execConverterUnchecked, State.goesTo_alive hu _ runs, converterUnchecked]

end Sys2Proof.Machine
end

section
/-!
PROOFS. The statements of 09_field_io.md: the commands of FIO with its couplers and supplies, and its inputs and outputs with
their test pulses.
-/
namespace Sys2Proof.Machine

/-! ### Commands, couplers and supplies (R285–R287, R302) -/

/-- Settles O36: each command has the effect of its row once it is accepted, each event of a coupler or a supply where its
condition holds. -/
theorem fioSupplyComplete : Obligations.FioSupplyComplete := by
  intro s hu
  refine ⟨fun m a h => ?_, fun m a h => ?_, fun m a h => ?_, fun m a h => ?_, fun ch runs present => ?_,
    fun ch runs absent => ?_, fun b mv runs low => ?_, fun b mv runs clear => ?_, fun b mv runs dipped => ?_,
    fun b mv runs lost => ?_, fun b mv runs recovered => ?_⟩
  · have row := @exec_fioArm s m a
    unfold execFioArm fioArm at row
    exact (h.exec_busy hu commandOf_fioArm row rfl :)
  · have row := @exec_fioClearOut s m a
    unfold execFioClearOut fioClearOut at row
    exact (h.exec_busy hu commandOf_fioClearOut row rfl :)
  · exact (h.exec_now hu commandOf_fioFlushTsf exec_fioFlushTsf rfl :)
  · exact (h.exec_aborted hu abortOf_fioAbort exec_fioAbort :)
  · rw [exec_couplerFault, execCouplerFault, State.goesTo_alive hu _ runs]
    exact congrArg _ (if_neg present)
  · rw [exec_couplerHeartbeatReturn, execCouplerHeartbeatReturn, State.goesTo_alive hu _ runs]
    exact congrArg _ (if_pos absent)
  · rw [exec_supplyLow, execSupplyLow, State.goesTo_alive hu _ runs]
    exact congrArg _ (if_pos low)
  · rw [exec_supplyLowClear, execSupplyLowClear, State.goesTo_alive hu _ runs]
    exact congrArg _ (if_pos clear)
  · rw [exec_supplyDip, execSupplyDip, State.goesTo_alive hu _ runs]
    exact congrArg _ (if_pos dipped)
  · rw [exec_supplyLost, execSupplyLost, State.goesTo_alive hu _ runs]
    exact congrArg _ (if_pos lost)
  · rw [exec_supplyRecovered, execSupplyRecovered, State.goesTo_alive hu _ runs]
    exact congrArg _ (if_pos recovered)

/-! ### Inputs and outputs (R290–R298) -/

/-- Settles O37: each event of an input or an output has the effect of its row where its condition holds, and the read of
the FIFO its own once the window answers. -/
theorem fioPortsComplete : Obligations.FioPortsComplete := by
  intro s hu
  refine ⟨fun n level runs moved => ?_, ?_, fun m ho => ?_, fun n runs on => ?_, fun n runs => ?_,
    fun n runs loaded => ?_, fun n high runs p pulsing => ?_, fun n runs p pulsing checked => ?_⟩
  · rw [exec_rawInputEdge, execRawInputEdge, State.goesTo_alive hu _ runs]
    exact congrArg _ (if_neg moved)
  · intro n runs x t x' raw old thr c v new up loaded
    rw [exec_inputFilterTick, execInputFilterTick, State.goesTo_alive hu _ runs]
    have counts : ¬ ((!x'.loaded) = true) := by simpa using loaded
    exact congrArg _ ((if_neg up).trans (if_neg counts))
  · rw [exec_tsfRead, execTsfRead, tsfRead]
    exact State.goesTo_access hu _ _ ho
  · rw [exec_outputOverload, execOutputOverload, State.goesTo_alive hu _ runs]
    exact congrArg _ (if_pos on)
  · rw [exec_readbackMismatch, execReadbackMismatch, State.goesTo_alive hu _ runs, readbackMismatch]
  · rw [exec_openLoad, execOpenLoad, State.goesTo_alive hu _ runs]
    exact congrArg _ (if_pos loaded)
  · rw [exec_testPulseCheck, execTestPulseCheck, State.goesTo_alive hu _ runs, testPulseCheck, pulsing]
  · rw [exec_testPulseEnd, execTestPulseEnd, State.goesTo_alive hu _ runs, testPulseEnd, pulsing]
    exact congrArg _ (if_pos checked)

end Sys2Proof.Machine
end

section
/-!
PROOFS. The statements of 10_safety_functions.md: the commands of SAFE with the writes of its registers, and its events.
-/
namespace Sys2Proof.Machine

/-! ### Commands and register writes (R309, R311, R317, R319, R322) -/

/-- The effect of a granted write of CONFIRM in CONFIG: the value is stored if SAFE_CRC equals it, refused if not (R319). -/
theorem exec_safeConfirmWrite_config {s : State} (hu : s.unspecified = false) {m : Sys2Proof.Master} {x : Word}
    (ho : s.opens Reg.SAFE_CONFIRM = true) (granted : s.granted m Reg.SAFE_CONFIRM .secure = true)
    (config : s.safeMode = 3) :
    exec (.safeConfirmWrite m x) s = .next (
      if x = s.reg Reg.SAFE_CRC then
        let t := ({ s with safe := { s.safe with confirm := some x } }).setReg Reg.SAFE_CONFIRM x
        (t.safeEvt 0x40).safeHut 6 0
      else s.safeEvt 0x80) := by
  rw [exec_safeConfirmWrite, execSafeConfirmWrite, safeConfirmWrite, State.goesTo_writeGranted hu _ ho granted]
  exact congrArg _ (if_neg (not_not_intro config))

/-- Settles O38: each command has the effect of its row once it is accepted, each write of a register once it is granted,
and a reset ends when its 2 s have passed. -/
theorem safeCommandsComplete : Obligations.SafeCommandsComplete := by
  intro s hu
  refine ⟨fun m a h => ?_, fun runs b pending => ?_, fun m a h => ?_, fun m a h => ?_, fun m a h => ?_, fun m a h => ?_,
    fun m a h => ?_, fun m x ho granted => ?_, fun m x ho granted => ?_, fun m x ho granted config equal => ?_,
    fun m x ho granted config differs => ?_⟩
  · have row := @exec_safeReset s m a
    unfold execSafeReset safeReset at row
    exact (h.exec_busy hu commandOf_safeReset row rfl :)
  · rw [exec_safeResetTimeout, execSafeResetTimeout, State.goesTo_alive hu _ runs, safeResetTimeout, pending]
  · have row := @exec_safeConfig s m a
    unfold execSafeConfig safeConfig at row
    exact (h.exec_now hu commandOf_safeConfig row rfl :)
  · exact (h.exec_now hu commandOf_leaveConfig exec_leaveConfig rfl :)
  · exact (h.exec_now hu commandOf_safeDemand exec_safeDemand rfl :)
  · exact (h.exec_now hu commandOf_safeRelease exec_safeRelease rfl :)
  · exact (h.exec_aborted hu abortOf_safeAbort exec_safeAbort :)
  · rw [exec_safeSelSetWrite, execSafeSelSetWrite, safeSelSetWrite, State.goesTo_writeGranted hu _ ho granted]
  · rw [exec_safeSelClrWrite, execSafeSelClrWrite, safeSelClrWrite, State.goesTo_writeGranted hu _ ho granted]
  · rw [exec_safeConfirmWrite_config hu ho granted config, if_pos equal]
  · rw [exec_safeConfirmWrite_config hu ho granted config, if_neg differs]

/-! ### Events (R303–R318) -/

/-- Settles O39: the events that wait for a condition have the effect of their rows where it holds, the strap sample and
the check of the configuration wherever SAFE's island runs. -/
theorem safeEventsComplete : Obligations.SafeEventsComplete := by
  intro s hu
  refine ⟨fun runs due => ?_, fun flip runs due => ?_, fun h l demanded => ?_, fun present => ?_, fun h on => ?_,
    fun n reads => ?_, fun v runs => ?_, fun runs => ?_, ?_⟩
  · rw [exec_safetyEvaluation, execSafetyEvaluation, State.goesTo_alive hu _ runs]
    exact congrArg _ (if_pos due)
  · rw [exec_belayComparison, execBelayComparison, State.goesTo_alive hu _ runs]
    exact congrArg _ (if_pos due)
  · rw [exec_stoDemand, execStoDemand, State.goesTo_next _ hu]
    exact congrArg _ (if_neg demanded)
  · rw [exec_stoDemandEnd, execStoDemandEnd, State.goesTo_next _ hu]
    exact congrArg _ (if_neg present)
  · rw [exec_stopathFault, execStopathFault, State.goesTo_next _ hu]
    exact congrArg _ (if_pos on)
  · rw [exec_safeEnrbFault, execSafeEnrbFault, State.goesTo_next _ hu]
    exact congrArg _ (if_neg reads)
  · rw [exec_strapSample, execStrapSample, State.goesTo_alive hu _ runs, strapSample]
  · rw [exec_safeCrcCheck, execSafeCrcCheck, State.goesTo_alive hu _ runs, safeCrcCheck]
  · intro runs z ack viol used acked decided on
    rw [exec_safeAckEdge, execSafeAckEdge, State.goesTo_alive hu _ runs]
    have atWork : ¬ ((!z.safeOn) = true) := by simp [on]
    exact congrArg _ (if_neg atWork)

end Sys2Proof.Machine
end

section
/-!
PROOFS. The statements of 11_ring_protocol.md and 12_ring_timing_and_redundancy.md: the commands of OCU, the links with
cairn frames and head changes, the slots with the measurement of delays, and the dynamic segment with the remote window.
-/
namespace Sys2Proof.Machine

/-! ### Commands (R345, R346, R350–R352) -/

/-- Settles O40: each command has the effect of its row once it is accepted. -/
theorem ocuCommandsComplete : Obligations.OcuCommandsComplete := by
  intro s hu
  refine ⟨fun u m a h => ?_, fun u m a h => ?_, fun u m a h => ?_, fun u m a h => ?_, fun u m a h => ?_,
    fun u m a h => ?_, fun u m a h => ?_⟩
  · exact (h.exec_now hu commandOf_ocuStart exec_ocuStart rfl :)
  · exact (h.exec_busy hu commandOf_ocuStop exec_ocuStop rfl :)
  · exact (h.exec_now hu commandOf_ocuLoadSched exec_ocuLoadSched rfl :)
  · have row := @exec_ocuMbSend s u m a
    unfold execOcuMbSend ocuMbSend at row
    exact (h.exec_now hu commandOf_ocuMbSend row rfl :)
  · have row := @exec_ocuMbRelease s u m a
    unfold execOcuMbRelease ocuMbRelease at row
    exact (h.exec_now hu commandOf_ocuMbRelease row rfl :)
  · have row := @exec_ocuBulkSend s u m a
    unfold execOcuBulkSend ocuBulkSend at row
    exact (h.exec_now hu commandOf_ocuBulkSend row rfl :)
  · exact (h.exec_aborted hu abortOf_ocuAbort exec_ocuAbort :)

/-! ### Events of a ring block (R325–R327, R362–R373) -/

/-- An event of a ring block that runs, and that comes before the next t0, leads to its row's state. -/
theorem State.goesTo_ringEvent {s : State} (hu : s.unspecified = false) {u dt : Nat} (go : State → State)
    (opens : s.ringOpens u dt = true) : s.goesTo (s.ringEvent u dt go) = .next (go (s.ringAt u dt)) := by
  rw [State.goesTo_next _ hu, State.ringEvent_open opens]

/-- Settles O41: each event of a link, each cairn frame and each change of head has the effect of its row where its
condition holds. -/
theorem ringLinkComplete : Obligations.RingLinkComplete := by
  intro s hu
  refine ⟨fun u p dt b opens locked => ?_, fun u p opens => ?_, fun u p opens locked => ?_, fun u p dt opens breaks => ?_,
    fun u p opens restores => ?_, fun u p dt f opens heard => ?_, fun opens emits => ?_, fun opens takes => ?_⟩
  · rw [exec_linkBlockReceived, execLinkBlockReceived, linkBlockReceived, State.goesTo_ringEvent hu _ opens]
    exact congrArg _ (if_neg locked)
  · rw [exec_blockLockAcquired, execBlockLockAcquired, blockLockAcquired, State.goesTo_ringEvent hu _ opens]
  · rw [exec_blockLockLost, execBlockLockLost, blockLockLost, State.goesTo_ringEvent hu _ opens]
    exact congrArg _ (if_neg locked)
  · rw [exec_linkBreak, execLinkBreak, linkBreak, State.goesTo_ringEvent hu _ opens]
    exact congrArg _ (if_neg breaks)
  · rw [exec_portRestore, execPortRestore, portRestore, State.goesTo_ringEvent hu _ opens]
    exact congrArg _ (if_pos restores)
  · rw [exec_cairnFrameReceived, execCairnFrameReceived, cairnFrameReceived, State.goesTo_ringEvent hu _ opens]
    exact congrArg _ (if_neg heard)
  · rw [exec_headEmissionStart, execHeadEmissionStart, headEmissionStart, State.goesTo_ringEvent hu _ opens]
    exact congrArg _ (if_pos emits)
  · rw [exec_takeover, execTakeover, takeover, State.goesTo_ringEvent hu _ opens]
    exact congrArg _ (if_pos takes)

/-! ### Static slots and the measurement of delays (R335–R338, R357–R359, R364) -/

/-- The passing of an owned position is taken up by a node that runs, does not yield and has a t0 (R336, R364). -/
theorem State.slot_concerns {t : State} {u i : Nat} (owns : t.ownsSlot u i = true) (run : t.ocuSt u = 2)
    (stays : t.ocuYield u = false) (timed : t.hasT0 = true) :
    ¬ ((!t.ownsSlot u i) = true ∨ t.ocuSt u ≠ 2 ∨ t.ocuYield u = true ∨ (!t.hasT0) = true) := by
  simp [owns, run, stays, timed]

/-- A DELAY frame of the kind awaited, at a port that is not looped of a block that is not stopped: it is counted, its
direction learnt, and its row's effect follows (R333, R357–R359). -/
theorem State.goesTo_delayFrameReceived {s : State} (hu : s.unspecified = false) {u p dt kind : Nat} {f : List Word}
    (go : State → State) (opens : s.ringOpens u dt = true) (hears : ¬ (s.ringAt u dt).ocuLooped u p = true)
    (dynamic : fType (fw f 0) = 3) (delay : fSlot (fw f 0) = 8)
    (starts : ((s.ringAt u dt).countFrame u p (frameCheck f)).ocuSt u ≠ 0) (asked : delayKind f = some kind) :
    s.goesTo (s.delayFrameReceived u p dt kind f go) =
      .next (go (((s.ringAt u dt).countFrame u p (frameCheck f)).delayLearn u p f)) := by
  have arrives : ¬ ((s.ringAt u dt).ocuLooped u p = true ∨ fType (fw f 0) ≠ 3 ∨ fSlot (fw f 0) ≠ 8) := by
    simp [hears, dynamic, delay]
  rw [State.delayFrameReceived, State.goesTo_ringEvent hu _ opens]
  exact congrArg _ ((if_neg arrives).trans (if_pos ⟨starts, asked⟩))

/-- Settles O42: each slot and each delay frame has the effect of its row where its condition holds. -/
theorem ringSlotsComplete : Obligations.RingSlotsComplete := by
  intro s hu
  refine ⟨fun u p dt f opens heard => ?_, fun u i west prev late collide opens owns run stays timed unknown => ?_,
    fun u i west prev late collide d e opens owns run stays timed known => ?_,
    fun u i p opens f from_ held reinserts => ?_, fun u p dt arriving opens may => ?_,
    fun u p dt f turn arriving opens hears dynamic delay starts asked => ?_,
    fun u p dt f n t1 since opens hears dynamic delay starts asked found => ?_⟩
  · rw [exec_slotFrameReceived, execSlotFrameReceived, slotFrameReceived, State.goesTo_ringEvent hu _ opens]
    exact congrArg _ (if_neg heard)
  · rw [exec_slotFill, execSlotFill, slotFill, State.goesTo_ringEvent hu _ opens, unknown]
    exact congrArg _ (if_neg (State.slot_concerns owns run stays timed))
  · rw [exec_slotFill, execSlotFill, slotFill, State.goesTo_ringEvent hu _ opens, known]
    exact congrArg _ (if_neg (State.slot_concerns owns run stays timed))
  · rw [exec_slotReinsertion, execSlotReinsertion, slotReinsertion, State.goesTo_ringEvent hu _ opens, held]
    exact congrArg _ (if_pos reinserts)
  · rw [exec_delayReqSend, execDelayReqSend, delayReqSend, State.goesTo_ringEvent hu _ opens]
    exact congrArg _ (if_pos may)
  · rw [exec_delayReqReceived, execDelayReqReceived, delayReqReceived,
      State.goesTo_delayFrameReceived hu _ opens hears dynamic delay starts asked]
  · rw [exec_delayRspReceived, execDelayRspReceived, delayRspReceived,
      State.goesTo_delayFrameReceived hu _ opens hears dynamic delay starts asked]
    dsimp only
    rw [found]

/-! ### The dynamic segment and the remote window (R339–R346) -/

/-- What a dynamic frame read at a port becomes: counted and checked; a good one served or relayed, any other passed on, a
bad one stomped (R333, R339, R341). -/
def State.dynRead (s : State) (u p : Nat) (f : List Word) : State :=
  let v := s.countFrame u p (frameCheck f)
  match frameCheck f with
  | .good => v.dynGood u p f
  | .stomped => v.dynPass u p f
  | _ => v.dynPass u p (stompFrame f)

/-- A dynamic frame other than DELAY, of the DTYPE that its row may name, is read at a port that is not looped. -/
theorem goesTo_dynReceived {s : State} (hu : s.unspecified = false) {u p dt : Nat} {f : List Word} {want : Option Nat}
    (opens : s.ringOpens u dt = true) (hears : ¬ (s.ringAt u dt).ocuLooped u p = true) (dynamic : fType (fw f 0) = 3)
    (other : fSlot (fw f 0) ≠ 8) (wanted : ∀ w ∈ want, fSlot (fw f 0) = w) :
    s.goesTo (dynReceived u p dt f want s) = .next ((s.ringAt u dt).dynRead u p f) := by
  have arrives : ¬ ((s.ringAt u dt).ocuLooped u p = true ∨ fType (fw f 0) ≠ 3 ∨ fSlot (fw f 0) = 8 ∨
      want.any (fun w => w != fSlot (fw f 0)) = true) := by
    cases want with
    | none => simp [hears, dynamic, other]
    | some w =>
      have dtype := wanted w rfl
      simp [hears, dynamic, other, dtype.symm]
  rw [dynReceived, State.goesTo_ringEvent hu _ opens]
  exact congrArg _ (if_neg arrives)

/-- The rows that name a DTYPE read a frame of it. -/
theorem goesTo_dynReceived_dtype {s : State} (hu : s.unspecified = false) {d : Nat} (other : d ≠ 8) (u p : Bool)
    (dt : BitVec 32) (f : List Word) (opens : s.ringOpens (b2n u) dt.toNat = true)
    (hears : ¬ (s.ringAt (b2n u) dt.toNat).ocuLooped (b2n u) (b2n p) = true) (dynamic : fType (fw f 0) = 3)
    (dtype : fSlot (fw f 0) = d) :
    s.goesTo (dynReceived (b2n u) (b2n p) dt.toNat f (some d) s) =
      .next ((s.ringAt (b2n u) dt.toNat).dynRead (b2n u) (b2n p) f) :=
  goesTo_dynReceived hu opens hears dynamic (dtype ▸ other) fun w hw => by
    cases hw
    exact dtype

/-- Words that a master of the part accesses through another chip's window are queued as a request (R342). -/
theorem exec_remoteWindowAccess_elsewhere {s : State} (hu : s.unspecified = false) {m : Sys2Proof.Master}
    {chip : BitVec 6} {ofs : BitVec 24} {count : BitVec 4} {data : Option (List Word)} (hm : m ≠ .host)
    (elsewhere : chip.toNat ≠ s.chipNo)
    (few : ¬ ((data.getD (List.replicate (count.toNat + 1) 0)).isEmpty = true ∨
      16 < (data.getD (List.replicate (count.toNat + 1) 0)).length)) :
    exec (.remoteWindowAccess m chip ofs count data) s = .next (
      s.remoteAccess m chip.toNat (ofs.toNat / 4 * 4) (if data.isSome then 2 else 1)
        (data.getD (List.replicate (count.toNat + 1) 0)).length (data.getD []) 4) := by
  have reached : s.reaches m 0 = true := State.reaches_of_ne_host hm
  rw [exec_remoteWindowAccess, execRemoteWindowAccess, State.goesTo_next _ hu, State.hostMay_reached _ reached]
  exact congrArg _ ((if_neg few).trans (if_neg elsewhere))

/-- Settles O43: each dynamic frame and each timeout has the effect of its row, an access through the remote window its
request. -/
theorem ringDynComplete : Obligations.RingDynComplete := by
  intro s hu
  have named {d : Nat} (other : d ≠ 8) := goesTo_dynReceived_dtype hu other
  refine ⟨fun u p m prev arriving opens timed => ?_, named (d := 1) (by decide), named (d := 2) (by decide),
    named (d := 3) (by decide), named (d := 4) (by decide), named (d := 5) (by decide), named (d := 6) (by decide),
    fun u p dt f opens hears dynamic other => ?_, fun u dst seq r opens waiting => ?_, fun u f n t0 opens waiting => ?_,
    fun u opens b sending => ?_, fun m chip ofs count data hm elsewhere few => ?_⟩
  · have counts : ¬ ((!(s.ringAt (b2n u) 0).hasT0) = true) := by simp [timed]
    rw [exec_dynFrameSend, execDynFrameSend, dynFrameSend, State.goesTo_ringEvent hu _ opens]
    exact congrArg _ (if_neg counts)
  · exact goesTo_dynReceived hu opens hears dynamic other (fun w hw => nomatch hw)
  · rw [exec_rraTimeout, execRraTimeout, rraTimeout, State.goesTo_ringEvent hu _ opens, waiting]
  · rw [exec_mboxTimeout, execMboxTimeout, mboxTimeout, State.goesTo_ringEvent hu _ opens, waiting]
  · rw [exec_bulkTimeout, execBulkTimeout, bulkTimeout, State.goesTo_ringEvent hu _ opens, sending]
  · exact exec_remoteWindowAccess_elsewhere hu hm elsewhere few

end Sys2Proof.Machine
end

section
/-!
PROOFS. The statements of 13_time_base_and_ethernet.md: the tick of an empty queue, the commands and events of TB, and the
commands, rings and frames of ETH.
-/
namespace Sys2Proof.Machine

/-! ### The time base (R377–R389) -/

/-- Settles O2: the queue's two forms are the two branches of `step`, and the empty one ticks. -/
theorem emptyQueueTicks : Obligations.EmptyQueueTicks := by
  intro s idle
  rw [step, idle]

/-- Settles O44: each command has the effect of its row once it is accepted, each event where its condition holds, and the
read of TB_TIME_LO wherever its window is open. -/
theorem tbComplete : Obligations.TbComplete := by
  intro s hu
  refine ⟨fun m a h => ?_, fun m a h => ?_, fun m a h => ?_, fun runs pending => ?_, fun m a h => ?_, ?_, ?_,
    fun m ho => ?_⟩
  · have row := @exec_tbSet s m a
    unfold execTbSet tbSet at row
    exact (h.exec_now hu commandOf_tbSet row rfl :)
  · have row := @exec_tbAdj s m a
    unfold execTbAdj tbAdj at row
    exact (h.exec_now hu commandOf_tbAdj row rfl :)
  · exact (h.exec_busy hu commandOf_tbSnapCal exec_tbSnapCal rfl :)
  · rw [exec_snapCapture, execSnapCapture, State.goesTo_alive hu _ runs]
    exact congrArg _ (if_pos pending)
  · exact (h.exec_aborted hu abortOf_tbAbort exec_tbAbort :)
  · intro runs t first
    rw [exec_tbWrap, execTbWrap, State.goesTo_alive hu _ runs]
    exact congrArg _ (if_pos first)
  · intro runs r ticks t slewing
    rw [exec_slewComplete, execSlewComplete, State.goesTo_alive hu _ runs]
    exact congrArg _ (if_pos slewing)
  · rw [exec_tbTimeRead, execTbTimeRead, tbTimeRead, State.goesTo_access hu _ _ ho]

/-! ### Commands, rings and frames (R394–R402) -/

/-- Settles O45: each command has the effect of its row once it is accepted, each event where its condition holds, each
write of a tail wherever its window is open. -/
theorem ethComplete : Obligations.EthComplete := by
  intro s hu
  refine ⟨fun k m a h => ?_, fun k m a h => ?_, fun k m a h => ?_, fun k data runs reading => ?_, fun k m a h => ?_,
    ?_, ?_, ?_, fun m k q x ho => ?_, fun m k q x ho => ?_, ?_⟩
  · have row := @exec_ethStart s k m a
    unfold execEthStart ethStart at row
    exact (h.exec_now hu commandOf_ethStart row rfl :)
  · have row := @exec_ethStop s k m a
    unfold execEthStop ethStop at row
    exact (h.exec_busy hu commandOf_ethStop row rfl :)
  · have row := @exec_ethMdio s k m a
    unfold execEthMdio ethMdio at row
    exact (h.exec_busy hu commandOf_ethMdio row rfl :)
  · rw [exec_ethMdioDone, execEthMdioDone, State.goesTo_alive hu _ runs]
    exact congrArg _ (if_pos reading)
  · exact (h.exec_aborted hu abortOf_ethAbort exec_ethAbort :)
  · intro k jit q runs t picked free
    rw [exec_ethFrameTransmit, execEthFrameTransmit, State.goesTo_alive hu _ runs, ethFrameTransmit, picked]
    exact congrArg _ (if_pos free)
  · intro k jit q runs t r due x start late v picked starts
    rw [exec_launchTime, execLaunchTime, State.goesTo_alive hu _ runs, launchTime, picked]
    exact congrArg _ (if_neg starts)
  · intro k f jit runs t n fcs v c tag pcp q r up long short sound notPause mine warm ready flowing d z w2 ts z'
    rw [exec_ethFrameReceive, execEthFrameReceive, State.goesTo_alive hu _ runs]
    have inRun : ¬ ((!t.ethRuns (b2n k)) = true) := by simp [up]
    have sized : ¬ (f.length < 64 ∨ 2004 < f.length) := by omega
    have accepted : ¬ ((!t.ethAccepts (b2n k) f) = true) := by simp [mine]
    have served : ¬ ((!v.ringReady r) = true ∨ (v.ethMac (b2n k)).rxStop.contains q = true) := by
      rw [ready, flowing]
      decide
    refine congrArg _ ((if_neg inRun).trans ((if_neg sized).trans ((if_neg (not_not_intro sound)).trans ?_)))
    exact (if_neg notPause).trans ((if_neg accepted).trans ((if_neg (Bool.eq_false_iff.1 warm)).trans (if_neg served)))
  · rw [exec_txtailWrite, execTxtailWrite, tailWrite, State.goesTo_access hu _ _ ho]
    exact congrArg _ (if_pos rfl)
  · rw [exec_rxtailWrite, execRxtailWrite, tailWrite, State.goesTo_access hu _ _ ho]
    exact congrArg _ (if_neg Bool.false_ne_true)
  · intro k link speed runs w w' changed
    rw [exec_ethLinkChange, execEthLinkChange, State.goesTo_alive hu _ runs]
    exact congrArg _ (if_neg changed)

end Sys2Proof.Machine
end

section
/-!
PROOFS. The statements of 14_can_fd.md: the commands of CAN, and its frames and events.
-/
namespace Sys2Proof.Machine

/-! ### Commands (R410–R420) -/

/-- Settles O46: each command has the effect of its row once it is accepted. -/
theorem canCommandsComplete : Obligations.CanCommandsComplete := by
  intro s hu
  refine ⟨fun k m a h => ?_, fun k m a h => ?_, fun k m a h => ?_, fun k m a h => ?_, fun k m a h => ?_,
    fun k m a h => ?_, fun k m a h => ?_, fun k m a h => ?_⟩
  · exact (h.exec_now hu commandOf_canStart exec_canStart rfl :)
  · exact (h.exec_busy hu commandOf_canStop exec_canStop rfl :)
  · have row := @exec_canSleep s k m a
    unfold execCanSleep canSleep at row
    exact (h.exec_busy hu commandOf_canSleep row rfl :)
  · exact (h.exec_now hu commandOf_canWake exec_canWake rfl :)
  · exact (h.exec_now hu commandOf_canRecover exec_canRecover rfl :)
  · have row := @exec_canTxreq s k m a
    unfold execCanTxreq canTxreq at row
    exact (h.exec_now hu commandOf_canTxreq row rfl :)
  · have row := @exec_canTxcancel s k m a
    unfold execCanTxcancel canTxcancel at row
    exact (h.exec_busy hu commandOf_canTxcancel row rfl :)
  · exact (h.exec_aborted hu abortOf_canAbort exec_canAbort :)

/-! ### Frames and events (R408–R419) -/

/-- Settles O47: each frame and each event has the effect of its row where its condition holds. -/
theorem canEventsComplete : Obligations.CanEventsComplete := by
  intro s hu
  refine ⟨?_, fun k f runs active => ?_, fun k sof tdcv runs b sending => ?_, fun k runs b sending => ?_,
    fun k kind dphase patt exc runs errs => ?_, fun k runs integrating => ?_, fun k runs recovering => ?_,
    fun k ns f runs sleeping => ?_⟩
  · intro k b runs c e ph r due
    rw [exec_periodicRequest, execPeriodicRequest, State.goesTo_alive hu _ runs]
    exact congrArg _ (if_pos due)
  · rw [exec_canFrameReceived, execCanFrameReceived, State.goesTo_alive hu _ runs]
    exact congrArg _ (if_pos active)
  · -- `rfl` is for the statement's own copy of the inner match
    rw [exec_canFrameSent, execCanFrameSent, State.goesTo_alive hu _ runs, canFrameSent, sending] <;> rfl
  · rw [exec_arbitrationLost, execArbitrationLost, State.goesTo_alive hu _ runs, arbitrationLost, sending]
  · rw [exec_canBusError, execCanBusError, State.goesTo_alive hu _ runs]
    exact congrArg _ (if_neg errs)
  · rw [exec_busIntegrationComplete, execBusIntegrationComplete, State.goesTo_alive hu _ runs]
    exact congrArg _ (if_pos integrating)
  · rw [exec_busoffRecoveryComplete, execBusoffRecoveryComplete, State.goesTo_alive hu _ runs]
    exact congrArg _ (if_pos recovering)
  · rw [exec_wakeDetected, execWakeDetected, State.goesTo_alive hu _ runs]
    exact congrArg _ (if_neg (not_not_intro sleeping))

end Sys2Proof.Machine
end

section
/-!
PROOFS. The statement of 15_work_scheduler.md: commits, refills and the commands of QUE, dispatch decisions and the commands
of WSCH.
-/
namespace Sys2Proof.Machine

/-! ### Queues and the work scheduler (R427–R441) -/

/-- Settles O48: each command has the effect of its row once it is accepted, each event where its condition holds, each
write of a register wherever its window is open. -/
theorem queComplete : Obligations.QueComplete := by
  intro s hu
  refine ⟨fun m x ho => ?_, ?_, ?_, ?_, fun m ho => ?_, fun m x ho => ?_, fun m a h => ?_, fun m a h => ?_,
    fun n runs retired => ?_, fun m a h => ?_, fun m a h => ?_, ?_, fun m a h => ?_⟩
  · rw [exec_queEnqCommit, execQueEnqCommit, queEnqCommit, State.goesTo_access hu _ _ ho]
  · intro port x stalled t due
    rw [exec_commitStallTimeout, execCommitStallTimeout, State.goesTo_next _ hu, commitStallTimeout, stalled]
    exact congrArg _ (if_pos due)
  · intro q err runs r room
    rw [exec_headRefill, execHeadRefill, State.goesTo_alive hu _ runs]
    exact congrArg _ (if_pos room)
  · intro runs t v decides
    rw [exec_dispatchDecision, execDispatchDecision, State.goesTo_alive hu _ runs]
    exact congrArg _ (if_neg decides)
  · rw [exec_wschDoneWrite, execWschDoneWrite, wschDoneWrite]
    exact State.goesTo_access hu _ _ ho
  · rw [exec_wschCancelWrite, execWschCancelWrite, wschCancelWrite]
    exact State.goesTo_access hu _ _ ho
  · exact (h.exec_busy hu commandOf_wschApplyCfg exec_wschApplyCfg rfl :)
  · exact (h.exec_aborted hu abortOf_wschAbort exec_wschAbort :)
  · rw [exec_coreRetirement, execCoreRetirement, State.goesTo_alive hu _ runs]
    exact congrArg _ (if_pos retired)
  · have row := @exec_queReset s m a
    unfold execQueReset queReset at row
    exact (h.exec_busy hu commandOf_queReset row rfl :)
  · have row := @exec_queResize s m a
    unfold execQueResize queResize at row
    exact (h.exec_busy hu commandOf_queResize row rfl :)
  · intro runs b busy q r drained
    rw [exec_queueResizeComplete, execQueueResizeComplete, State.goesTo_alive hu _ runs, queueResizeComplete, busy]
    exact congrArg _ (if_pos drained)
  · exact (h.exec_aborted hu abortOf_queAbort exec_queAbort :)

end Sys2Proof.Machine
end

section
/-!
PROOFS. The statements of 16_memory_and_signal_recorder.md: reads, the scrubber and the remapper of MEMC, and the commands,
frames and read-outs of SREC.
-/
namespace Sys2Proof.Machine

/-! ### DRAM, the shared SRAM and MEMC (R446–R453, R484, R517) -/

/-- A read of DRAM while MEMC's island runs answers the word, or an error where it is uncorrectable (R448). -/
theorem dramRead_word {m : Sys2Proof.Master} {a r : Nat} {s : State} (dram : regionOf s.dramUsable (a / 4 * 4) = .dram)
    (runs : s.isFenced 0x3A = false) :
    dramRead m a r s =
      let w := a / 4 * 4
      let bad := r == 2 || s.memcBad w
      (s.memcTouch.memcCheck w (r == 1) bad).answer (mport m) (if bad then 0 else s.word w) bad :=
  (if_neg (by simp [dram])).trans (if_neg (Bool.eq_false_iff.1 runs))

/-- A granted read of the shared SRAM while its island runs answers the word, or an error where it is uncorrectable
(R59, R517). -/
theorem sharedSramRead_word {m : Sys2Proof.Master} {a r : Nat} {s : State} (sram : a / 4 * 4 < 0x800000)
    (runs : s.fenced.getLsbD 4 = false)
    (granted : regionGranted (mclass m) false (regionOf s.dramUsable (a / 4 * 4)) = true) :
    sharedSramRead m a r s =
      let w := a / 4 * 4
      let bad := r == 2 || s.memcBad w
      let t := s.sramCheck w r
      t.answer (mport m) (if bad then 0 else if regionOf s.dramUsable w = .sramSup then t.supWord w else t.word w) bad :=
  (if_pos sram).trans ((if_neg (Bool.eq_false_iff.1 runs)).trans (if_neg (by simp [granted])))

/-- Settles O49: each command has the effect of its row once it is accepted, each read and each event where its condition
holds. -/
theorem memoryComplete : Obligations.MemoryComplete := by
  intro s hu
  refine ⟨?_, ?_, ?_, fun m a h => ?_, fun runs scrubbing => ?_, fun m a h => ?_, fun runs row cmd rest copying => ?_,
    fun m a h => ?_, ?_, ?_⟩
  · intro m a r w bad dram runs
    rw [exec_dramRead, execDramRead, State.goesTo_next _ hu, dramRead_word dram runs]
  · intro m a r w bad sram runs granted
    rw [exec_sharedSramRead, execSharedSramRead, State.goesTo_next _ hu, sharedSramRead_word sram runs granted]
  · intro a r pos runs run extra scrubs
    rw [exec_patrolScrub, execPatrolScrub, State.goesTo_alive hu _ runs]
    exact congrArg _ (if_neg scrubs)
  · exact (h.exec_busy hu commandOf_memcScrubNow exec_memcScrubNow rfl :)
  · rw [exec_scrubPassEnd, execScrubPassEnd, State.goesTo_alive hu _ runs]
    exact congrArg _ (if_pos scrubbing)
  · have row := @exec_memcRemap s m a
    unfold execMemcRemap memcRemap at row
    exact (h.exec_busy hu commandOf_memcRemap row rfl :)
  · rw [exec_rowRemapComplete, execRowRemapComplete, State.goesTo_alive hu _ runs, rowRemapComplete, copying]
  · exact (h.exec_aborted hu abortOf_memcAbort exec_memcAbort :)
  · intro ch code runs lo w changed
    rw [exec_mr4RateChange, execMr4RateChange, State.goesTo_alive hu _ runs]
    exact congrArg _ (if_neg changed)
  · intro progress done runs w starts
    rw [exec_dramCheckBitInit, execDramCheckBitInit, State.goesTo_alive hu _ runs]
    exact congrArg _ (if_neg starts)

/-! ### The signal recorder (R456–R465) -/

/-- A frame that is ready, those left over by a stopped cycle among them, is written while the recorder runs (R456). -/
theorem srecFrameWrite_ready {s t : State} {f : SrecFrame} {rest : List SrecFrame}
    (ready : t = if s.cycRuns then s else
      { s with srec := { s.srec with frames := s.srec.frames ++ s.srec.cur.toList, cur := none } })
    (runs : t.reg Reg.SREC_STATE ≠ 0) (first : t.srec.frames = f :: rest) :
    srecFrameWrite s = (({ t with srec := { t.srec with frames := rest } }).srecFrame f).srecStopped := by
  unfold srecFrameWrite
  rw [← ready]
  refine (if_neg runs).trans ?_
  rw [first]

/-- Settles O50: each command has the effect of its row once it is accepted, each frame and each read-out where its
condition holds, each write of RD_CTL wherever its window is open. -/
theorem srecComplete : Obligations.SrecComplete := by
  intro s hu
  refine ⟨fun m a h => ?_, fun m a h => ?_, fun m a h => ?_, fun m a h => ?_, fun m a h => ?_, fun m a h => ?_,
    ?_, fun runs due => ?_, fun m kind ho => ?_, fun m kind ho => ?_, fun n fail runs r reading => ?_⟩
  · have row := @exec_srecStart s m a
    unfold execSrecStart srecStart at row
    exact (h.exec_now hu commandOf_srecStart row rfl :)
  · exact (h.exec_busy hu commandOf_srecStop exec_srecStop rfl :)
  · have row := @exec_srecArm s m a
    unfold execSrecArm srecArm at row
    exact (h.exec_now hu commandOf_srecArm row rfl :)
  · have row := @exec_srecTrigger s m a
    unfold execSrecTrigger srecTrigger at row
    exact (h.exec_now hu commandOf_srecTrigger row rfl :)
  · have row := @exec_srecRelease s m a
    unfold execSrecRelease srecRelease at row
    exact (h.exec_now hu commandOf_srecRelease row rfl :)
  · exact (h.exec_aborted hu abortOf_srecAbort exec_srecAbort :)
  · intro runs t f rest recording first
    rw [exec_srecFrameWrite, execSrecFrameWrite, State.goesTo_alive hu _ runs, srecFrameWrite_ready rfl recording first]
  · rw [exec_signalTriggerEvaluation, execSignalTriggerEvaluation, State.goesTo_alive hu _ runs]
    exact congrArg _ (if_pos due)
  · rw [exec_readoutGo, execReadoutGo, rdCtlWrite, State.goesTo_access hu _ _ ho]
  · rw [exec_readoutCancel, execReadoutCancel, rdCtlWrite, State.goesTo_access hu _ _ ho]
  · rw [exec_readoutComplete, execReadoutComplete, State.goesTo_alive hu _ runs, readoutComplete, reading]

end Sys2Proof.Machine
end

section
/-!
PROOFS. The statements of 17_startup_and_image.md: reset and start, the OTP and its key slots, and the commands of BOOT, KEC
and XSPI.
-/
namespace Sys2Proof.Machine

/-! ### Reset, start and the OTP (R467, R468, R472, R487, R496) -/

/-- Settles O6: that no OTP bit falls is among what `Keeps` names, of the state whose queue has lost its front. -/
theorem otpBitsNeverFall : Obligations.OtpBitsNeverFall := by
  intro s t a h
  obtain ⟨-, -, otp⟩ := step_keeps h
  exact otp a

/-- Settles O3: after reset both tables are empty, which is their canonical form. -/
theorem resetSafe : Obligations.ResetSafe := ⟨⟨rfl, rfl⟩, rfl, rfl, rfl⟩

section
variable {s : State} {slot : Nat} {commit : Bool} (restarting : s.boot.warm = some (slot, commit))
  (warm : s.reg Reg.BOOT_STATE = 4)
include restarting warm

/-- The end of a WARM restart under way: the APP sections are applied and the part is released, or the restart fails
(R487, R488). -/
theorem warmRestartComplete_restarting (err : Bool) (ms : Nat) :
    warmRestartComplete err ms s =
      let r := s.applySections .bootApp slot
        ((manSections (if commit then s.slotManifest slot else s.boot.man)).filter (fun x => x.app))
      if err then s.warmFails commit
      else if r.2 = 0 then r.1.warmRelease slot commit ms else r.1.warmFails commit := by
  rw [warmRestartComplete, restarting]
  exact if_neg (not_not_intro warm)

end

/-- Settles O60: the resets are `State.coldReset` with their cause, and a restart under way ends as its row says. -/
theorem startComplete : Obligations.StartComplete := by
  intro s
  refine ⟨fun e => rfl, rfl, rfl, ?_⟩
  intro err ms slot commit hu restarting warm r
  rw [exec_warmRestartComplete, execWarmRestartComplete, State.goesTo_next _ hu,
    warmRestartComplete_restarting restarting warm]

/-! ### Key slots (R473) -/

section
variable {s : State} {m : Sys2Proof.Master} {a : Sys2Proof.CmdArg}

/-- The contents that KEY_REVOKE of slot k is checked for: some other slot is usable (R473). -/
theorem anyOtherUsable_iff (k : Nat) :
    (List.range 4).any (fun j => j != k && s.keyUsable j) = true ↔ ∃ j, j < 4 ∧ j ≠ k ∧ s.keyUsable j = true := by
  simp

/-- A KEY_REVOKE that passes every earlier check of R62 is decided by its contents (R473). -/
theorem keyRevoke_decided (granted : s.granted m Reg.BOOT_SC_CMD .secure = true) (hr : a.rsv = 0) (slot : a.arg.toNat < 4)
    (free : s.inProgress Reg.BOOT_SC_CMD = false) (idle : s.reg Reg.BOOT_SC_STATE = 1) (ok : Bool) :
    s.decideCommand m a (scCmd s 2 (a.arg.toNat < 4) ok) = if ok = false then .rejCode else .accept := by
  rw [State.decideCommand_eq, if_neg (by simp [scCmd, granted]), if_neg (by simp [scCmd, hr, slot]),
    if_neg (by simp [scCmd, free]), if_neg (by simp [scCmd, idle])]
  rfl

end

/-- Settles O20: KEY_REVOKE's contents are the slots that stay usable; that they pass is another usable slot. -/
theorem keyRevoke_keepsUsableSlot : Obligations.KeyRevoke := by
  intro m a s hu
  refine ⟨fun k => rfl, fun ho granted hr slot free idle => ⟨fun last => ?_, fun ⟨j, hj, other, programmed, kept⟩ => ?_⟩⟩
  · have noOther : (List.range 4).any (fun k => k != a.arg.toNat && s.keyUsable k) = false := by
      rw [Bool.eq_false_iff, ne_eq, anyOtherUsable_iff]
      rintro ⟨j, hj, other, usable⟩
      rw [last j hj other] at usable
      cases usable
    have verdict := keyRevoke_decided granted hr slot free idle
      ((List.range 4).any (fun k => k != a.arg.toNat && s.keyUsable k))
    rw [if_pos noOther] at verdict
    obtain ⟨eff, row⟩ := keyRevoke_written (commandOf_keyRevoke (s := s) (m := m) (a := a))
    rw [row, State.goesTo_next _ hu, State.command_rejCode ho verdict]
    rfl
  · have usable : s.keyUsable j = true := by
      rw [State.keyUsable, State.keyProgrammed, programmed, kept]
      rfl
    have another : (List.range 4).any (fun k => k != a.arg.toNat && s.keyUsable k) = true :=
      (anyOtherUsable_iff _).2 ⟨j, hj, other, usable⟩
    refine ⟨_, commandOf_keyRevoke, ho, ?_⟩
    exact (keyRevoke_decided granted hr slot free idle _).trans (if_neg (by simp [another]))

/-! ### The commands of BOOT (R472, R487–R496) -/

/-- Settles O51: each command has the effect of its row once it is accepted, each event where its condition holds, the kick
of the watchdog once it is granted. -/
theorem bootComplete : Obligations.BootComplete := by
  intro s hu
  refine ⟨fun m a h => ?_, fun m a h => ?_, fun err b busy verifying => ?_, fun m a h => ?_, fun m a h => ?_,
    fun attesting => ?_, fun m a h => ?_, fun m a h => ?_, ?_, fun m ho granted => ?_, ?_⟩
  · have row := @exec_bootWarm s m a
    unfold execBootWarm bootWarm at row
    exact (h.exec_busy hu commandOf_bootWarm row rfl :)
  · exact (h.exec_busy hu commandOf_bootVerify exec_bootVerify rfl :)
  · rw [exec_verifyDone, execVerifyDone, State.goesTo_next _ hu, verifyDone, busy]
    exact congrArg _ (if_pos verifying)
  · have row := @exec_bootCommit s m a
    unfold execBootCommit bootCommit at row
    exact (h.exec_busy hu commandOf_bootCommit row rfl :)
  · exact (h.exec_busy hu commandOf_bootAttest exec_bootAttest rfl :)
  · rw [exec_attestDone, execAttestDone, State.goesTo_next _ hu]
    exact congrArg _ (if_pos attesting)
  · exact (h.exec_now hu commandOf_bootRetry exec_bootRetry rfl :)
  · have row := @exec_bootAbort s m a
    unfold execBootAbort bootAbort at row
    exact (h.exec_aborted hu abortOf_bootAbort row :)
  · intro w st t expired
    rw [exec_appWatchdogExpiry, execAppWatchdogExpiry, State.goesTo_next _ hu]
    exact congrArg _ (if_pos expired)
  · rw [exec_wdogKick, execWdogKick, wdogKick, State.goesTo_writeGranted hu _ ho granted]
  · intro st awaited
    rw [exec_identityKeyReady, execIdentityKeyReady, State.goesTo_next _ hu]
    exact congrArg _ (if_neg awaited)

/-- An accepted programming command turns BUSY and enters PROGRAMMING (R496). -/
theorem Accepted.exec_scProgram {i : Sys2Proof.Instr} {s : State} {m : Sys2Proof.Master} {a : Sys2Proof.CmdArg} {code : Nat}
    {argOk ok : Bool} (h : Accepted i s) (hu : s.unspecified = false)
    (hw : commandOf i s = some ⟨s, m, a, scCmd s code argOk ok⟩)
    (hx : exec i s = s.goesTo (scProgram code argOk ok m a s)) :
    exec i s = .next ((s.acceptBusy m a Reg.BOOT_SC_CMD code).setReg Reg.BOOT_SC_STATE 2) :=
  h.exec_busy hu hw hx rfl

/-- Settles O52: each command has the effect of its row once it is accepted; programming ends by its plan. -/
theorem bootScComplete : Obligations.BootScComplete := by
  intro s hu
  refine ⟨fun m a h => ?_, fun m a h => ?_, fun m a h => ?_, fun b busy => ?_, fun m a h => ?_, fun m a h => ?_,
    fun m a h => ?_, fun m a h => ?_, fun m a h => ?_⟩
  · have row := @exec_rollfwd s m a
    unfold execRollfwd rollfwd at row
    exact (h.exec_busy hu commandOf_rollfwd row rfl :)
  · exact (h.exec_now hu commandOf_dbgOpen exec_dbgOpen rfl :)
  · exact (h.exec_aborted hu abortOf_bootScAbort exec_bootScAbort :)
  · rw [exec_otpProgramDone, execOtpProgramDone, State.goesTo_next _ hu, otpProgramDone, busy]
  · exact h.exec_scProgram hu commandOf_keyProg exec_keyProg
  · exact h.exec_scProgram hu commandOf_keyRevoke exec_keyRevoke
  · exact h.exec_scProgram hu commandOf_svcProg exec_svcProg
  · exact h.exec_scProgram hu commandOf_otpProg exec_otpProg
  · exact h.exec_scProgram hu commandOf_dbgLock exec_dbgLock

/-! ### The Keccak engine (R498) -/

/-- Settles O53: each command has the effect of its row once it is accepted; an ABSORB in progress ends as its row says. -/
theorem kecComplete : Obligations.KecComplete := by
  intro s hu
  refine ⟨fun m a h => ?_, fun m a h => ?_, fun err absorbing => ?_, fun m a h => ?_, fun m a h => ?_⟩
  · have row := @exec_kecInit s m a
    unfold execKecInit kecInit at row
    exact (h.exec_now hu commandOf_kecInit row rfl :)
  · exact (h.exec_busy hu commandOf_kecAbsorb exec_kecAbsorb rfl :)
  · rw [exec_kecAbsorbDone, execKecAbsorbDone, State.goesTo_next _ hu]
    exact congrArg _ (if_pos absorbing)
  · exact (h.exec_now hu commandOf_kecFinal exec_kecFinal rfl :)
  · exact (h.exec_aborted hu abortOf_kecAbort exec_kecAbort :)

/-! ### The flash controller (R491, R500) -/

/-- A command whose contents do not pass is not accepted (R62). -/
theorem State.contentOk_of_accept {s : State} {m : Sys2Proof.Master} {a : Sys2Proof.CmdArg} {c : Cmd}
    (hd : s.decideCommand m a c = .accept) : c.contentOk = true := by
  cases passes : c.contentOk with
  | true => rfl
  | false =>
    rw [State.decideCommand_eq, if_pos passes] at hd
    repeat (split at hd; · cases hd)
    cases hd

/-- A flash operation under way: it is kept, no slot that it touches stays verified, and the state is the operation's
(R491, R500). -/
def State.flashStarted (o : XspiOp) (code : Nat) (t : State) : State :=
  let hit (k : Nat) : Bool := code != 1 && k * t.slotSize < o.faddr + o.len && o.faddr < (k + 1) * t.slotSize
  ({ t with
    xspi := { t.xspi with op := some o },
    boot := { t.boot with okSlots := t.boot.okSlots.filter (fun k => !hit k) } }).setState 0x3D
    (if code = 1 then 3 else if code = 2 then 4 else 5)

section
variable {s : State} {m : Sys2Proof.Master} {a : Sys2Proof.CmdArg} {code : Nat}

/-- A flash operation on a range that is not protected is an ordinary command, which sets no PROT (R500). -/
theorem xspiStart_unprotected (h : s.xspiProtects (s.xspiOp code) = false) :
    xspiStart code m a s = s.command m a (flashCmd s code a) (State.flashStarted (s.xspiOp code) code) :=
  if_neg (by simp [h])

/-- An accepted flash operation turns BUSY and is under way: its contents have passed, so its range is not protected. -/
theorem Accepted.exec_flash {i : Sys2Proof.Instr} (h : Accepted i s) (hu : s.unspecified = false)
    (hw : commandOf i s = some ⟨s, m, a, flashCmd s code a⟩) (hx : exec i s = s.goesTo (xspiStart code m a s)) :
    exec i s = .next ((s.acceptBusy m a Reg.XSPI_CMD code).flashStarted (s.xspiOp code) code) := by
  obtain ⟨ho, hd⟩ := h.of hw
  obtain ⟨-, unprotected⟩ := Bool.and_eq_true_iff.1 (State.contentOk_of_accept hd)
  rw [hx, State.goesTo_next _ hu, xspiStart_unprotected (by simpa using unprotected), State.command_busy hd ho rfl]
  rfl

end

/-- Settles O54: each command has the effect of its row once it is accepted, the end of an operation where its state
lasts. -/
theorem xspiComplete : Obligations.XspiComplete := by
  intro s hu started
  refine ⟨fun m a h => ?_, fun m a h => ?_, fun err runs o under state => ?_, fun m a h => ?_, fun m a h => ?_,
    fun m a h => ?_, fun m a h => ?_⟩
  · exact (h.exec_busy hu commandOf_xspiResume exec_xspiResume rfl :)
  · exact (h.exec_aborted hu abortOf_xspiAbort exec_xspiAbort :)
  · rw [exec_xspiOperationDone, execXspiOperationDone, State.goesTo_alive hu _ runs, xspiOperationDone, under]
    exact congrArg _ (if_neg (not_not_intro state))
  · exact (h.exec_flash hu commandOf_xspiRead exec_xspiRead :)
  · exact (h.exec_flash hu commandOf_xspiProgram exec_xspiProgram :)
  · exact (h.exec_flash hu commandOf_xspiErase4k exec_xspiErase4k :)
  · exact (h.exec_flash hu commandOf_xspiErase64k exec_xspiErase64k :)

end Sys2Proof.Machine
end

section
/-!
PROOFS. The statement of 18_host_interface.md: the commands and the link of PCIE, mailboxes, queue doorbells, vectors, and
host reads that the ring does not complete in time.
-/
namespace Sys2Proof.Machine

/-! ### Accesses of the host (R501, R504) -/

/-- An access of the host has its effect while I12 runs and the link is up. -/
theorem State.goesTo_fromHost {s : State} (hu : s.unspecified = false) (go : State → State)
    (runs : s.fenced.getLsbD 12 = false) (up : s.reg Reg.PCIE_STATE = 2) :
    s.goesTo (s.alive 12 (s.fromHost go)) = .next (go s) := by
  rw [State.goesTo_alive hu _ runs, State.fromHost, if_pos up]

/-! ### The endpoint (R502–R514) -/

/-- Settles O55: each command has the effect of its row once it is accepted, each write once it is granted, each event and
each access of the host where its condition holds. -/
theorem pcieComplete : Obligations.PcieComplete := by
  intro s hu
  refine ⟨fun runs live => ?_, ?_, fun runs up => ?_, fun m a h => ?_, fun m a h => ?_, fun m a h => ?_, ?_,
    fun m x ho granted free => ?_, fun runs x l reads => ?_, fun k x runs up busy => ?_, fun k x runs up idle => ?_, ?_,
    fun v runs up => ?_⟩
  · rw [exec_pciePerst, execPciePerst, State.goesTo_alive hu _ runs]
    exact congrArg _ (if_neg live)
  · intro speed width runs st trains
    rw [exec_pcieLinkUp, execPcieLinkUp, State.goesTo_alive hu _ runs]
    exact congrArg _ (if_pos trains)
  · rw [exec_pcieLinkDown, execPcieLinkDown, State.goesTo_alive hu _ runs]
    exact congrArg _ (if_pos up)
  · exact (h.exec_busy hu commandOf_pcieRetrain exec_pcieRetrain rfl :)
  · have row := @exec_pcieMbReset s m a
    unfold execPcieMbReset pcieMbReset at row
    exact (h.exec_now hu commandOf_pcieMbReset row rfl :)
  · exact (h.exec_aborted hu abortOf_pcieAbort exec_pcieAbort :)
  · intro m x ho granted k b busy
    rw [exec_mbAnswerWrite, execMbAnswerWrite, mbAnswerWrite, State.goesTo_writeGranted hu _ ho granted]
    exact congrArg _ (if_pos busy)
  · rw [exec_msixRaiseWrite, execMsixRaiseWrite, msixRaiseWrite, State.goesTo_writeGranted hu _ ho granted]
    exact congrArg _ (if_pos free)
  · rw [exec_bar4ReadTimeout, execBar4ReadTimeout, State.goesTo_alive hu _ runs, bar4ReadTimeout, reads]
  · rw [exec_mbDbWrite, execMbDbWrite, State.goesTo_fromHost hu _ runs up]
    exact congrArg _ (if_pos busy)
  · rw [exec_mbDbWrite, execMbDbWrite, State.goesTo_fromHost hu _ runs up]
    exact congrArg _ (if_neg idle)
  · intro q ws runs up l
    rw [exec_qdbCommit, execQdbCommit, State.goesTo_fromHost hu _ runs up]
    rfl
  · rw [exec_msixUnmask, execMsixUnmask, State.goesTo_fromHost hu _ runs up]

end Sys2Proof.Machine
end

section
/-!
PROOFS. The statement of 19_fault_handling.md on the commands and self-tests of FLT. Its fault events stand with the
statements of 01_architecture.md.
-/
namespace Sys2Proof.Machine

/-! ### Self-tests, retirements and the fault log (R519, R527, R529, R535, R536) -/

/-- Settles O56: each command has the effect of its row once it is accepted, each end of a test or reset where its condition
holds, the read of the log wherever its window is open. -/
theorem fltCommandsComplete : Obligations.FltCommandsComplete := by
  intro s hu
  refine ⟨fun m a h => ?_, fun m a h => ?_, fun m a h => ?_, fun m a h => ?_, fun resetting => ?_, fun m a h => ?_,
    fun t inst fail serves => ?_, fun m ho => ?_, fun fail b busy => ?_, fun fail testing => ?_⟩
  · have row := @exec_fltSelftest s m a
    unfold execFltSelftest fltSelftest at row
    exact (h.exec_busy hu commandOf_fltSelftest row rfl :)
  · exact (h.exec_aborted hu abortOf_fltAbort exec_fltAbort :)
  · have row := @exec_clearRet s m a
    unfold execClearRet clearRet at row
    exact (h.exec_busy hu commandOf_clearRet row rfl :)
  · have row := @exec_islReset s m a
    unfold execIslReset islReset at row
    exact (h.exec_busy hu commandOf_islReset row rfl :)
  · rw [exec_islResetDone, execIslResetDone, State.goesTo_next _ hu]
    exact congrArg _ (if_pos resetting)
  · exact (h.exec_aborted hu abortOf_fltScAbort exec_fltScAbort :)
  · rw [exec_periodicSelfTest, execPeriodicSelfTest, State.goesTo_next _ hu]
    exact congrArg _ (if_neg serves)
  · rw [exec_fltLogRead, execFltLogRead, fltLogRead]
    exact State.goesTo_access hu _ _ ho
  · rw [exec_selftestDone, execSelftestDone, State.goesTo_next _ hu]
    dsimp only [selftestDone]
    rw [busy]
    rfl
  · rw [exec_selftestDone, execSelftestDone, State.goesTo_next _ hu]
    exact congrArg _ (if_pos testing)

end Sys2Proof.Machine
end

section
/-!
PROOFS. The statements of 20_backup_domain_and_hut_book.md: the calendar, the counters of operation and the supply of BIV,
and the reservations, records and CLEAR of the hut book.
-/
namespace Sys2Proof.Machine

/-! ### The backup domain (R537–R544) -/

/-- A measurement of the backup supply from 2,200 mV on stores the value alone (R537). -/
theorem vbatMeasure_enough {mv : Nat} {s : State} (h : 2200 ≤ mv) :
    vbatMeasure mv s = s.setReg Reg.BIV_VBAT (wordOfNat mv) := if_pos h

/-- Below 2,200 mV it raises the event, and is recorded in the hut book the first time (R537). -/
theorem vbatMeasure_low {mv : Nat} {s : State} (h : mv < 2200) :
    vbatMeasure mv s =
      let t := ((s.setReg Reg.BIV_VBAT (wordOfNat mv)).orReg Reg.BIV_STAT 2).bivEvt 1
      if t.biv.lowRec then t
      else ({ t with biv := { t.biv with lowRec := true } }).hutRequest 10 5 [wordOfNat mv] := if_neg (Nat.not_le.2 h)

/-- Settles O58: each command has the effect of its row once it is accepted, each event where its condition holds, the read
of the calendar wherever its window is open. -/
theorem bivComplete : Obligations.BivComplete := by
  intro s hu
  have goes (t : State) : s.goesTo t = .next t := State.goesTo_next t hu
  refine ⟨fun m a h => ?_, fun sec frac loading => ?_, fun m a h => ?_, fun m frac ho => ?_, fun mv enough => ?_,
    fun mv low => ?_, goes _, goes _, fun counts => ?_⟩
  · have row := @exec_bivSet s m a
    unfold execBivSet bivSet at row
    exact (h.exec_busy hu commandOf_bivSet row rfl :)
  · rw [exec_calendarLoad, execCalendarLoad, goes, calendarLoad, loading]
  · exact (h.exec_aborted hu abortOf_bivAbort exec_bivAbort :)
  · rw [exec_calendarRead, execCalendarRead, calendarRead, State.goesTo_access hu _ _ ho]
  · rw [exec_vbatMeasure, execVbatMeasure, goes, vbatMeasure_enough enough]
  · rw [exec_vbatMeasure, execVbatMeasure, goes, vbatMeasure_low low]
  · rw [exec_calendarSecond, execCalendarSecond, goes]
    exact congrArg _ (if_neg counts)

/-! ### The hut book (R549–R558) -/

/-- Settles O59: each command has the effect of its row once it is accepted, each write once its window is open and, for the
data of a reservation, granted, each event where its condition holds. -/
theorem hutComplete : Obligations.HutComplete := by
  intro s hu
  refine ⟨fun m a h => ?_, ?_, fun m a h => ?_, fun m a h => ?_, fun m a h => ?_, ?_, fun runs r rest queued => ?_,
    fun m x ho => ?_, fun m a h => ?_, fun m a h => ?_, fun runs verifying => ?_, fun m a h => ?_⟩
  · have row := @exec_hutReserve s m a
    unfold execHutReserve hutReserve at row
    exact (h.exec_now hu commandOf_hutReserve row rfl :)
  · intro m x ho granted r opened i mine
    rw [exec_hutWrDataWrite, execHutWrDataWrite, hutWrDataWrite, State.goesTo_writeGranted hu _ ho granted, opened]
    exact congrArg _ (if_pos mine)
  · exact (h.exec_now hu commandOf_hutCommit exec_hutCommit rfl :)
  · exact (h.exec_now hu commandOf_hutCancel exec_hutCancel rfl :)
  · exact (h.exec_aborted hu abortOf_hutAbort exec_hutAbort :)
  · intro runs r opened t due
    rw [exec_reservationTimeout, execReservationTimeout, State.goesTo_alive hu _ runs, reservationTimeout, opened]
    exact congrArg _ (if_pos due)
  · -- `rfl` is for the statement's own copy of the inner match
    rw [exec_blockRecordCommit, execBlockRecordCommit, State.goesTo_alive hu _ runs, blockRecordCommit, queued] <;> rfl
  · rw [exec_hutCursorWrite, execHutCursorWrite, hutCursorWrite, State.goesTo_access hu _ _ ho]
  · exact (h.exec_now hu commandOf_hutNonce exec_hutNonce rfl :)
  · exact (h.exec_busy hu commandOf_hutClear exec_hutClear rfl :)
  · rw [exec_hutClearVerifyDone, execHutClearVerifyDone, State.goesTo_alive hu _ runs]
    exact congrArg _ (if_pos verifying)
  · exact (h.exec_aborted hu abortOf_hutScAbort exec_hutScAbort :)

end Sys2Proof.Machine
end
